-- ==== Sys2Proof/Word.lean ====
section
/-!
DEFINITION. The words of the device: bytes, 32-bit and 64-bit register words (spec/00_scope.md, R14).
Bit numbering is little-endian, bit 0 the least significant.
-/
namespace Sys2Proof

/-- One byte of a host structure, a register or a point record. -/
abbrev Byte := BitVec 8
/-- A 32-bit register word (R14). -/
abbrev W32 := BitVec 32
/-- A 64-bit register word, also one payload block of a Dapen link (R14, R94). -/
abbrev W64 := BitVec 64

end Sys2Proof
end

