-- ==== Sys2Proof/Syntax.lean ====
section
/-!
DEFINITION. Syntax: one constructor per row of the opcode table (spec/opcode_table.json). The table gives no
operand and no bit: the operands here are what the rule of each row says the command carries.

Operand names that recur: `f` a function (0 the manager, R9), `t` a tile, `g` a global port, `n` a node of `g`
(R6, R7), `q` a queue, `c` a bulk channel. The command rows of chapter 8 name the outstanding entry `e` of `f` that
starts. `a` is a byte address, `size` the bytes of an access, `err` the outcome of a device read: 0 data, 1 UR, 2 CA,
3 poisoned. A value that only the outside can know (a measurement, a pin, the bytes of host memory) is an operand.
-/
namespace Sys2Proof

inductive Instr where
  /-- TICK_BOUNDARY (R70): At each tick boundary the tick counter rises by one and every port begins its tick: marker
  sent, AGE advanced, delayed tasks released, deferred fail-safes and stale codes applied. -/
  | tickBoundary
  /-- FRAME_BOUNDARY (R54): At a frame boundary the device captures time, starts publications, reads list headers,
  applies commits, mutes and lease changes. -/
  | frameBoundary
  /-- TIMECFG_WRITE (R59): A write of TICKLEN or FLLOG2 before the lock is stored and sets PENDING; after the lock it is
  discarded with LOCKWR. `v` is the word written. -/
  | timecfgWrite (v : W32)
  /-- TIMECFG_TAKES_EFFECT (R59): At the next tick that is a multiple of 65,536 the pending tick or frame length takes
  effect, SAMPLEOFF is re-clamped and budgets scaled. -/
  | timecfgTakesEffect
  /-- SAMPLEOFF_WRITE (R65): A write of TIM_SAMPLEOFF is clamped and takes effect at the next frame boundary, causing
  recompiles. `v` is the word written. -/
  | sampleoffWrite (v : W32)
  /-- PTCTL_WRITE (R77): A write of TIM_PTCTL selects a new plant-time mode that takes effect at the next tick boundary.
  `v` is the word written. -/
  | ptctlWrite (v : W32)
  /-- PTRATE_WRITE (R75): In manager mode a write of TIM_PTRATE sets RATE from the next tick boundary; otherwise it is
  discarded with MODEWR. `v` is the word written. -/
  | ptrateWrite (v : W32)
  /-- PTSTEP_WRITE (R75): In manager mode a 64-bit write of TIM_PTSTEP adds to the step applied at the next tick
  boundary and sets SYNC. `v` is the value written, `whole` that the access was one of 64 bits. -/
  | ptstepWrite (v : W64) (whole : Bool)
  /-- PTTICK_READ (R81): A read of TIM_PTTICK snapshots TIM_PTAT for the reading function. -/
  | pttickRead (size : Nat)
  /-- TNH_PTTICK_READ (R82): A read of TNH_PTTICK snapshots TNH_PTAT for that function. -/
  | tnhPttickRead (f size : Nat)
  /-- ALIGN_MEASUREMENT (R67): Every 64 ticks a field tile measures its path delay, slews toward the anchor and updates
  its alignment state. `ps` is the measured path offset of tile `t` in picoseconds. -/
  | alignMeasurement (t : Nat) (ps : Int)
  /-- TIME_TOKEN_LOSS (R69): A field tile that receives no time token for 64 ticks is taken out of service. -/
  | timeTokenLoss (t : Nat)
  /-- PTP_SYNC (R79): An IEEE 1588 Sync gives an offset measurement on which the servo steps or slews plant time.
  `source` is the sender's port identity; origin, receive time `rx` and correction are in ns; `twoStep` that a
  Follow_Up will give the origin. -/
  | ptpSync (domain source : Nat) (twoStep : Bool) (origin rx corr : Int)
  /-- PTP_ANNOUNCE (R78): An IEEE 1588 Announce feeds the best master clock algorithm, clearing HOLDOVER when a master
  is selected. `source` is the sender's port identity, `ds` the data set the message carries, as a number that is
  lower for a better master; its low 16 bits are stepsRemoved. -/
  | ptpAnnounce (domain : Nat) (source : BitVec 80) (ds : BitVec 128)
  /-- PTP_DELAY_RESPONSE (R78): An IEEE 1588 delay or peer-delay response completes a path-delay measurement. `source`
  is the sender's port identity, `twoStep` that a follow-up will give the turnaround, `ts` the timestamp the message
  carries, `arrival` its local receive time, in ns. -/
  | ptpDelayResponse (domain source : Nat) (twoStep : Bool) (ts arrival : Int)
  /-- ANNOUNCE_RECEIPT_TIMEOUT (R80): With no valid master the device clears SYNC, sets HOLDOVER and SYNCLOST and writes
  a plant-time event. -/
  | announceReceiptTimeout
  /-- MESH_TRANSFER_RECEIVED (R35): A mesh transfer is CRC-checked and replayed on failure; after 8 failed replays the
  link is taken down. `b` is the bit of the link in GLB_MESHSTAT (R38), `good` that the CRC holds. -/
  | meshTransferReceived (b : Nat) (good : Bool)
  /-- MESH_LINK_RETRAIN (R35): Every 10 ms a down mesh link retrains and returns to service if it trains. `b` is the bit
  of the link in GLB_MESHSTAT (R38), `trains` that it came up. -/
  | meshLinkRetrain (b : Nat) (trains : Bool)
  /-- REMOTE_INPUT_COPY (R269): A cross-tile copy of a rule input arrives and is used from the next window that opens
  after it. `p` is the point. -/
  | remoteInputCopy (t p : Nat)
  /-- SIGNAL_DETECT (R123): Signal detected on a hop in DOWN moves it to LOCK and training starts. -/
  | signalDetect (g : Nat)
  /-- TRAIN_BLOCK_RECEIVED (R124): A TRAIN block advances the hop through LOCK, EQ and IDENT to UP, checking roles and
  measuring hop delay. `w` is the block, `h` and `v` the margins of the port, `good` that both ends reach MARGINLOW,
  `rtt` the measured round trip in 1/8 ns. -/
  | trainBlockReceived (g : Nat) (w : W64) (h v : Nat) (good : Bool) (rtt : Nat)
  /-- TRAIN_STATE_TIMEOUT (R123): A hop's LOCK, EQ or IDENT time limit expires and it moves to DOWN or to IDENT with the
  best preset. -/
  | trainStateTimeout (g : Nat)
  /-- BLOCK_LOCK_ACQUIRED (R97): After 64 consecutive valid sync headers a receiver has block lock. -/
  | blockLockAcquired (g : Nat)
  /-- BLOCK_LOCK_LOST (R97): 16 invalid sync headers in 64 blocks lose block lock and take the hop down. -/
  | blockLockLost (g : Nat)
  /-- EQ_LOOP_PERIOD (R127): Every 64 ms each hop's margin is read and a transmitter preset may be stepped or reverted.
  `h` and `v` are the margins of the port's own receiver; those of the tree's other receivers are read with
  management requests. -/
  | eqLoopPeriod (g h v : Nat)
  /-- PRESET_APPLY (R128): A transmitter switches to its new preset at block 0 of APPLYTICK. `key` names the receiver:
  twice the hop plus 0 (lower end) or 1 (upper end); hop 0 is the first hop, and the hop above node `n` at depth 2
  or more is `n + 1`. -/
  | presetApply (g key : Nat)
  /-- TPT_LINKCFG_WRITE (R139): A write of TPT_LINKCFG; LINKEN 0 holds the first hop in DOWN and LINKEN 1 lets it train.
  `v` is the word written. -/
  | tptLinkcfgWrite (g : Nat) (v : W32)
  /-- TRUNK_WAKE_DETECT (R133): A port of a tile in Drydown with WAKEDET set sees 12 transitions in 6.4 µs and raises an
  edge wake event. -/
  | trunkWakeDetect (g : Nat)
  /-- PERIODIC_TRANSFER_RECEIVED (R135): An upstream transfer in an Accord slot run is checked and, if valid, written
  into its point records. `slot` is the upstream slot of its first block in the current tick, `mis` that the blocks
  were misaligned, `blocks` each block with its sync header. -/
  | periodicTransferReceived (g slot : Nat) (mis : Bool) (blocks : List (BitVec 2 × W64))
  /-- UPSTREAM_SLOT_RUN_END (R169): At the end of an owned or granted slot run with nothing valid received, a miss is
  counted or a request or grant repeated. `what`: 0 periodic run of node `a`, XID `b`; 1 ECHO of node `a`; 2 answer
  to MSEQ `a`; 3 the `a`-th bridge reply awaited; 4 answer of bulk channel `a` to BSEQ `b`; 5 retry of node `a`, XID
  `b`. -/
  | upstreamSlotRunEnd (g what a b : Nat)
  /-- RETRY_RECEIVED (R170): A CLASS 4 retry is checked and, if valid, written with LATE and RTRY and counted as
  recovered. `xid` names the transfer; `mis` and `blocks` as in PERIODIC_TRANSFER_RECEIVED. -/
  | retryReceived (g n xid : Nat) (mis : Bool) (blocks : List (BitVec 2 × W64))
  /-- ALERT_RECEIVED (R115): An ALERT in an alert window is acknowledged, checked against ASEQ and ALERTMAX, and
  delivered to a fast source. `blk` is the upstream block number in the current tick, `mis` that the block was
  misaligned, `w` the block. -/
  | alertReceived (g blk : Nat) (mis : Bool) (w : W64)
  /-- ECHO_RECEIVED (R117): An ECHO gives a round trip from which a new DELAY may be written or a step confirmed. `span`
  is the time from the departure of AUX to the arrival of the block, in 1/8 ns, `mis` that the block was misaligned,
  `b` the block with its sync header. -/
  | echoReceived (g span : Nat) (mis : Bool) (b : (BitVec 2 × W64))
  /-- HUB_POLL (R148): Every 8 ticks the device polls the next hub of a port with a GSEQ 0 management grant. -/
  | hubPoll (g : Nat)
  /-- POLL_ANSWER (R148): A hub's LNK_TOPO answer reports changed branches and gate discards, leading to departure,
  enumeration or suspicion. `mis` says that the blocks were misaligned, `blocks` what arrived in the granted slots,
  each block with its sync header. -/
  | pollAnswer (g n : Nat) (mis : Bool) (blocks : List (BitVec 2 × W64))
  /-- MANAGEMENT_ANSWER (R147): A node's CLASS 2 answer to a READ, WRITE or ASSIGN arrives and the enumeration or load
  it served proceeds. `m` is the MSEQ of the request; `mis` and `blocks` as in POLL_ANSWER. -/
  | managementAnswer (g m : Nat) (mis : Bool) (blocks : List (BitVec 2 × W64))
  /-- ENUM_UP_CHECK (R152): Every 64 ticks the device reads LNK_BRSTAT of a branch being enabled until it is UP. -/
  | enumUpCheck (g : Nat)
  /-- BRANCH_TRAIN_TIMEOUT (R153): A branch not UP within 10 ms is disabled and requeued, and refused after the third
  failure. -/
  | branchTrainTimeout (g : Nat)
  /-- ALLOWLIST_READ_DONE (R157): An allowlist read completes and the binary search of the identity hash continues or
  ends. Node `g/n`; with `g` 128 the header of function `n`'s list. `d` are the bytes read. -/
  | allowlistReadDone (g n err : Nat) (d : List Byte)
  /-- ALLOWLIST_TIMEOUT (R157): An allowlist lookup that has failed for 1 s refuses the lower end with reason list
  unreadable. -/
  | allowlistTimeout (g n : Nat)
  /-- AUTHSTAT_POLL (R158): Once per 1,024 ticks the device reads LNK_AUTHSTAT of a node being challenged. -/
  | authstatPoll (g n : Nat)
  /-- CHALLENGE_TIMEOUT (R158): A challenge without DONE at 100 ms is repeated once with a new nonce, then refused with
  no answer. -/
  | challengeTimeout (g n : Nat)
  /-- SIGNATURE_VERIFIED (R158): CRY completes verification of a node's signature, admitting it or marking it hostile.
  The outcome is that of the verification for the node's identity record, nonce and signature. -/
  | signatureVerified (g n : Nat)
  /-- LEASEPOLICY_READ_DONE (R161): A lease-policy read completes and the first matching entry gives the node's lease.
  `d` are the bytes read. -/
  | leasepolicyReadDone (g n err : Nat) (d : List Byte)
  /-- LEASE_RESOLVE_TIMEOUT (R161): A lease resolution failing for 1 s leases the node to the manager alone. -/
  | leaseResolveTimeout (g n : Nat)
  /-- QUARPORT_CLEAR (R178): Writing QUARPORT 0 in TPT_TREECFG acts as NODE_RELEASE for the port gate. -/
  | quarportClear (g : Nat)
  /-- LIST_HEADER_READ_DONE (R186): A list's first segment header arrives and its GEN decides reuse, emptiness or a
  fetch. `d` are the bytes read. -/
  | listHeaderReadDone (f g err : Nat) (d : List Byte)
  /-- LIST_FETCH_DONE (R188): The last descriptor and point-map entry arrive, GEN is re-read and the generation is
  accepted or discarded. `heads` and `bodies` are the segment headers and descriptor bytes of the chain, `pmap` the
  point map, `gen2` the GEN read again; an error stands at (`seg`, `idx`). -/
  | listFetchDone (f g err seg idx : Nat) (heads bodies : List (List Byte)) (pmap : List Byte) (gen2 : Nat)
  /-- DMA_READ_TIMEOUT (R185): A device DMA read with no completion within 10 ms fails the work that needed it. `what`:
  0 the entry fetch of SQ `b` of function `a`; 1 the list of function `a` on port `b`; 2 the output image of
  function `a`; 3 the structure of entry `b` of function `a`; 4 that of handle `b`; 5 the host read of channel `a`
  (32 times its tile plus its number); 6 the allowlist read and 7 the lease policy read of node `a`/`b`. For 1, the
  read that timed out is that of segment `seg`, descriptor `idx`. -/
  | dmaReadTimeout (what a b seg idx : Nat)
  /-- DBL_SCHED_WRITE (R190): A write of a port to DBL_SCHED restarts that port's stopped list at the next frame
  boundary. `v` is the word written. -/
  | dblSchedWrite (f : Nat) (v : W32)
  /-- COMPILE_START (R204): When a compile cause is pending and the idle buffer is EMPTY, a compile of the port starts. -/
  | compileStart (g : Nat)
  /-- COMPILE_DONE (R198): The new Accord is placed and written to the idle buffer, which moves to LOADING. -/
  | compileDone (g : Nat)
  /-- ACCORD_READY (R206): Every node and gate-map load has been answered or has failed and the idle buffer is READY. -/
  | accordReady (g : Nat)
  /-- SWAP_TICK_FIXED (R207): 8 ticks before the chosen frame boundary the swap tick is fixed, unless HOLD or PENDING
  delays it. -/
  | swapTickFixed (g : Nat)
  /-- ACCORD_SWAP (R207): At block 0 of the swap tick the sequencer changes buffers, the marker carries the new PLANID
  and reports and plan events are written. -/
  | accordSwap (g : Nat)
  /-- SHRINK_DEADLINE (R213): At the shrink deadline over-budget transfers are muted, a report and plan event written
  and a compile started. -/
  | shrinkDeadline (f g : Nat)
  /-- PIM_SCRUB (R227): Allocated records are read and corrected in spare bank cycles at least once every 2^24 ticks.
  `p` is the point, `errs` the number of wrong bits of its record, `scrub` that the scrubber read it, else an
  ordinary read. -/
  | pimScrub (p errs : Nat) (scrub : Bool)
  /-- PUBLICATION_COMPLETE (R251): A publication's header write finishes, LATEST is updated and the image vector may be
  raised. -/
  | publicationComplete (f : Nat)
  /-- IMG_HOLD_TAKE (R251): Writing TAKE 1 to TNH_IMGHOLD sets HELD to LATEST. -/
  | imgHoldTake (f : Nat)
  /-- IMG_HOLD_RELEASE (R251): Writing TAKE 0 to TNH_IMGHOLD clears HELD. -/
  | imgHoldRelease (f : Nat)
  /-- OUTPUT_IMAGE_READ_START (R253): At frame position OUTPOS the device samples OUTSEL and starts reading the output
  buffer's windows. -/
  | outputImageReadStart (f : Nat)
  /-- OUTPUT_IMAGE_READ_DONE (R253): The output read returns and its WRITE entries are applied at the next tick
  boundary, or an error is reported. `data` are the bytes of the windows, by tile. -/
  | outputImageReadDone (f err : Nat) (data : List (List Byte))
  /-- PIM_WINDOW_WRITE (R260): A manager BAR2 write forces VALUE with FORCED or is discarded with WINWR, PARTWR, UNALLOC
  or FSWR. `off` is the byte offset in manager BAR2, `part` that byte enables were partial. -/
  | pimWindowWrite (off size : Nat) (v : W64) (part : Bool)
  /-- REFLEX_WINDOW (R265): 600 ns before the tick's end the reflex engine evaluates every enabled rule once and makes
  their writes. -/
  | reflexWindow (t : Nat)
  /-- SQ_TAIL_DOORBELL (R296): A write of DBL_SQTAIL makes new submission entries available, or stops the ring on
  overrun or range. `v` is the index written. -/
  | sqTailDoorbell (f q : Nat) (v : BitVec 16)
  /-- CQ_HEAD_DOORBELL (R296): A write of DBL_CQHEAD frees consumed completion entries. `v` is the index written. -/
  | cqHeadDoorbell (f q : Nat) (v : BitVec 16)
  /-- EQ_HEAD_DOORBELL (R296): A write of DBL_EQHEAD frees consumed event records. `e` is the event ring, `v` the index
  written. -/
  | eqHeadDoorbell (f e : Nat) (v : BitVec 16)
  /-- RING_ENABLE (R294): Setting ENABLE in a ring's CFG starts it at index 0, phase 1. `kind` 0 SQ, 1 CQ, 2 EQ, 3 BCQ;
  `v` is the CFG word written, with ENABLE 1. -/
  | ringEnable (f kind q : Nat) (v : W32)
  /-- RING_DISABLE (R294): Clearing ENABLE in a ring's CFG starts its drain. `kind` 0 SQ, 1 CQ, 2 EQ, 3 BCQ; `v` is the
  CFG word written, with ENABLE 0. -/
  | ringDisable (f kind q : Nat) (v : W32)
  /-- SQ_FETCH (R301): While credits allow, the anchor fetches the next entry of a non-empty SQ round-robin. -/
  | sqFetch (f : Nat)
  /-- HELD_COMPLETION_RELEASE (R308): When a CQ gains room, held completions are written in order and FETCHPAUSE may
  clear. -/
  | heldCompletionRelease (f q : Nat)
  /-- WAITING_EVENT_RELEASE (R309): When an EQ has room, an overflow event and waiting handle completions are written. -/
  | waitingEventRelease (f q : Nat)
  /-- HANDLE_COMPLETION (R312): A long operation ends and its handle-done event is written to EQ0. `seq` is the sequence
  number of the handle. -/
  | handleCompletion (f seq : Nat)
  /-- NOP (R316): Command 0x00 does nothing and completes. -/
  | nop (f e : Nat)
  /-- LIST_ATTACH (R179): Command 0x01 attaches a schedule list to a port. -/
  | listAttach (f e : Nat)
  /-- LIST_DETACH (R179): Command 0x02 removes a port's list, whose transfers leave at the next swap. -/
  | listDetach (f e : Nat)
  /-- POINT_ALLOC (R228): Command 0x08 claims point granules within quota and ownership. -/
  | pointAlloc (f e : Nat)
  /-- POINT_FREE (R229): Command 0x09 releases granules at the next frame boundary unless still named. -/
  | pointFree (f e : Nat)
  /-- POINT_CONFIG (R230): Command 0x0A sets kind, fail-safe mode and preset of owned points. -/
  | pointConfig (f e : Nat)
  /-- POINT_SHARE (R242): Command 0x0B grants or revokes read rights at a frame boundary. -/
  | pointShare (f e : Nat)
  /-- IMAGE_SET (R247): Command 0x0C attaches, changes or detaches the function's image. -/
  | imageSet (f e : Nat)
  /-- RULE_SET (R271): Command 0x10 stores reflex rules that take effect together at a frame boundary. -/
  | ruleSet (f e : Nat)
  /-- ALERT_BIND (R281): Command 0x11 binds or unbinds a node's alerts to a fast source. -/
  | alertBind (f e : Nat)
  /-- ALLOWLIST_SET (R157): Command 0x18 gives or removes an allowlist. -/
  | allowlistSet (f e : Nat)
  /-- NODE_PROMOTE (R169): Command 0x19 clears a node's miss counts and restores it at the next frame boundary. -/
  | nodePromote (f e : Nat)
  /-- ABORT (R313): Command 0x1F tries to abort a long operation by its handle. -/
  | abort (f e : Nat)
  /-- LEASEPOLICY_SET (R525): Command 0x20 gives the lease policy and re-resolves nodes leased to the manager. -/
  | leasepolicySet (f e : Nat)
  /-- LEASE_SET (R163): Command 0x21 changes a node's writer and readers at a frame boundary. -/
  | leaseSet (f e : Nat)
  /-- NODE_ADMIT (R159): Command 0x22 admits a HELD lower end at the next frame boundary. -/
  | nodeAdmit (f e : Nat)
  /-- NODE_UNBIND (R144): Command 0x23 releases a node number's binding. -/
  | nodeUnbind (f e : Nat)
  /-- NODE_RELEASE (R175): Command 0x24 lifts a quarantine or refusal and enumerates the location afresh. -/
  | nodeRelease (f e : Nat)
  /-- TENANT_CREATE (R377): Command 0x30 creates a tenant from a share record. -/
  | tenantCreate (f e : Nat)
  /-- TENANT_SHARE (R379): Command 0x31 changes a tenant's shares at the next frame boundary. -/
  | tenantShare (f e : Nat)
  /-- TENANT_FREEZE (R384): Command 0x32 starts draining a tenant toward FROZEN. -/
  | tenantFreeze (f e : Nat)
  /-- TENANT_THAW (R386): Command 0x33 resumes a frozen tenant at the next frame boundary. -/
  | tenantThaw (f e : Nat)
  /-- TENANT_SAVE (R388): Command 0x34 freezes a tenant and writes its state to a save buffer. -/
  | tenantSave (f e : Nat)
  /-- TENANT_RESTORE (R390): Command 0x35 checks and restores a saved state into a function. -/
  | tenantRestore (f e : Nat)
  /-- TENANT_DESTROY (R393): Command 0x36 resets a tenant and returns its shares. -/
  | tenantDestroy (f e : Nat)
  /-- FW_SESSION (R482): Command 0x40 opens, resumes or discards the download session. -/
  | fwSession (f e : Nat)
  /-- FW_CHUNK (R485): Command 0x41 submits one package chunk from host memory. -/
  | fwChunk (f e : Nat)
  /-- FW_VERIFY (R488): Command 0x42 verifies the whole package in the Flacon. -/
  | fwVerify (f e : Nat)
  /-- FW_ACTIVATE (R492): Command 0x43 checks conditions and starts live activation of the verified image. `motion` and
  `holdup` are the samples of MOTION_N and HOLDUP_OK by tile, `vin` the answer of the supply monitor, if any. -/
  | fwActivate (f e : Nat) (motion holdup : BitVec 8) (vin : Option (BitVec 16))
  /-- FW_CONFIRM (R498): Command 0x44 confirms or rejects the image on trial. -/
  | fwConfirm (f e : Nat)
  /-- SETTINGS_SAVE (R503): Command 0x48 writes a new settings generation into the bank in force. -/
  | settingsSave (f e : Nat)
  /-- POWER_SET (R455): Command 0x50 requests Drydown or wake of a tile. -/
  | powerSet (f e : Nat)
  /-- COMMAND_STRUCTURE_READ_DONE (R315): A command's host structure read completes and its entries are checked, clamped
  and applied. `long` that `id` is a handle, else it is an entry; `data` are the bytes read. -/
  | commandStructureReadDone (f : Nat) (long : Bool) (id err : Nat) (data : List Byte)
  /-- BRIDGE_LOAD (R330): A tenant BAR2 read is checked and held while a bridge load is sent, or ends at once. `off` is
  the byte offset in tenant BAR2. -/
  | bridgeLoad (f off size : Nat)
  /-- BRIDGE_STORE (R328): A tenant BAR2 write is queued as a bridge store or dropped. `off` is the byte offset in
  tenant BAR2, `part` that byte enables were partial. -/
  | bridgeStore (f off size : Nat) (v : W64) (part : Bool)
  /-- BWV_WINBASE_WRITE (R340): A changing write of BWV_WINBASE moves the window and ends every held load. `v` is the
  word written. -/
  | bwvWinbaseWrite (f : Nat) (v : W32)
  /-- BWV_LOCK_ACQUIRE (R336): A read of BWV_LOCK takes the node semaphore if free and returns its token. -/
  | bwvLockAcquire (f : Nat)
  /-- BWV_LOCK_RENEW (R336): A write of BWV_LOCK with OP 1 renews the semaphore lease for 1 ms. `tok` is the token
  written. -/
  | bwvLockRenew (f : Nat) (tok : BitVec 16)
  /-- BWV_LOCK_RELEASE (R336): A write of BWV_LOCK with OP 2 releases the semaphore. `tok` is the token written. -/
  | bwvLockRelease (f : Nat) (tok : BitVec 16)
  /-- BWV_WFCLR_WRITE (R335): A write of BWV_WFCLR clears a node's write-faulted mark. `v` is the word written. -/
  | bwvWfclrWrite (f : Nat) (v : W32)
  /-- BRIDGE_REPLY (R326): A node's bridge reply completes, fails, regrants or resends the access. `k` counts the
  requests of the port that await a reply, oldest first; `mis` and `blocks` as in POLL_ANSWER. -/
  | bridgeReply (g k : Nat) (mis : Bool) (blocks : List (BitVec 2 × W64))
  /-- BRIDGE_HOLD_LIMIT (R330): A held load reaching its hold limit completes with all-ones and a load-timeout event.
  `tag` names the held load. -/
  | bridgeHoldLimit (f tag : Nat)
  /-- BRIDGE_ANSWER_LIMIT (R326): 10 ms after a bridge request was first sent it fails with 0x42. `k` as in
  BRIDGE_REPLY. -/
  | bridgeAnswerLimit (g k : Nat)
  /-- LOCK_LEASE_EXPIRY (R336): An unrenewed semaphore lease expires, freeing it and writing lock-expired. -/
  | lockLeaseExpiry (g n : Nat)
  /-- ATTENTION_POLL (R338): A node silent for 2^POLLK ticks is sent an attention poll grant. -/
  | attentionPoll (g n : Nat)
  /-- ATTENTION_POLL_REPLY (R338): A poll reply or header with ATTN newly 1 writes an attention event. `mis` and
  `blocks` as in POLL_ANSWER. -/
  | attentionPollReply (g n : Nat) (mis : Bool) (blocks : List (BitVec 2 × W64))
  /-- BRG_MCTL_LOAD (R343): Writing OP 1 to BRG_MCTL starts a manager load of a node word. -/
  | brgMctlLoad (t : Nat)
  /-- BRG_MCTL_STORE (R343): Writing OP 2 to BRG_MCTL starts a manager store to a node word. -/
  | brgMctlStore (t : Nat)
  /-- NXT_ARM (R350): Writing ARM in NXT_CTL arms a bulk job, promoted at once if the channel is IDLE. `v` is the view
  (R346), `ctl` the NXT_CTL word written, with ARM 1. -/
  | nxtArm (f v : Nat) (ctl : W32)
  /-- BULK_STOP (R351): CMD STOP ends the current job after its bursts in flight are answered. `v` is the view. -/
  | bulkStop (f v : Nat)
  /-- BULK_CANCEL (R351): CMD CANCEL disarms a job not yet promoted. `v` is the view. -/
  | bulkCancel (f v : Nat)
  /-- BULK_BURST_REPLY (R353): A node's reply to a data burst or probe counts accepted data, detects short bursts or
  returns the channel to RUN. `bseq` is the BSEQ asked with; `mis` and `blocks` as in POLL_ANSWER. -/
  | bulkBurstReply (t c bseq : Nat) (mis : Bool) (blocks : List (BitVec 2 × W64))
  /-- BULK_REQUEST_ANSWER (R353): A node's answer to a bulk request brings data to host memory and counts it. `bseq` is
  the BSEQ asked with; `mis` and `blocks` as in POLL_ANSWER. -/
  | bulkRequestAnswer (t c bseq : Nat) (mis : Bool) (blocks : List (BitVec 2 × W64))
  /-- BULK_PROBE_DUE (R358): A waiting channel sends a readiness probe every 2^PROBEK ticks. -/
  | bulkProbeDue (t c : Nat)
  /-- BULK_WAIT_LIMIT (R358): A channel in WAIT or PROBE for LIMIT ms ends its job with 0x47, DETAIL 1. -/
  | bulkWaitLimit (t c : Nat)
  /-- BULK_HOST_READ_DONE (R357): Host data for a downstream burst arrives, or its failure ends the job. `data` are the
  bytes read. -/
  | bulkHostReadDone (t c err : Nat) (data : List Byte)
  /-- BULK_RECORD_RELEASE (R360): When the BCQ has room, a held record is written and the channel may promote again. -/
  | bulkRecordRelease (f : Nat)
  /-- BCQ_HEAD_DOORBELL (R359): A write of BMC_BCQHEAD frees consumed bulk records. `v` is the index written. -/
  | bcqHeadDoorbell (f : Nat) (v : BitVec 16)
  /-- VF_ENABLE_SET (R368): Setting VF Enable with ARI makes tenants reachable, or sets NOARI without it. -/
  | vfEnableSet
  /-- VF_ENABLE_CLEAR (R370): Clearing VF Enable resets every created tenant with cause VF disable. -/
  | vfEnableClear
  /-- FLR_INITIATE (R382): A Function Level Reset puts a tenant in RESETTING and undoes its own work. -/
  | flrInitiate (f : Nat)
  /-- TENANT_SERVICE_POINT (R382): Once a resetting tenant's tasks, bridge and bulk work have stopped, its pages reset
  and it is ACTIVE. -/
  | tenantServicePoint (t : Nat)
  /-- FREEZE_DRAIN_COMPLETE (R384): A freezing tenant's drain completes and it becomes FROZEN. -/
  | freezeDrainComplete (t : Nat)
  /-- FREEZE_TIMEOUT (R384): After FREEZEMS the drain is forced: bulk jobs stopped, long operations aborted, state
  FROZEN. -/
  | freezeTimeout (t : Nat)
  /-- TASK_STEP_END (R406): An engine ends a step and takes the head of the highest non-empty ready list. `e` is the
  engine, `wake` the tick a task asked to be delayed to, `dur` and `wait` the step's duration and the wait of the
  task taken next, in 10 ns units. -/
  | taskStepEnd (t e : Nat) (wake : Option Nat) (dur wait : Nat)
  /-- STEP_OVERRUN (R410): A step past 6 µs is counted and sets STEPOVR. `e` is the engine, `dur` the duration in 10 ns
  units. -/
  | stepOverrun (t e dur : Nat)
  /-- ENGINE_FAULT (R411): A step still running at 1 ms resets and reloads its engine and ends the task. `e` is the
  engine, `us` the duration in microseconds. -/
  | engineFault (t e us : Nat)
  /-- INTERRUPT_ENTRY (R424): An IDLE class with an eligible source enters ENTRY and catches its sources. `fast` names
  the class of sources. -/
  | interruptEntry (f : Nat) (fast : Bool)
  /-- INTERRUPT_COMMIT (R426): After 40 ns of ENTRY and in issue order, ICG issues the MSI-X write and the class enters
  SERVICE. `fast` names the class of sources. -/
  | interruptCommit (f : Nat) (fast : Bool)
  /-- FIB_ACK_WRITE (R428): A 64-bit write of FIB_ACK ends the fast class's SERVICE. `v` is the word written, `whole`
  that the access was one of 64 bits. -/
  | fibAckWrite (f : Nat) (v : W64) (whole : Bool)
  /-- NIB_ACK_WRITE (R428): A write of NIB_ACK ends the normal class's SERVICE. `v` is the word written. -/
  | nibAckWrite (f : Nat) (v : W32)
  /-- MSIX_TABLE_WRITE (R431): A write to an MSI-X table entry or Mask bit applies from the next commit and may release
  masked sources. `k` is the entry, `off` the byte offset in it, `v` the value written. -/
  | msixTableWrite (f k off size : Nat) (v : W64)
  /-- MSIX_CONTROL_WRITE (R430): A change of MSI-X Enable or Function Mask stops or releases interrupt entry. `en` is
  MSI-X Enable, `mask` Function Mask. -/
  | msixControlWrite (f : Nat) (en mask : Bool)
  /-- ERRMASK_WRITE (R436): Clearing an ERRMASK bit while its ERR bit is set raises ERRSUM. `ty` and `inst` name the
  page (R538). -/
  | errmaskWrite (ty inst : Nat) (v : W32)
  /-- LEVEL_WRITE (R446): A write of PMT_CTL.LEVEL starts a performance level change. `v` is the PMT_CTL word written. -/
  | levelWrite (t : Nat) (v : W32)
  /-- LEVEL_STEP_DONE (R446): A regulator step or bias settle of a level change completes and the next step runs. -/
  | levelStepDone (t : Nat)
  /-- AVS_LOOP_PERIOD (R448): Every 100 µs the adaptive loop reads the monitors and moves VDD_CORE by 5 mV. `m` is the
  smallest margin in ps. -/
  | avsLoopPeriod (t m : Nat)
  /-- TRIM_STORE (R449): At most every 10 minutes a changed trim is written to the tile's MRAM. -/
  | trimStore (t : Nat)
  /-- BUS_TRANSACTION_COMPLETE (R451): An AVSBus or PMBus transaction completes, is repeated on failure, or sets AVSFAIL
  after the third. `k` counts the transactions in flight of the tile, `ok` that it was acknowledged. -/
  | busTransactionComplete (t k : Nat) (ok : Bool)
  /-- BUS_STUCK_TIMEOUT (R586): A bus held low for more than 35 ms fails the transaction. `k` counts the transactions in
  flight of the tile. -/
  | busStuckTimeout (t k : Nat)
  /-- DOZE_ENTRY (R453): A tile idle for IDLE ticks gates its engine clock and enters DOZE. -/
  | dozeEntry (t : Nat)
  /-- TSK_ATZ_PAGE_ACCESS (R454): An access to a TSK or ATZ page of a dozing tile ends DOZE before completing. `a` is
  the byte address in manager BAR0. -/
  | tskAtzPageAccess (a size : Nat) (write : Bool) (v : W64)
  /-- MANAGER_ACCESS_SLEEPING_TILE (R459): A manager access to a tile in DRYDOWN or WAKING waits at the anchor and acts
  as a wake source. `a` is the byte address in `bar`, `part` that byte enables were partial. -/
  | managerAccessSleepingTile (bar a size : Nat) (write : Bool) (v : W64) (part : Bool)
  /-- DRYDOWN_DRAINED (R456): With the tile's tasks FREE and publishing done, banks enter retention, the core isolates
  and rails go off. -/
  | drydownDrained (t : Nat)
  /-- DRYDOWN_DRAIN_TIMEOUT (R456): 5 ms after B, tasks not FREE are ended at their next step boundary. -/
  | drydownDrainTimeout (t : Nat)
  /-- WAKE_N_LOW (R460): WAKE_N low wakes the selected tiles, the anchor first in Standby. -/
  | wakeNLow
  /-- L1_2_EXIT (R460): Host exit from L1.2 wakes the anchor in Standby or cancels a Standby entry. -/
  | l12Exit
  /-- WAKE_POWER_GOOD (R461): Power-good of both rails during a wake lets PLL lock, memory init, mesh training and
  reload proceed. -/
  | wakePowerGood (t : Nat)
  /-- TILE_READY (R461): A waking tile reaches READY, enters RUN, releases held work and writes a tile-state event. `us`
  is the time since the wake source, `links` the mesh links that trained, as bits of GLB_MESHSTAT. -/
  | tileReady (t us links : Nat)
  /-- WAKE_ATTEMPT_TIMEOUT (R463): A wake attempt missing power-good, oscillator-ready or mesh path in 5 ms fails.
  `item` is the item of R463 that did not come. -/
  | wakeAttemptTimeout (t item : Nat)
  /-- WAKE_RETRY (R463): 1 ms after a first failed wake the wake runs again from step 1. -/
  | wakeRetry (t : Nat)
  /-- PGOOD_LOST (R592): PGOOD low for 1 µs on a powered tile fails it to OFF, or loses retained banks in Drydown.
  `rail` 0 VDD_CORE, 1 VDD_SRAM. -/
  | pgoodLost (t rail : Nat)
  /-- THERMAL_TRIP (R589): A junction at +125 °C for 100 µs takes the tile to OFF, a package fault on tile 0. -/
  | thermalTrip (t : Nat)
  /-- STANDBY_ARM (R465): Writing ARM 1 to PWR_STBYCTL starts Standby entry. `v` is the PWR_STBYCTL word written, with
  ARM 1. -/
  | standbyArm (v : W32)
  /-- STANDBY_DISARM (R466): Writing ARM 0 cancels a Standby entry. `v` is the PWR_STBYCTL word written, with ARM 0. -/
  | standbyDisarm (v : W32)
  /-- STANDBY_STOP_DONE (R465): The anchor's stop steps are done; LTR is sent and the RC calibrated. `calib` is the
  calibration of the RC oscillator. -/
  | standbyStopDone (calib : Nat)
  /-- L1_2_ENTRY (R465): The link entering L1.2 in stage 3 isolates the anchor's core and the package enters Standby. -/
  | l12Entry
  /-- STANDBY_WAIT_TIMEOUT (R466): Stage 3 lasting WAITMS ms cancels Standby entry. -/
  | standbyWaitTimeout
  /-- STANDBY_WAKE (R468): After the anchor's wake the link returns to L0, time is rebuilt and a standby event written.
  `count` is the sleep counter as read. -/
  | standbyWake (count : Nat)
  /-- FW_UDP_SEGMENT (R486): A SEGMENT datagram fills an assembly buffer, completing a chunk for handling. `src` is
  twice the sender's address and port, plus 1 over IPv6; `d` are the payload bytes. -/
  | fwUdpSegment (src : Nat) (d : List Byte)
  /-- FW_UDP_QUERY (R487): A QUERY datagram is answered with a STATUS reply. `src` and `d` as in FW_UDP_SEGMENT. -/
  | fwUdpQuery (src : Nat) (d : List Byte)
  /-- ASSEMBLY_BUFFER_TIMEOUT (R486): An assembly buffer incomplete 1 s after its first segment is freed. `c` is the
  chunk. -/
  | assemblyBufferTimeout (c : Nat)
  /-- CHUNK_PROGRAMMED (R483): A chunk's sector is programmed and read back, and its bitmap bit is set or FLASH
  reported. `ok` that the sector reads back as written. -/
  | chunkProgrammed (ok : Bool)
  /-- VERIFY_DONE (R488): Verification of the Flacon ends, setting VERIFIED or reporting the failure. -/
  | verifyDone
  /-- ACTIVATION_STAGED (R495): With bank Y written and images staged, checks re-run and the boot record is written as
  the commit. `motion`, `holdup` and `vin` as in FW_ACTIVATE. -/
  | activationStaged (motion holdup : BitVec 8) (vin : Option (BitVec 16))
  /-- TILE_SWITCH_DONE (R496): A tile's new code takes its first step and the next tile starts its switch. `pause` is
  the pause in microseconds. -/
  | tileSwitchDone (t pause : Nat)
  /-- TILE_SWITCH_TIMEOUT (R496): A tile whose new code does not step within 30 ms resumes old code and a rollback
  follows. -/
  | tileSwitchTimeout (t : Nat)
  /-- TRIAL_QUARTER_HOUR (R497): Each 15 minutes of trial adds to TRIALQH, and may auto-confirm or roll back. -/
  | trialQuarterHour
  /-- ROLLBACK_HOLDUP_CHECK (R499): Every 100 ms a pending run-time rollback checks hold-up and proceeds when it passes.
  `holdup` and `vin` as in FW_ACTIVATE. -/
  | rollbackHoldupCheck (holdup : BitVec 8) (vin : Option (BitVec 16))
  /-- SETTINGS_COPY_WRITTEN (R503): A settings copy is written; copy 0 commits the save and copy 2 completes it. -/
  | settingsCopyWritten
  /-- NODE_TABLE_JOURNAL_WRITE (R506): A binding or quarantine change is journalled to flash, compacting when the half
  is full. `whole` that power held until the record was whole. -/
  | nodeTableJournalWrite (whole : Bool)
  /-- TNH_MOTION_WRITE (R493): A write of TNH_MOTION declares or ends motion, or is discarded with NORIGHT. `v` is the
  word written. -/
  | tnhMotionWrite (f : Nat) (v : W32)
  /-- RNG_HEALTH_TEST (R561): While RNGFAIL is set the generator is retested every 1 s and waiting work proceeds when it
  passes. `good` that the test passed. -/
  | rngHealthTest (good : Bool)
  /-- POWER_ON (R534): The rise of VAON and VDD_IO starts a package reset with CAUSE 1. -/
  | powerOn
  /-- SUPPLY_DROP (R590): VAON or VDD_IO low for 2 µs triggers a package reset with all outputs high-impedance. -/
  | supplyDrop
  /-- PERST_ASSERT (R516): PERST# low triggers a package reset. -/
  | perstAssert
  /-- PERST_RELEASE (R522): PERST# rising starts the boot sequence, sampling the straps. `straps` are the strap balls,
  `flash` what SFDP says of the flash (R475). -/
  | perstRelease (straps : BitVec 4) (flash : Bool)
  /-- HOT_RESET (R516): A PCI Express Hot Reset triggers a package reset. `straps` and `flash` as in PERST_RELEASE. -/
  | hotReset (straps : BitVec 4) (flash : Bool)
  /-- DL_DOWN (R516): DL_Down triggers a package reset. `straps` and `flash` as in PERST_RELEASE. -/
  | dlDown (straps : BitVec 4) (flash : Bool)
  /-- PACKAGE_READY (R522): Boot completes, GLB STAT.READY is set and the admin queue can run. `ms` is the time since
  the trigger ended, `links` the mesh links that trained, as bits of GLB_MESHSTAT. -/
  | packageReady (ms links : Nat)
  /-- GLB_CTL_RESET (R516): Writing RESET in GLB_CTL resets the package. `straps` and `flash` as in PERST_RELEASE. -/
  | glbCtlReset (straps : BitVec 4) (flash : Bool)
  /-- TILE_RESET (R518): Writing RESET in TIL_CTL resets the tile's engines, ports and logic. -/
  | tileReset (t : Nat)
  /-- TILE_RESET_READY (R518): A reset tile sets READY and writes a tile-reset event. `us` is the time since the write,
  `pause` the pause of a switch made with it. -/
  | tileResetReady (t us pause : Nat)
  /-- PORT_RESET (R519): Writing RESET in TPT_CTL resets the port's registers and takes the first hop down. -/
  | portReset (g : Nat)
  /-- BLOCK_RESET (R521): Writing RESET in another page's CTL resets that page with its block-specific effects. `ty` and
  `inst` name the page (R538). -/
  | blockReset (ty inst : Nat)
  /-- CTL_ENABLE_WRITE (R541): A write of CTL.ENABLE disables or enables MGT or ATZ, or is clamped elsewhere. `ty` and
  `inst` name the page, `en` is the ENABLE written. -/
  | ctlEnableWrite (ty inst : Nat) (en : Bool)
  /-- CTL_QUIESCE_WRITE (R541): A write of CTL.QUIESCE quiesces or resumes BRG, BMV or ADM, or is clamped elsewhere.
  `ty` and `inst` name the page, `q` is the QUIESCE written. -/
  | ctlQuiesceWrite (ty inst : Nat) (q : Bool)
  /-- MGT_LINK_STATUS (R558): The PHY's in-band status changes the management link state, setting LINKLOST or MISMATCH.
  `speed` is the code of MGT_LINK.SPEED. -/
  | mgtLinkStatus (up : Bool) (speed : Nat) (duplex : Bool)
  /-- MGT_ARP_REQUEST (R558): An ARP request for MGT_IP4 is answered. `target` is the address asked for, `src` the
  asker's MAC address. -/
  | mgtArpRequest (target src : Nat)
  /-- MGT_NEIGHBOR_SOLICITATION (R558): An IPv6 Neighbor Solicitation for the device's addresses is answered. `target`
  and `src` as in MGT_ARP_REQUEST. -/
  | mgtNeighborSolicitation (target src : Nat)
  /-- MGT_ECHO_REQUEST (R558): An ICMP or ICMPv6 Echo Request is answered when ECHO is set. `v6` that it came over IPv6. -/
  | mgtEchoRequest (v6 : Bool) (dst src : Nat) (data : List Byte)
  /-- MGT_UNWANTED_FRAME (R558): A frame not served is dropped and counted in MGT_DROP. `bad` that its FCS or length was
  bad. -/
  | mgtUnwantedFrame (bad : Bool)
  /-- MGT_NEIGHBOR_EXPIRY (R558): A next-hop cache entry expires after 60 s. `ip` names the entry. -/
  | mgtNeighborExpiry (v6 : Bool) (ip : Nat)
  /-- MGT_ADDRESS_WRITE (R558): A write of MGT_MAC, MGT_IP6 or MGT_IP6GW takes effect when its highest word is written.
  `off` is the offset in the MGT page. -/
  | mgtAddressWrite (off size : Nat) (v : W64)
  /-- JTAG_EXTEST (R587): Boundary-scan instruction 0x00 drives balls from the boundary register. `v` is the value
  shifted into the boundary register. -/
  | jtagExtest (v : Nat)
  /-- JTAG_IDCODE (R587): Boundary-scan instruction 0x01 selects the IDCODE register. -/
  | jtagIdcode
  /-- JTAG_SAMPLE_PRELOAD (R587): Boundary-scan instruction 0x02 samples or preloads the boundary register. `v` is the
  value the boundary register takes. -/
  | jtagSamplePreload (v : Nat)
  /-- JTAG_CLAMP (R587): Boundary-scan instruction 0x04 clamps outputs and selects bypass. -/
  | jtagClamp
  /-- JTAG_HIGHZ (R587): Boundary-scan instruction 0x08 puts outputs at high impedance. -/
  | jtagHighz
  /-- JTAG_BYPASS (R587): Boundary-scan instruction 0xFF, or any other code, selects bypass. `code` is the instruction
  code. -/
  | jtagBypass (code : BitVec 8)
  /-- CONFIG_SPACE_WRITE (R548): A configuration write with no row of its own, such as Bus Master Enable or power state,
  takes effect. `what`: 0 Bus Master Enable, 1 power state, 2 VF MSE, 3 NumVFs, 4 ARI Capable Hierarchy; `v` its
  value. -/
  | configSpaceWrite (f what v : Nat)
  /-- REGISTER_WRITE (R18): A write to a register with no row of its own is stored after clamping, with W1C, W1S, RWL
  and partial-write rules. `a` is the byte address in `bar`, `part` that byte enables were partial. -/
  | registerWrite (f bar a size : Nat) (v : W64) (part : Bool)
  /-- RC_COUNTER_READ (R18): A read of an RC register returns its value and clears it. `a` is the byte address in BAR0. -/
  | rcCounterRead (f a size : Nat)
  /-- SPLIT_READ_SNAPSHOT (R15): A 32-bit read of a 64-bit register's low word snapshots its high word for the same
  function and BAR. `a` is the byte address in `bar`. -/
  | splitReadSnapshot (f bar a size : Nat)
  /-- MALFORMED_REGISTER_ACCESS (R545): A BAR access that is not naturally aligned 4 or 8 bytes is refused or discarded.
  `a` is the byte address in `bar`. -/
  | malformedRegisterAccess (f bar a size : Nat) (write : Bool)
  /-- SQ_ENTRY_READ_DONE (R299): The DMA read of a fetched submission entry completes, and the entry is checked for its
  phase and run, or the SQ stops with REASON 2 or 5. `q` is the SQ of `f`, `d` are the bytes read. -/
  | sqEntryReadDone (f q err : Nat) (d : List Byte)
  /-- PTP_FOLLOW_UP (R78): An IEEE 1588 Follow_Up or Pdelay_Resp_Follow_Up from a two-step master gives the precise
  origin timestamp that completes an offset or delay measurement. `source` is the sender's port identity, `peer`
  that it follows a peer-delay response; `ts` is its timestamp. -/
  | ptpFollowUp (domain source : Nat) (peer : Bool) (ts : Int)
  /-- PTP_DELAY_REQUEST_DUE (R78): In IEEE 1588 mode the device sends a Delay_Req, or a Pdelay_Req for peer-to-peer, at
  its request interval to measure path delay. `tx` is the local send time. -/
  | ptpDelayRequestDue (tx : Int)
  /-- NEXT_HOP_RESOLUTION_REPLY (R558): An ARP reply or IPv6 Neighbor Advertisement fills a next-hop entry and lets
  waiting management traffic leave. `ip` is the address resolved, `mac` its MAC address. -/
  | nextHopResolutionReply (v6 : Bool) (ip mac : Nat)
  /-- HOST_LINK_REACHES_L0 (R467): The PCI Express link reaches L0 at link-up or on exit from L1, so LTR is sent and
  held MSI-X and other TLPs leave. -/
  | hostLinkReachesL0
  /-- OSCILLATOR_READY (R463): After XO_EN rises the reference detector counts 1,024 cycles within 1 % of 25 MHz, and
  the waking anchor proceeds to PLL lock. -/
  | oscillatorReady
  /-- ENGINE_RELOAD_DONE (R411): An engine reset after a fault finishes reloading from the tile's image and returns to
  service to take tasks. `e` is the engine. -/
  | engineReloadDone (t e : Nat)
  /-- SETTINGS_GENERATION_WAIT_END (R503): 10 s after a bank's last generation, a SETTINGS_SAVE that waited under the
  rate limit starts writing its new generation. -/
  | settingsGenerationWaitEnd
  /-- WAKE_DETECTOR_REARM (R458): A trunk wake detector re-arms after 2 µs without a transition, ready to raise the next
  burst's wake event. -/
  | wakeDetectorRearm (g : Nat)
  /-- TEST_LOGIC_RESET (R587): TRST_N low, or TMS held high, puts the TAP in Test-Logic-Reset and selects IDCODE. -/
  | testLogicReset
  /-- RESET_HOLD_END (R590): Once both supply rails have been back in limits for 10 ms with PERST# high, the package
  leaves reset and starts its boot. `straps` and `flash` as in PERST_RELEASE. -/
  | resetHoldEnd (straps : BitVec 4) (flash : Bool)
deriving DecidableEq, Repr

end Sys2Proof
end

