-- ==== Sys2Proof/Decode.lean ====
section
/-!
DEFINITION. Decode: the block has no instruction encoding. No row of spec/opcode_table.json gives a bit, so no word
spells a command.
-/
namespace Sys2Proof

/-- The command that the low `nbits` bits of `w` spell by the table's bits: none, since no row gives any. -/
def decodeTableWord (_nbits _w : Nat) : Option Instr := none

end Sys2Proof
end

