-- ==== Sys2Proof/Config.lean ====
section
/-!
DEFINITION. Config: what an implementation fixes and the spec leaves open.
Every constant here is opaque: no proof can see a value of it.
-/
namespace Sys2Proof.Config

/-- A value the spec leaves open, one per use: the machine applies it to the counter `State.free`
and advances the counter. Where the spec bounds the choice, the machine maps it into the bounds. -/
opaque freeNat : Nat → Nat

/-- The package's fuses: the 64-bit unique identifier of GLB_UID (R553). -/
opaque fuseUid : BitVec 64

/-- The package's fuses: the factory MAC address of MGT_MAC (R559). -/
opaque fuseMac : BitVec 48

/-- The SHA-256 digest of a byte string (R156, R480 name the function by reference; the model leaves it
uninterpreted). -/
opaque sha256 : List Byte → List Byte

/-- SHA-384 (R480). -/
opaque sha384 : List Byte → List Byte

/-- ECDSA P-384 verification: public key X and Y, signature r and s, digest (R480). -/
opaque p384Verify : List Byte → List Byte → List Byte → Bool

/-- ECDSA P-256 verification: public key X and Y, digest, signature r and s (R158). -/
opaque p256Verify : List Byte → List Byte → List Byte → Bool

/-- The package's fuses: the 384-bit value of each of the four key slots (R480). -/
opaque fuseKey : Nat → List Byte

/-- Chunk `i` of the factory package in the golden slot (R476). -/
opaque goldenChunk : Nat → List Byte

/-- Journal records that a node-table half holds after its base (R506 gives the areas, not the exact room). -/
opaque journalRoom : Nat

end Sys2Proof.Config
end

