-- ==== Sys2Proof/Machine/Bits.lean ====
section
/-!
DEFINITION. Plain helpers over numbers, bytes and sparse maps; nothing here knows the device.
-/
namespace Sys2Proof.Machine

/-- The field of `w` of `n` bits whose lowest bit is `lo`. -/
def bits (w lo n : Nat) : Nat := (w / 2 ^ lo) % 2 ^ n

/-- Bit `i` of `w`. -/
def bit (w i : Nat) : Bool := (w / 2 ^ i) % 2 == 1

/-- The number 1 for true and 0 for false. -/
def b2n (b : Bool) : Nat := if b then 1 else 0

/-- `w` with the field of `n` bits at `lo` replaced by `v` (taken modulo `2 ^ n`). -/
def setBits (w lo n v : Nat) : Nat :=
  w - bits w lo n * 2 ^ lo + (v % 2 ^ n) * 2 ^ lo

/-- `w` with bit `i` set. -/
def setBit (w i : Nat) : Nat := if bit w i then w else w + 2 ^ i

/-- `w` with bit `i` clear. -/
def clrBit (w i : Nat) : Nat := if bit w i then w - 2 ^ i else w

/-- A signed reading of the low `n` bits of `w`. -/
def toSigned (n w : Nat) : Int :=
  let u := w % 2 ^ n
  if u < 2 ^ (n - 1) then (u : Int) else (u : Int) - 2 ^ n

/-- The two's-complement `n`-bit code of `i`. -/
def ofSigned (n : Nat) (i : Int) : Nat := (i % (2 ^ n : Int)).toNat

/-- `i` brought into `[lo, hi]`. -/
def clampInt (lo hi i : Int) : Int := if i < lo then lo else if hi < i then hi else i

/-- `a + b` saturating at `m`. -/
def satAdd (m a b : Nat) : Nat := if a + b > m then m else a + b

/-- Little-endian number spelt by bytes. -/
def leNat : List Byte → Nat
  | [] => 0
  | b :: r => b.toNat + 256 * leNat r

/-- The `n` little-endian bytes of a number. -/
def toLe : Nat → Nat → List Byte
  | 0, _ => []
  | n + 1, v => BitVec.ofNat 8 v :: toLe n (v / 256)

/-- The `n` bytes of `bs` from byte `i`, zeros past its end, as a little-endian number. -/
def byteField (bs : List Byte) (i n : Nat) : Nat := leNat ((bs.drop i).take n)

/-- A sparse map: keys strictly rising, no entry equal to the default its reader passes. -/
abbrev NMap (α : Type) := List (Nat × α)

/-- Read of a sparse map; `d` is what an unlisted key reads as. -/
def nget {α : Type} (d : α) : NMap α → Nat → α
  | [], _ => d
  | (k, v) :: r, i => if i = k then v else nget d r i

/-- Insertion at the place of the key, over an entry that has it. -/
def nins {α : Type} : NMap α → Nat → α → NMap α
  | [], i, v => [(i, v)]
  | (k, w) :: r, i, v =>
    if i < k then (i, v) :: (k, w) :: r
    else if i = k then (i, v) :: r
    else (k, w) :: nins r i v

/-- Write of a sparse map keeping its canonical form: writing the default removes the entry. -/
def nput {α : Type} [DecidableEq α] (d : α) (m : NMap α) (i : Nat) (v : α) : NMap α :=
  if v = d then m.filter (fun p => p.1 != i) else nins m i v

/-- Update of one entry of a sparse map. -/
def nmod {α : Type} [DecidableEq α] (d : α) (m : NMap α) (i : Nat) (f : α → α) : NMap α :=
  nput d m i (f (nget d m i))

/-- Every listed entry of a sparse map rewritten, in canonical form; of two entries of one key the first counts, as for
`nget`. -/
def nmapAll {α : Type} [DecidableEq α] (d : α) (f : Nat → α → α) (m : NMap α) : NMap α :=
  m.foldr (fun x a => nput d a x.1 (f x.1 x.2)) []

/-- The canonical form of a sparse map: keys rise strictly and no entry is the default. -/
def nwf {α : Type} [DecidableEq α] (d : α) : NMap α → Bool
  | [] => true
  | [(_, v)] => decide (v ≠ d)
  | (k, v) :: (k', v') :: r => decide (k < k') && decide (v ≠ d) && nwf d ((k', v') :: r)

/-- Insertion of a number into a list held ascending without repeats. -/
def insertAsc (x : Nat) : List Nat → List Nat
  | [] => [x]
  | y :: r => if x < y then x :: y :: r else if x = y then y :: r else y :: insertAsc x r

/-- Sum of a function over the numbers below `n`. -/
def sumTo : Nat → (Nat → Nat) → Nat
  | 0, _ => 0
  | n + 1, f => sumTo n f + f n

/-- Some number below `n` that meets `p`, the lowest. -/
def firstBelow (n : Nat) (p : Nat → Bool) : Option Nat := (List.range n).find? p

/-- The word whose bit `i` is `p i`, for `i < n`. -/
def maskOf (n : Nat) (p : Nat → Bool) : Nat := sumTo n (fun i => if p i then 2 ^ i else 0)

/-- One step of a reflected 32-bit CRC with polynomial `poly`, over one bit. -/
def crcBit (poly : Nat) (c : Nat) : Nat := if c % 2 = 1 then (c / 2) ^^^ poly else c / 2

/-- Eight steps of a reflected CRC. -/
def crcByte (poly c : Nat) (b : Byte) : Nat :=
  let c0 := c ^^^ b.toNat
  crcBit poly (crcBit poly (crcBit poly (crcBit poly (crcBit poly (crcBit poly (crcBit poly (crcBit poly c0)))))))

/-- CRC-32C (Castagnoli), reflected, initial value and final complement all ones (R103). -/
def crc32c (bs : List Byte) : Nat :=
  (bs.foldl (crcByte 0x82F63B78) 0xFFFFFFFF) ^^^ 0xFFFFFFFF

/-- One bit into a CRC of `n` bits, not reflected (R96, R595). -/
def crcUp (n poly c : Nat) (b : Bool) : Nat :=
  let fb := bit c (n - 1) != b
  let c1 := (c * 2) % 2 ^ n
  if fb then c1 ^^^ poly else c1

/-- CRC-8 with polynomial 0x07, initial value 0, bits of a byte most significant first (R96). -/
def crc8 (bs : List Byte) : Nat :=
  bs.foldl (fun c b => [7, 6, 5, 4, 3, 2, 1, 0].foldl (fun c i => crcUp 8 0x07 c (bit b.toNat i)) c) 0

/-- MCHK of a MARKER: CRC-4 over bytes 1-7 in line order (R595). -/
def crc4 (bs : List Byte) : Nat :=
  bs.foldl (fun c b => [0, 1, 2, 3, 4, 5, 6, 7].foldl (fun c i => crcUp 4 0x3 c (bit b.toNat i)) c) 0

/-- Insertion into a list ordered by a key, after the entries of equal key. -/
def insertBy {α : Type} (key : α → Nat) (x : α) : List α → List α
  | [] => [x]
  | y :: r => if key y ≤ key x then y :: insertBy key x r else x :: y :: r

/-- Stable sort by a key, ascending. -/
def sortBy {α : Type} (key : α → Nat) (l : List α) : List α := l.foldl (fun a x => insertBy key x a) []

end Sys2Proof.Machine
end

