-- ==== Sys2Proof/Machine/State.lean ====
section
/-!
DEFINITION. State: every register, ring, buffer, counter, mode and pin the spec gives the block, as plain data,
and the queue of waiting commands. Sparse maps (`NMap`) list only what differs from the reset value of the thing.
-/
namespace Sys2Proof.Machine

/-- Everything that leaves the package, newest first in `State.wire`; the model's own record of outputs. -/
inductive Output where
  /-- A posted DMA write of function `f` by an engine (R30, R413 class 3): ring entries, records, reports, states. -/
  | dmaWrite (f addr : Nat) (data : List Byte)
  /-- An engine's DMA read request of function `f` for `len` bytes (class 3): rings, lists, command structures. -/
  | dmaRead (f addr len : Nat)
  /-- A write of image publishing (R413 class 2): records and header. -/
  | imageWrite (f addr : Nat) (data : List Byte)
  /-- A read request for an output image (R413 class 2). -/
  | imageRead (f addr len : Nat)
  /-- A write of bulk data (R413 class 4). -/
  | bulkWrite (f addr : Nat) (data : List Byte)
  /-- A read request for bulk data (R413 class 4). -/
  | bulkRead (f addr len : Nat)
  /-- An MSI-X memory write of function `f` (R426). -/
  | msix (f addr data : Nat)
  /-- The completion of a register or window read with its data (R15, R18). -/
  | readData (f bar addr size value : Nat)
  /-- A read completed with Unsupported Request (R369, R545). -/
  | readUR (f bar addr : Nat)
  /-- Completion of a held bridge load with its tag (R330). -/
  | loadData (f tag size value : Nat)
  /-- One control block sent downstream on port `g` in block `blk` of the current tick (R95, R98). -/
  | block (g blk : Nat) (bytes : List Byte)
  /-- One transfer sent downstream on port `g` from block `blk` of the current tick on: class, node, XID, TSEQ, PLANID
  and payload bytes, padded to whole data blocks (R100, R101, R103). -/
  | xfer (g blk cls node xid tseq planid : Nat) (payload : List Byte)
  /-- The TRAIN block that the first hop's upper end sends on port `g` from now on, in every block while the hop trains
  (R123, R124); no byte at electrical idle. -/
  | train (g : Nat) (bytes : List Byte)
  /-- A frame sent by the management port (R558): kind, destination and content. -/
  | mgt (kind dst : Nat) (data : List Byte)
  /-- What the boundary-scan port shifts out for IDCODE (R587). -/
  | scan (value : Nat)
  /-- A transaction on the AVSBus or PMBus: rail (0 VDD_CORE, 1 VDD_SRAM, 2 status or monitor), tile, value (R451). -/
  | bus (rail tile value : Nat)
  /-- An LTR message: 0 running, 1 before Standby (R467). -/
  | ltr (code : Nat)
  /-- A flash or MRAM write ordered by the device: what, where (R483, R449, R506). -/
  | store (what index value : Nat)
  /-- A time token sent to a field tile, and the mesh links it passes, as bits of GLB_MESHSTAT (R34, R36, R66). -/
  | timeToken (tile tick : Nat) (links : List Nat)
  /-- The copy of a rule input sent from its tile to another, and the mesh links it passes (R34, R36, R269). -/
  | reflexCopy (src dst point : Nat) (links : List Nat)
  /-- A transfer replayed or moved on mesh link `l` (bit number of R38). -/
  | mesh (l code : Nat)
deriving DecidableEq, Repr

/-- An event record set not yet written: its header fields and the 14 DATA bytes of each record (R306). -/
structure Event where
  cls : Nat
  kind : Nat
  status : Nat := 0
  detail : Nat := 0
  handle : Nat := 0
  recs : List (List Byte)
  /-- Tick in which the event arose, once it has arisen (R306). -/
  tick : Option Nat := none
deriving DecidableEq, Repr

/-- States of one interrupt class (R424). -/
inductive ClsState where
  | idle | entry | service | held
deriving DecidableEq, Repr

/-- One interrupt class of a function. A source's state (R423) is its pair of bits:
neither IDLE, `pend` alone PENDING, `cause` alone CAUGHT, both CAUGHT-AGAIN. -/
structure IntClass where
  pend : W64 := 0
  cause : W64 := 0
  st : ClsState := .idle
  topsrc : Nat := 0
  vector : Nat := 0
  waitFast : Bool := false
  /-- Order in which ENTRY began (R427). -/
  stamp : Nat := 0
  /-- Commits, saturating at 32 bits, cleared by a read (R440, R441). -/
  entries : Nat := 0
deriving DecidableEq, Repr

/-- One MSI-X table entry (R420). -/
structure MsixEntry where
  addr : W64 := 0
  data : W32 := 0
  masked : Bool := true
deriving DecidableEq, Repr

/-- A fast source's alert latch (R282). -/
structure Latch where
  origin : Nat := 0
  wher : Nat := 0
  isRule : Bool := false
  code : Nat := 0
  aprio : Nat := 0
  aseq : Nat := 0
  merged : Nat := 0
  firstData : Nat := 0
  lastData : Nat := 0
  tick : Nat := 0
deriving DecidableEq, Repr

/-- A submission, completion or event ring (R290-R300). -/
structure Ring where
  base : W64 := 0
  log2 : Nat := 4
  cq : Nat := 0
  vector : Nat := 0
  irqen : Bool := false
  enable : Bool := false
  /-- SQ fetch head, or CQ and EQ write tail. -/
  head : Nat := 0
  /-- Phase of the lap that `head` is on (R295). -/
  phase : Bool := false
  /-- SQ: the producer's tail. CQ and EQ: the consumer's head. -/
  tail : Nat := 0
  /-- CQ and EQ: entries written and not yet freed (R298). -/
  unfreed : Nat := 0
  stopped : Bool := false
  latched : Nat := 0
  reason : Nat := 0
  /-- Phase of the lap that the latched INDEX is on (R293). -/
  latchPhase : Bool := false
  draining : Bool := false
  /-- EQ that drains: first entry number past those fetched, or in flight, when ENABLE was cleared (R293). -/
  drainTo : Nat := 0
  /-- Registers reset once the ring has drained (R521 ADM). -/
  wipe : Bool := false
deriving DecidableEq, Repr

/-- A submission entry (R303). -/
structure Entry where
  id : Nat
  sq : Nat
  opc : Nat
  fence : Bool
  cid : Nat
  target : Nat
  addr : Nat
  count : Nat
  p0 : Nat
  p1 : Nat
  listAddr : Nat
  listMax : Nat
  p2 : Nat
  /-- The command has been started by its row and waits for its host structure. -/
  reading : Bool := false
  /-- The handle sequence the command was given, 0 for none (R312). -/
  seq : Nat := 0
  /-- The command has finished and its completion waits to be written. -/
  ended : Bool := false
deriving DecidableEq, Repr

/-- A completion entry not yet written (R305). -/
structure Completion where
  id : Nat
  sq : Nat
  cq : Nat
  cid : Nat
  long : Bool
  listed : Bool
  ovf : Bool
  adj : Bool
  result : Nat
  status : Nat
  detail : Nat
  nlist : Nat
deriving DecidableEq, Repr

/-- One record of a completion list (R315). -/
structure ListRec where
  item : Nat
  leftOut : Bool
  status : Nat
  field : Nat
  orig : Nat
  stored : Nat
deriving DecidableEq, Repr

/-- The state word of a handle (R313). -/
inductive HandleWord where
  | pending | committed | aborted | failed
deriving DecidableEq, Repr

/-- A share record after clamping (R374, R375). -/
structure Share where
  prio : Nat := 4
  vectors : Nat := 0
  credits : Nat := 0
  nodes : Nat := 0
  shrinkWait : Nat := 1000
  motion : Bool := false
  /-- Point quota, granules per tile. -/
  granules : NMap Nat := []
  /-- Rule quota per tile. -/
  rules : NMap Nat := []
  /-- Bulk channels per tile. -/
  channels : NMap Nat := []
  /-- Slot budgets per global port. -/
  budUp : NMap Nat := []
  budDn : NMap Nat := []
deriving DecidableEq, Repr

/-- A reflex rule entry as stored (R272). -/
structure RuleEntry where
  cond : Nat := 0
  signed : Bool := false
  adapt : Bool := false
  qual : Nat := 0
  action : Nat := 0
  bitNo : Nat := 0
  edge : Nat := 0
  asrc : Nat := 0
  aprio : Nat := 0
  ina : Nat := 0
  inb : Nat := 0
  out : Nat := 0
  hi : Nat := 0
  lo : Nat := 0
  blo : Nat := 0
  bhi : Nat := 0
  val1 : Nat := 0
  val0 : Nat := 0
  pulsen : Nat := 0
  hystmin : Nat := 0
  hystmax : Nat := 0
  hgain : Nat := 0
  acode : Nat := 0
deriving DecidableEq, Repr

/-- An image descriptor after clamping (R245-R247): windows are (tile, first granule, granules, offset) lists. -/
structure ImageDesc where
  outpos : Nat := 0
  imgvec : Nat := 0
  imgirq : Bool := false
  bufs : List Nat := []
  wins : List (List Nat) := []
deriving DecidableEq, Repr

/-- What a long operation will do at its commit point (R316, R317, R209). -/
inductive LongOp where
  | idle
  /-- A generation of a schedule list on a port (R209). -/
  | generation (port gen : Nat)
  | pointFree (granules : List Nat)
  | pointShare (first count reader : Nat) (revoke : Bool)
  | imageSet (d : Option ImageDesc)
  | ruleSet (tile first count : Nat) (rules : List (Nat × RuleEntry))
  | nodePromote (g n : Nat)
  | leaseSet (g n writer : Nat) (readers : List Nat)
  | nodeAdmit (g n : Nat)
  | tenantCreate (f : Nat) (sh : Option Share)
  | tenantShare (f : Nat) (sh : Option Share)
  | tenantFreeze (f : Nat)
  | tenantThaw (f : Nat)
  | tenantSave (f addr : Nat)
  | tenantRestore (f addr : Nat)
  | tenantDestroy (f : Nat)
  | fwVerify
  | fwActivate
  | settingsSave
  | powerSet (t op : Nat)
deriving DecidableEq, Repr

/-- One outstanding handle of a function (R311-R313). -/
structure Handle where
  seq : Nat
  cid : Nat
  opc : Nat
  /-- The fetched entry that started it (R411, R518). -/
  eid : Nat := 0
  word : HandleWord := .pending
  op : LongOp := .idle
  /-- The host structure has been read and checked; the commit may happen. -/
  ready : Bool := false
  listAddr : Nat := 0
  listMax : Nat := 0
  nlist : Nat := 0
  /-- The handle completion has arisen and waits for EQ0 (R309). -/
  done : Bool := false
  status : Nat := 0
  detail : Nat := 0
  commitTick : Nat := 0
  /-- The device refused a write of the operation's completion list (R594). -/
  refused : Bool := false
  /-- Tick in which the operation ended and its completion arose (R306). -/
  doneTick : Nat := 0
  /-- The plan event's DATA when the handle completes with one (R209). -/
  planData : List Byte := []
  /-- Order of acceptance among the operations of every function (R242). -/
  order : Nat := 0
deriving DecidableEq, Repr

/-- Tenant states (R371). -/
inductive TenSt where
  | none | active | freezing | frozen | resetting | restoring | destroying | creating
deriving DecidableEq, Repr

/-- The clocks of TIM (R50-R91): tick, frame, plant time and its servo. -/
structure TimeSt where
  /-- Tick counter (R70). -/
  tick : Nat := 0
  /-- TICKLEN and F in force, and as written (R59). -/
  ticklen : Nat := 0
  fllog2 : Nat := 10
  ticklenW : Nat := 0
  fllog2W : Nat := 10
  pending : Bool := false
  locked : Bool := false
  sampleOff : Nat := 0
  sampleOffW : Nat := 0
  /-- Plant time in ns, and its fraction in units of 1e-12 ns (R72). -/
  plant : Nat := 0
  plantFrac : Nat := 0
  mode : Nat := 0
  modeW : Nat := 0
  rate : Int := 0
  /-- A rate set since the last boundary; in force from the next one (R72). -/
  rateW : Option Int := none
  /-- Sum of the steps due at the next boundary (R75). -/
  step : Option Int := none
  sync : Bool := false
  holdover : Bool := false
  wakeUnsync : Bool := false
  ptTick : Nat := 0
  ptAt : Nat := 0
  ptOffset : Int := 0
  /-- Consecutive Sync messages with an offset below 1 us (R79). -/
  syncRun : Nat := 0
  /-- IEEE 1588: the master selected, by its port identity and its data set, and the senders of one Announce each (R78). -/
  master : Option (Nat × Nat) := none
  foreign : List Nat := []
  /-- A two-step Sync waits for its Follow_Up; a delay request is in flight; mean path delay in ns (R78). -/
  syncWait : Option Int := none
  /-- Last Sync: receive minus origin time; send time of the delay request in flight; a two-step
  peer response waiting for its Follow_Up. -/
  msDiff : Int := 0
  delayReq : Option Int := none
  delayWait : Option Int := none
  pathDelay : Int := 0
  wakeDelta : Nat := 0
  wakeBound : Nat := 0
  wakeSource : Nat := 0
  wakeSat : Bool := false
  /-- Sleep counter (R84): running, ticks counted at wake, calibration (RC cycles per ms), entry tick. -/
  sleeping : Bool := false
  sleepRc : Bool := false
  calib : Option Nat := none
  entryTick : Nat := 0
  /-- Tick whose frame-boundary work has been done (FRAME_BOUNDARY runs once per boundary). -/
  frameDone : Option Nat := none
  /-- Length code of the tick that closes at the next boundary, where a change of TICKLEN takes effect there (R59). -/
  lastLen : Option Nat := none
deriving DecidableEq, Repr

/-- A word of a BAR0 register page kept by R15 for a split read: address of the high half and its value. -/
abbrev Snapshot := Nat × W32

/-- A bridge access between its acceptance and its end (R325-R330, R343). -/
structure BAcc where
  /-- Accepting function; 0 is the manager. -/
  fn : Nat
  g : Nat
  node : Nat
  load : Bool
  wide : Bool
  addr : Nat
  tag : Nat
  v0 : Nat := 0
  v1 : Nat := 0
  /-- The load touches a read-sensitive word (R332). -/
  sens : Bool := false
  /-- BTAG once sent, 0 before. -/
  btag : Nat := 0
  misses : Nat := 0
  /-- Sent again, or to be, under BSTATUS 5, and the BTAG it carried (R326). -/
  resent : Bool := false
  lastTag : Nat := 0
  /-- A discarded load: STATUS and DETAIL of its ending (R334). -/
  ended : Option (Nat × Nat) := none
deriving DecidableEq, Repr

/-- Bridge view of a function (R322, R323). -/
structure BridgeView where
  winbase : Nat := 0
  wseq : Nat := 0
  lseq : Nat := 0
  /-- A stores-dropped event was written since the last read of BWV_DROP (R328). -/
  dropEvent : Bool := false
  /-- Nodes whose last store failed (R335), as port * 4096 + node. -/
  wfault : List Nat := []
deriving DecidableEq, Repr

/-- Bulk completion queue and views of a function (R345, R346, R359). -/
structure BulkView where
  ring : Ring := {}
  /-- Channel views: (view number, tile * 32 + channel) (R345). -/
  views : List (Nat × Nat) := []
  /-- Records not yet written, in the order their jobs ended: channel, vector wanted, bytes 0-30 (R360). -/
  recs : List (Nat × Bool × List Byte) := []
deriving DecidableEq, Repr

/-- States of a bulk channel (R349 STAT). -/
inductive ChanSt where
  | idle | run | wait | probe | hold | ending
deriving DecidableEq, Repr

/-- A register set of a channel (R348). -/
structure JobSet where
  host : Nat := 0
  naddr : Nat := 0
  len : Nat := 8
  node : Nat := 0
  ctl : Nat := 0
  tag : Nat := 0
deriving DecidableEq, Repr

/-- A burst, request or probe that awaits its answer (R352, R353): `len` is its LEN, or LENM1 of a request's grant. -/
structure Burst where
  bseq : Nat
  len : Nat
  naddr : Nat
  probe : Bool
  misses : Nat := 0
deriving DecidableEq, Repr

/-- A bulk channel of a tile (R348-R358). -/
structure Chan where
  nxt : JobSet := {}
  arm : Bool := false
  cancelled : Bool := false
  st : ChanSt := .idle
  /-- The current set: addresses move on as data is counted, `len` is CUR_LEFT. -/
  cur : JobSet := { len := 0 }
  stopreq : Bool := false
  jobseq : Nat := 0
  /-- BSEQ of the next burst, request or probe. -/
  bseq : Nat := 0
  out : List Burst := []
  /-- Host data read ahead, and the length of a read in flight (R357). -/
  buf : List Byte := []
  reading : Option Nat := none
  /-- A host read failed: how the job ends once the data read before it has been sent and answered (R366 case 7). -/
  readErr : Option (Nat × Nat) := none
  /-- A short answer was seen and the awaited answers run out (R358); its READY. -/
  short : Bool := false
  ready : Bool := false
  /-- Tick of the next probe in WAIT. -/
  probeAt : Nat := 0
  /-- How the job ends once its awaited answers are in: STATUS, DETAIL. -/
  ends : Option (Nat × Nat) := none
  bytes : Nat := 0
  bursts : Nat := 0
  shorts : Nat := 0
  doubt : Bool := false
  cut : Bool := false
deriving DecidableEq, Repr

/-- Image publishing state of a function (R245-R255, R264). -/
structure ImageSt where
  desc : Option ImageDesc := none
  latest : Nat := 3
  held : Nat := 3
  outsel : Nat := 0
  imgframe : Nat := 0
  pubseq : Nat := 0
  /-- Publication in progress: buffer, frame, FULL. -/
  pub : Option (Nat × Nat × Bool) := none
  merged : Bool := false
  /-- Buffers that have completed, oldest first. -/
  completed : List Nat := []
  /-- Buffers whose next publication must be FULL. -/
  needFull : List Nat := [0, 1, 2]
  /-- Output read in progress: buffer. -/
  outRead : Option Nat := none
  /-- WRITE entries that wait for the next tick boundary: (point, value). -/
  outWrites : List (Nat × Nat) := []
  skipIn : Nat := 0
  skipOut : Nat := 0
  lost : Nat := 0
  error : Bool := false
  /-- Tick of the last output read started (R253). -/
  outTick : Option Nat := none
  /-- Change serial of each buffer's last capture (R250). -/
  bufChg : NMap Nat := []
  /-- A thaw or a lost bank made the next publication FULL, whichever its buffer (R250, R258). -/
  fullNext : Bool := false
  /-- Lost banks, as tile * 32 + bank, whose records the next publication writes in full (R250). -/
  lostFull : List Nat := []
  /-- Points whose image record the next publication writes as zero (R244). -/
  zeroPts : List Nat := []
  /-- Records written by the publication in progress (R248). -/
  pubRecords : Nat := 0
  pubTick : Nat := 0
  pubPtAt : Nat := 0
  pubMerged : Bool := false
deriving DecidableEq, Repr

/-- A function: its queues, handles, tenancy, image and interrupt banks. -/
structure Fn where
  -- tenancy (R371-R396)
  st : TenSt := .none
  share : Share := {}
  /-- Shares recorded by a TENANT_SHARE before its commit (R379). -/
  shareNew : Option Share := none
  restored : Bool := false
  purging : Bool := false
  dmaBlock : Bool := false
  freezeMs : Nat := 100
  frozeTick : Nat := 0
  /-- Plant time at the last freeze commit (R388). -/
  frozePt : Nat := 0
  thawTick : Nat := 0
  /-- Cause of the reset in progress: 1 FLR, 2 VF disable, 3 destroy; its initiation tick (R397). -/
  resetCause : Nat := 0
  resetTick : Nat := 0
  dmaEventSent : Bool := false
  motionDeclared : Bool := false
  -- configuration space (R367, R419, R420)
  bme : Bool := false
  /-- Power state: 0 D0, 3 D3hot (R467). -/
  dstate : Nat := 0
  msixEn : Bool := false
  fnMask : Bool := false
  msix : NMap MsixEntry := []
  -- rings, credits, handles (R290-R315)
  sq : NMap Ring := []
  cq : NMap Ring := []
  eq : NMap Ring := []
  eqmap : Nat := 0
  /-- Lost events per class, and lost since the last overflow event per EQ (R309). -/
  eqovf : NMap Nat := []
  eqlost : NMap Nat := []
  sqLast : Nat := 7
  /-- Index whose fetch is in flight, by SQ (R301). -/
  fetching : NMap (Option Nat) := []
  entries : List Entry := []
  nextEntry : Nat := 0
  hold : List Completion := []
  fetchPause : Bool := false
  /-- Completions that wait, finished, until the holding buffer has room (R308 rule 5). -/
  finished : List Completion := []
  handles : List Handle := []
  nextSeq : Nat := 1
  /-- Sequences whose handle completion waits for EQ0, in the order they arose (R309). -/
  waiting : List Nat := []
  -- interrupts
  fast : IntClass := {}
  norm : IntClass := {}
  vecmap : NMap Nat := []
  latches : NMap Latch := []
  /-- ALERT_BIND entries: (port * 4096 + node, source) (R281). -/
  binds : List (Nat × Nat) := []
  -- views and work of other chapters
  bridge : BridgeView := {}
  bulk : BulkView := {}
  image : ImageSt := {}
  /-- Allowlist: address, COUNT and GEN last seen (R157). -/
  allowAddr : Option Nat := none
  /-- GEN read at the last frame boundary. -/
  allowGen : Option Nat := none
  /-- Bytes of schedule lists still to be fetched this frame, port served last (R187). -/
  fetchLeft : Nat := 65536
  portLast : Nat := 127
  -- read snapshots (R15, R81, R82)
  snap0 : Option Snapshot := none
  snap2 : Option Snapshot := none
  ptSnap : Option Nat := none
  tnhSnap : Option Nat := none
deriving DecidableEq, Repr

/-- States of a hop (R123, R140). -/
inductive HopSt where
  | down | lock | eq | ident | up | wakeDetect
deriving DecidableEq, Repr

/-- States of a node number (R178). -/
inductive NodeSt where
  | free | absent | numbering | admitting | held | admitted | demoted | refused | quarantined
deriving DecidableEq, Repr

/-- What the answer to a management request serves (R147, R152). -/
inductive Purpose where
  | poll
  | brstat (branch : Nat)
  | enumUp (branch node : Nat)
  | route (node : Nat)
  | enable (branch node : Nat)
  | disable (branch : Nat)
  | assign
  | caps | idrec | pubkey
  | nonce | authstat | sig
  | table (plan bank : Nat)
  | gateMap (plan bank : Nat)
  | delay (value : Nat)
  | preset
  | gate (branch suspect : Nat)
  | ungate (branch : Nat)
  /-- A margin read of R127: the key of the receiver. -/
  | margin (key : Nat)
  | rsens
deriving DecidableEq, Repr

/-- A management request awaiting its answer, or to be sent; then `mseq` is what an earlier sending carried, 0 for none
(R146-R149). -/
structure MReq where
  mseq : Nat
  node : Nat
  op : Nat
  words : List Nat
  purpose : Purpose
  attempt : Nat
deriving DecidableEq, Repr

/-- A grant issued for tick `tick` (R113). -/
structure Grant where
  tick : Nat
  node : Nat
  cls : Nat
  upslot : Nat
  len : Nat
  gseq : Nat
deriving DecidableEq, Repr

/-- A GRANT that waits for a free slot of either direction: not before tick `due` (R113, R147, R326). -/
structure Wish where
  node : Nat
  cls : Nat
  len : Nat
  gseq : Nat
  due : Nat
deriving DecidableEq, Repr

/-- What is kept of one receiver of a hop and of the transmitter that feeds it (R127-R129). -/
structure Hop where
  /-- Horizontal margin read last, none before the first reading since the hop trained. -/
  margin : Option Nat := none
  preset : Nat := 5
  /-- Presets tried in EQ with the margin each gave, and the one that EQ chose (R123, R127). -/
  tried : List (Nat × Nat) := []
  eqPreset : Nat := 5
  /-- Preset waiting for its APPLYTICK (R128). -/
  pending : Option (Nat × Nat) := none
  /-- The last step can still be reverted to this preset (R127). -/
  stepFrom : Option Nat := none
  /-- Of the receiver at the lower end: the hop has had its step of the current period (R127). -/
  stepped : Bool := false
  /-- Of the receiver at the lower end: the hop has raised its alarm and not recovered since (R129). -/
  alarmed : Bool := false
deriving DecidableEq, Repr

/-- An allowlist lookup in progress (R157): whose list, whether the header is awaited, the bounds of the search and
the hashes read at them, whether it waits for the next frame boundary. -/
structure Look where
  owner : Nat
  /-- Address of the list when the lookup began (R176 case 6). -/
  addr : Nat := 0
  hdr : Bool := true
  lo : Nat := 0
  hi : Nat := 0
  loH : List Byte := []
  hiH : List Byte := []
  retry : Bool := false
deriving DecidableEq, Repr

/-- A node number of a port and what the device keeps of it. -/
structure Node where
  st : NodeSt := .free
  bound : Bool := false
  depth : Nat := 0
  path : Nat := 0
  /-- Stamp of the moment the number last became ABSENT (R144). -/
  absentStamp : Nat := 0
  lessee : Nat := 0
  readers : List Nat := []
  /-- A policy writer whose quota was full (R378). -/
  wantWriter : Option Nat := none
  wantReaders : List Nat := []
  replaced : Bool := false
  run : Nat := 0
  win : Nat := 0
  reason : Nat := 0
  misses : Nat := 0
  recovered : Nat := 0
  hash : List Byte := []
  pubkey : List Byte := []
  idrec : List Byte := []
  cls : Nat := 0
  isHub : Bool := false
  branches : Nat := 0
  gmlog2 : Nat := 0
  xfercap : Nat := 8
  sendlat : Nat := 0
  /-- Hash and class of the node last admitted at this location (R166). -/
  lastHash : Option (List Byte) := none
  /-- The location counts as bound earlier: a lower end has been admitted at it, or the node tables hold its binding
  (R159, R176 case 9, R506). -/
  earlier : Bool := false
  lastCls : Nat := 0
  suspect : Bool := false
  -- hub branch orders as the device wrote them (R150)
  brEnable : Nat := 0
  brQuar : Nat := 0
  /-- Gate discards last read per branch of a hub (R172). -/
  discards : NMap Nat := []
  /-- The gate of a quarantined node (R173): parent key (0 the port, else hub plus one) and branch. -/
  gateAt : Option (Nat × Nat) := none
  /-- A number released to number this node, named in its arrival event (R144). -/
  releasedNum : Option Nat := none
  -- admission progress: lookup (R157), challenge (R158), lease resolution (R161)
  look : Option Look := none
  /-- Challenge in progress: tries so far, 0 for none. -/
  authTry : Nat := 0
  /-- Random bits are awaited (R561), a signature is being verified. -/
  waitNonce : Bool := false
  waitSig : Bool := false
  /-- The nonce of the challenge in progress, and the 64 bytes of LNK_SIG read for it (R158). -/
  nonce : List Byte := []
  sig : List Byte := []
  /-- Lease read: 0 none, 1 header awaited, 2 entries awaited, 3 retried at the next frame boundary; its COUNT. -/
  leaseLook : Nat := 0
  leaseCount : Nat := 0
  /-- Address of the policy when the read began (R176 case 6). -/
  leaseAddr : Nat := 0
  /-- The lease read serves the allowlist check, not the lease itself. -/
  leaseForList : Bool := false
  /-- The resolution serves a node already admitted (R525). -/
  relet : Bool := false
  /-- Admission mode in force when the admission began (R178). -/
  admMode : Nat := 0
  -- ranging (R116-R118, R141)
  delay : Nat := 0
  delayValid : Bool := false
  stepWait : Option Nat := none
  missedEcho : Nat := 0
  /-- Tick of the first of the ECHOs missed in a row (R164). -/
  missFrom : Nat := 0
  -- alerts (R115, R171)
  aseq : Option Nat := none
  alertsFrame : Nat := 0
  alertOver : Nat := 0
  /-- LNK_XFERTAG and LNK_GATETAG banks as written: (PLANID, valid) of bank 0 and 1. -/
  xfer0 : Option Nat := none
  xfer1 : Option Nat := none
  gate0 : Option Nat := none
  gate1 : Option Nat := none
  /-- Transfer-table banks as last written, rows of numbers; none where the content is not known. -/
  tab0 : Option (List (List Nat)) := none
  tab1 : Option (List (List Nat)) := none
  /-- Gate-map banks as last written. -/
  gm0 : List (List Nat) := []
  gm1 : List (List Nat) := []
  /-- The transfers of the node run: from the frame boundary after its bank was loaded (R166). -/
  resumed : Bool := false
  bankLoaded : Bool := false
  /-- Periodic TSEQ of each XID last received valid, with its tick (R600, R170): (xid, tseq, tick). -/
  tseqs : List (Nat × Nat × Nat) := []
  -- bridge (R332, R336, R338)
  rsens : List (Nat × Nat) := []
  lockHolder : Option Nat := none
  lockToken : Nat := 0
  lockTokens : List Nat := []
  attn : Bool := false
  lastHeader : Nat := 0
  /-- Tick in which a valid block was last received from the lower end (R164). -/
  lastBlock : Nat := 0
  /-- The node has been admitted since the package reset, so that its DELAY, SENDLAT and XFERCAP are known (R598). -/
  known : Bool := false
  /-- Numbers whose route entries this hub must still be given as 0xFF (R145). -/
  routesDue : List Nat := []
deriving DecidableEq, Repr

/-- A retry of a faulty periodic transfer that the port has granted (R170). -/
structure Retry where
  node : Nat
  xid : Nat
  tseq : Option Nat
  tick : Nat
  left : Nat
  due : Nat
deriving DecidableEq, Repr

/-- A trunk port's link and tree. -/
structure Port where
  hop : HopSt := .down
  blockLock : Bool := false
  sigdet : Bool := false
  marginH : Nat := 0
  marginV : Nat := 0
  /-- Hops keyed by the node number of their lower end plus one; key 0 is the first hop. -/
  hops : NMap Hop := []
  -- ranging
  rangeLast : Nat := 4095
  rseq : Nat := 0
  rangeAgain : Option Nat := none
  /-- Expected ECHOs: (node, tick, RSEQ). -/
  echoes : List (Nat × Nat × Nat) := []
  -- grants and management
  grants : List Grant := []
  mreqs : List MReq := []
  /-- Management requests not yet sent, in order; GRANTs and ACKs (node, ASEQ) that wait for a slot (R100, R115). -/
  mwait : List MReq := []
  wishes : List Wish := []
  acks : List (Nat × Nat) := []
  /-- Downstream blocks of the current tick taken beside the Accord's, and whether the bridge has had its turn in it
  (R202). -/
  dnUsed : List Nat := []
  turn : Bool := false
  mseq : Nat := 0
  pollLast : Nat := 0
  -- enumeration (R152): (parent key, branch, number, waiting for UP)
  enumNow : Option (Nat × Nat × Nat) := none
  /-- Held branches with signal: (parent key, branch); parent key 0 is the port, else hub number plus one. -/
  held : List (Nat × Nat) := []
  /-- Failed trainings per location: (parent key, branch, count) (R153). -/
  trainFails : List (Nat × Nat × Nat) := []
  /-- Locations refused before a number was given (R597, reasons 7 and 8): (parent key, branch). -/
  refusedLocs : List (Nat × Nat) := []
  /-- Locations whose number is REFUSED hold their branch; the port gate of R173. -/
  holdDown : Bool := false
  quarPort : Bool := false
  /-- Gate orders acknowledged lately: (hub, branch, suspect, ack tick, observation) (R174). -/
  gates : List (Nat × Nat × Nat × Nat × Nat) := []
  retries : List Retry := []
  /-- ROLE was reported and the hop stays DOWN (R125). -/
  roleBad : Bool := false
  /-- Bulk channel served last (R356). -/
  bulkLast : Nat := 31
  /-- Hop state of the next training: measured hop delay (R126). -/
  hopDelay : Nat := 0
deriving DecidableEq, Repr

/-- Alignment state of a tile (R67, R91). -/
inductive AlignSt where
  | notStarted | locked | drift | fault
deriving DecidableEq, Repr

/-- Tile power states (R452). -/
inductive PowSt where
  | run | doze | drying | drydown | waking | off
deriving DecidableEq, Repr

/-- A point-map entry after its checks (R231-R233). -/
structure PmEntry where
  point : Nat
  byteOff : Nat
  bitOff : Nat
  width : Nat
  signed : Bool
  enabled : Bool
deriving DecidableEq, Repr

/-- A transfer descriptor of an accepted list, its fields clamped (R183, R184). -/
structure Desc where
  didx : Nat
  node : Nat
  up : Bool
  retry : Bool
  xid : Nat
  len : Nat
  k : Nat
  prio : Nat
  phlo : Nat
  phhi : Nat
  pmFirst : Nat
  pm : List PmEntry
deriving DecidableEq, Repr

/-- A clamp record of a compile report (R212): DIDX, CODE, ORIG, STORED. -/
abbrev ClampRow := Nat × Nat × Nat × Nat

/-- One entry of an Accord (R222) with its compiled point map and what the Atomizer keeps of it (R219). -/
structure AEntry where
  node : Nat
  up : Bool
  retry : Bool
  mute : Bool
  xid : Nat
  len : Nat
  k : Nat
  prio : Nat
  phase : Nat
  first : Nat
  func : Nat
  pmref : Nat
  phlo : Nat
  phhi : Nat
  pm : List PmEntry
  shift : Int := 0
  moved : Nat := 0
  /-- TSEQ of the next downstream instance (R600). -/
  tseq : Nat := 0
  /-- A mute ordered for a later boundary: after one instance with fail-safe values (R382 item 7). -/
  muteAfter : Bool := false
  sentSince : Bool := false
  /-- Why the compile moved it: 1 a proposal, 2 lateness (R219 ATZ_MOVES), else 0. -/
  moveKind : Nat := 0
deriving DecidableEq, Repr

/-- What one compile gives a generation it covers (R191, R209, R211). -/
structure Cover where
  func : Nat
  seq : Nat
  gen : Nat
  report : Nat
  placed : Nat
  clamps : List ClampRow
  /-- Outcomes of the descriptors not placed: (DIDX, OUTCOME). -/
  outcomes : List (Nat × Nat)
  costUp : Nat
  costDn : Nat
  changed : Bool
deriving DecidableEq, Repr

/-- An Accord in a plan buffer (R221). -/
structure Plan where
  planid : Nat := 0
  ticklen : Nat := 0
  fllog2 : Nat := 0
  sampleOff : Nat := 0
  swapTick : Nat := 0
  entries : List AEntry := []
  covers : List Cover := []
deriving DecidableEq, Repr

/-- States of the idle plan buffer (R204). -/
inductive IdleSt where
  | empty | compiling | loading | ready
deriving DecidableEq, Repr

/-- A port's plan buffers and Atomizer (R204-R222). -/
structure PlanSt where
  run : Plan := {}
  idle : Plan := {}
  runBuf : Nat := 0
  idleSt : IdleSt := .empty
  /-- Tick at which the compile that fills the idle buffer started (R204, R261 case 8). -/
  compiledAt : Nat := 0
  fixed : Option Nat := none
  /-- A cause of a compile is pending (R204). -/
  cause : Bool := false
  /-- A detach, mute or budget change whose cause is pending from the next frame boundary. -/
  causeNext : Bool := false
  /-- Functions whose accepted generation the next compile covers, with its handle sequence. -/
  pendingGens : List (Nat × Nat) := []
  /-- The generations that the compile in progress covers. -/
  taken : List (Nat × Nat) := []
  lastSwap : Nat := 0
  swaps : Nat := 0
  /-- The current proposal: (function, node, XID, new phase, new first block) (R200). -/
  proposal : List (Nat × Nat × Nat × Nat × Nat) := []
  /-- Saved places of a restored tenant's transfers until their first compile (R391): function, node, XID, phase,
  first block. -/
  saved : List (Nat × Nat × Nat × Nat × Nat) := []
  /-- Entries of the Accord that the last swap replaced (R176 case 5). -/
  prior : List AEntry := []
  movesOpt : Nat := 0
  movesForced : Nat := 0
deriving DecidableEq, Repr

/-- States of a schedule list (R216); frozen is computed. -/
inductive ListSt where
  | detached | idle | header | fetching | stopped
deriving DecidableEq, Repr

/-- An accepted generation of a list (R188, R191): its GEN, report address, descriptors, clamps, and the descriptors (by
DIDX) that were waiting when it was accepted. -/
structure ListGen where
  gen : Nat := 0
  report : Nat := 0
  descs : List Desc := []
  clamps : List ClampRow := []
  waiting : List Nat := []
deriving DecidableEq, Repr

/-- A function's schedule list on a port (R179-R191, R215). -/
structure SList where
  st : ListSt := .detached
  addr : Nat := 0
  /-- Last accepted GEN, none before the first since the list was attached. -/
  gen : Option Nat := none
  /-- The generation last committed, and those accepted since under their handles, oldest first (R209, R210). -/
  base : ListGen := {}
  pend : List (Nat × ListGen) := []
  reason : Nat := 0
  seg : Nat := 0
  idx : Nat := 0
  restart : Bool := false
  /-- GEN seen in the header that started the fetch, its reserved handle, units fetched so far. -/
  fetchGen : Nat := 0
  fetchSeq : Nat := 0
  fetchUnits : Nat := 0
  /-- Budgets in force, upstream and downstream, and the shrink deadline (R193, R213). -/
  deadline : Option Nat := none
deriving DecidableEq, Repr

/-- Why an output point is locked (R238, R239). -/
inductive LockCause where
  | node (key : Nat)
  | reset
  | drydown
  | mute (port : Nat)
deriving DecidableEq, Repr

/-- A write that the output image (source 0) or a rule (1) of function `fn`, or the manager's window (2), made to a point
in tick `tick`: landed over the record and stamp `before` and `stamp`, or discarded by a lock (R261 cases 3 and 4);
`mark` that its discard set FSWR. -/
structure PointWrite where
  tick : Nat
  src : Nat
  fn : Nat
  value : Nat
  landed : Bool
  before : Nat := 0
  stamp : Nat := 0
  mark : Bool := false
deriving DecidableEq, Repr

/-- A point's kind, fail-safe setting and what the device still owes it (R230, R237-R240, R249). -/
structure Point where
  kind : Nat := 0
  fsmode : Bool := false
  preset : Nat := 0
  locks : List LockCause := []
  /-- Fail-safe is applied at the next tick boundary. -/
  fsDue : Bool := false
  /-- A stale code is set at the next tick boundary. -/
  staleDue : Option Nat := none
  /-- Tick of the last write less the AGE it set (R249). -/
  stamp : Nat := 0
  /-- Change serial of the last write or QUALITY change (R250). -/
  chg : Nat := 0
  /-- Tick of the window in which a rule last wrote the point (R261 case 2). -/
  rfxTick : Option Nat := none
  /-- Writes of one tick that a lock may still discard or admit, newest first (R261 cases 3 and 4). -/
  writes : List PointWrite := []
deriving DecidableEq, Repr

/-- A grant of read rights (R242). -/
structure ShareGrant where
  first : Nat
  count : Nat
  owner : Nat
  reader : Nat
  /-- Ranges (first, count) inside it that carry no right: not owned at the grant, or revoked. -/
  holes : List (Nat × Nat) := []
deriving DecidableEq, Repr

/-- A stored reflex rule with its state (R271-R277, R601); a rule with COND 0 is not stored. -/
structure Rule where
  e : RuleEntry
  /-- Every input was good in the last window, so PREV is loaded (R277). -/
  good : Bool := false
  prev : Nat := 0
  /-- A's condition of R276, and the rule's condition C. -/
  ca : Bool := false
  c : Bool := false
  noise : Nat := 0
  cnt : Nat := 0
  pulse : Nat := 0
  /-- Its inputs or output lack rights (R289); its rule-rights event is written (R277, R280). -/
  noRight : Bool := false
  sent : Bool := false
deriving DecidableEq, Repr

/-- What a task serves (R398): a command of a function, or a port's compile. -/
inductive Work where
  | command (f id : Nat)
  | compile (g : Nat)
deriving DecidableEq, Repr

/-- States of a task whose context is not FREE (R400); a running task names its engine. -/
inductive TaskSt where
  | ready | running (engine : Nat) | delayed (wake : Nat) | waiting
deriving DecidableEq, Repr

/-- A task of a tile. The tile's list holds its tasks in the order in which they last changed state, so that a
level's ready list and the delay list are read off in their order (R406, R408). -/
structure Task where
  ctx : Nat
  level : Nat
  fn : Nat
  work : Work
  st : TaskSt := .ready
deriving DecidableEq, Repr

/-- What a bus transaction of a tile's rails serves (R446, R448, R456, R461). -/
inductive BusFor where
  | level | avs | off | wake
deriving DecidableEq, Repr

/-- A bus transaction in flight: rail 0 VDD_CORE over AVSBus, 1 VDD_SRAM over PMBus; value in mV; failures so far. -/
structure BusTx where
  rail : Nat
  mv : Nat
  why : BusFor
  fails : Nat := 0
deriving DecidableEq, Repr

/-- A manager access that waits at the anchor for a sleeping tile (R459). -/
structure HeldAcc where
  bar : Nat
  off : Nat
  size : Nat
  write : Bool
  value : Nat
  part : Bool
  /-- The snapshot that a held read of a high word returns (R15). -/
  snap : Option Snapshot := none
deriving DecidableEq, Repr

/-- Power state of a tile beside its STATE (R444-R463). -/
structure PwrSt where
  /-- Level in force; target and next step of a change (R446). -/
  level : Nat := 1
  change : Option (Nat × Nat) := none
  stepdown : Bool := false
  /-- Trim in 5 mV units, in force and as stored in MRAM per level (R448, R449), and the tick of the last store. -/
  trim : Int := 12
  trims : NMap Int := []
  trimTick : Option Nat := none
  /-- Consecutive periods at +60 mV with a low margin (R450). -/
  lowRun : Nat := 0
  /-- Ticks for which the conditions of DOZE have held (R453). -/
  idle : Nat := 0
  /-- Cause and port of the last wake, its DURATION in us. -/
  cause : Nat := 0
  port : Nat := 0
  duration : Nat := 0
  /-- Wake attempt, 0 for none; the 1 ms wait after a failed one; power-good has been seen. -/
  attempt : Nat := 0
  retryWait : Bool := false
  pgood : Bool := false
  fails : Nat := 0
  /-- Drydown entry: handle of its POWER_SET, tick of acceptance, B once its boundary is past (R456). -/
  dryHandle : Option Nat := none
  dryTick : Nat := 0
  dryB : Option Nat := none
  /-- Handles of POWER_SET OP 2 that wait for RUN. -/
  wakeHandles : List Nat := []
  /-- A wake source held until core isolation or step 7 is over (R457): cause, port. -/
  late : Option (Nat × Nat) := none
  /-- Step 3 of the entry is over its 5 ms: tasks end at their step boundary (R456). -/
  forced : Bool := false
  /-- Banks whose records are lost at the next wake, one bit each (R258, R592). -/
  lost : Nat := 0
  /-- The wake waits for the oscillator (R463). -/
  xoWait : Bool := false
  /-- Step 7 of R456 is in progress. -/
  off7 : Bool := false
  bus : List BusTx := []
  held : List HeldAcc := []
  /-- Ports are stopped and resume at a frame boundary (R455, R461 step 7). -/
  stopped : Bool := false
  /-- Trunk wake detectors that wait for 2 us without a transition (R458), as global ports. -/
  rearm : List Nat := []
deriving DecidableEq, Repr

/-! ### Firmware, settings and node tables (R475-R513) -/

/-- A boot record of anchor MRAM whose CRC is correct (R489); slots are 0 golden, 1 A, 2 B, banks 0 X, 1 Y. -/
structure BootRec where
  gen : Nat
  slot : Nat
  prevSlot : Nat := 0
  trial : Bool := false
  setBank : Nat := 0
  prevBank : Nat := 0
  boots : Nat := 0
  qh : Nat := 0
  fwver : Nat := 0
  svn : Nat := 0
  prevFwver : Nat := 0
  bootMax : Nat := 0
  autoConf : Bool := false
  hourMax : Nat := 0
  acHours : Nat := 0
deriving DecidableEq, Repr

/-- A copy of the session record (R484). -/
structure Session where
  gen : Nat
  stored : Bool
  pkgid : List Byte := []
  count : Nat := 0
  tag : Nat := 0
  slot : Nat := 0
  /-- Which of the eight positions its bitmap has. -/
  pos : Nat := 0
deriving DecidableEq, Repr

/-- A settings copy or snapshot whose CRC is correct (R502): the words it stores, none for LEN 0. -/
structure SetCopy where
  format : Nat
  gen : Nat
  body : Option (NMap W64)
deriving DecidableEq, Repr

/-- Who submitted a chunk (R485, R486): a command of the admin queue, or the sender of a datagram. -/
inductive ChunkFrom where
  | command (id : Nat)
  | udp (src : Nat)
deriving DecidableEq, Repr

/-- A chunk that has arrived whole (R483). -/
structure ChunkReq where
  origin : ChunkFrom
  index : Nat
  data : List Byte
deriving DecidableEq, Repr

/-- An assembly buffer (R486): the segments it has. -/
structure AsmBuf where
  chunk : Nat
  src : Nat
  segs : List (Nat × List Byte)
deriving DecidableEq, Repr

/-- A settings generation being written (R503): bank, content, copy that is being written, and whom it serves:
the handle of a SETTINGS_SAVE, or an activation. -/
structure SaveSt where
  bank : Nat
  content : SetCopy
  copy : Nat
  seq : Option Nat
  forAct : Bool
deriving DecidableEq, Repr

/-- An accepted activation before its commit (R495): its handle and its step, 1 to 3; 0 while a
SETTINGS_SAVE accepted before it is pending. -/
structure Activation where
  seq : Nat
  stage : Nat
deriving DecidableEq, Repr

/-- Tile switches in progress (R496): a rollback or not, the handle of the activation, the tile and those to come. -/
structure Switching where
  rollback : Bool
  seq : Option Nat
  tile : Nat
  todo : List Nat
  done : Nat := 0
deriving DecidableEq, Repr

/-- Firmware: flash slots, session, chunks, boot records, activation and trial. -/
structure FwSt where
  /-- The flash has the features of R475. -/
  flashOk : Bool := true
  /-- Programmed chunks, keyed by slot * 8192 + chunk (R478). -/
  chunks : NMap (List Byte) := []
  sess0 : Option Session := none
  sess1 : Option Session := none
  /-- Chunks marked in the session's bitmap, ascending. -/
  marked : List Nat := []
  /-- Tick of the session record's last write (R482). -/
  sessTick : Option Nat := none
  verified : Bool := false
  bufs : List AsmBuf := []
  /-- Chunks in order of arrival; the first is being programmed when `prog` is set, to true on the repeat. -/
  queue : List ChunkReq := []
  prog : Option Bool := none
  /-- FW_SESSION commands that wait: for a chunk, or for random bits (R508, R561). -/
  sessWait : List Nat := []
  rngWait : List Nat := []
  boot0 : Option BootRec := none
  boot1 : Option BootRec := none
  act : Option Activation := none
  switch : Option Switching := none
  lastPause : Nat := 0
  /-- A run-time rollback that waits for hold-up, with its reason (R499). -/
  rollWait : Option Nat := none
  /-- FW_CONFIRM with REJECT whose record is not yet written. -/
  rejectCmd : List Nat := []
  /-- SVN of each programmed fuse record, in order, and revoked key slots (R480, R481). -/
  svnFuses : List Nat := []
  revoked : Nat := 0
  /-- Slot booted, version and settings format running, RECOVERY, reason of the boot event (R513). -/
  slot : Nat := 0
  runVer : Nat := 0
  setfmt : Nat := 0
  recovery : Bool := false
  /-- The boot event, and those that package reset has found, wait for the admin queue. -/
  bootEvents : List Event := []
  /-- Since the commit of the image on trial: an engine fault, a failed tile or a failed switch (R497). -/
  trialBad : Bool := false
  /-- CTL.RESET of FWU waits until nothing is pending (R521). -/
  resetWait : Bool := false
  /-- Tick at which an entry of the admin SQ0 was last fetched. -/
  adminFetch : Option Nat := none
  /-- Settings copies by bank * 4 + copy, 3 the snapshot; an unlisted one fails its CRC. -/
  copies : NMap (Option SetCopy) := []
  bank : Nat := 0
  /-- Generation in force, recovery and healing of the last package reset (R504). -/
  gen : Nat := 0
  setRecovery : Nat := 0
  healed : Bool := false
  save : Option SaveSt := none
  /-- A SETTINGS_SAVE that waits under the rate limit or for an activation: its handle. -/
  saveWait : Option Nat := none
  /-- Tick of the last generation of each bank, since the package reset. -/
  genTick : NMap (Option Nat) := []
deriving DecidableEq, Repr

/-- A base of a node-table half (R506): its sequence, the bound nodes (key, path, depth), the quarantine list. -/
structure NtBase where
  seq : Nat
  nodes : List (Nat × Nat × Nat)
  quar : List (List Byte)
deriving DecidableEq, Repr

/-- A node-table half: a valid base or none, and the journal records after it; type 0 is a record that fails its
CRC. -/
structure NtHalf where
  base : Option NtBase := none
  records : List (Nat × Nat × Nat × List Byte) := []
deriving DecidableEq, Repr

/-! ### Management port, boundary scan and pins (R558, R587, R579) -/

/-- The management port (R558). -/
structure MgtSt where
  up : Bool := false
  speed : Nat := 0
  duplex : Bool := false
  /-- Next hops: IPv6 or not, address, MAC address. -/
  hops : List (Bool × Nat × Nat) := []
  /-- Datagrams that wait for a next hop: IPv6 or not, next hop, destination, content. -/
  waiting : List (Bool × Nat × Nat × List Byte) := []
  /-- Words of MGT_MAC, MGT_IP6 and MGT_IP6GW written and not yet in effect: (offset, value). -/
  words : List (Nat × Nat) := []
deriving DecidableEq, Repr

/-- The TAP (R587): instruction in force, boundary register, and the latch that drives balls. -/
structure JtagSt where
  ir : Nat := 1
  boundary : Nat := 0
  drives : Nat := 0
deriving DecidableEq, Repr

/-- Discrete pins (R579, R580, R590): an output is 0 high-impedance, 1 low, 2 high. -/
structure Pins where
  /-- PERST# is high. -/
  perst : Bool := false
  /-- VAON and VDD_IO are within their limits. -/
  supply : Bool := true
  faultN : Nat := 0
  xoEn : Nat := 0
  tileOk : NMap Nat := []
  straps : Nat := 0
deriving DecidableEq, Repr

/-- Package reset and boot (R516, R522, R534). -/
structure BootSt where
  cause : Nat := 1
  ms : Nat := 0
  /-- The trigger has ended and the boot runs. -/
  running : Bool := false
  /-- The golden slot failed, or a package fault holds the host link down: nothing starts until a package reset. -/
  dead : Bool := false
deriving DecidableEq, Repr

/-- A tile's time and link-independent state; chapters of their own add the rest. -/
structure Tile where
  -- alignment (R67-R69)
  offset : Int := 0
  align : AlignSt := .notStarted
  within : Nat := 0
  outside : Nat := 0
  /-- READY of the TIL page (R518, R542). -/
  ready : Bool := false
  pow : PowSt := .run
  pwr : PwrSt := {}
  -- tasks (R400-R411): in contexts, waiting for one, engines being reloaded, ticks of the last engine faults
  tasks : List Task := []
  ctxq : List Task := []
  reload : List Nat := []
  faults : List Nat := []
  -- reflex windows (R265, R286 case 2): tick of the last one, pulses cut short, scan lengths
  rfxTick : Option Nat := none
  cuts : List (Nat × Nat × Nat) := []
  scanLast : Nat := 0
  scanPeak : Nat := 0
  /-- Tile reset in progress: tick of the write, tasks ended (R518). -/
  resetAt : Option Nat := none
  resetTasks : Nat := 0
deriving DecidableEq, Repr

/-- The machine: every register, queue, buffer, counter, mode and pin of the package. -/
structure State where
  /-- Commands waiting, first in, first out. -/
  pending : List Instr
  /-- Number of populated tiles, 2, 4 or 8 (R1, R2). -/
  tiles : Nat
  time : TimeSt
  /-- Stored words of RW registers, ERR, ERRMASK, CLAMPLOG and read-clear counters without a field of their own,
  keyed by page and offset; an unlisted word reads as its reset value. -/
  regs : NMap W64
  /-- Values of the settings in force, for registers whose reset is from settings (R501). -/
  stored : NMap W64
  fns : NMap Fn
  ports : NMap Port
  nodes : NMap Node
  /-- Plan buffers per port. -/
  plans : NMap PlanSt
  /-- Schedule lists, keyed by function * 128 + port. -/
  lists : NMap SList
  /-- The process image: record bytes at address 8 * point ID + byte (R223, R259). -/
  pim : List Host.Cell
  /-- Owner of each granule plus one, keyed by point ID / 64; unlisted is unowned (R228). -/
  owners : NMap Nat
  points : NMap Point
  grants : List ShareGrant
  /-- Reflex rules, keyed by (tile * 513 + function) * 65536 + local number. -/
  rules : NMap Rule
  /-- Cross-tile copies of rule inputs: key tile * 2^23 + point, the record plus one (R269). -/
  remote : NMap Nat
  /-- Copies on their way: tile, point, record, tick of the window that sent them. -/
  copies : List (Nat × Nat × Nat × Nat)
  /-- Records written in the current tick by transfers that ended past the reflex cut-off: point, the record before the
  first of them, the last block of the latest (R267). -/
  unseen : List (Nat × Nat × Nat)
  /-- Bridge accesses not yet ended, in order of acceptance (R329). -/
  bridge : List BAcc
  /-- Bulk channels, keyed by tile * 32 + channel (R345). -/
  chans : NMap Chan
  /-- Nonces that challenges have used (R158). -/
  nonces : List (List Byte)
  /-- Quarantined identity hashes, oldest first (R160). -/
  quar : List (List Byte)
  /-- Lease policy table in host memory (R161). -/
  policy : Option Nat
  /-- Node-table changes not yet in flash (R506): type, port, node, location or hash. -/
  journal : List (Nat × Nat × Nat × List Byte)
  /-- Node-table halves in flash, and the active one. -/
  half0 : NtHalf
  half1 : NtHalf
  half : Nat
  fw : FwSt
  mgt : MgtSt
  jtag : JtagSt
  pins : Pins
  boot : BootSt
  /-- Serial of the last change to a record (R250). -/
  chg : Nat
  tile : NMap Tile
  /-- GLB_MESHSTAT (R38). -/
  mesh : W64
  /-- Consecutive failed replays per mesh link (R35). -/
  meshFails : NMap Nat
  /-- GLB STAT.READY (R522). -/
  ready : Bool
  /-- The host link: 0 down, 1 L0, 2 L1, 3 L1.2 (R467). -/
  link : Nat
  -- SR-IOV (R367-R370)
  vfEnable : Bool
  vfMse : Bool
  numVfs : Nat
  ari : Bool
  /-- Interrupt entries begun, for the order of R427. -/
  stamp : Nat
  /-- Standby entry: STAGE, LASTCANCEL; the frame boundary of stage 2 is past (R465). -/
  stage : Nat
  lastCancel : Nat
  stopping : Bool
  /-- XOGATE in force (R473). -/
  xogate : Bool
  /-- Events held while the anchor's tile resets or sleeps (R518). -/
  evHeld : List (Nat × Event)
  /-- Long operations accepted so far, for the order of R242. -/
  accepts : Nat
  /-- Free values drawn so far (the model's own field). -/
  free : Nat
  /-- TLPs that wait for the host link to reach L0, newest first (R438, R467). -/
  tlpHeld : List Output
  /-- What has left the package, newest first. -/
  wire : List Output
deriving DecidableEq, Repr

/-- No meaning of this block ends in a fault: the spec stops the block nowhere (R168, R299). -/
inductive Fault where
deriving DecidableEq, Repr

/-- Refusals. -/
inductive Refusal where
  /-- Raised by `exec` for a command whose meaning is not written; safe. -/
  | notModelled (mnemonic : String)
deriving DecidableEq, Repr

/-- The machine as power-on leaves it (R515, R516): PERST# low, nothing running, the flash and MRAM without a record.
Values the spec gives no reset for are 0 (log entry 3). -/
def State.reset : State where
  pending := []
  tiles := 8
  time := {}
  regs := []
  stored := []
  fns := []
  ports := []
  nodes := []
  plans := []
  lists := []
  pim := []
  owners := []
  points := []
  grants := []
  rules := []
  remote := []
  copies := []
  unseen := []
  bridge := []
  chans := []
  nonces := []
  quar := []
  policy := none
  journal := []
  half0 := {}
  half1 := {}
  half := 0
  fw := {}
  mgt := {}
  jtag := {}
  pins := {}
  boot := {}
  chg := 0
  tile := []
  mesh := 0
  meshFails := []
  ready := false
  link := 0
  vfEnable := false
  vfMse := false
  numVfs := 0
  ari := false
  stamp := 0
  stage := 0
  lastCancel := 0
  stopping := false
  xogate := false
  evHeld := []
  accepts := 0
  free := 0
  tlpHeld := []
  wire := []

end Sys2Proof.Machine
end

