-- ==== Sys2Proof/Machine/Ops.lean ====
section
/-!
DEFINITION. Named operations over the state: access to functions, ports, nodes and tiles, outputs, free values,
error bits, interrupt sources, event records, completions and handles. A block takes no exception: raising an
error bit, an interrupt source or an event is the shared operation that stands in its place.
-/
namespace Sys2Proof.Machine

/-- The outcome of a meaning. -/
abbrev Res := Host.Outcome State Fault Refusal

/-! ## Access to the parts of the state -/

def State.fn (s : State) (f : Nat) : Fn := nget {} s.fns f
def State.modFn (s : State) (f : Nat) (u : Fn → Fn) : State := { s with fns := nmod {} s.fns f u }
def State.port (s : State) (g : Nat) : Port := nget {} s.ports g
def State.modPort (s : State) (g : Nat) (u : Port → Port) : State := { s with ports := nmod {} s.ports g u }
/-- Key of node `g/n` (R7). -/
def nodeKey (g n : Nat) : Nat := g * 4096 + n
def State.node (s : State) (g n : Nat) : Node := nget {} s.nodes (nodeKey g n)
def State.modNode (s : State) (g n : Nat) (u : Node → Node) : State :=
  { s with nodes := nmod {} s.nodes (nodeKey g n) u }
def State.tl (s : State) (t : Nat) : Tile := nget {} s.tile t
def State.modTile (s : State) (t : Nat) (u : Tile → Tile) : State := { s with tile := nmod {} s.tile t u }
def State.modTime (s : State) (u : TimeSt → TimeSt) : State := { s with time := u s.time }

def State.modPwr (s : State) (t : Nat) (u : PwrSt → PwrSt) : State := s.modTile t (fun x => { x with pwr := u x.pwr })

/-- The tile leaves DOZE; its IDLE count restarts (R454). -/
def leaveDoze (t : Nat) (s : State) : State :=
  if (s.tl t).pow = .doze then (s.modTile t (fun x => { x with pow := .run })).modPwr t (fun p => { p with idle := 0 }) else s

/-- The engines of tile `t` work: short work of one step (entry fetches, event, completion and list writes, management
transfers) runs within the command that causes it, and what shows of its task is that DOZE ends (R27, R31, R454; DESIGN
CHOICE, log entry 98). -/
def engineWork (t : Nat) (s : State) : State := leaveDoze t s

/-- Populated trunk ports (R2). -/
def State.portCount (s : State) : Nat := 16 * s.tiles
/-- Port `g` exists on this part (R2). -/
def State.hasPort (s : State) (g : Nat) : Bool := g < s.portCount
def State.hasTile (s : State) (t : Nat) : Bool := t < s.tiles
/-- Node numbers of port `g` in use, ascending. -/
def State.nodesOf (s : State) (g : Nat) : List Nat :=
  (s.nodes.filter (fun p => p.1 / 4096 == g)).map (fun p => p.1 % 4096)
/-- Created or reset functions that the state lists, with function 0. -/
def State.fnList (s : State) : List Nat := insertAsc 0 (s.fns.map (·.1))

/-- The class in which a transaction leaves for the host (R413); none for what is no such transaction. -/
def Output.tlpClass : Output → Option Nat
  | .msix .. => some 1
  | .imageWrite .. => some 2
  | .imageRead .. => some 2
  | .dmaWrite .. => some 3
  | .dmaRead .. => some 3
  | .bulkWrite .. => some 4
  | .bulkRead .. => some 4
  | _ => none

/-- The output is a transaction on the host link. -/
def Output.isTlp (o : Output) : Bool := o.tlpClass.isSome

/-- The function a write of classes 2 to 4 belongs to. -/
def Output.writer : Output → Option Nat
  | .imageWrite f _ _ => some f
  | .dmaWrite f _ _ => some f
  | .bulkWrite f _ _ => some f
  | _ => none

/-- Becoming ready of `o` has to wait until the earlier `w` has left (R414): a vector after its function's entries and
headers (R307, R252), a record after its function's bulk data (R359). Per function (log entry 118). -/
def Output.waitsFor (o w : Output) : Bool :=
  match o with
  | .msix f _ _ => w.writer == some f && w.tlpClass != some 4
  | .dmaWrite f _ _ => w.writer == some f && w.tlpClass == some 4
  | _ => false

/-- Which of the waiting transactions, oldest first, leaves next: the lowest class with a ready one, the earliest of
that class (R413). -/
def nextTlp (l : List Output) : Option Nat :=
  let ready := (List.range l.length).filter (fun i => !(l.take i).any ((l[i]?.getD (.ltr 0)).waitsFor))
  [some 1, some 2, some 3, some 4, none].findSome? (fun c => ready.find? (fun i => (l[i]?.bind Output.tlpClass) == c))

/-- Waiting transactions, oldest first, in the order in which they leave; `n` of them are chosen (R413, R414). -/
def leaveOrder : Nat → List Output → List Output
  | 0, l => l
  | n + 1, l =>
    match nextTlp l with
    | none => l
    | some i => l[i]?.toList ++ leaveOrder n (l.eraseIdx i)

/-- One output more on the wire; a TLP waits while the host link is not in L0 (R438). -/
def out (o : Output) (s : State) : State :=
  if o.isTlp && s.link != 1 then { s with tlpHeld := o :: s.tlpHeld } else { s with wire := o :: s.wire }

/-- The free value drawn next. -/
def State.freeVal (s : State) : Nat := Config.freeNat s.free
/-- Advance past one free value. -/
def State.draw (s : State) : State := { s with free := s.free + 1 }

/-- Tick length in us (R50) and F of FL = 2^F in force (R54). -/
def State.tickUs (s : State) : Nat := 2 ^ s.time.ticklen
def State.frameLen (s : State) : Nat := 2 ^ s.time.fllog2
/-- Tick `n` is a frame boundary (R54). -/
def State.isFrame (s : State) : Bool := s.time.tick % s.frameLen == 0
/-- Ticks that `us` microseconds last, rounded up. -/
def State.ticksOf (s : State) (us : Nat) : Nat := (us + s.tickUs - 1) / s.tickUs
/-- The first frame boundary after the current tick. -/
def State.nextFrame (s : State) : Nat := (s.time.tick / s.frameLen + 1) * s.frameLen

/-! ## Pages and stored words -/

/-- Page types (R538). -/
abbrev pGLB := 0x01
abbrev pTIM := 0x02
abbrev pPWR := 0x03
abbrev pFWU := 0x04
abbrev pSET := 0x05
abbrev pICG := 0x06
abbrev pADM := 0x07
abbrev pTPL := 0x08
abbrev pMGT := 0x09
abbrev pCRY := 0x0A
abbrev pTIL := 0x10
abbrev pTSK := 0x11
abbrev pPMT := 0x12
abbrev pPIM := 0x13
abbrev pRFX := 0x14
abbrev pBRG := 0x15
abbrev pBMV := 0x16
abbrev pTPT := 0x20
abbrev pSEQ := 0x21
abbrev pATZ := 0x22
abbrev pPLN := 0x23
abbrev pTNH := 0x30
abbrev pDBL := 0x31
abbrev pFIB := 0x32
abbrev pNIB := 0x33
abbrev pBWV := 0x34
abbrev pBMC := 0x35

/-- Key of the word at offset `off` of the page of type `ty` and number `inst`
(0, a tile, a global port or a function). -/
def regKey (ty inst off : Nat) : Nat := (ty * 1024 + inst) * 4096 + off

/-- Stored word with the reset value `d`. -/
def State.reg (s : State) (d ty inst off : Nat) : Nat := (nget (BitVec.ofNat 64 d) s.regs (regKey ty inst off)).toNat

/-- Store a word; `d` is its reset value. -/
def State.setReg (s : State) (d ty inst off v : Nat) : State :=
  { s with regs := nput (BitVec.ofNat 64 d) s.regs (regKey ty inst off) (BitVec.ofNat 64 v) }

/-- Reset value of a register whose table says "from settings, else `d`" (R501). -/
def State.fromSettings (s : State) (d ty inst off : Nat) : Nat :=
  (nget (BitVec.ofNat 64 d) s.stored (regKey ty inst off)).toNat

/-- Current word of a "from settings" register. -/
def State.sreg (s : State) (d ty inst off : Nat) : Nat := s.reg (s.fromSettings d ty inst off) ty inst off
def State.setSreg (s : State) (d ty inst off v : Nat) : State :=
  s.setReg (s.fromSettings d ty inst off) ty inst off v

/-- Words that a page keeps in `regs` and that hold neither an RW field, an RC counter, ERR nor CLAMPLOG. -/
def keptWord (ty off : Nat) : Bool := (ty == pPMT && off == 0x050) || (ty == pCRY && off == 0x044) || (ty == pPIM && (off == 0x050 || off == 0x054))

/-- The RW fields, RC counters, ERR and CLAMPLOG of a page return to their reset values (R521). -/
def clearPage (ty inst : Nat) (s : State) : State :=
  { s with regs := s.regs.filter (fun (x : Nat × W64) => x.1 / 4096 != ty * 1024 + inst || keptWord ty (x.1 % 4096)) }

/-! ## Shares and rights of a function -/

/-- Command credits (R301). -/
def State.credits (s : State) (f : Nat) : Nat := if f = 0 then 1024 else (s.fn f).share.credits
/-- Usable MSI-X vectors (R419). -/
def State.vectors (s : State) (f : Nat) : Nat := if f = 0 then 16 else (s.fn f).share.vectors
/-- Handle limit (R311). -/
def handleLimit (f : Nat) : Nat := if f = 0 then 1024 else 256
/-- The function's pages exist and it may be owed something: the manager, or a tenant in service (R371). -/
def State.alive (s : State) (f : Nat) : Bool :=
  f == 0 || ((s.fn f).st == .active || (s.fn f).st == .freezing || (s.fn f).st == .frozen)
/-- The anchor lets a DMA request of `f` leave (R381). -/
def State.dmaOk (s : State) (f : Nat) : Bool :=
  f == 0 || (s.alive f && (s.fn f).bme && !(s.fn f).dmaBlock)
/-- Which condition of R381 fails first: 1 Bus Master Enable, 2 DMABLOCK, 3 state (R397). -/
def State.dmaWhy (s : State) (f : Nat) : Nat :=
  if !(s.fn f).bme then 1 else if (s.fn f).dmaBlock then 2 else 3

/-! ## Accesses to a function's BARs -/

/-- An access of `f` to its BAR `b` discards the split-read snapshot of that BAR (R15). -/
def dropSnap (f b : Nat) (s : State) : State :=
  if b = 0 then (if (s.fn f).snap0.isSome then s.modFn f (fun x => { x with snap0 := none }) else s)
  else if (s.fn f).snap2.isSome then s.modFn f (fun x => { x with snap2 := none }) else s

/-- A write that arrives through BAR `b` of function `f`, whose memory space is enabled in D0 only (R15, R467). -/
def mmio (f b : Nat) (u : State → State) (s : State) : State :=
  if (s.fn f).dstate = 0 then u (dropSnap f b s) else dropSnap f b s

/-- Index of the entry of SQ `q` whose fetch is in flight (R301). -/
def Fn.fetch (x : Fn) (q : Nat) : Option Nat := nget none x.fetching q

/-! ## Interrupt sources (R419-R439) -/

def Fn.cls (x : Fn) (fast : Bool) : IntClass := if fast then x.fast else x.norm
def Fn.setCls (x : Fn) (fast : Bool) (c : IntClass) : Fn :=
  if fast then { x with fast := c } else { x with norm := c }

/-- Word of NIB_MISCVEC of a function (R441). -/
def State.miscvec (s : State) (f : Nat) : Nat := s.reg 0 pNIB f 0x050

/-- The enable of a normal source (R421). -/
def State.srcEnabled (s : State) (f src : Nat) : Bool :=
  if src < 8 then (nget {} (s.fn f).cq src).irqen
  else if src < 10 then (nget {} (s.fn f).eq (src - 8)).irqen
  else if src = 10 then f != 0 && (s.fn f).bulk.ring.irqen
  else if src = 11 then (match (s.fn f).image.desc with | some d => d.imgirq | none => false)
  else if src = 12 then bit (s.miscvec f) 4
  else if src = 13 then f == 0 && bit (s.miscvec f) 12
  else false

/-- The vector of a source (R421, R422). -/
def State.srcVector (s : State) (f : Nat) (fast : Bool) (src : Nat) : Nat :=
  if fast then bits (nget 0 (s.fn f).vecmap (src / 8)) (4 * (src % 8)) 4
  else if src < 8 then (nget {} (s.fn f).cq src).vector
  else if src < 10 then (nget {} (s.fn f).eq (src - 8)).vector
  else if src = 10 then (s.fn f).bulk.ring.vector
  else if src = 11 then (match (s.fn f).image.desc with | some d => d.imgvec | none => 0)
  else if src = 12 then bits (s.miscvec f) 0 4
  else bits (s.miscvec f) 8 4

/-- The vector of a source may be used: below the vector count and its Mask bit 0 (R424). -/
def State.vecOk (s : State) (f v : Nat) : Bool :=
  v < s.vectors f && !(nget {} (s.fn f).msix v).masked

/-- The conditions of R424 that do not depend on the source. -/
def State.fnMayEnter (s : State) (f : Nat) : Bool :=
  let x := s.fn f
  x.msixEn && !x.fnMask && x.bme && (f == 0 || (!x.dmaBlock && x.st == .active))

def srcCount (fast : Bool) : Nat := if fast then 64 else 32

/-- Eligible sources of a class, ascending (R424). -/
def State.eligible (s : State) (f : Nat) (fast : Bool) : List Nat :=
  let c := (s.fn f).cls fast
  if s.fnMayEnter f then
    (List.range (srcCount fast)).filter
      (fun i => bit c.pend.toNat i && !bit c.cause.toNat i && s.vecOk f (s.srcVector f fast i))
  else []

/-- PENDING to CAUGHT for the listed sources (R425). -/
def catchSrcs (l : List Nat) (c : IntClass) : IntClass :=
  l.foldl (fun c i =>
    { c with pend := BitVec.ofNat 64 (clrBit c.pend.toNat i), cause := BitVec.ofNat 64 (setBit c.cause.toNat i) }) c

/-- A class in ENTRY catches every source that has become eligible (R425). -/
def State.joinEntry (s : State) (f : Nat) (fast : Bool) : State :=
  if ((s.fn f).cls fast).st = .entry then
    s.modFn f (fun x => x.setCls fast (catchSrcs (s.eligible f fast) (x.cls fast)))
  else s

/-- A raise of a source: IDLE to PENDING, CAUGHT to CAUGHT-AGAIN (R423). -/
def raiseSrc (f : Nat) (fast : Bool) (src : Nat) (s : State) : State :=
  (s.modFn f (fun x =>
    x.setCls fast { x.cls fast with pend := BitVec.ofNat 64 (setBit (x.cls fast).pend.toNat src) })).joinEntry f fast

/-- A normal source is raised while its enable is 1 (R421). -/
def raiseNorm (f src : Nat) (s : State) : State :=
  if s.alive f && s.srcEnabled f src then raiseSrc f false src s else s

/-! ## Error bits (R436, R543) -/

/-- The function whose source 12 an ERR bit of a page raises (R436). -/
def errFn (ty inst : Nat) : Nat := if ty ≥ 0x30 then inst else 0

/-- Set bit `b` of a page's ERR; its becoming 1 unmasked raises ERRSUM (R436, R543). -/
def setErr (ty inst b : Nat) (s : State) : State :=
  let w := s.reg 0 ty inst 0x014
  if bit w b then s
  else
    let s1 := s.setReg 0 ty inst 0x014 (setBit w b)
    if bit (s.reg 0 ty inst 0x018) b then s1 else raiseNorm (errFn ty inst) 12 s1

/-- A saturating count in a read-clear word field: add `k` to the field of `n` bits at `lo`. -/
def countReg (ty inst off lo n k : Nat) (s : State) : State :=
  let w := s.reg 0 ty inst off
  s.setReg 0 ty inst off (setBits w lo n (satAdd (2 ^ n - 1) (bits w lo n) k))

/-- The CLAMPLOG entry of a clamp of the field at bit `b` of the register at `off` (R528). -/
def logClamp (ty inst off b : Nat) (s : State) : State :=
  let n := bits (s.reg 0 ty inst 0x01C) 24 8
  s.setReg 0 ty inst 0x01C ((off + 4 * (b / 32)) % 4096 + (b % 32) * 2 ^ 12 + ((n + 1) % 256) * 2 ^ 24)

/-! ## Event records (R306, R309, R318) -/

/-- The 14 DATA bytes (bytes 16-29) spelt by fields (first byte, bytes, value). -/
def recData (fs : List (Nat × Nat × Nat)) : List Byte :=
  toLe 14 (fs.foldl (fun a x => a + (x.2.2 % 256 ^ x.2.1) * 256 ^ (x.1 - 16)) 0)

def mkEvent (cls kind : Nat) (fs : List (Nat × Nat × Nat)) : Event := { cls, kind, recs := [recData fs] }

/-- The anchor's engines write nothing for now: tile 0 is resetting (R518), or its switch runs no step (R496). -/
def State.paused (s : State) : Bool := s.ready && (!(s.tl 0).ready || s.fw.switch.map (·.tile) == some 0)

/-- Entries a ring holds. -/
def Ring.size (r : Ring) : Nat := 2 ^ r.log2
/-- Entries a CQ or EQ can still take (R298). -/
def Ring.room (r : Ring) : Nat := r.size - r.unfreed
/-- The ring is enabled and not stopped (R293 RUN). -/
def Ring.running (r : Ring) : Bool := r.enable && !r.stopped
/-- One entry written at a CQ's or EQ's tail (R295, R298). -/
def Ring.wrote (r : Ring) : Ring :=
  if r.head + 1 < r.size then { r with head := r.head + 1, unfreed := r.unfreed + 1 }
  else { r with head := 0, phase := !r.phase, unfreed := r.unfreed + 1 }

/-- Phase of the lap that the index latched at a stop is on: a doorbell's value lies ahead of the producer's tail, or of
the consumer's head, and every other index is the device's own (R293, R299). A value beyond the ring is on no lap and
shows the device's (DESIGN CHOICE, log entry 95). -/
def Ring.lapOf (r : Ring) (reason latched : Nat) : Bool :=
  if reason = 1 then r.phase != (decide (r.tail < r.head) != decide (latched < r.tail))
  else if reason = 4 then
    r.phase != ((decide (r.head < r.tail) || r.unfreed == r.size) != decide (latched < r.tail))
  else r.phase

/-- Stop a ring, latching INDEX and REASON (R299). -/
def Ring.stop (r : Ring) (reason latched : Nat) : Ring :=
  { r with stopped := true, reason, latched, latchPhase := r.lapOf reason latched }

def State.sqR (s : State) (f q : Nat) : Ring := nget {} (s.fn f).sq q
def State.cqR (s : State) (f q : Nat) : Ring := nget {} (s.fn f).cq q
def State.eqR (s : State) (f q : Nat) : Ring := nget {} (s.fn f).eq q
def State.modSq (s : State) (f q : Nat) (u : Ring → Ring) : State :=
  s.modFn f (fun x => { x with sq := nmod {} x.sq q u })
def State.modCq (s : State) (f q : Nat) (u : Ring → Ring) : State :=
  s.modFn f (fun x => { x with cq := nmod {} x.cq q u })
def State.modEq (s : State) (f q : Nat) (u : Ring → Ring) : State :=
  s.modFn f (fun x => { x with eq := nmod {} x.eq q u })

/-- One 32-byte record at the EQ's tail (R306): header, DATA, MORE and PHASE. -/
def putRecord (f q : Nat) (e : Event) (d : List Byte) (more : Bool) (s : State) : State :=
  let r := s.eqR f q
  let bytes := [BitVec.ofNat 8 e.cls, BitVec.ofNat 8 e.kind, BitVec.ofNat 8 e.status, BitVec.ofNat 8 e.detail]
    ++ toLe 4 e.handle ++ toLe 8 (e.tick.getD s.time.tick) ++ d ++ [BitVec.ofNat 8 (b2n more), BitVec.ofNat 8 (b2n r.phase)]
  (out (.dmaWrite f (r.base.toNat + 32 * r.head) bytes) (engineWork 0 s)).modEq f q Ring.wrote

/-- Every record of an event, MORE set on all but the last. -/
def putRecords (f q : Nat) (e : Event) : List (List Byte) → State → State
  | [], s => s
  | [d], s => putRecord f q e d false s
  | d :: r, s => putRecords f q e r (putRecord f q e d true s)

/-- The overflow event owed by an EQ that has lost events and has room again (R309). -/
def payOverflow (f q : Nat) (s : State) : State :=
  let n := nget 0 (s.fn f).eqlost q
  if n ≠ 0 ∧ 0 < (s.eqR f q).room then
    let e := mkEvent 1 3 [(16, 4, n)]
    raiseNorm f (8 + q)
      ((putRecords f q e e.recs s).modFn f (fun x => { x with eqlost := nput 0 x.eqlost q 0 }))
  else s

/-- An event that is not written counts as lost under its class (R309). -/
def loseEvent (f q : Nat) (e : Event) (s : State) : State :=
  s.modFn f (fun x =>
    { x with eqovf := nmod 0 x.eqovf e.cls (satAdd 65535 1), eqlost := nmod 0 x.eqlost q (· + 1) })

/-- The queue-stop event of R318. -/
def queueStopEvent (kind num reason latched before : Nat) : Event :=
  { cls := 1, kind := 2, status := 0x0A, detail := reason,
    recs := [recData [(16, 1, kind), (17, 1, num), (18, 1, reason), (20, 2, latched), (22, 2, before)]] }

/-- The event classes' EQ (R318): classes 1 and 2 to EQ0, the others as DBL_EQMAP selects. -/
def State.eqOf (s : State) (f cls : Nat) : Nat :=
  if cls ≤ 2 then 0 else b2n (bit (s.fn f).eqmap cls)

/-- The event tells that EQ0 itself stopped: it goes to EQ1 (R300). -/
def Event.stopsEq0 (e : Event) : Bool :=
  e.cls == 1 && e.kind == 2 && (match e.recs with
    | d :: _ => byteField d 0 1 == 2 && byteField d 1 1 == 0
    | [] => false)

/-- Write an event into EQ `q`, or lose it; the first argument bounds the chain of stops and their events
that one refused write can set off (R299 REASON 7, R381). -/
def emitTo : Nat → Nat → Nat → Event → State → State
  | 0, f, q, e, s => loseEvent f q e s
  | k + 1, f, q, e, s =>
    let r := s.eqR f q
    if !r.running then loseEvent f q e s
    else if !s.dmaOk f then
      -- the anchor refuses the write: the ring stops with REASON 7
      let s1 := (loseEvent f q e s).modEq f q (fun r => r.stop 7 r.head)
      let s2 := setErr pTPL 0 0 s1
      let s3 := if (s2.fn f).dmaEventSent then s2 else
        emitTo k 0 (s2.eqOf 0 0x0B)
          (mkEvent 0x0B 4 [(16, 2, f), (18, 1, s.dmaWhy f), (20, 8, s.time.tick)])
          (s2.modFn f (fun x => { x with dmaEventSent := true }))
      emitTo k f (if q = 0 then 1 else 0) (queueStopEvent 2 q 7 r.head r.head) s3
    else
      let s1 := payOverflow f q s
      if e.recs.length ≤ (s1.eqR f q).room then raiseNorm f (8 + q) (putRecords f q e e.recs s1)
      else loseEvent f q e s1

/-- An event has arisen at the current tick, unless it did before (R306). -/
def Event.arise (e : Event) (s : State) : Event := { e with tick := some (e.tick.getD s.time.tick) }

/-- An event arises for function `f` (R309, R318); one that waits for the anchor keeps its tick. -/
def emit (f : Nat) (e : Event) (s : State) : State :=
  if !s.alive f then s
  else if s.paused then { s with evHeld := s.evHeld ++ [(f, e.arise s)] }
  else emitTo 4 f (if e.stopsEq0 then 1 else s.eqOf f e.cls) e s

/-- An event to the manager. -/
def emitMgr (cls kind : Nat) (fs : List (Nat × Nat × Nat)) (s : State) : State := emit 0 (mkEvent cls kind fs) s

/-- The device's own refusal of a tenant's request: DMAREQ, and one event per function (R381). -/
def dmaRefused (f : Nat) (s : State) : State :=
  let s1 := setErr pTPL 0 0 s
  if (s1.fn f).dmaEventSent then s1 else
    emitMgr 0x0B 4 [(16, 2, f), (18, 1, s.dmaWhy f), (20, 8, s.time.tick)]
      (s1.modFn f (fun x => { x with dmaEventSent := true }))

/-- A ring of kind 0 SQ, 1 CQ, 2 EQ stops and its function hears of it, on EQ1 if EQ0 itself stopped (R299, R300). -/
def ringStop (f kind q reason latched : Nat) (s : State) : State :=
  let r := if kind = 0 then s.sqR f q else if kind = 1 then s.cqR f q else s.eqR f q
  let s1 := if kind = 0 then s.modSq f q (·.stop reason latched)
    else if kind = 1 then s.modCq f q (·.stop reason latched)
    else s.modEq f q (·.stop reason latched)
  emit f (queueStopEvent kind q reason latched r.head) s1

/-- A request `o` of function `f`: sent, or refused under R381 (the flag says which). -/
def request (f : Nat) (o : Output) (s : State) : State × Bool :=
  if s.dmaOk f then (out o s, true) else (dmaRefused f s, false)

/-- A posted write of an engine for function `f`. -/
def dmaWrite (f addr : Nat) (data : List Byte) (s : State) : State × Bool := request f (.dmaWrite f addr data) s

/-- A read request of an engine for function `f`. -/
def dmaRead (f addr len : Nat) (s : State) : State × Bool := request f (.dmaRead f addr len) s

/-! ## Completions and holding buffer (R305, R308) -/

/-- The 16 bytes of a completion entry (R305). -/
def completionBytes (c : Completion) (sqhead : Nat) (phase : Bool) : List Byte :=
  toLe 4 c.result ++ toLe 2 c.cid ++
  [BitVec.ofNat 8 (c.sq + 8 * b2n c.long + 16 * b2n c.listed + 32 * b2n c.ovf + 64 * b2n c.adj), 0#8] ++
  toLe 2 sqhead ++ [BitVec.ofNat 8 c.status, BitVec.ofNat 8 c.detail] ++ toLe 2 (min c.nlist 65535) ++
  [0#8, BitVec.ofNat 8 (b2n phase)]

/-- Fetched entries that a disabled ring of kind 0 SQ, 1 CQ, 2 EQ still serves (R293, R300): of an SQ those not
completed, of a CQ those of its SQs still running, of an EQ those fetched before the clear. A completion that waits in
the holding buffer is of no running entry (DEDUCED, log entry 122). -/
def Fn.busyRing (x : Fn) (kind q upto : Nat) : Bool :=
  if kind = 0 then x.entries.any (·.sq == q) || (x.fetch q).isSome
  else if kind = 1 then
    x.entries.any (fun e => !e.ended && (nget {} x.sq e.sq).cq == q) ||
      (List.range 8).any (fun i => (x.fetch i).isSome && (nget {} x.sq i).cq == q)
  else
    x.entries.any (fun e => !e.ended && decide (e.id < upto)) || (x.fetching != [] && decide (x.nextEntry < upto))

/-- A disabled ring has drained once no fetched entry is left that it serves. -/
def Fn.settle (x : Fn) : Fn :=
  let upd := fun (k : Nat) (q : Nat) (r : Ring) =>
    if r.draining && !x.busyRing k q r.drainTo then { r with draining := false } else r
  { x with sq := nmapAll {} (upd 0) x.sq, cq := nmapAll {} (upd 1) x.cq, eq := nmapAll {} (upd 2) x.eq }

/-- Some ring of the function drains. -/
def Fn.drains (x : Fn) : Bool :=
  x.sq.any (·.2.draining) || x.cq.any (·.2.draining) || x.eq.any (·.2.draining)

/-- Rings that were disabled have drained once no fetched entry that they serve is left (R294, R300). -/
def settleDrain (f : Nat) (s : State) : State := if (s.fn f).drains then s.modFn f Fn.settle else s

/-- A completion that cannot be written now goes behind the others of the holding buffer (R308). -/
def holdCompletion (f : Nat) (c : Completion) (s : State) : State :=
  s.modFn f (fun x =>
    if x.hold.length < 64 then
      { x with hold := x.hold ++ [c], fetchPause := x.fetchPause || x.hold.length + 1 == 64 }
    else { x with finished := x.finished ++ [c] })

/-- Write one completion into its CQ, which has room: the entry stops being outstanding (R301, R307). A write that the
anchor refuses stops the CQ, and the completion is due to a stopped CQ (R300, R381). -/
def writeCompletion (f : Nat) (c : Completion) (s : State) : State :=
  let r := s.cqR f c.cq
  if !s.dmaOk f then holdCompletion f c (ringStop f 1 c.cq 7 r.head (dmaRefused f s))
  else
    let s1 := out (.dmaWrite f (r.base.toNat + 16 * r.head)
      (completionBytes c (s.sqR f c.sq).head r.phase)) (engineWork 0 s)
    let s2 := (s1.modCq f c.cq Ring.wrote).modFn f
      (fun x => { x with entries := x.entries.filter (·.id != c.id) })
    raiseNorm f c.cq (settleDrain f s2)

/-- A command finishes with completion `c` (R308). -/
def complete (f : Nat) (c : Completion) (s : State) : State :=
  if !s.alive f then s
  else
    let x := s.fn f
    let r := s.cqR f c.cq
    if s.paused then s.modFn f (fun x => { x with finished := x.finished ++ [c] })
    else if x.hold.any (·.cq == c.cq) || !r.running || r.room == 0 then holdCompletion f c s
    else writeCompletion f c s

/-- The completion list's 16-byte records (R315). -/
def listRecBytes (r : ListRec) : List Byte :=
  toLe 4 r.item ++ [BitVec.ofNat 8 (b2n r.leftOut), BitVec.ofNat 8 r.status] ++ toLe 2 r.field ++
  toLe 4 r.orig ++ toLe 4 r.stored

/-- Records written at a completion list that already holds `had` of at most `maxN` (R315); the flag is false where the
device refuses the write. -/
def writeList (f addr maxN had : Nat) (recs : List ListRec) (s : State) : State × Bool :=
  let fit := recs.take (maxN - had)
  if addr = 0 ∨ fit = [] then (s, true)
  else dmaWrite f (addr / 16 * 16 + 16 * had) (fit.flatMap listRecBytes) s

/-- The 32-bit handle of a sequence of `f` (R311). -/
def handleOf (f seq : Nat) : Nat := f * 2 ^ 22 + seq

/-- Complete an outstanding entry: its list records first, then its completion entry (R305, R307, R315). A list that the
device may not write ends the work with 0x22; a long command's handle carries that status (R594). -/
def finish (f : Nat) (e : Entry) (long : Bool) (result status detail : Nat) (recs : List ListRec)
    (s : State) : State :=
  let w := writeList f e.listAddr e.listMax 0 recs s
  let s1 := settleDrain f (w.1.modFn f (fun x =>
    { x with entries := x.entries.map (fun y => if y.id = e.id then { y with ended := true } else y)
             handles := if long && !w.2 then
               x.handles.map (fun h => if handleOf f h.seq = result then { h with refused := true } else h) else x.handles }))
  let bad := !w.2 && !long
  let status := if bad then 0x22 else status
  let detail := if bad then 0 else detail
  complete f
    { id := e.id, sq := e.sq, cq := (s.sqR f e.sq).cq, cid := e.cid, long, result, status, detail,
      listed := decide (recs ≠ [] ∧ e.listAddr ≠ 0 ∧ e.listMax ≠ 0), ovf := decide (recs.length > e.listMax),
      adj := decide (e.listAddr % 16 ≠ 0), nlist := recs.length }
    s1

/-! ## Handles (R311-R314) -/

/-- The next sequence after `n` (R311). -/
def seqNext (n : Nat) : Nat := if n = 0x3FFFFF then 1 else n + 1

def State.handle? (s : State) (f seq : Nat) : Option Handle := (s.fn f).handles.find? (·.seq == seq)

def State.modHandle (s : State) (f seq : Nat) (u : Handle → Handle) : State :=
  s.modFn f (fun x => { x with handles := x.handles.map (fun h => if h.seq = seq then u h else h) })

/-- A new handle of `f` for an operation; none while all are outstanding (R311, R312). -/
def newHandle (f cid opc : Nat) (op : LongOp) (ready : Bool) (listAddr listMax nlist : Nat)
    (s : State) : Option (Nat × State) :=
  let x := s.fn f
  if x.handles.length ≥ handleLimit f then none
  else
    let h : Handle := { seq := x.nextSeq, cid, opc, op, ready, listAddr, listMax, nlist, order := s.accepts }
    some (x.nextSeq, { s with accepts := s.accepts + 1 }.modFn f (fun x => { x with handles := x.handles ++ [h], nextSeq := seqNext x.nextSeq }))

/-- The event that completes a handle: handle-done, or the plan event of a generation (R312). It arose when the
operation ended (R306). -/
def handleEvent (f : Nat) (h : Handle) : Event :=
  if h.planData ≠ [] then
    { cls := 2, kind := 1, status := h.status, detail := h.detail, handle := handleOf f h.seq, recs := [h.planData],
      tick := some h.doneTick }
  else
    { cls := 1, kind := 1, status := h.status, detail := h.detail, handle := handleOf f h.seq, tick := some h.doneTick,
      recs := [recData [(16, 2, min h.nlist 65535),
        (18, 1, b2n (decide (h.nlist > h.listMax)) + 2 * b2n (decide (h.listAddr % 16 ≠ 0))),
        (20, 8, h.commitTick), (28, 2, h.cid)]] }

/-- Waiting handle completions are written in order while EQ0 runs and has room and the function is not frozen
(R309, R311); `k` bounds the loop by their number. -/
def flushHandles : Nat → Nat → State → State
  | 0, _, s => s
  | k + 1, f, s =>
    let x := s.fn f
    if x.st = .frozen ∨ s.paused ∨ !s.alive f ∨ !(s.eqR f 0).running then s
    else if !s.dmaOk f ∧ x.waiting ≠ [] then
      ringStop f 2 0 7 (s.eqR f 0).head (dmaRefused f s)
    else match x.waiting with
      | [] => s
      | q :: rest =>
        let s1 := payOverflow f 0 s
        let r := s1.eqR f 0
        if r.running && decide (0 < r.room) then
          match s1.handle? f q with
          | none => flushHandles k f (s1.modFn f (fun x => { x with waiting := rest }))
          | some h =>
            let e := handleEvent f h
            flushHandles k f (raiseNorm f 8 ((putRecords f 0 e e.recs s1).modFn f
              (fun x => { x with waiting := rest, handles := x.handles.filter (·.seq != q) })))
        else s

def flushAll (f : Nat) (s : State) : State := flushHandles (s.fn f).waiting.length f s

/-- A long operation ends: its state word, status and commit tick are fixed and its completion waits for EQ0
(R312, R313). One whose completion list the device refused to write, and that had no failure of its own, ends with
0x22 (R594). -/
def endHandle (f seq : Nat) (word : HandleWord) (status detail commitTick : Nat) (s : State) : State :=
  match s.handle? f seq with
  | none => s
  | some h =>
    if h.done then s
    else
      let lost := h.refused && status == 0
      (s.modHandle f seq (fun h =>
        { h with word, status := if lost then 0x22 else status, detail := if lost then 0 else detail, commitTick, done := true
                 doneTick := s.time.tick })).modFn f (fun x => { x with waiting := x.waiting ++ [seq] })

/-- A long operation commits at the current tick with success (R313). -/
def commitHandle (f seq : Nat) (s : State) : State := endHandle f seq .committed 0 0 s.time.tick s

/-- A long operation fails. -/
def failHandle (f seq status detail : Nat) (s : State) : State := endHandle f seq .failed status detail 0 s

/-- More completion-list records of a running long operation (R315). -/
def listMore (f seq : Nat) (recs : List ListRec) (s : State) : State :=
  match s.handle? f seq with
  | none => s
  | some h =>
    let w := writeList f h.listAddr h.listMax h.nlist recs s
    w.1.modHandle f seq (fun h => { h with nlist := h.nlist + recs.length, refused := h.refused || !w.2 })

end Sys2Proof.Machine
end

