-- ==== Sys2Proof/Machine/Sched.lean ====
section
/-!
DEFINITION. Sched: tasks, their contexts, ready and delay lists, and the wake sources of sleeping tiles
(spec/12_engines_scheduler_blocking.md, R398-R411; spec/14_power_performance.md, R454-R463).
-/
namespace Sys2Proof.Machine


/-! ## Supplies of a tile (R444, R448, R449) -/

/-- Nominal VDD_CORE of a level, and VDD_SRAM of a level, in mV. -/
def coreNominal (l : Nat) : Nat := if l = 0 then 850 else if l = 1 then 750 else 680
def sramOf (l : Nat) : Nat := if l = 0 then 850 else 800
/-- The stored trim of a level. -/
def PwrSt.storedTrim (p : PwrSt) (l : Nat) : Int := nget 12 p.trims l
/-- VDD_CORE at a level and trim, within 620-920 mV. -/
def coreMv (l : Nat) (trim : Int) : Nat := (clampInt 620 920 ((coreNominal l : Int) + 5 * trim)).toNat

/-- One bus transaction is sent (R451). -/
def sendBus (t : Nat) (b : BusTx) (s : State) : State :=
  (out (.bus b.rail t b.mv) s).modPwr t (fun p => { p with bus := p.bus ++ [b] })

/-- PMT_AVS: trim, margin and voltage (R472). -/
def noteAvs (t margin : Nat) (s : State) : State :=
  let p := (s.tl t).pwr
  s.setReg 0 pPMT t 0x050 (ofSigned 5 p.trim + min margin 255 * 2 ^ 8 + coreMv p.level p.trim % 2 ^ 12 * 2 ^ 16)

/-! ## Wake sources (R457-R461, R466) -/

/-- The tile sleeps: DRYDOWN or WAKING. -/
def State.asleep (s : State) (t : Nat) : Bool := (s.tl t).pow == .drydown || (s.tl t).pow == .waking

/-- The tile takes part in publishing, output reads and list checks: in service, and not past the last capture of a
Drydown entry (R456 step 2, R459, R520). -/
def State.publishes (s : State) (t : Nat) : Bool :=
  let x := s.tl t
  x.ready && (x.pow == .run || x.pow == .doze || (x.pow == .drying && x.pwr.dryB.isNone))

/-- Step 1 of R461: VDD_SRAM to the level's value, VDD_CORE on at nominal plus stored trim. -/
def powerUp (t : Nat) (s : State) : State :=
  let l := min (bits (s.sreg 0x11 pPMT t 0x040) 0 2) 2
  let s1 := s.modPwr t (fun p => { p with level := l, trim := p.storedTrim l, pgood := false, bus := [] })
  noteAvs t (bits (s.reg 0 pPMT t 0x050) 8 8)
    (sendBus t { rail := 0, mv := coreMv l (s1.tl t).pwr.trim, why := .wake }
      (sendBus t { rail := 1, mv := sramOf l, why := .wake } s1))

/-- A wake starts at step 1. -/
def startWake (t cause port : Nat) (s : State) : State :=
  let s := if t = 0 then { s with pins := { s.pins with xoEn := 2 } } else s
  powerUp t ((s.modTile t (fun x => { x with pow := .waking })).modPwr t (fun p =>
    { p with cause, port, attempt := 1, retryWait := false, late := none, off7 := false }))

/-- A Standby entry is cancelled before core isolation of the anchor (R466). -/
def cancelStandby (code : Nat) (s : State) : State :=
  if s.stage = 0 || s.asleep 0 then s
  else
    let ctl := s.sreg 0x03E80000 pPWR 0 0x040
    let s1 := { s.setSreg 0x03E80000 pPWR 0 0x040 (clrBit ctl 0) with stage := 0, lastCancel := code, stopping := false }
    let s2 := (s1.modTile 0 (fun x => { x with pow := if x.pow = .drying then .run else x.pow })).modPwr 0
      (fun p => { p with dryB := none })
    emitMgr 0x0C 4 [(16, 1, 2), (17, 1, code), (20, 8, s.time.tick)] (out (.ltr 0) (setErr pPWR 0 0 s2))

/-- A wake source acts on a tile (R457, R460): in Standby the anchor wakes first. -/
def wakeSource (t cause port : Nat) (s : State) : State :=
  let hold := fun (s : State) => s.modPwr t (fun p => { p with late := if p.late.isNone then some (cause, port) else p.late })
  if !s.hasTile t then s
  else
    let s0 := if cause ≤ 2 ∨ t ≠ 0 then cancelStandby 1 s else s
    let st := (s0.tl t).pow
    if st = .drying then (if t = 0 then s0 else hold s0)
    else if st = .drydown then
      if t ≠ 0 && s0.asleep 0 then
        let s1 := hold s0
        if (s1.tl 0).pow = .drydown then
          if (s1.tl 0).pwr.off7 then s1.modPwr 0 (fun p => { p with late := if p.late.isNone then some (cause, port) else p.late })
          else startWake 0 cause port s1
        else s1
      else if (s0.tl t).pwr.off7 then hold s0
      else startWake t cause port s0
    else if st = .off && cause == 5 then startWake t cause port s0
    else s0

/-! ## Manager accesses to a tile (R459, R549-R551, R562) -/

/-- Base of a page in manager BAR0. -/
def pageBase (ty inst : Nat) : Nat :=
  if ty < 0x10 then (ty - 1) * 0x1000
  else if ty < 0x20 then 0x1000000 + inst * 0xE00000 + (ty - 0x10) * 0x1000
  else if ty < 0x30 then 0x1100000 + inst / 16 * 0xE00000 + inst % 16 * 0x10000 + (if ty = pPLN then 0x8000 else (ty - 0x20) * 0x1000)
  else 0xF00000 + (ty - 0x30) * 0x1000

/-- A 32-bit write to a register of the page. -/
def regAcc (ty inst off v : Nat) : HeldAcc :=
  { bar := 0, off := pageBase ty inst + off, size := 4, write := true, value := v, part := false }

/-- Accesses to the tile wait: it sleeps, or is in steps 1 to 4 of a tile reset. -/
def State.accWaits (s : State) (t : Nat) : Bool := s.ready && s.hasTile t && (s.asleep t || (s.tl t).resetAt.isSome)

/-- An access waits at the anchor, behind those before it; for a sleeping tile it is a wake source. -/
def holdAcc (t : Nat) (a : HeldAcc) (s : State) : State :=
  let s1 := s.modPwr t (fun p => { p with held := p.held ++ [a] })
  if s1.asleep t then wakeSource t 3 0 s1 else s1

/-- A manager write to a tile's page or records: made now, or held for the tile. -/
def tileMmio (t : Nat) (a : HeldAcc) (u : State → State) (s : State) : State :=
  mmio 0 a.bar (fun s => if s.accWaits t then holdAcc t a s else u s) s

/-! ## Contexts, ready lists and engines (R400-R409) -/

/-- First context and size of a level's partition (R403). -/
def partition (level : Nat) : Nat × Nat :=
  if level ≥ 12 then (0, 512) else if level ≥ 4 then (512, 3328) else (3840, 256)

/-- The lowest free context of a level's partition. -/
def Tile.freeCtx (x : Tile) (level : Nat) : Option Nat :=
  let p := partition level
  (firstBelow p.2 (fun i => !(x.tasks.any (fun k => k.ctx == p.1 + i)))).map (p.1 + ·)

/-- Free contexts of a partition. -/
def Tile.freeCount (x : Tile) (level : Nat) : Nat :=
  let p := partition level
  p.2 - (x.tasks.filter (fun k => decide (p.1 ≤ k.ctx ∧ k.ctx < p.1 + p.2))).length

/-- Level at which a function's commands run (R404, R405). -/
def State.levelOf (s : State) (f : Nat) : Nat := if f = 0 then 12 else (s.fn f).share.prio

/-- A task enters a list at its tail; a tenant's task takes its function's class of now (R405, R406). -/
def putTask (t : Nat) (k : Task) (st : TaskSt) (s : State) : State :=
  let lv := if 4 ≤ k.level ∧ k.level ≤ 11 ∧ k.fn ≠ 0 then s.levelOf k.fn else k.level
  s.modTile t (fun x => { x with tasks := x.tasks.filter (fun y => y.ctx != k.ctx) ++
    [{ k with st, level := if st = .ready then lv else k.level }] })

/-- The head of the highest non-empty ready list (R406). -/
def Tile.nextTask (x : Tile) : Option Task :=
  ((List.range 16).reverse.filterMap (fun l => x.tasks.find? (fun k => k.level == l && k.st == .ready))).head?

/-- The lowest engine that is neither running a step nor reloading. -/
def Tile.idleEngine (x : Tile) : Option Nat :=
  firstBelow 12 (fun e => !(x.reload.contains e) && !(x.tasks.any (fun k => k.st == .running e)))

/-- Idle engines take ready tasks in ascending engine number (R407). -/
def takeTasks (t : Nat) : Nat → State → State
  | 0, s => s
  | n + 1, s =>
    let x := s.tl t
    if (x.pow = .run ∨ x.pow = .drying) ∧ s.fw.switch.map (·.tile) ≠ some t then
      match x.idleEngine, x.nextTask with
      | some e, some k => takeTasks t n (putTask t k (.running e) s)
      | _, _ => s
    else s


/-- A task becomes READY: DOZE ends, and an idle engine takes it. -/
def readyTask (t : Nat) (k : Task) (s : State) : State := takeTasks t 12 (leaveDoze t (putTask t k .ready s))

/-- Work creates a task, or waits for a context of its partition (R403). -/
def spawn (t level f : Nat) (w : Work) (s : State) : State :=
  match (s.tl t).freeCtx level with
  | some c => readyTask t { ctx := c, level, fn := f, work := w } s
  | none => setErr pTSK t 2 (s.modTile t (fun x =>
      { x with ctxq := insertBy (fun k => 15 - k.level) { ctx := 0, level, fn := f, work := w } x.ctxq }))

/-- A task ends; the first of the context queue that fits the freed partition takes its context. -/
def freeTask (t ctx : Nat) (s : State) : State :=
  let s1 := s.modTile t (fun x => { x with tasks := x.tasks.filter (fun k => k.ctx != ctx) })
  match (s1.tl t).ctxq.find? (fun k => decide ((partition k.level).1 ≤ ctx ∧ ctx < (partition k.level).1 + (partition k.level).2)) with
  | none => s1
  | some k => readyTask t { k with ctx } (s1.modTile t (fun x => { x with ctxq := x.ctxq.erase k }))

/-- The task of a command, wherever it is. -/
def State.taskOf (s : State) (w : Work) : Option (Nat × Task) :=
  ((List.range s.tiles).filterMap (fun t => ((s.tl t).tasks.find? (fun k => k.work == w)).map (fun k => (t, k)))).head?

/-- The thing a WAITING task awaited has arrived (R400). -/
def wakeTask (w : Work) (s : State) : State :=
  match s.taskOf w with
  | some (t, k) => if k.st = .waiting then readyTask t k s else s
  | none => s

/-- At a tick boundary every task whose wake tick has come enters its ready list, in delay-list order; DOZE ends, and idle
engines then choose from the lists (R407, R408). -/
def delaysDue (t : Nat) (s : State) : State :=
  let due := (s.tl t).tasks.filterMap (fun k => match k.st with
    | .delayed w => if w ≤ s.time.tick then some (w, k) else none
    | _ => none)
  if due = [] then s
  else takeTasks t 12 (leaveDoze t ((sortBy (·.1) due).foldl (fun s p => putTask t p.2 .ready s) s))

/-! ## The tile a command runs on (R31) -/

/-- Opcodes whose TARGET names a port, a node, a tile with a local number, or a point (R316, R317). -/
def targetTile (opc target : Nat) : Nat :=
  if opc ∈ [0x01, 0x02] then bits target 4 3
  else if opc ∈ [0x11, 0x19, 0x21, 0x22, 0x23, 0x24] then bits target 16 3
  else if opc ∈ [0x08, 0x09, 0x0B] then bits target 20 3
  else if opc = 0x10 then bits target 16 3
  else 0

/-- Tile of an entry's work: its target's if that is populated, else the anchor. -/
def State.workTile (s : State) (e : Entry) : Nat :=
  let t := targetTile e.opc e.target
  if s.hasTile t then t else 0

/-! ## Mesh paths (R34-R38) -/

/-- Bit of link `l` between tiles `i < j` in GLB_MESHSTAT (R38). -/
def meshBit (i j l : Nat) : Nat := 2 * (i * (15 - i) / 2 + (j - i - 1)) + l

/-- The link that carries the time distribution and the reflex traffic of a pair: link 0 while it is up, else link 1,
as its bit of GLB_MESHSTAT (R34, R35). -/
def State.pairLink (s : State) (i j : Nat) : Option Nat :=
  [meshBit (min i j) (max i j) 0, meshBit (min i j) (max i j) 1].find? (fun b => bit s.mesh.toNat b)

/-- A link of the pair is up. -/
def State.pairUp (s : State) (i j : Nat) : Bool := (s.pairLink i j).isSome

/-- The tile's mesh endpoint is powered: it is not in DRYDOWN, WAKING or OFF (R49). -/
def State.meshOn (s : State) (t : Nat) : Bool := s.hasTile t && !s.asleep t && (s.tl t).pow != .off

/-- The tile that relays the traffic of a pair whose links are down: the lowest with a link up to each (R36). -/
def State.relayOf (s : State) (i j : Nat) : Option Nat :=
  firstBelow s.tiles (fun k => k != i && k != j && s.meshOn k && s.pairUp i k && s.pairUp k j)

/-- The links that time distribution and reflex traffic from one tile to another pass, in order; none where there is no
path (R34-R37). -/
def State.route (s : State) (i j : Nat) : List Nat :=
  if s.pairUp i j then (s.pairLink i j).toList
  else match s.relayOf i j with
    | some k => (s.pairLink i k).toList ++ (s.pairLink k j).toList
    | none => []

/-- A path between two tiles: a link of their own, or one relay (R34-R36). -/
def State.pathTo (s : State) (i j : Nat) : Bool := s.pairUp i j || (s.relayOf i j).isSome

end Sys2Proof.Machine
end

