-- ==== Sys2Proof/Machine/Rings.lean ====
section
/-!
DEFINITION. Rings: doorbells, ring enables, fetch, submission entries, held completions and waiting events
(spec/08_rings_commands_handles.md, R290-R315).
-/
namespace Sys2Proof.Machine

/-- Tenant `f` is reachable on the bus; the manager always is (R369). -/
def State.reach (s : State) (f : Nat) : Bool :=
  f == 0 || (f ≤ 512 && s.vfEnable && s.vfMse && f ≤ s.numVfs)

/-- A register write of `f` to its own pages takes effect: the package is READY (R523), the function is reachable,
in D0 and in service (R369, R382, R467). -/
def State.pagesOpen (s : State) (f : Nat) : Bool := s.ready && s.reach f && (s.fn f).dstate == 0 && s.alive f

/-- The queue page of a function: ADM of the manager, DBL of a tenant (R290, R556). -/
def qPage (f : Nat) : Nat := if f = 0 then pADM else pDBL
/-- A queue number the function has (R290). -/
def hasQueue (f kind q : Nat) : Bool := if kind = 2 then q < 2 else if f = 0 then q == 0 else q < 8

def State.ring (s : State) (f kind q : Nat) : Ring :=
  if kind = 0 then s.sqR f q else if kind = 1 then s.cqR f q else if kind = 2 then s.eqR f q else (s.fn f).bulk.ring

def State.modRing (s : State) (f kind q : Nat) (u : Ring → Ring) : State :=
  if kind = 0 then s.modSq f q u else if kind = 1 then s.modCq f q u else if kind = 2 then s.modEq f q u
  else s.modFn f (fun x => { x with bulk := { x.bulk with ring := u x.bulk.ring } })

/-! ## Doorbells (R294-R300) -/

/-- A doorbell that a function's page takes cancels a Standby entry (R466). -/
def doorbell (f : Nat) (s : State) : State := if s.pagesOpen f then cancelStandby 2 s else s

/-- Entries of a ring from index `a` up to index `b`, around the ring. -/
def Ring.span (r : Ring) (a b : Nat) : Nat := (b + r.size - a) % r.size

/-- A tail doorbell (R296, R297, R299). -/
def sqTail (f q v : Nat) (s : State) : State :=
  if !(s.pagesOpen f && hasQueue f 0 q) then s
  else
    let r := s.sqR f q
    if !r.enable then setErr (qPage f) f 0 s
    else if r.stopped then s
    else if v ≥ r.size then ringStop f 0 q 3 v s
    else if r.span r.tail v > r.size - 1 - r.span r.head r.tail then ringStop f 0 q 1 v s
    else s.modSq f q (fun r => { r with tail := v })

/-- Entries a head doorbell of value `v` frees: a full ring whose head comes back to the same index frees all
(R298). -/
def Ring.freedBy (r : Ring) (v : Nat) : Nat :=
  let n := r.span r.tail v
  if n = 0 ∧ r.unfreed = r.size then r.size else n

/-- A head doorbell of a CQ (kind 1) or EQ (kind 2) (R296, R298, R299). -/
def ringHead (f kind q v : Nat) (s : State) : State :=
  if !(s.pagesOpen f && hasQueue f kind q) then s
  else
    let r := s.ring f kind q
    if !r.enable then setErr (qPage f) f 0 s
    else if r.stopped then s
    else if v ≥ r.size then ringStop f kind q 3 v s
    else if r.freedBy v > r.unfreed then ringStop f kind q 4 v s
    else s.modRing f kind q (fun r => { r with tail := v, unfreed := r.unfreed - r.freedBy v })

def execCqHeadDoorbell (f q : Nat) (v : BitVec 16) (s : State) : Res := .next (mmio f 0 (fun s => doorbell f (ringHead f 1 q v.toNat s)) s)
def execEqHeadDoorbell (f e : Nat) (v : BitVec 16) (s : State) : Res := .next (mmio f 0 (fun s => doorbell f (ringHead f 2 e v.toNat s)) s)

/-! ## Configuration of a ring (R292, R294) -/

/-- Page offset of a ring's CFG register (R291, R347). -/
def cfgOff (kind q : Nat) : Nat :=
  if kind = 0 then 0x108 + 16 * q else if kind = 1 then 0x188 + 16 * q else if kind = 2 then 0x208 + 16 * q else 0x058

/-- The word of a ring's CFG register. -/
def Ring.cfgWord (kind : Nat) (r : Ring) : Nat :=
  r.log2 + (if kind = 0 then r.cq * 256 else r.vector * 256 + b2n r.irqen * 4096) + b2n r.enable * 2 ^ 31

/-- The fields of CFG other than ENABLE, clamped in their order (R292, R526, R527). -/
def cfgFields (ty f kind q v : Nat) (s : State) : State :=
  let off := cfgOff kind q
  let l := bits v 0 5
  let lc := if l < 4 then 4 else if l > 16 then 16 else l
  let s1 := if lc = l then s else logClamp ty f off 0 s
  if kind = 0 then
    let c := bits v 8 3
    let s2 := if f = 0 ∧ c ≠ 0 then logClamp ty f off 8 s1 else s1
    s2.modRing f kind q (fun r => { r with log2 := lc, cq := if f = 0 then 0 else c })
  else
    let ve := bits v 8 4
    let bad := decide (ve ≥ s.vectors f) && bit v 12
    let s2 := if bad then logClamp ty f off 8 s1 else s1
    s2.modRing f kind q (fun r => { r with log2 := lc, vector := ve, irqen := bit v 12 && !bad })

/-- The ring starts at index 0 on lap 1 (R294, R295). -/
def Ring.start (r : Ring) : Ring :=
  { r with enable := true, head := 0, tail := 0, unfreed := 0, phase := true, stopped := false, reason := 0,
           latched := 0, latchPhase := false, draining := false, drainTo := 0 }

/-- The fields of a CFG word other than ENABLE; reserved bits are ignored (R292, R527). -/
def cfgBits (kind v : Nat) : Nat :=
  bits v 0 5 + (if kind = 0 then bits v 8 3 * 256 else bits v 8 5 * 256)

/-- A write that clears ENABLE alone: every other field as CFG reads. -/
def Ring.clearsAlone (kind v : Nat) (r : Ring) : Bool :=
  cfgBits kind v == cfgBits kind (r.cfgWord kind) && !bit v 31

/-- ENABLE is cleared: a ring that fetched entries still use drains first (R293, R300, R320 case 4). No submission entry
uses a BCQ. -/
def ringOff (f kind q : Nat) (s : State) : State :=
  let x := s.fn f
  let upto := x.nextEntry + x.fetching.length
  s.modRing f kind q (fun r =>
    { r with enable := false, drainTo := upto, draining := decide (kind < 3) && x.busyRing kind q upto })

/-- A write of a ring's CFG (R294); CFGRUN is bit 1 of the page's ERR. -/
def ringCfg (f kind q v : Nat) (s : State) : State :=
  let ty := if kind = 3 then pBMC else qPage f
  let r := s.ring f kind q
  if r.enable then
    if r.clearsAlone kind v && !(kind == 1 && (List.range 8).any (fun i => (s.sqR f i).enable && (s.sqR f i).cq == q))
    then ringOff f kind q s
    else setErr ty f 1 s
  else if r.draining then setErr ty f 1 s
  else
    let s1 := cfgFields ty f kind q v s
    if bit v 31 then s1.modRing f kind q Ring.start else s1

/-- The function has ring `q` of `kind` (0 SQ, 1 CQ, 2 EQ, 3 BCQ of a tenant). -/
def hasRing (f kind q : Nat) : Bool := if kind = 3 then f != 0 && q == 0 else kind < 3 && hasQueue f kind q

/-- RING_ENABLE: a CFG write with ENABLE 1 (R294). -/
def execRingEnable (f kind q : Nat) (v : W32) (s : State) : Res :=
  .next (mmio f 0 (fun s => if s.pagesOpen f && hasRing f kind q && bit v.toNat 31 then ringCfg f kind q v.toNat s else s) s)

/-- RING_DISABLE: a CFG write with ENABLE 0 to an enabled ring (R294). -/
def execRingDisable (f kind q : Nat) (v : W32) (s : State) : Res :=
  .next (mmio f 0 (fun s => if s.pagesOpen f && hasRing f kind q && !bit v.toNat 31 && (s.ring f kind q).enable
    then ringCfg f kind q v.toNat s else s) s)

/-- A write of a ring's BASE, bits [11:0] cleared with the clamp logged (R292, R294). -/
def ringBase (f kind q v : Nat) (s : State) : State :=
  let ty := if kind = 3 then pBMC else qPage f
  let r := s.ring f kind q
  if r.enable || r.draining then setErr ty f 1 s
  else
    let s1 := if v % 4096 = 0 then s else logClamp ty f (cfgOff kind q - 8) 0 s
    s1.modRing f kind q (fun r => { r with base := BitVec.ofNat 64 (v / 4096 * 4096) })

/-! ## Fetch (R301, R302) -/

/-- The SQ has an entry the device may fetch: those before a refused doorbell still run (R300). -/
def Ring.fetchable (r : Ring) : Bool :=
  r.enable && r.head != r.tail && (!r.stopped || r.reason == 1 || r.reason == 3)

/-- The SQ whose turn it is, round-robin after the one served last (R301); an SQ whose fetch is in flight is passed
by. -/
def State.nextSq (s : State) (f : Nat) : Option Nat :=
  ((List.range 8).map (fun i => ((s.fn f).sqLast + 1 + i) % 8)).find?
    (fun q => hasQueue f 0 q && (s.sqR f q).fetchable && ((s.fn f).fetch q).isNone)

/-- The function may fetch now (R301, R308, R384, R541). -/
def State.mayFetch (s : State) (f : Nat) : Bool :=
  let x := s.fn f
  s.ready && !s.paused && (f == 0 || x.st == .active) && decide (x.entries.length + x.fetching.length < s.credits f) &&
    !x.fetchPause && !(f == 0 && bit (s.reg 1 pADM 0 0x00C) 1)

/-- SQ_FETCH: the anchor reads the next entry of the SQ whose turn it is (R301). -/
def sqFetch (f : Nat) (s : State) : State :=
  if !s.mayFetch f then s
  else match s.nextSq f with
    | none => s
    | some q =>
      let r := s.sqR f q
      if s.dmaOk f then
        (out (.dmaRead f (r.base.toNat + 64 * r.head) 64) (engineWork 0 s)).modFn f
          (fun x => { x with fetching := nput none x.fetching q (some r.head), sqLast := q })
      else ringStop f 0 q 7 r.head (dmaRefused f s)

def execSqFetch (f : Nat) (s : State) : Res := .next (sqFetch f s)

/-- Opcodes of R316, open to every function. -/
def tenantOps : List Nat := [0x00, 0x01, 0x02, 0x08, 0x09, 0x0A, 0x0B, 0x0C, 0x10, 0x11, 0x18, 0x19, 0x1F]
/-- Opcodes of R317, for the manager alone. -/
def managerOps : List Nat :=
  [0x20, 0x21, 0x22, 0x23, 0x24, 0x30, 0x31, 0x32, 0x33, 0x34, 0x35, 0x36, 0x40, 0x41, 0x42, 0x43, 0x44, 0x48, 0x50]

/-- The entry's fields from its 64 bytes (R303). -/
def parseEntry (id sq : Nat) (d : List Byte) : Entry :=
  { id, sq, opc := byteField d 0 1, fence := bit (byteField d 1 1) 1, cid := byteField d 2 2,
    target := byteField d 4 4, addr := byteField d 8 8, count := byteField d 16 4, p0 := byteField d 20 4,
    p1 := byteField d 24 8, listAddr := byteField d 32 8, listMax := byteField d 40 2, p2 := byteField d 48 8 }

/-- A command on points waits for the function's POINT_CONFIG whose table is still to arrive, and one that claims or sets
points for its POINT_FREE still to commit, so that commands naming one granule take effect in their order
(R302; DESIGN CHOICE, log entry 115). -/
def Fn.pointsBusy (x : Fn) (e : Entry) : Bool :=
  (0x08 ≤ e.opc && e.opc ≤ 0x0B) &&
  (x.entries.any (fun y => y.reading && !y.ended && y.opc == 0x0A) ||
    ((e.opc == 0x08 || e.opc == 0x0A) && x.handles.any (fun h => !h.done && (match h.op with | .pointFree _ => true | _ => false))))

/-- The entry may start: it has not started, every earlier entry of its SQ has, and a FENCE waits until each of them
has written its completion entry (R302). -/
def Fn.canStart (x : Fn) (e : Entry) : Bool :=
  !e.ended && !e.reading && !x.pointsBusy e &&
  !(x.entries.any (fun y => y.sq == e.sq && decide (y.id < e.id) && (e.fence || (!y.ended && !y.reading))))

/-- The status of an entry whose opcode its function may not use (R315). -/
def badOpcode (f : Nat) (e : Entry) : Option (Nat × Nat) :=
  if e.opc ∈ tenantOps then none
  else if e.opc ∈ managerOps then (if f = 0 then none else some (0x60, 0))
  else some (0x01, e.opc)

/-- Complete every startable entry with an undefined or forbidden opcode (R315). -/
def rejectBad (f : Nat) (s : State) : State :=
  (s.fn f).entries.foldl (fun s e =>
    match badOpcode f e with
    | some (st, d) => if (s.fn f).canStart e then finish f e false 0 st d [] s else s
    | none => s) s

/-- The fetch head moves on. -/
def Ring.advance (r : Ring) : Ring :=
  if r.head + 1 < r.size then { r with head := r.head + 1 } else { r with head := 0, phase := !r.phase }

/-- The tile takes no new engine work: it is going to sleep, asleep, waking, or in a tile reset (R456 step 1, R459,
R518). -/
def State.holdsWork (s : State) (t : Nat) : Bool := (s.tl t).pow == .drying || s.asleep t || (s.tl t).resetAt.isSome

/-- A fetched entry becomes a task of its tile, at its function's level; work for a sleeping tile waits at the anchor
and wakes it (R398, R459). -/
def startTask (f : Nat) (e : Entry) (s : State) : State :=
  let t := s.workTile e
  if s.holdsWork t then wakeSource t 4 0 s
  else if (s.tl t).pow = .off then s
  else spawn t (s.levelOf f) f (.command f e.id) s

/-- The admin SQ0 has had an entry fetched (R497). -/
def noteFetch (f : Nat) (s : State) : State :=
  if f = 0 then { s with fw := { s.fw with adminFetch := some s.time.tick } } else s

/-- SQ_ENTRY_READ_DONE: the entry's bytes, or an error (1 UR, 2 CA, 3 poisoned); phase check (R295, R299). -/
def sqEntryReadDone (f q err : Nat) (d : List Byte) (s : State) : State :=
  match (s.fn f).fetch q with
  | none => s
  | some i =>
    let s0 : State := s.modFn f (fun x => { x with fetching := nput none x.fetching q none })
    let r := s.sqR f q
    if !s.alive f then s0
    else if err ≠ 0 then settleDrain f (ringStop f 0 q 5 i s0)
    else if bit (byteField d 1 1) 0 != r.phase then settleDrain f (ringStop f 0 q 2 i s0)
    else
      let e := parseEntry (s.fn f).nextEntry q d
      noteFetch f <| rejectBad f (startTask f e ((s0.modSq f q Ring.advance).modFn f
        (fun x => { x with entries := x.entries ++ [e], nextEntry := x.nextEntry + 1 })))

def execSqEntryReadDone (f q err : Nat) (d : List Byte) (s : State) : Res := .next (sqEntryReadDone f q err d s)

/-- No completion of the entry's read within 10 ms: REASON 6 (R299). -/
def sqEntryTimeout (f q : Nat) (s : State) : State :=
  match (s.fn f).fetch q with
  | none => s
  | some i =>
    settleDrain f (ringStop f 0 q 6 i (s.modFn f (fun x => { x with fetching := nput none x.fetching q none })))

/-! ## Held completions and waiting events (R308, R309) -/

/-- Finished commands enter the holding buffer, or their CQ, as it frees (R308 rule 5). -/
def admitFinished : Nat → Nat → State → State
  | 0, _, s => s
  | k + 1, f, s =>
    match (s.fn f).finished with
    | [] => s
    | c :: r =>
      if (s.fn f).hold.length < 64 && !s.paused then
        admitFinished k f (complete f c (s.modFn f (fun x => { x with finished := r })))
      else s

/-- Held completions of CQ `q` are written in order while it has room (R308 rule 3). -/
def releaseHeld : Nat → Nat → Nat → State → State
  | 0, _, _, s => s
  | k + 1, f, q, s =>
    match (s.fn f).hold.find? (·.cq == q) with
    | none => s
    | some c =>
      if (s.cqR f q).running && decide (0 < (s.cqR f q).room) && s.dmaOk f then
        releaseHeld k f q (writeCompletion f c (s.modFn f (fun x => { x with hold := x.hold.filter (·.id != c.id) })))
      else s

/-- HELD_COMPLETION_RELEASE (R308). -/
def heldRelease (f q : Nat) (s : State) : State :=
  if !s.alive f || s.paused then s
  else
    let s1 := releaseHeld 64 f q s
    let s2 := admitFinished (s1.fn f).finished.length f s1
    s2.modFn f (fun x => { x with fetchPause := x.fetchPause && decide (48 < x.hold.length) })

def execHeldCompletionRelease (f q : Nat) (s : State) : Res := .next (heldRelease f q s)

/-- Events kept while the anchor's tile was resetting are written (R518). -/
def releaseEvents (s : State) : State :=
  if s.paused then s
  else s.evHeld.foldl (fun s p => emit p.1 p.2 s) { s with evHeld := [] }

/-- WAITING_EVENT_RELEASE: an overflow event owed, then waiting handle completions (R309). -/
def waitingRelease (f q : Nat) (s : State) : State :=
  if !s.alive f || s.paused || !(s.eqR f q).running || !s.dmaOk f then s
  else
    let s1 := payOverflow f q s
    if q = 0 then flushAll f s1 else s1

def execWaitingEventRelease (f q : Nat) (s : State) : Res := .next (waitingRelease f q s)

/-- HANDLE_COMPLETION: the ended operation whose completion is next is written to EQ0 (R311, R312). -/
def handleCompletion (f seq : Nat) (s : State) : State :=
  if (s.fn f).waiting.head? = some seq then flushHandles 1 f s else s

def execHandleCompletion (f seq : Nat) (s : State) : Res := .next (handleCompletion f seq s)

/-! ## Running a command -/

/-- Entry `e` of function `f`, startable and with opcode `opc`. -/
def State.entry? (s : State) (f e opc : Nat) : Option Entry :=
  match (s.fn f).entries.find? (·.id == e) with
  | some x => if x.opc = opc ∧ (s.fn f).canStart x ∧ badOpcode f x = none then some x else none
  | none => none

/-- The entry's work is held at the anchor for its tile (R456 step 1, R459). -/
def State.heldWork (s : State) (f : Nat) (e : Entry) : Bool :=
  s.holdsWork (s.workTile e) && (s.taskOf (.command f e.id)).isNone

/-- The populated tile that the entry's TARGET names is OFF (R464). -/
def State.onDeadTile (s : State) (e : Entry) : Option Nat :=
  let t := targetTile e.opc e.target
  if s.hasTile t && (s.tl t).pow == .off then some t else none

/-- Start a command row on the outstanding entry `e` of `f`; with no such entry there is no such command. -/
def cmd (f e opc : Nat) (run : Entry → State → State) (s : State) : State :=
  if s.ready && s.alive f && !s.paused then
    match s.entry? f e opc with
    | some x =>
      match s.onDeadTile x with
      | some t => finish f x false 0 0xA0 t [] s
      | none => if s.heldWork f x then s else run x s
    | none => s
  else s

/-- Mark an entry as waiting for the read of its host structure. -/
def markReading (f : Nat) (e : Entry) (seq : Nat) (s : State) : State :=
  s.modFn f (fun x =>
    { x with entries := x.entries.map (fun y => if y.id = e.id then { y with reading := true, seq } else y) })

/-- Issue the read of the command's host structure, or end the command with 0x22 (R315, R381). -/
def readStruct (f : Nat) (e : Entry) (len : Nat) (s : State) : State :=
  let r := dmaRead f e.addr len s
  if r.2 then markReading f e 0 r.1 else finish f e false 0 0x22 0 [] r.1

/-- A long command whose submission fields are checked: the handle's completion entry, or 0x05 (R312). -/
def startLong (f : Nat) (e : Entry) (op : LongOp) (ready : Bool) (recs : List ListRec)
    (k : Nat → State → State) (s : State) : State :=
  match newHandle f e.cid e.opc op ready e.listAddr e.listMax recs.length s with
  | none => finish f e false 0 0x05 0 [] s
  | some (seq, s1) =>
    k seq (finish f e true (handleOf f seq) 0 0 recs (s1.modHandle f seq (fun h => { h with eid := e.id })))

/-- Command 0x00 (R316). -/
def execNop (f e : Nat) (s : State) : Res := .next (cmd f e 0x00 (fun x s => finish f x false 0 0 0 [] s) s)

/-- A clamp of a submission field (R315). -/
def clampRec (field orig stored : Nat) : ListRec :=
  { item := 0xFFFFFFFF, leftOut := false, status := 0, field, orig, stored }

/-- A clamp of a field in table entry `item`. -/
def clampItem (item field orig stored : Nat) : ListRec := { item, leftOut := false, status := 0, field, orig, stored }

/-- A left-out record (R315). -/
def leftOut (item status detail : Nat) : ListRec := { item, leftOut := true, status, field := detail, orig := 0, stored := 0 }

end Sys2Proof.Machine
end

