-- ==== Sys2Proof/Machine/Irq.lean ====
section
/-!
DEFINITION. Interrupts: entry, commit and exit of the two classes, the MSI-X table and its controls
(spec/13_interrupts.md).
-/
namespace Sys2Proof.Machine

/-- Fast classes in ENTRY, of all functions. -/
def State.fastEntries (s : State) : List Nat := (s.fns.filter (fun p => p.2.fast.st == .entry)).map (·.1)

/-- ICG_QPEAK and QBOUND on `n` fast commits found ahead (R429, R443). -/
def noteQueue (n : Nat) (s : State) : State :=
  let p := min n 1023
  let s1 := s.setReg 0 pICG 0 0x078 (max p (s.reg 0 pICG 0 0x078))
  if n > 100 then setErr pICG 0 0 s1 else s1

/-- INTERRUPT_ENTRY: an IDLE class with an eligible source enters ENTRY and catches its sources (R424, R425). -/
def interruptEntry (f : Nat) (fast : Bool) (s : State) : State :=
  if ((s.fn f).cls fast).st = .idle ∧ s.eligible f fast ≠ [] then
    let l := s.eligible f fast
    let s1 := if fast then noteQueue s.fastEntries.length s else s
    { s1.modFn f (fun x => x.setCls fast { catchSrcs l (x.cls fast) with st := .entry, stamp := s.stamp }) with
      stamp := s.stamp + 1 }
  else s

def execInterruptEntry (f : Nat) (fast : Bool) (s : State) : Res := .next (interruptEntry f fast s)

/-- Some class in ENTRY goes before this one: fast before normal, then the order of ENTRY, then the lower
function (R427). -/
def State.ahead (s : State) (f : Nat) (fast : Bool) : Bool :=
  let k := ((s.fn f).cls fast).stamp
  s.fns.any (fun p =>
    (p.2.fast.st == .entry && decide (p.2.fast.stamp < k)) ||
    (!fast && p.2.norm.st == .entry && decide (p.2.norm.stamp < k)))

/-- The bits of a word, highest first, below `n`. -/
def bitsDown (n w : Nat) : List Nat := (List.range n).reverse.filter (fun i => bit w i)

/-- The highest source of CAUSE whose vector may be used, and the sources that return to PENDING (R426). -/
def commitPick (s : State) (f : Nat) (fast : Bool) : Option Nat × List Nat :=
  let c := (s.fn f).cls fast
  let l := bitsDown (srcCount fast) c.cause.toNat
  let ok := fun i => s.fnMayEnter f && s.vecOk f (s.srcVector f fast i)
  match l.find? ok with
  | none => (none, l)
  | some i =>
    -- the vectors found unusable before it send back every source of CAUSE that uses them
    let badv := (l.takeWhile (fun j => j != i)).map (fun j => s.srcVector f fast j)
    (some i, l.filter (fun j => badv.contains (s.srcVector f fast j)))

/-- CAUGHT back to PENDING for the listed sources. -/
def uncatch (l : List Nat) (c : IntClass) : IntClass :=
  l.foldl (fun c i =>
    { c with pend := BitVec.ofNat 64 (setBit c.pend.toNat i), cause := BitVec.ofNat 64 (clrBit c.cause.toNat i) }) c

/-- The commit point: the MSI-X write of the highest source of CAUSE (R426). -/
def interruptCommit (f : Nat) (fast : Bool) (s : State) : State :=
  let c := (s.fn f).cls fast
  if c.st ≠ .entry then s
  else if !fast && (s.fn f).fast.st == .entry then
    s.modFn f (fun x => { x with norm := { x.norm with waitFast := true } })
  else if s.ahead f fast then s
  else
    let s0 := s.joinEntry f fast
    let p := commitPick s0 f fast
    match p.1 with
    | none =>
      s0.modFn f (fun x => x.setCls fast { uncatch p.2 (x.cls fast) with st := .idle, waitFast := false })
    | some i =>
      let v := s0.srcVector f fast i
      let e := nget {} (s0.fn f).msix v
      let s1 := out (.msix f e.addr.toNat e.data.toNat) s0
      let s2 := s1.setReg 0 pICG 0 0x070 (satAdd (2 ^ 64 - 1) (s1.reg 0 pICG 0 0x070) 1)
      s2.modFn f (fun x =>
        let c := uncatch p.2 (x.cls fast)
        x.setCls fast { c with st := .service, topsrc := i, vector := v, waitFast := false,
                               entries := satAdd (2 ^ 32 - 1) c.entries 1 })

def execInterruptCommit (f : Nat) (fast : Bool) (s : State) : Res := .next (interruptCommit f fast s)

/-- Exit of a class in SERVICE on an acknowledge of `v`: acknowledged sources become IDLE, or PENDING if
CAUGHT-AGAIN; the others return to PENDING (R428); a function that is not ACTIVE holds the class (R432). -/
def IntClass.exit (hold : Bool) (v : W64) (c : IntClass) : IntClass :=
  { c with pend := c.pend ||| (c.cause &&& ~~~v), cause := 0, st := if hold then .held else .idle }

/-- The function's interrupts are held: from the acceptance of a freeze to the thaw (R432). -/
def State.holdsInts (s : State) (f : Nat) : Bool :=
  f != 0 && ((s.fn f).st == .freezing || (s.fn f).st == .frozen)

/-- A write of an ACK register (R428); ACKIDLE is bit 0 of the bank's ERR. -/
def ackWrite (f : Nat) (fast : Bool) (v : W64) (s : State) : State :=
  if !s.pagesOpen f then s
  else if ((s.fn f).cls fast).st ≠ .service then setErr (if fast then pFIB else pNIB) f 0 s
  else s.modFn f (fun x => x.setCls fast ((x.cls fast).exit (s.holdsInts f) v))

/-- FIB_ACK: 64-bit writes only; a 32-bit write sets PARTWR (R440). -/
def execFibAckWrite (f : Nat) (v : W64) (whole : Bool) (s : State) : Res :=
  .next (mmio f 0 (fun s => if whole then ackWrite f true v s else if s.pagesOpen f then setErr pFIB f 30 s else s) s)

def execNibAckWrite (f : Nat) (v : W32) (s : State) : Res := .next (mmio f 0 (fun s => ackWrite f false (v.setWidth 64) s) s)

/-- A class in ENTRY is abandoned: its CAUSE sources return to PENDING (R432). -/
def IntClass.abandon (c : IntClass) : IntClass :=
  { c with pend := c.pend ||| c.cause, cause := 0, waitFast := false }

/-- The classes of a function whose freeze is accepted (R432). -/
def IntClass.hold (c : IntClass) : IntClass :=
  match c.st with
  | .entry => { c.abandon with st := .held }
  | .idle => { c with st := .held }
  | _ => c

/-- The classes of a thawed function (R432). -/
def IntClass.release (c : IntClass) : IntClass := if c.st = .held then { c with st := .idle } else c

/-- Write of an MSI-X table entry's word: byte offset `off` in the entry, of `size` bytes (R420, R431). -/
def MsixEntry.write (off size : Nat) (v : W64) (e : MsixEntry) : MsixEntry :=
  let lo := v.toNat % 2 ^ 32
  let hi := v.toNat / 2 ^ 32
  if off = 0 then
    if size = 8 then { e with addr := v } else { e with addr := BitVec.ofNat 64 (setBits e.addr.toNat 0 32 lo) }
  else if off = 4 then { e with addr := BitVec.ofNat 64 (setBits e.addr.toNat 32 32 lo) }
  else if off = 8 then
    if size = 8 then { e with data := BitVec.ofNat 32 lo, masked := bit hi 0 } else { e with data := BitVec.ofNat 32 lo }
  else { e with masked := bit lo 0 }

/-- MSIX_TABLE_WRITE: used from the next commit; an unmasked source becomes eligible (R430, R431). -/
def msixTableWrite (f i off size : Nat) (v : W64) (s : State) : State :=
  if s.pagesOpen f && decide (i < 16) && ((size == 4 && decide (off < 16) && off % 4 == 0) || (size == 8 && (off == 0 || off == 8)))
  then ((s.modFn f (fun x => { x with msix := nmod {} x.msix i (MsixEntry.write off size v) })).joinEntry f true).joinEntry f false
  else s

def execMsixTableWrite (f k off size : Nat) (v : W64) (s : State) : Res := .next (mmio f 0 (fun s => msixTableWrite f k off size v s) s)

/-- MSIX_CONTROL_WRITE: MSI-X Enable and Function Mask of the capability (R420, R430). -/
def msixControlWrite (f : Nat) (en mask : Bool) (s : State) : State :=
  if s.reach f then
    ((s.modFn f (fun x => { x with msixEn := en, fnMask := mask })).joinEntry f true).joinEntry f false
  else s

def execMsixControlWrite (f : Nat) (en mask : Bool) (s : State) : Res := .next (msixControlWrite f en mask s)

/-- The PBA bit of a vector: a PENDING source is masked on it (R430). -/
def State.pbaBit (s : State) (f v : Nat) : Bool :=
  let x := s.fn f
  let wait := fun (fast : Bool) => (List.range (srcCount fast)).any (fun i =>
    bit (x.cls fast).pend.toNat i && !bit (x.cls fast).cause.toNat i && s.srcVector f fast i == v)
  x.msixEn && (x.fnMask || (nget {} x.msix v).masked) && (wait true || wait false)

/-- STATE.MASKED of a class: a PENDING source waits on a masked vector (R430, R442). -/
def State.maskedBit (s : State) (f : Nat) (fast : Bool) : Bool :=
  let x := s.fn f
  (List.range (srcCount fast)).any (fun i =>
    bit (x.cls fast).pend.toNat i && !bit (x.cls fast).cause.toNat i &&
      (x.fnMask || (nget {} x.msix (s.srcVector f fast i)).masked))

def ClsState.code : ClsState → Nat
  | .idle => 0 | .entry => 1 | .service => 2 | .held => 3

/-- FIB_STATE or NIB_STATE (R442). -/
def State.clsWord (s : State) (f : Nat) (fast : Bool) : Nat :=
  let c := (s.fn f).cls fast
  c.st.code + c.topsrc * 4 + c.vector * 256 + b2n (s.maskedBit f fast) * 2 ^ 12 +
    b2n (s.vectors f == 0) * 2 ^ 13 + b2n (!fast && c.waitFast) * 2 ^ 14

/-- The interrupt state of a function at the initiation of its reset: everything clears (R433). -/
def Fn.resetInts (x : Fn) : Fn :=
  { x with fast := {}, norm := {}, latches := [], vecmap := [], msix := [], msixEn := false, fnMask := false }

end Sys2Proof.Machine
end

