-- ==== Sys2Proof/Machine/Pim.lean ====
section
/-!
DEFINITION. Pim: point records, granules, point setup, read rights, image publishing and output images
(spec/06_process_image.md).
-/
namespace Sys2Proof.Machine

/-! ## The record memory (R223, R259) -/

/-- The canonical form of the process image: addresses rise strictly, no entry is the zero that an unlisted
address reads as. -/
abbrev Memory.wf (m : List Host.Cell) : Prop := nwf 0#8 m = true

/-- One byte of the process image; records not listed read as zero (R223, R517). -/
def memGet (m : List Host.Cell) (a : Nat) : Byte := nget 0#8 m a
def memPut (m : List Host.Cell) (a : Nat) (b : Byte) : List Host.Cell := nput 0#8 m a b

/-- `n` bytes from address `a`, little-endian. -/
def memRead (m : List Host.Cell) (a : Nat) : Nat → Nat
  | 0 => 0
  | n + 1 => (memGet m a).toNat + 256 * memRead m (a + 1) n

/-- Write of the `n` little-endian bytes of `v` at address `a`. -/
def memWrite (m : List Host.Cell) (a v : Nat) : Nat → List Host.Cell
  | 0 => m
  | n + 1 => memWrite (memPut m a (BitVec.ofNat 8 v)) (a + 1) (v / 256) n

/-- The 64-bit record of point `p`. -/
def State.record (s : State) (p : Nat) : Nat := memRead s.pim (8 * p) 8
/-- The fields of a record word (R223). -/
def recVal (w : Nat) : Nat := bits w 0 32
def recAge (w : Nat) : Nat := bits w 32 16
def recQ (w : Nat) : Nat := bits w 48 8
def recSeq (w : Nat) : Nat := bits w 56 8
def mkRec (v age q seq : Nat) : Nat := v % 2 ^ 32 + (age % 2 ^ 16) * 2 ^ 32 + (q % 256) * 2 ^ 48 + (seq % 256) * 2 ^ 56

/-- Store a whole record as one unit (R223). -/
def State.setRecord (s : State) (p w : Nat) : State := { s with pim := memWrite s.pim (8 * p) w 8 }
def State.point (s : State) (p : Nat) : Point := nget {} s.points p
def State.modPoint (s : State) (p : Nat) (u : Point → Point) : State := { s with points := nmod {} s.points p u }

/-- The record changed: publishing sees it (R250). -/
def noteChange (p : Nat) (s : State) : State :=
  { s.modPoint p (fun x => { x with chg := s.chg + 1 }) with chg := s.chg + 1 }

/-- Owner code of the granule of point `p`: 0 none, f + 1 function f, f + 1025 the life of f before its reset (R383). -/
def State.ownerCode (s : State) (p : Nat) : Nat := nget 0 s.owners (p / 64)
def State.owns (s : State) (f p : Nat) : Bool := s.ownerCode p == f + 1
def State.allocated (s : State) (p : Nat) : Bool := s.ownerCode p != 0
/-- The function whose outputs and inputs the granule's points are, whichever life of it owns them. -/
def State.ownerFn (s : State) (p : Nat) : Option Nat :=
  if s.ownerCode p = 0 then none else some ((s.ownerCode p - 1) % 1024)
/-- Tile of a point (R8). -/
def ptTile (p : Nat) : Nat := p / 2 ^ 20
def ptLocal (p : Nat) : Nat := p % 2 ^ 20

/-- A write of VALUE with its AGE, QUALITY and the AGE it set (R225, R234, R249). -/
def writePoint (p v age q : Nat) (s : State) : State :=
  let w := s.record p
  noteChange p ((s.setRecord p (mkRec v age q (recSeq w + 1))).modPoint p
    (fun x => { x with stamp := (s.time.tick + 2 ^ 64 - age) % 2 ^ 64 }))

/-- A change of QUALITY without a write of VALUE (R225). -/
def setQuality (p q : Nat) (s : State) : State :=
  let w := s.record p
  if recQ w = q then s
  else noteChange p (s.setRecord p (mkRec (recVal w) (recAge w) q (recSeq w + 1)))

/-- A stale code, never over FORCED; flags but RTRY stay (R226, R237). -/
def setStale (p code : Nat) (s : State) : State :=
  let q := recQ (s.record p)
  if q % 16 = 3 then s else setQuality p (code + (q / 32) * 32) s

/-- The fail-safe of an output: PRESET, or VALUE unchanged (R234, R238). -/
def applyFailsafe (p : Nat) (s : State) : State :=
  let x := s.point p
  writePoint p (if x.fsmode then x.preset else recVal (s.record p)) 0 0x08 s

/-! ## Writes by the image, the rules and the window; locks (R234, R238-R240, R261) -/

def State.modImage (s : State) (f : Nat) (u : ImageSt → ImageSt) : State :=
  s.modFn f (fun x => { x with image := u x.image })

/-- A discarded rule write is counted for the function and the tile (R279, R280). -/
def rfxLost (f t : Nat) (s : State) : State :=
  let s1 := countReg pRFX t 0x048 0 32 1 s
  if f = 0 then s1 else countReg pTNH f 0x0B0 0 32 1 s1

/-- A discarded image write is counted (R239, R264). -/
def imgLost (f : Nat) (s : State) : State := s.modImage f (fun m => { m with lost := satAdd (2 ^ 32 - 1) m.lost 1 })

/-- The discard of a write by a lock is counted for its source (R239). -/
def countDiscard (p src fn : Nat) (s : State) : State :=
  if src = 0 then imgLost fn s else if src = 1 then rfxLost fn (ptTile p) s else setErr pPIM (ptTile p) 3 s

/-- A count of a read-clear field that falls by one. -/
def uncountReg (ty inst off : Nat) (s : State) : State :=
  s.setReg 0 ty inst off (s.reg 0 ty inst off - 1)

/-- A discard that did not happen after all. -/
def uncountDiscard (p : Nat) (w : PointWrite) (s : State) : State :=
  if w.src = 0 then s.modImage w.fn (fun m => { m with lost := m.lost - 1 })
  else if w.src = 1 then
    let s1 := uncountReg pRFX (ptTile p) 0x048 s
    if w.fn = 0 then s1 else uncountReg pTNH w.fn 0x0B0 s1
  else if w.mark then s.setReg 0 pPIM (ptTile p) 0x014 (clrBit (s.reg 0 pPIM (ptTile p) 0x014) 3) else s

/-- CODE and flags that a source's write sets (R234). -/
def srcQuality (src : Nat) : Nat := if src = 0 then 0x01 else if src = 1 then 0x21 else 0x03

/-- A write of the current tick is noted on its point; those of earlier ticks are past. -/
def noteWrite (p : Nat) (w : PointWrite) (s : State) : State :=
  s.modPoint p (fun x => { x with writes := w :: x.writes.filter (fun y => y.tick == s.time.tick) })

/-- A write by the output image (0), a rule (1) or the manager's window (2) to a point: discarded and counted while the
point is locked (R234, R239). -/
def sourceWrite (src fn p v : Nat) (s : State) : State :=
  let x := s.point p
  let w : PointWrite := { tick := s.time.tick, src, fn, value := v, landed := x.locks == [], before := s.record p,
                          stamp := x.stamp, mark := !bit (s.reg 0 pPIM (ptTile p) 0x014) 3 }
  noteWrite p w (if x.locks = [] then writePoint p v 0 (srcQuality src) s else countDiscard p src fn s)

/-- Writes that landed in the tick of a fail-safe cause are discarded after all (R261 case 3). -/
def discardWrites (p : Nat) (s : State) : State :=
  let l := (s.point p).writes.filter (fun w => w.tick == s.time.tick && w.landed)
  match l.getLast? with
  | none => s
  | some w =>
    let s1 := (noteChange p (s.setRecord p w.before)).modPoint p (fun x =>
      { x with stamp := w.stamp, rfxTick := none, writes := x.writes.map (fun y => { y with landed := false }) })
    l.foldl (fun s y => countDiscard p y.src y.fn s) s1

/-- Writes that were discarded in the tick in which the last cause ends are made after all (R261 case 4). -/
def admitWrites (p : Nat) (s : State) : State :=
  let l := (s.point p).writes.filter (fun w => w.tick == s.time.tick && !w.landed)
  (l.reverse.foldl (fun s w => writePoint p w.value 0 (srcQuality w.src) (uncountDiscard p w s)) s).modPoint p (fun x =>
    { x with writes := if l = [] then x.writes else [] })

/-- A fail-safe cause arises for an output: it is locked at once, loses the writes of the tick, and takes its fail-safe
in the next tick (R238, R239, R261 case 3). A point that is no output any more takes none. -/
def lockPoint (c : LockCause) (p : Nat) (s : State) : State :=
  if (s.point p).kind ≠ 2 then s
  else (discardWrites p s).modPoint p (fun x =>
    { x with locks := if x.locks.contains c then x.locks else c :: x.locks, fsDue := true })

/-- A fail-safe cause ends (R239, R240, R261 case 4). -/
def unlockPoint (c : LockCause) (p : Nat) (s : State) : State :=
  if !(s.point p).locks.contains c then s
  else
    let s1 := s.modPoint p (fun x => { x with locks := x.locks.filter (· != c) })
    if (s1.point p).locks = [] then admitWrites p s1 else s1

/-- An input, a point of KIND 1, takes a stale code in the next tick (R237; DEDUCED, log entry 123). -/
def staleNext (code p : Nat) (s : State) : State :=
  if (s.point p).kind = 1 then s.modPoint p (fun x => { x with staleDue := some code }) else s

/-- End a cause on every point that has it. -/
def unlockAll (c : LockCause) (s : State) : State :=
  ((s.points.filter (fun x => x.2.locks.contains c)).map (·.1)).foldl (fun s p => unlockPoint c p s) s

/-- AGE of one record at a tick boundary (R224). -/
def ageRecord (s : State) (p : Nat) : State :=
  let w := s.record p
  let a := recAge w
  if a = 0xFFFF then s
  else
    let s1 := s.setRecord p (mkRec (recVal w) (a + 1) (recQ w) (recSeq w))
    if a + 1 = 0xFFFF then setQuality p (setBit (recQ w) 6) s1 else s1

/-- The points of the listed granules. -/
def State.allocatedPoints (s : State) : List Nat := s.owners.flatMap (fun x => (List.range 64).map (fun i => 64 * x.1 + i))

/-- AGE advances in every allocated record (R224). -/
def ageAll (s : State) : State := s.allocatedPoints.foldl ageRecord s

/-- Points with a fail-safe or a stale code whose cause fell in the tick now ending. -/
def State.deferred (s : State) : List Nat := (s.points.filter (fun x => x.2.fsDue || x.2.staleDue.isSome)).map (·.1)

/-- Deferred fail-safes and stale codes are applied in the tick after their cause (R237, R238). -/
def applyDeferred (due : List Nat) (s : State) : State :=
  due.foldl (fun s p =>
    let x := s.point p
    let s1 := match x.staleDue with
      | some c => if x.kind = 1 then setStale p c s else s
      | none => s
    let s2 := if x.fsDue ∧ x.kind = 2 then applyFailsafe p s1 else s1
    s2.modPoint p (fun y => { y with fsDue := false, staleDue := none })) s

/-- A lost record of a bank or of an uncorrectable error (R227, R258). -/
def lostRecord (p seq : Nat) (s : State) : State :=
  let x := s.point p
  let w := if x.kind = 2 then mkRec (if x.fsmode then x.preset else 0) 0 0x08 seq else mkRec 0 0xFFFF 0x47 seq
  noteChange p ((s.setRecord p w).modPoint p (fun y =>
    { y with stamp := if x.kind = 2 then s.time.tick else (s.time.tick + 2 ^ 64 - 0xFFFF) % 2 ^ 64 }))

/-! ## Granules (R228, R229) -/

/-- A granule of `f` is claimed: every record INIT with AGED, every point without kind (R230). -/
def claimGranule (f gr : Nat) (s : State) : State :=
  (List.range 64).foldl (fun s i =>
    let p := 64 * gr + i
    noteChange p ({ s with points := nput {} s.points p {} }.setRecord p 0x0040FFFF00000000))
    { s with owners := nput 0 s.owners gr (f + 1) }

/-- A grant of the range covers point `p` for its reader. -/
def ShareGrant.covers (g : ShareGrant) (p : Nat) : Bool :=
  g.first ≤ p && p < g.first + g.count && !(g.holes.any (fun h => decide (h.1 ≤ p ∧ p < h.1 + h.2)))

/-- A grant without the points of a range. -/
def ShareGrant.cut (first count : Nat) (g : ShareGrant) : ShareGrant :=
  if g.first < first + count ∧ first < g.first + g.count then { g with holes := (first, count) :: g.holes } else g

/-- The grants that meet `p` lose a range; one that gives no right any more frees its entry (R242, R244). -/
def cutGrants (p : ShareGrant → Bool) (first count : Nat) (l : List ShareGrant) : List ShareGrant :=
  (l.map (fun g => if p g then g.cut first count else g)).filter
    (fun g => !p g || (List.range g.count).any (fun i => g.covers (g.first + i)))

/-- A granule is released: its records are cleared to zero and unallocated, and the grants of its points end
(R229, R244). -/
def releaseGranule (gr : Nat) (s : State) : State :=
  (List.range 64).foldl (fun s i =>
    let p := 64 * gr + i
    { s with points := nput {} s.points p {} }.setRecord p 0)
    { s with owners := nput 0 s.owners gr 0, grants := cutGrants (fun _ => true) (64 * gr) 64 s.grants }

/-- Granules function `f` owns on tile `t`, its earlier life's included (R374). -/
def State.granulesOwned (s : State) (f t : Nat) : Nat :=
  (s.owners.filter (fun x => (x.2 - 1) % 1024 == f && x.1 / 16384 == t)).length

/-- Granules on tile `t` that every function's quota and the manager's claims take from pool 3 (R373). -/
def State.granulesTaken (s : State) (t : Nat) : Nat :=
  s.granulesOwned 0 t + (s.fns.filter (fun x => x.1 != 0)).foldl (fun a x =>
    a + max (nget 0 x.2.share.granules t)
      (match x.2.shareNew with | some sh => nget 0 sh.granules t | none => 0)) 0

/-- The caller may claim one more granule on tile `t` (R228). -/
def State.mayClaim (s : State) (f t : Nat) : Bool :=
  if f = 0 then s.granulesTaken t < 16384
  else s.granulesOwned f t < nget 0 (s.fn f).share.granules t

/-- One granule of a claim: claimed, or a left-out record (R228). -/
def claimOne (f : Nat) (a : State × Nat × List ListRec) (gr : Nat) : State × Nat × List ListRec :=
  let s := a.1
  let p := 64 * gr
  if s.owns f p then a
  else if s.allocated p then (s, a.2.1, a.2.2 ++ [leftOut (ptLocal p) 0x63 0])
  else if s.mayClaim f (ptTile p) then (claimGranule f gr s, a.2.1 + 1, a.2.2)
  else (s, a.2.1, a.2.2 ++ [leftOut (ptLocal p) 0x64 1])

/-- First granule, number of granules and clamps of a command that names points by whole granules (R316). -/
def granuleRange (x : Entry) : Nat × Nat × List ListRec :=
  let p := x.target % 2 ^ 23
  let r1 := if p % 64 = 0 then [] else [clampRec 32 p (p / 64 * 64)]
  let c := (x.count + 63) / 64 * 64
  let c2 := min c (2 ^ 20 - ptLocal (p / 64 * 64))
  let r2 := if c2 = x.count then [] else [clampRec 128 x.count c2]
  (p / 64, c2 / 64, r1 ++ r2)

/-- A command whose TARGET names a point of an unpopulated tile fails with 0x06 (R315). -/
def onPoint (f : Nat) (x : Entry) (k : State → State) (s : State) : State :=
  if s.hasTile (ptTile (x.target % 2 ^ 23)) then k s else finish f x false 0 0x06 4 [] s

/-- POINT_ALLOC (R228). -/
def pointAlloc (f : Nat) (x : Entry) (s : State) : State :=
  onPoint f x (fun s =>
    let g := granuleRange x
    let a := ((List.range g.2.1).map (g.1 + ·)).foldl (claimOne f) (s, 0, g.2.2)
    finish f x false a.2.1 0 0 a.2.2 a.1) s

def execPointAlloc (f e : Nat) (s : State) : Res := .next (cmd f e 0x08 (pointAlloc f) s)

/-- POINT_FREE: released at the next frame boundary (R229). -/
def pointFree (f : Nat) (x : Entry) (s : State) : State :=
  onPoint f x (fun s =>
    let g := granuleRange x
    startLong f x (.pointFree ((List.range g.2.1).map (g.1 + ·))) true g.2.2 (fun _ s => s) s) s

def execPointFree (f e : Nat) (s : State) : Res := .next (cmd f e 0x09 (pointFree f) s)

/-- An enabled point-map entry of the list names a point of granule `gr`. -/
def namesGranule (gr : Nat) (l : List AEntry) : Bool :=
  l.any (fun e => e.pm.any (fun m => m.enabled && m.point / 64 == gr))

/-- An enabled point-map entry of an Accord of the tile, or a rule, names a point of granule `gr`; a compile of the frame
that ends does not count (R229, R261 case 8). -/
def State.granuleNamed (s : State) (gr : Nat) : Bool :=
  s.plans.any (fun x => namesGranule gr x.2.run.entries ||
    (decide (x.2.compiledAt + s.frameLen < s.time.tick) && namesGranule gr x.2.idle.entries)) ||
  s.rules.any (fun x =>
    let e := x.2.e
    e.ina / 64 == gr || (decide (e.qual ≠ 0) && e.inb / 64 == gr) ||
      (e.action ∈ [1, 2, 3, 5] && e.out / 64 == gr))

/-- The entries of the Accord that a compile of the frame has made lose the points of a released granule
(R261 case 8). -/
def PlanSt.loseGranule (gr : Nat) (p : PlanSt) : PlanSt :=
  { p with idle := { p.idle with entries := p.idle.entries.map (fun e =>
      { e with pm := e.pm.map (fun m => if m.point / 64 = gr then { m with enabled := false } else m) }) } }

/-! ## Point setup (R230) -/

/-- Presets in use on tile `t` (R230, R263). -/
def State.presets (s : State) (t : Nat) : Nat := (s.points.filter (fun x => x.2.fsmode && ptTile x.1 == t)).length

/-- One entry of a POINT_CONFIG table (R230). -/
def configPoint (f item : Nat) (d : List Byte) (a : State × List ListRec) : State × List ListRec :=
  let w := byteField d 0 4
  let p := bits w 0 23
  let s := a.1
  if !(s.hasTile (ptTile p) && s.owns f p) then (s, a.2 ++ [leftOut item 0x63 0])
  else
    let k := bits w 24 2
    let kc := if k = 3 then 0 else k
    let r1 := if k = 3 then [clampItem item 24 3 0] else []
    let full := bit w 26 && !(s.point p).fsmode && decide (s.presets (ptTile p) ≥ 65536)
    let r2 := if full then [clampItem item 26 1 0] else []
    let fm := bit w 26 && !full
    let was := (s.point p).kind
    let s1 := s.modPoint p (fun x => { x with kind := kc, fsmode := fm, preset := byteField d 4 4 })
    let s2 := if kc = 2 ∧ was ≠ 2 then writePoint p (if fm then byteField d 4 4 else 0) 0 0x08 s1 else s1
    (s2, a.2 ++ r1 ++ r2)

/-- A COUNT of 1 to 65,536 (R316, R526). -/
def count16 (x : Entry) : Nat × List ListRec :=
  let c := if x.count = 0 then 1 else if x.count > 65536 then 65536 else x.count
  (c, if c = x.count then [] else [clampRec 128 x.count c])

/-- POINT_CONFIG reads its table (R230). -/
def execPointConfig (f e : Nat) (s : State) : Res :=
  .next (cmd f e 0x0A (fun x s => readStruct f x (8 * (count16 x).1) s) s)

/-- Cut a byte string into pieces of `k` bytes. -/
def chunks (k : Nat) : Nat → List Byte → List (List Byte)
  | 0, _ => []
  | n + 1, d => d.take k :: chunks k n (d.drop k)

/-- The table of POINT_CONFIG has arrived. -/
def configDone (f : Nat) (x : Entry) (d : List Byte) (s : State) : State :=
  let c := count16 x
  let a := ((chunks 8 c.1 d).zipIdx).foldl (fun a y => configPoint f y.2 y.1 a) (s, c.2)
  finish f x false 0 0 0 a.2 a.1

/-! ## Read rights (R241-R244) -/

/-- The lease of a node lets `f` read point `p`: an enabled upstream entry of its writer feeds it (R241). -/
def State.leaseReads (s : State) (f p : Nat) : Bool :=
  s.plans.any (fun x => x.2.run.entries.any (fun e =>
    e.up && e.pm.any (fun m => m.enabled && m.point == p) &&
      (s.node x.1 e.node).readers.contains f && e.func == (s.node x.1 e.node).lessee))

/-- The function sees the point in its image and rules (R241-R243). -/
def State.mayRead (s : State) (f p : Nat) : Bool :=
  s.owns f p || s.grants.any (fun g => g.reader == f && g.covers p && s.owns g.owner p) || s.leaseReads f p

/-- POINT_SHARE: granted or revoked at a frame boundary (R242). -/
def pointShare (f : Nat) (x : Entry) (s : State) : State :=
  onPoint f x (fun s =>
    let p := x.target % 2 ^ 23
    let c := count16 x
    let c2 := min c.1 (2 ^ 20 - ptLocal p)
    let rd := bits x.p0 0 10
    let rdc := if rd > 512 then 512 else rd
    let r := (if c2 = c.1 then c.2 else [clampRec 128 x.count c2]) ++ (if rd > 512 then [clampRec 160 rd 512] else [])
    let bad := ((List.range c2).filter (fun i => !(s.owns f (p + i)))).map (fun i => leftOut (ptLocal (p + i)) 0x63 0)
    startLong f x (.pointShare p c2 rdc (bit x.p0 31)) true (r ++ bad) (fun _ s => s) s) s

def execPointShare (f e : Nat) (s : State) : Res := .next (cmd f e 0x0B (pointShare f) s)

/-- Points of `f`'s input windows that `lost` says it no longer sees are written as zero once (R244). -/
def zeroRights (f : Nat) (pts : List Nat) (s : State) : State :=
  s.modFn f (fun x => { x with image := { x.image with zeroPts := x.image.zeroPts ++ pts } })

/-- The points of `pts` that a function may read in `s` and may no longer read in `s1`, per function. -/
def State.lostReads (s s1 : State) (pts : List Nat) : List (Nat × List Nat) :=
  s.fns.map (fun x => (x.1, pts.filter (fun p => s.mayRead x.1 p && !s1.mayRead x.1 p)))

/-- Owners and readers lose points: their image records are written as zero once (R229, R244). -/
def zeroAll (l : List (Nat × List Nat)) (s : State) : State := l.foldl (fun s x => zeroRights x.1 x.2 s) s

/-- A granule named by nothing is released, and owners and readers lose it (R229, R244, R261 case 8). -/
def freeGranule (gr : Nat) (s : State) : State :=
  let s1 := releaseGranule gr { s with plans := nmapAll {} (fun (_ : Nat) (p : PlanSt) => p.loseGranule gr) s.plans }
  zeroAll (s.lostReads s1 ((List.range 64).map (64 * gr + ·))) s1

/-- The commit of POINT_FREE at a frame boundary, with the records of the granules left out (R229). -/
def commitFree (f : Nat) (grs : List Nat) (s : State) : State × List ListRec :=
  grs.foldl (fun a gr =>
    let s := a.1
    let l := ptLocal (64 * gr)
    if !s.owns f (64 * gr) then (s, a.2 ++ [leftOut l 0x63 0])
    else if s.granuleNamed gr then (s, a.2 ++ [leftOut l 0x66 0])
    else (freeGranule gr s, a.2)) (s, [])

/-- A revoke at its boundary: the range leaves every grant of the owner to the reader (R242, R244). -/
def commitRevoke (f first count reader : Nat) (s : State) : State :=
  let s1 := { s with grants := cutGrants (fun g => g.owner == f && g.reader == reader) first count s.grants }
  zeroRights reader ((List.range count).filterMap (fun i =>
    if s.mayRead reader (first + i) && !s1.mayRead reader (first + i) then some (first + i) else none)) s1

/-- A grant at its boundary; none while the tile's table of 1,024 is full (R242). -/
def commitGrant (f first count reader : Nat) (s : State) : Option State :=
  if (s.grants.filter (fun g => ptTile g.first == ptTile first)).length ≥ 1024 then none
  else
    let holes := ((List.range count).filter (fun i => !(s.owns f (first + i)))).map (fun i => (first + i, 1))
    some { s with grants := s.grants ++ [{ first, count, owner := f, reader, holes }] }

/-! ## The manager's window and scrubbing (R227, R259, R260) -/

/-- PIM_CTL of a tile (R263). -/
def State.pimCtl (s : State) (t : Nat) : Nat := s.reg 2 pPIM t 0x040

/-- A write to manager BAR2 at byte offset `off`, of `size` bytes, `part` with partial byte enables (R260). -/
def pimWindowWrite (off size v : Nat) (part : Bool) (s : State) : State :=
  let p := off / 8
  let t := ptTile p
  if !(s.ready && s.hasTile t && (s.tl t).ready && (size == 4 || size == 8) && off % size == 0) then s
  else if !bit (s.pimCtl t) 0 then setErr pPIM t 2 s
  else if part || (size == 4 && off % 8 == 4) then setErr pPIM t 30 s
  else if !s.allocated p then setErr pPIM t 4 s
  else sourceWrite 2 0 p (v % 2 ^ 32) s

def execPimWindowWrite (off size : Nat) (v : W64) (part : Bool) (s : State) : Res :=
  .next (tileMmio (ptTile (off / 8)) { bar := 2, off, size, write := true, value := v.toNat, part }
    (fun s => pimWindowWrite off size v.toNat part s) s)

/-- An uncorrectable error of a record (R227). -/
def eccUncorrectable (p : Nat) (s : State) : State :=
  let t := ptTile p
  let s1 := lostRecord p (recSeq (s.record p) + 1) s
  let s2 := (countReg pPIM t 0x04C 16 16 1 s1).setReg 0 pPIM t 0x050 (ptLocal p)
  emitMgr 0x0A 1 [(16, 1, t), (20, 4, ptLocal p)] (setErr pPIM t 0 s2)

/-- A read of an allocated record finds `errs` of its bits wrong: one is corrected and counted, more leave the record
lost (R227). The read is the scrubber's, which runs with PIM_CTL.SCRUB at 1, or any other requester's. -/
def pimScrub (p errs : Nat) (scrub : Bool) (s : State) : State :=
  if s.allocated p && s.hasTile (ptTile p) && (!scrub || bit (s.pimCtl (ptTile p)) 1) && (s.tl (ptTile p)).ready then
    if errs = 0 then s
    else if errs = 1 then countReg pPIM (ptTile p) 0x04C 0 16 1 s
    else eccUncorrectable p s
  else s

/-- PIM_SCRUB: `scrub` that the scrubber read the record, else an ordinary read, of the window, a sequencer, the
publishing unit or a rule, that the next command of that requester makes. -/
def execPimScrub (p errs : Nat) (scrub : Bool) (s : State) : Res := .next (pimScrub p errs scrub s)

/-! ## Image publishing (R245-R254) -/

def win (d : ImageDesc) (t i : Nat) : Nat := ((d.wins[t]?).getD [])[i]?.getD 0

/-- The clamped descriptor from its 320 bytes, with the clamps (R245-R247); the index of a table entry is its tile. -/
def parseImage (s : State) (f : Nat) (d : List Byte) : ImageDesc × List ListRec :=
  let op := byteField d 2 2
  let opc := min op (s.frameLen - 1)
  let iv := byteField d 4 1 % 16
  let bad := bit (byteField d 4 1) 4 && decide (iv ≥ s.vectors f)
  let r0 := (if opc = op then [] else [clampItem 0xFFFFFFFE 16 op opc]) ++
    (if bad then [clampItem 0xFFFFFFFE 36 1 0] else [])
  let row := fun (t : Nat) =>
    let b := 64 + 32 * t
    let cut := fun (first c : Nat) => if s.hasTile t then min (c % 2 ^ 21) (2 ^ 20 - first) else 0
    let inf := byteField d b 4 % 2 ^ 20
    let outf := byteField d (b + 12) 4 % 2 ^ 20
    let ic := byteField d (b + 4) 4 % 2 ^ 21
    let oc := byteField d (b + 16) 4 % 2 ^ 21
    ([inf, cut inf ic, byteField d (b + 8) 4, outf, cut outf oc, byteField d (b + 20) 4],
      (if cut inf ic = ic then [] else [clampItem t 32 ic (cut inf ic)]) ++
      (if cut outf oc = oc then [] else [clampItem t 128 oc (cut outf oc)]))
  let rows := (List.range 8).map row
  ({ outpos := opc, imgvec := iv, imgirq := bit (byteField d 4 1) 4 && !bad,
     bufs := (List.range 5).map (fun i => byteField d (8 + 8 * i) 8), wins := rows.map (·.1) },
   r0 ++ rows.flatMap (·.2))

/-- Two byte ranges of one buffer meet. -/
def rangesMeet (a b : Nat × Nat) : Bool := a.2 != 0 && b.2 != 0 && decide (a.1 < b.1 + b.2 ∧ b.1 < a.1 + a.2)

def anyMeet : List (Nat × Nat) → Bool
  | [] => false
  | a :: r => r.any (rangesMeet a) || anyMeet r

/-- The DETAIL with which a descriptor fails as a whole, 0 for none (R247). The offsets of every tile entry are checked,
those of empty windows too; a descriptor that detaches has no windows and no buffers to check (DESIGN CHOICE, log entry
96). -/
def imageFails (d : List Byte) (g : ImageDesc) : Nat :=
  if byteField d 0 2 ≠ 1 then 1
  else if g.bufs.head? = some 0 then 0
  else if g.bufs.any (fun a => a % 4096 != 0) then 2
  else if g.wins.any (fun w => w[2]?.getD 0 % 8 != 0 || decide (w[2]?.getD 0 < 64) || w[5]?.getD 0 % 8 != 0) then 2
  else if anyMeet (g.wins.map (fun w => (w[2]?.getD 0, 8 * w[1]?.getD 0))) ||
      anyMeet (g.wins.map (fun w => (w[5]?.getD 0, 8 * w[4]?.getD 0))) then 3
  else 0

/-- IMAGE_SET: a long operation whose descriptor is read (R247). -/
def imageSet (f : Nat) (x : Entry) (s : State) : State :=
  startLong f x (.imageSet none) false [] (fun seq s =>
    let r := dmaRead f x.addr 320 s
    if r.2 then r.1 else failHandle f seq 0x22 0 r.1) s

def execImageSet (f e : Nat) (s : State) : Res := .next (cmd f e 0x0C (imageSet f) s)

/-- The descriptor of an IMAGE_SET has arrived (R247). -/
def imageDone (f seq : Nat) (d : List Byte) (s : State) : State :=
  let g := parseImage s f d
  let bad := imageFails d g.1
  if bad ≠ 0 then failHandle f seq 0x09 bad s
  else
    let op := if g.1.bufs.head? = some 0 then none else some g.1
    (listMore f seq g.2 s).modHandle f seq (fun h => { h with ready := true, op := .imageSet op })

/-- The image a function takes at the boundary of its IMAGE_SET (R247, R251); ERROR stays until the next good read
(R264). -/
def ImageSt.attach (d : Option ImageDesc) (m : ImageSt) : ImageSt :=
  { desc := d, outsel := m.outsel, skipIn := m.skipIn, skipOut := m.skipOut, lost := m.lost, error := m.error }

/-- A publication into buffer `b` begun now is FULL (R250). -/
def ImageSt.isFull (m : ImageSt) (b : Nat) : Bool := m.needFull.contains b || m.fullNext

/-- The buffer a publication targets: neither LATEST nor HELD, the one completed earlier (R251). -/
def ImageSt.target (m : ImageSt) : Nat :=
  let c := [0, 1, 2].filter (fun b => b != m.latest && b != m.held)
  match c.find? (fun b => !m.completed.contains b) with
  | some b => b
  | none => (m.completed.find? (fun b => c.contains b)).getD 0

/-- The image record of a point: AGE replaced by STAMP (R249). -/
def State.imageRecord (s : State) (p : Nat) : Nat :=
  let w := s.record p
  mkRec (recVal w) ((s.point p).stamp) (recQ w) (recSeq w)

/-- What a publication writes for record `p` of its windows: nothing, zero, or the record (R244, R250). -/
def State.pubRecord (s : State) (f b p : Nat) : Option Nat :=
  let m := (s.fn f).image
  let full := m.isFull b || m.lostFull.contains (p / 32768)
  if m.zeroPts.contains p then some 0
  else if s.mayRead f p then
    if full || decide ((s.point p).chg > nget 0 m.bufChg b) then some (s.imageRecord p) else none
  else if full then some 0 else none

/-- The writes of a publication into buffer `b`: (address, record). -/
def State.pubWrites (s : State) (f b : Nat) (d : ImageDesc) : List (Nat × Nat) :=
  ((List.range s.tiles).filter s.publishes).flatMap (fun t =>
    (List.range (win d t 1)).filterMap (fun i =>
      (s.pubRecord f b (t * 2 ^ 20 + win d t 0 + i)).map
        (fun w => (d.bufs[b]?.getD 0 + win d t 2 + 8 * i, w))))

/-- The function's captures and output reads run: attached, in service and not frozen (R255). -/
def State.imageRuns (s : State) (f : Nat) : Bool :=
  s.ready && (s.fn f).image.desc.isSome && (f == 0 || (s.fn f).st == .active || (s.fn f).st == .freezing)

/-- The capture of function `f` at a frame boundary: skipped while the last publication is in progress (R250, R252). -/
def capture (f : Nat) (s : State) : State :=
  match (s.fn f).image.desc with
  | none => s
  | some d =>
    if !s.imageRuns f then s
    else if (s.fn f).image.pub.isSome then
      ((List.range s.tiles).filter (fun t => win d t 1 != 0)).foldl (fun s t => setErr pPIM t 1 s)
        (s.modImage f (fun m => { m with skipIn := satAdd 65535 m.skipIn 1, merged := true }))
    else if !s.dmaOk f then dmaRefused f s
    else
      let m := (s.fn f).image
      let b := m.target
      let ws := s.pubWrites f b d
      let s1 := ws.foldl (fun s w => out (.imageWrite f w.1 (toLe 8 w.2)) s) s
      s1.modImage f (fun m =>
        { m with pub := some (b, s.time.tick / s.frameLen, m.isFull b), pubRecords := ws.length,
                 pubTick := s.time.tick, pubPtAt := s.time.plant, pubMerged := m.merged, merged := false,
                 bufChg := nput 0 m.bufChg b s.chg, needFull := m.needFull.filter (· != b),
                 fullNext := false, lostFull := [], zeroPts := [], pubseq := m.pubseq + 1 })

/-- The header of an input buffer (R248). -/
def pubHeader (m : ImageSt) (b frame : Nat) (full : Bool) : List Byte :=
  toLe 8 frame ++ toLe 8 m.pubTick ++ toLe 8 m.pubPtAt ++ toLe 4 m.pubRecords ++
  toLe 4 (b + 4 * b2n m.pubMerged + 8 * b2n full) ++ toLe 8 m.pubseq ++ toLe 24 0

/-- PUBLICATION_COMPLETE: the header write, LATEST, and the image vector (R251, R252). -/
def publicationComplete (f : Nat) (s : State) : State :=
  match (s.fn f).image.pub, (s.fn f).image.desc with
  | some (b, frame, full), some d =>
    let m := (s.fn f).image
    if s.paused then s
    else if !s.dmaOk f then dmaRefused f (s.modImage f (fun m => { m with pub := none, needFull := b :: m.needFull, fullNext := true }))
    else
      raiseNorm f 11 ((out (.imageWrite f (d.bufs[b]?.getD 0) (pubHeader m b frame full)) s).modImage f (fun m =>
        { m with latest := b, imgframe := frame, pub := none,
                 completed := (m.completed.filter (· != b)) ++ [b] }))
  | _, _ => s

def execPublicationComplete (f : Nat) (s : State) : Res := .next (publicationComplete f s)

/-- A write of TNH_IMGHOLD.TAKE (R251). -/
def imgHold (f : Nat) (take : Bool) (s : State) : State :=
  if s.pagesOpen f then s.modImage f (fun m => { m with held := if take then m.latest else 3 }) else s

/-- TNH_IMGHOLD.TAKE 1 and 0 (R251). -/
def execImgHoldTake (f : Nat) (s : State) : Res :=
  .next (mmio f 0 (fun s => imgHold f true s) s)
def execImgHoldRelease (f : Nat) (s : State) : Res :=
  .next (mmio f 0 (fun s => imgHold f false s) s)

/-- OUTPUT_IMAGE_READ_START: at frame position OUTPOS the selected buffer's windows are read; a read still
incomplete applies nothing and is counted (R253, R254). -/
def outputReadStart (f : Nat) (s : State) : State :=
  match (s.fn f).image.desc with
  | none => s
  | some d =>
    let m := (s.fn f).image
    let b := m.outsel
    let a := d.bufs[3 + b]?.getD 0
    if !s.imageRuns f || s.time.tick % s.frameLen != d.outpos || m.outTick == some s.time.tick then s
    else
      let s1 := s.modImage f (fun m =>
        { m with outTick := some s.time.tick, outRead := none
                 skipOut := if m.outRead.isSome then satAdd 65535 m.skipOut 1 else m.skipOut })
      if a = 0 then s1
      else if !s.dmaOk f then
        emit f { cls := 4, kind := 1, status := 0x22, recs := [recData [(16, 1, b)]] }
          ((dmaRefused f s1).modImage f (fun m => { m with error := true }))
      else
        let s2 := ((List.range s.tiles).filter (fun t => win d t 4 != 0 && s.publishes t)).foldl
          (fun s t => out (.imageRead f (a + win d t 5) (8 * win d t 4)) s) s1
        s2.modImage f (fun m => { m with outRead := some b })

def execOutputImageReadStart (f : Nat) (s : State) : Res := .next (outputReadStart f s)

/-- The entries with WRITE 1 of one tile's window that name points the function owns with KIND 2 (R253). -/
def State.outEntries (s : State) (f t first : Nat) (l : List (List Byte)) : List (Nat × Nat) :=
  (l.zipIdx).filterMap (fun y =>
    let p := t * 2 ^ 20 + first + y.2
    if bit (byteField y.1 4 4) 0 && s.owns f p && (s.point p).kind == 2 then some (p, byteField y.1 0 4) else none)

/-- OUTPUT_IMAGE_READ_DONE: the windows' bytes by tile, or an error (1 UR, 2 CA, 3 poisoned) (R253, R254). -/
def outputReadDone (f err : Nat) (data : List (List Byte)) (s : State) : State :=
  match (s.fn f).image.desc, (s.fn f).image.outRead with
  | some d, some b =>
    let s1 := s.modImage f (fun m => { m with outRead := none })
    if !s.imageRuns f then s1
    else if err ≠ 0 then
      emit f { cls := 4, kind := 1, status := 0x20, detail := err, recs := [recData [(16, 1, b)]] }
        (s1.modImage f (fun m => { m with error := true }))
    else
      let ws := ((List.range s.tiles).filter s.publishes).flatMap (fun t =>
        s.outEntries f t (win d t 3) (chunks 8 (win d t 4) (data[t]?.getD [])))
      s1.modImage f (fun m => { m with error := false, outWrites := m.outWrites ++ ws })
  | _, _ => s

def execOutputImageReadDone (f err : Nat) (data : List (List Byte)) (s : State) : Res :=
  .next (outputReadDone f err data s)

/-- No completion of an output read within 10 ms (R254). -/
def outputReadTimeout (f : Nat) (s : State) : State :=
  match (s.fn f).image.outRead with
  | none => s
  | some b =>
    emit f { cls := 4, kind := 1, status := 0x21, recs := [recData [(16, 1, b)]] }
      (s.modImage f (fun m => { m with outRead := none, error := true }))

/-- How a write meets a sequencer write of the same tick to the same record, whose cycle the commands do not give: 0 in
one cycle, where the sequencer's stands and the other is lost; 1 before it; 2 after it (R42, R43; a free value, log
entry 97). -/
def State.meets (s : State) : Nat := s.freeVal % 3

/-- The sequencers wrote the point in the tick before, from block `b` on: a transfer's write ends up to 25 ns past its
last block (R267). -/
def State.seqWrote (s : State) (p b : Nat) : Bool := s.unseen.any (fun x => x.1 == p && decide (b ≤ x.2.2))

/-- One image write at its apply boundary (R253): ignored where the point is no output of the function; discarded and
counted where a rule wrote it in the window of the tick before (R261 case 2), where it is locked (R239), and where it
meets a sequencer write in one cycle (R43). -/
def applyImageWrite (f : Nat) (s : State) (w : Nat × Nat) : State :=
  let x := s.point w.1
  if !(s.owns f w.1 && x.kind == 2) then s
  else if x.rfxTick.isSome ∧ x.rfxTick.map (· + 1) = some s.time.tick then imgLost f s
  else if x.locks = [] ∧ s.seqWrote w.1 (80 * s.tickUs - 3) then
    if s.meets = 0 then imgLost f s.draw else if s.meets = 1 then s.draw else sourceWrite 0 f w.1 w.2 s.draw
  else sourceWrite 0 f w.1 w.2 s

/-- Every function's output writes that wait are applied at one tick boundary (R253). -/
def applyOutputs (s : State) : State :=
  (s.fns.filter (fun x => x.2.image.outWrites ≠ [])).foldl (fun s x =>
    x.2.image.outWrites.foldl (applyImageWrite x.1) (s.modImage x.1 (fun m => { m with outWrites := [] }))) s

end Sys2Proof.Machine
end

