-- ==== Sys2Proof/Machine/Line.lean ====
section
/-!
DEFINITION. Line: the blocks of the Dapen link, what is sent and what is received in the slots of one run
(spec/03_dapen_link.md, R94-R103, R113-R116, R135, R138).
-/
namespace Sys2Proof.Machine

/-! ## Blocks (R94-R96) -/

/-- A block as received, descrambled: sync header (1 data, 2 control) and payload (R94). -/
abbrev RxBlock := BitVec 2 × W64

def RxBlock.bytes (b : RxBlock) : List Byte := toLe 8 b.2.toNat
def RxBlock.isData (b : RxBlock) : Bool := b.1 == 1#2
/-- The type of a control block. -/
def RxBlock.type (b : RxBlock) : Option Nat := if b.1 = 2#2 then some (byteField b.bytes 0 1) else none
def RxBlock.isHeader (b : RxBlock) : Bool := b.type == some 0x2D
def RxBlock.isIdle (b : RxBlock) : Bool := b.type == some 0x1E

/-- One payload bit through the scrambler x^58 + x^39 + 1 with the last 58 line bits in `r`, the newest in bit 0. -/
def scramBit (r : Nat) (b : Bool) : Bool := (b != bit r 38) != bit r 57
/-- The register after a line bit. -/
def scramNext (r : Nat) (line : Bool) : Nat := r * 2 % 2 ^ 58 + b2n line

/-- Scramble payload bits in line order; the register runs on from block to block (R94). -/
def scramble : Nat → List Bool → List Bool × Nat
  | r, [] => ([], r)
  | r, b :: l => let c := scramBit r b; let x := scramble (scramNext r c) l; (c :: x.1, x.2)

/-- Descramble line bits. -/
def descramble : Nat → List Bool → List Bool × Nat
  | r, [] => ([], r)
  | r, c :: l => let x := descramble (scramNext r c) l; (scramBit r c :: x.1, x.2)

/-- The payload bits of a block in line order: bit 0 of byte 0 first (R94). -/
def payloadBits (v : W64) : List Bool := (List.range 64).map (fun i => bit v.toNat i)
/-- The sync header in line order, as R94 writes it: 01 marks a data block. -/
def syncBits (h : BitVec 2) : List Bool := [h.getLsbD 1, h.getLsbD 0]

/-- The 66 bits of each block on the line from register `r`: sync header as it is, payload scrambled (R94). -/
def lineBits : Nat → List RxBlock → List Bool
  | _, [] => []
  | r, b :: l => let x := scramble r (payloadBits b.2); syncBits b.1 ++ x.1 ++ lineBits x.2 l

/-- A control block spelt by its eight bytes, and a data block. -/
def ctrlBlock (b : List Byte) : RxBlock := (2#2, BitVec.ofNat 64 (leNat b))
def dataBlock (b : List Byte) : RxBlock := (1#2, BitVec.ofNat 64 (leNat b))

/-- A single-block control block of a type is valid (R96). -/
def blockOk (type : Nat) (b : List Byte) : Bool :=
  byteField b 0 1 == type && crc8 ((b.drop 1).take 6) == byteField b 7 1

/-! ## Transfers (R101-R103) -/

/-- Fields of a HEADER (R101). -/
def hNode (h : List Byte) : Nat := byteField h 1 2 % 2 ^ 12
def hClass (h : List Byte) : Nat := bits (byteField h 1 2) 12 3
def hAttn (h : List Byte) : Bool := bit (byteField h 1 2) 15
def hXid (h : List Byte) : Nat := byteField h 3 2
def hLen (h : List Byte) : Nat := byteField h 5 1 % 64
def hTseq (h : List Byte) : Nat := byteField h 5 1 / 64
/-- HCHK holds (R101). -/
def hchk (h : List Byte) : Bool := crc8 ((h.drop 1).take 6) == byteField h 7 1
/-- HCHK holds and the class is not reserved (R101, R102). -/
def hOk (h : List Byte) : Bool := hchk h && decide (hClass h ≤ 4)

/-- Data blocks that carry `p` payload bytes (R103). -/
def dataBlocks (p : Nat) : Nat := max 1 ((p + 4 + 7) / 8)
/-- Payload bytes padded with zeros to whole data blocks (R103, R146). -/
def padded (p : List Byte) : List Byte := p ++ List.replicate (8 * dataBlocks p.length - 4 - p.length) 0#8

/-- The HEADER of a transfer sent downstream, ATTN 0 (R101). -/
def headerBytes (cls node xid tseq planid len : Nat) : List Byte :=
  let b := toLe 2 (node + cls * 4096) ++ toLe 2 xid ++ [BitVec.ofNat 8 (len + tseq * 64), BitVec.ofNat 8 planid]
  [0x2D#8] ++ b ++ [BitVec.ofNat 8 (crc8 b)]

/-- Bytes in pieces of eight, `n` of them. -/
def eights : Nat → List Byte → List (List Byte)
  | 0, _ => []
  | n + 1, l => l.take 8 :: eights n (l.drop 8)

/-- The blocks that an output puts on the line, before the scrambler: HEADER, padded payload and CRC-32C of a transfer, a
control block, or a TRAIN block (R94, R101, R103). -/
def Output.blocks : Output → List RxBlock
  | .xfer _ _ cls node xid tseq planid p =>
    let q := padded p
    let n := dataBlocks p.length
    let h := headerBytes cls node xid tseq planid n
    ctrlBlock h :: (eights n (q ++ toLe 4 (crc32c (h.drop 1 ++ q)))).map dataBlock
  | .block _ _ b => [ctrlBlock b]
  | .train _ b => if b = [] then [] else [ctrlBlock b]
  | _ => []

/-- The bytes on the line of an output, sync headers and scrambling aside. -/
def Output.line (o : Output) : List Byte := o.blocks.flatMap RxBlock.bytes

/-- The transfer after its HEADER is whole: LEN data blocks, at least one, and CRC-32C right (R103). -/
def bodyOk (h : List Byte) (body : List RxBlock) : Bool :=
  let n := hLen h
  let d := (body.take n).flatMap RxBlock.bytes
  let pay := d.take (8 * n - 4)
  decide (1 ≤ n) && decide (n ≤ body.length) && (body.take n).all RxBlock.isData &&
    crc32c ((h.drop 1) ++ pay) == byteField d (8 * n - 4) 4

/-- Payload bytes of a transfer. -/
def bodyBytes (h : List Byte) (body : List RxBlock) : List Byte :=
  ((body.take (hLen h)).flatMap RxBlock.bytes).take (8 * hLen h - 4)
/-- Payload of a transfer as one number. -/
def bodyNum (h : List Byte) (body : List RxBlock) : Nat := leNat (bodyBytes h body)

/-! ## Invalid blocks (R95, R96, R138) -/

/-- Invalid blocks of a run of upstream slots, with `left` blocks of a transfer still to come: a bad sync header, a type
that may not stand in an upstream slot, a HEADER inside a transfer or of a reserved class. ECHO and ALERT arrive by
commands of their own where they may stand. IDLE is not counted, wherever a sender breaks off (DEDUCED, log entry 99). -/
def invalidFrom : Nat → List RxBlock → Nat
  | _, [] => 0
  | left, b :: r =>
    if b.isData then invalidFrom (left - 1) r
    else if b.isIdle then invalidFrom (left - 1) r
    else if b.isHeader then
      if left = 0 ∧ (hOk b.bytes ∨ !hchk b.bytes) then
        invalidFrom (if hOk b.bytes then hLen b.bytes else 0) r
      else 1 + invalidFrom (left - 1) r
    else 1 + invalidFrom (left - 1) r

def invalidCount (l : List RxBlock) : Nat := invalidFrom 0 l

/-- Count invalid blocks (R138). -/
def countBlk (g k : Nat) (s : State) : State := countReg pTPT g 0x060 0 64 k s
/-- Count misaligned blocks (R110, R138). -/
def countMis (g k : Nat) (s : State) : State := countReg pTPT g 0x070 0 64 k s
/-- The invalid blocks of a run are counted (R138). -/
def countRun (g : Nat) (blocks : List RxBlock) (s : State) : State := countBlk g (invalidCount blocks) s
/-- A transfer discarded under R103 is counted with its invalid blocks (R138). -/
def discarded (g : Nat) (blocks : List RxBlock) (s : State) : State :=
  countReg pTPT g 0x068 0 64 1 (countRun g blocks s)

/-! ## What a run of slots holds for the node that owns it (R135) -/

/-- The class of what arrived in a slot run: nothing, a fault with the TSEQ of a HEADER that passed HCHK, a hostile
observation (1 identity mismatch, 3 oversize claim), or a transfer. -/
inductive Answer where
  | missing
  | faulty (tseq : Option Nat)
  | hostile (obs : Nat)
  | good (h : List Byte) (body : List RxBlock)
deriving DecidableEq, Repr

/-- What the run of node `node` and class `cls` holds, XID as `xid` allows, at most `len` data blocks, and no fewer where
`exact`; the counters of TPT follow (R110, R135, R138). -/
def receive (g : Nat) (mis : Bool) (node cls len : Nat) (xid : Nat → Bool) (exact : Bool) (blocks : List RxBlock)
    (s : State) : Answer × State :=
  if mis then (.faulty none, countMis g blocks.length s)
  else match blocks with
    | [] => (.missing, s)
    | hb :: body =>
      let h := hb.bytes
      if !hb.isHeader then (.missing, countRun g blocks s)
      else if !hOk h then (.faulty none, discarded g blocks s)
      else if hNode h ≠ node ∨ hClass h ≠ cls ∨ !xid (hXid h) then (.hostile 1, s)
      else if hLen h > len then (.hostile 3, s)
      else if exact ∧ hLen h < len then (.faulty (some (hTseq h)), countRun g blocks s)
      else if bodyOk h body then (.good h body, countRun g (hb :: body.drop (hLen h)) s)
      else (.faulty (some (hTseq h)), discarded g blocks s)

/-- A HEADER that passed its checks stands among the blocks. -/
def anyHeader (blocks : List RxBlock) : Bool := blocks.any (fun b => b.isHeader && hOk b.bytes)

/-! ## Blocks sent (R104, R113, R115, R124) -/

/-- The GRANT block (R113). -/
def grantBytes (node cls upslot len gseq : Nat) : List Byte :=
  let b := toLe 2 (node + cls * 4096) ++ toLe 2 (upslot + (len - 1) * 1024) ++ [BitVec.ofNat 8 gseq, 0#8]
  [0x3C#8] ++ b ++ [BitVec.ofNat 8 (crc8 b)]

/-- The ACK of an alert (R115 item 3). -/
def ackBytes (n aseq : Nat) : List Byte :=
  let b := [0x69#8] ++ toLe 2 (n % 2 ^ 12 + aseq % 16 * 2 ^ 12) ++ [0#8, 0#8, 0#8, 0#8]
  b ++ [BitVec.ofNat 8 (crc8 (b.drop 1))]

/-- TCORR: TIL_TIMEOFF in 1/16 ns, nearest, saturated (R108). -/
def tcorr (ps : Int) : Nat := ofSigned 12 (clampInt (-2047) 2047 ((32 * ps + 1000) / 2000))

/-- The eight bytes of a MARKER (R104, R595). -/
def markerBytes (tick planid tc aux : Nat) : List Byte :=
  let b := toLe 2 tick ++ toLe 1 planid ++ toLe 2 (tc % 4096) ++ toLe 2 aux
  [0x4B#8] ++ toLe 2 tick ++ toLe 1 planid ++ toLe 2 (tc % 4096 + crc4 b * 4096) ++ toLe 2 aux

/-- The TRAIN block of the first hop's upper end: ROLE 0, BRANCHES 0, no TURN (R124). -/
def trainBytes (step preset : Nat) (locked echoreq : Bool) : List Byte :=
  let b := [BitVec.ofNat 8 (step % 16 + preset % 16 * 16), BitVec.ofNat 8 (b2n locked + 2 * b2n echoreq), 0#8, 0#8, 0#8, 0#8]
  [0x78#8] ++ b ++ [BitVec.ofNat 8 (crc8 b)]

/-- Fields of a received TRAIN block (R124). -/
def trainStep (b : List Byte) : Nat := byteField b 1 1 % 16
def trainPreset (b : List Byte) : Nat := byteField b 1 1 / 16
def trainLocked (b : List Byte) : Bool := bit (byteField b 2 1) 0
def trainEcho (b : List Byte) : Bool := bit (byteField b 2 1) 2
def trainRole (b : List Byte) : Nat := bits (byteField b 2 1) 3 3
def trainTurn (b : List Byte) : Nat := byteField b 3 3
def trainBranches (b : List Byte) : Nat := byteField b 6 1 % 32

end Sys2Proof.Machine
end

