-- ==== Sys2Proof/Machine/Mgmt.lean ====
section
/-!
DEFINITION. Mgmt: slots of a tick, grants and management requests on a port
(R100, R113, R146-R149, R202 of spec/03, 04 and 05).
-/
namespace Sys2Proof.Machine

def State.plan (s : State) (g : Nat) : PlanSt := nget {} s.plans g
def State.modPlan (s : State) (g : Nat) (u : PlanSt → PlanSt) : State := { s with plans := nmod {} s.plans g u }

/-- The Accord that runs in tick `n`: the idle one from a fixed swap tick on (R203). -/
def PlanSt.at (p : PlanSt) (n : Nat) : Plan :=
  match p.fixed with
  | some t => if n ≥ t then p.idle else p.run
  | none => p.run

/-- `n` upstream slots from block `b`, alert windows skipped (R99, R100). -/
def upRun : Nat → Nat → List Nat
  | 0, _ => []
  | n + 1, b => if b % 20 = 0 then (b + 1) :: upRun n (b + 2) else b :: upRun n (b + 1)

/-- The slots of a run of `n` from block `b` (R98-R100). -/
def slotRun (up : Bool) (b n : Nat) : List Nat := if up then upRun n b else (List.range n).map (b + ·)

/-- The entry is due in tick `n` (R112). -/
def AEntry.due (e : AEntry) (n : Nat) : Bool := n % 2 ^ e.k == e.phase
/-- The blocks of the entry. -/
def AEntry.slots (e : AEntry) : List Nat := slotRun e.up e.first (e.len + 1)

/-- Blocks of tick `n` that the Accord gives to periodic transfers, muted ones too (R208). -/
def Plan.busyUp (p : Plan) (n : Nat) : List Nat := (p.entries.filter (fun e => e.up && e.due n)).flatMap AEntry.slots
def Plan.busyDn (p : Plan) (n : Nat) : List Nat := (p.entries.filter (fun e => !e.up && e.due n)).flatMap AEntry.slots

/-- The Accord that runs in the current tick. -/
def State.planNow (s : State) (g : Nat) : Plan := (s.plan g).at s.time.tick

/-! ## Sharing the blocks of a tick (R196, R202) -/

/-- A reserved block of its 80-block group: 33 management, 34 and 35 bridge (R196). -/
def mgmtBlock (b : Nat) : Bool := b % 80 == 33
def bridgeBlock (b : Nat) : Bool := b % 80 == 34 || b % 80 == 35

/-- A class may use block `b`: 0 stands for ACK blocks. `turn` says that the bridge has had its turn in the tick, so that
its blocks left unused pass on; bulk comes after management (R202). -/
def mayUse (turn : Bool) (cls b : Nat) : Bool :=
  if mgmtBlock b then cls == 2 || cls == 3
  else if bridgeBlock b then cls == 1 || ((cls == 2 || cls == 3) && turn)
  else true

/-- The class's own reserved block (R196). -/
def ownBlock (cls b : Nat) : Bool := (cls == 1 && bridgeBlock b) || (cls == 2 && mgmtBlock b)

/-- The place taken among those open to a class: one of its reserved blocks alone, else a free pick (R202; DESIGN CHOICE,
log entry 100). -/
def pickSpot (cls : Nat) (run : Nat → List Nat) (l : List Nat) (s : State) : Nat × State :=
  match l.find? (fun b => (run b).all (ownBlock cls)) with
  | some b => (b, s)
  | none => if l.length ≤ 1 then (l.head?.getD 0, s) else ((l[s.freeVal % l.length]?).getD 0, s.draw)

/-- Upstream blocks of tick `n` that are given: by the Accord, by grants, and the slot of an ECHO awaited in it
(R113, R116). -/
def State.upTaken (s : State) (g n : Nat) : List Nat :=
  let p := s.port g
  ((s.plan g).at n).busyUp n ++ (p.grants.filter (·.tick == n)).flatMap (fun x => upRun x.len x.upslot) ++
    (if p.echoes.any (fun e => e.2.1 == n) then [33] else [])

/-- First blocks at which a granted run of `len` slots may stand in tick `n` (R113). -/
def State.grantSpots (s : State) (g n cls len : Nat) : List Nat :=
  let taken := s.upTaken g n
  (List.range (80 * s.tickUs)).filter (fun b =>
    b % 20 != 0 && (upRun len b).all (fun c => c < 80 * s.tickUs && !taken.contains c && mayUse (s.port g).turn cls c))

/-- First blocks at which `len` downstream blocks past block `after` may stand in the current tick (R100). -/
def State.downSpots (s : State) (g cls len after : Nat) : List Nat :=
  let taken := (s.planNow g).busyDn s.time.tick ++ (s.port g).dnUsed
  (List.range (80 * s.tickUs)).filter (fun b => decide (after < b) &&
    (slotRun false b len).all (fun c => c < 80 * s.tickUs && !taken.contains c && mayUse (s.port g).turn cls c))

/-- Downstream blocks of the current tick are taken. -/
def useDown (g b len : Nat) (s : State) : State :=
  s.modPort g (fun p => { p with dnUsed := p.dnUsed ++ slotRun false b len })

/-- `len` consecutive downstream blocks of the current tick past block `after`, if there is such a run (R100). -/
def takeDown (g cls len after : Nat) (s : State) : Option (Nat × State) :=
  match s.downSpots g cls len after with
  | [] => none
  | l =>
    let r := pickSpot cls (fun b => slotRun false b len) l s
    some (r.1, useDown g r.1 len r.2)

/-! ## Grants (R113, R147, R203) -/

/-- Send a GRANT for tick n + 8 past downstream block `after` of the current tick n; none where either direction has no
room (R113, R203). -/
def tryGrant (g node cls len gseq after : Nat) (s : State) : Option State :=
  match s.grantSpots g (s.time.tick + 8) cls len with
  | [] => none
  | ups =>
    match takeDown g cls 1 after s with
    | none => none
    | some (b, s1) =>
      let r := pickSpot cls (fun u => upRun len u) ups s1
      some (out (.block g b (grantBytes node cls r.1 len gseq)) (r.2.modPort g (fun p =>
        { p with grants := p.grants ++ [{ tick := s.time.tick + 8, node, cls, upslot := r.1, len, gseq }] })))

/-- A GRANT that waits for a later tick. -/
def addWish (g : Nat) (w : Wish) (s : State) : State := s.modPort g (fun p => { p with wishes := p.wishes ++ [w] })

/-- Issue a grant in this tick, or in the first later one with room (R147). -/
def issueGrant (g node cls len gseq after : Nat) (s : State) : State :=
  (tryGrant g node cls len gseq after s).getD (addWish g { node, cls, len, gseq, due := s.time.tick + 1 } s)

/-- The request that a waiting grant serves is still open, or the grant is a poll. -/
def State.wanted (s : State) (g : Nat) (w : Wish) : Bool :=
  w.gseq == 0 ||
  (if w.cls = 1 then s.bridge.any (fun a => a.g == g && a.node == w.node && a.btag == w.gseq)
   else if w.cls = 2 then (s.port g).mreqs.any (·.mseq == w.gseq)
   else s.chans.any (fun c => c.1 / 32 == g / 16 && c.1 % 32 == w.gseq % 32 && c.2.out.any (·.bseq == w.gseq / 32)))

/-- One waiting grant of a class is tried. -/
def wishStep (g cls : Nat) (s : State) (w : Wish) : State :=
  if w.cls ≠ cls ∨ s.time.tick < w.due then addWish g w s
  else if !s.wanted g w then s
  else (tryGrant g w.node w.cls w.len w.gseq 0 s).getD (addWish g w s)

/-- The waiting grants of a class, in their order, at the class's turn in a tick. -/
def grantWishes (g cls : Nat) (s : State) : State :=
  (s.port g).wishes.foldl (wishStep g cls) (s.modPort g (fun p => { p with wishes := [] }))

/-! ## Management requests (R146, R147) -/

/-- The MSEQ after `n` (R146). -/
def mseqNext (n : Nat) : Nat := if n ≥ 255 then 1 else n + 1

/-- The next MSEQ that no outstanding request of the port carries; 0 for none. -/
def freeMseq (used : List Nat) : Nat → Nat → Nat
  | 0, _ => 0
  | k + 1, n => if used.contains (mseqNext n) then freeMseq used k (mseqNext n) else mseqNext n

/-- Slots of the answer to a request of operation `op` with the given words (R147). -/
def answerLen (op : Nat) (words : List Nat) : Nat :=
  if op = 1 then (4 * (words[1]?.getD 1) + 4 + 7) / 8 + 1 else 2

/-- Requests of the port that are sent or wait to be. -/
def Port.mgmtOpen (p : Port) : List MReq := p.mreqs ++ p.mwait

/-- Waiting requests are sent in their order while the tick has room and an MSEQ is free; the GRANT follows the request's
last block (R100, R146, R147). -/
def pumpMgmt (g : Nat) : Nat → State → State
  | 0, s => s
  | k + 1, s =>
    match (s.port g).mwait with
    | [] => s
    | r :: rest =>
      let m := freeMseq (r.mseq :: (s.port g).mreqs.map (·.mseq)) 255 (s.port g).mseq
      let data := r.words.flatMap (toLe 4)
      let n := dataBlocks data.length + 1
      if m = 0 ∨ !((s.port g).hop == .up) then s
      else match takeDown g 2 n 0 s with
        | none => s
        | some (b, s1) =>
          let s2 := s1.modPort g (fun p => { p with mseq := m, mwait := rest, mreqs := p.mreqs ++ [{ r with mseq := m }] })
          let s3 := out (.xfer g b 2 r.node (m + r.op * 256) 0 (s.planNow g).planid data) (engineWork (g / 16) s2)
          pumpMgmt g k (issueGrant g r.node 2 (answerLen r.op r.words) m (b + n - 1) s3)

/-- The management turn of a tick, or of an event within it: grants that wait, then requests that wait (R202). -/
def mgmtTurn (g : Nat) (s : State) : State :=
  let s1 := grantWishes g 2 s
  pumpMgmt g (s1.port g).mwait.length s1

/-- A management request: sent now if the tick has room for it, else in a later tick, under another MSEQ than `r` carries
(R146, R147, R149); none while the hop is not UP. -/
def sendReq (g : Nat) (r : MReq) (s : State) : State :=
  if (s.port g).hop ≠ .up then s
  else
    let s1 := s.modPort g (fun p => { p with mwait := p.mwait ++ [r] })
    pumpMgmt g (s1.port g).mwait.length s1

/-- A new management request (R146). -/
def sendMgmt (g node op : Nat) (words : List Nat) (purpose : Purpose) (attempt : Nat) (s : State) : State :=
  sendReq g { mseq := 0, node, op, words, purpose, attempt } s

def mgmtRead (g node addr c : Nat) (purpose : Purpose) (s : State) : State :=
  sendMgmt g node 1 [addr, c] purpose 0 s
def mgmtWrite (g node addr : Nat) (data : List Nat) (purpose : Purpose) (s : State) : State :=
  sendMgmt g node 2 (addr :: data) purpose 0 s

/-- Link registers (R134, R150). -/
abbrev lnkCaps := 0xFF000000
abbrev lnkDelay := 0xFF000004
abbrev lnkPreset := 0xFF000008
abbrev lnkEye := 0xFF00000C
abbrev lnkXfertag := 0xFF000018
abbrev lnkGatetag := 0xFF00001C
abbrev lnkBrctl := 0xFF000024
def lnkBrstat (b : Nat) : Nat := 0xFF000100 + 8 * b
def lnkBrpreset (b : Nat) : Nat := 0xFF000200 + 4 * b
abbrev lnkIdrec := 0xFF001000
abbrev lnkPubkey := 0xFF001040
abbrev lnkNonce := 0xFF001080
abbrev lnkSig := 0xFF0010C0
abbrev lnkAuthstat := 0xFF001100
abbrev lnkRoute := 0xFFC00000

/-- Branch of depth `d` in a path, for the hop to depth `d` (R143). -/
def pathBranch (path d : Nat) : Nat := bits path (4 * (d - 2)) 4

/-- The number bound at a location of the port (R144). -/
def State.nodeAt (s : State) (g depth path : Nat) : Option Nat :=
  (s.nodesOf g).find? (fun n => (s.node g n).bound && (s.node g n).depth == depth && (s.node g n).path == path)

/-- The hub above a location: one hop less. -/
def State.parentOf (s : State) (g n : Nat) : Option Nat :=
  let x := s.node g n
  if x.depth ≤ 1 then none else s.nodeAt g (x.depth - 1) (x.path % 2 ^ (4 * (x.depth - 2)))

/-- Node `m` lies below node `n`, or is it (R143). -/
def State.below (s : State) (g n m : Nat) : Bool :=
  let x := s.node g n
  let y := s.node g m
  y.bound && x.bound && x.depth ≤ y.depth && y.path % 2 ^ (4 * (x.depth - 1)) == x.path

/-- Hubs on the path to a location, nearest the port first. -/
def State.hubsAbove (s : State) (g depth path : Nat) : List Nat :=
  (List.range (depth - 1)).filterMap (fun i => s.nodeAt g (i + 1) (path % 2 ^ (4 * i)))

end Sys2Proof.Machine
end

