-- ==== Sys2Proof/Machine/Plan.lean ====
section
/-!
DEFINITION. Plan: schedule lists, their fetch and checks, the compile, the Accord and its swap
(spec/05_schedule_lists_and_plans.md).
-/
namespace Sys2Proof.Machine

/-! ## Costs and limits (R192-R196) -/

/-- CEILUP and CEILDN (R194). -/
def State.ceilUp (s : State) : Nat := 9 * (76 * s.tickUs) * s.frameLen / 10
def State.ceilDn (s : State) : Nat := 9 * (80 * s.tickUs - 1) * s.frameLen / 10
def State.ceil (s : State) (up : Bool) : Nat := if up then s.ceilUp else s.ceilDn
/-- Periodic blocks a tick may hold (R194). -/
def State.tickLimit (s : State) (up : Bool) : Nat := if up then 73 * s.tickUs else 77 * s.tickUs - 1
/-- Cost of a transfer in blocks per frame of `fl` ticks (R192). -/
def costAt (fl len k : Nat) : Nat := (len + 1) * max 1 (fl / 2 ^ k)
def State.cost (s : State) (len k : Nat) : Nat := costAt s.frameLen len k
/-- Cost of the entries of a direction that meet `p`, at a frame of `fl` ticks. -/
def costSum (fl : Nat) (l : List AEntry) (up : Bool) (p : AEntry → Bool) : Nat :=
  (l.filter (fun e => e.up == up && p e)).foldl (fun a e => a + costAt fl e.len e.k) 0
def State.costOf (s : State) (l : List AEntry) (up : Bool) (p : AEntry → Bool) : Nat := costSum s.frameLen l up p
/-- Slot budget of a function on a port; the manager has none (R193). -/
def State.budget (s : State) (f g : Nat) (up : Bool) : Option Nat :=
  if f = 0 then none else some (nget 0 (if up then (s.fn f).share.budUp else (s.fn f).share.budDn) g)

/-- DELAY, SENDLAT and XFERCAP that a compile uses of a node: the least that R134 allows until it has been admitted
(R598). -/
def Node.planDelay (x : Node) : Nat := if x.known then x.delay else 0
def Node.planLat (x : Node) : Nat := if x.known then x.sendlat else 0
def Node.planCap (x : Node) : Nat := if x.known then x.xfercap else 8

/-- b_min of an upstream transfer of a node, SAMPLEOFF in ns and DELAY in eighths (R195, R598). -/
def State.bmin (s : State) (g n : Nat) : Nat :=
  (8 * s.time.sampleOff + (s.node g n).planDelay + 199) / 100 + (s.node g n).planLat

/-- The entry no longer meets b_min (R201). -/
def State.late (s : State) (g : Nat) (e : AEntry) : Bool := e.up && decide (e.first < s.bmin g e.node)

/-- Two transfers of one direction share a tick: their phases agree modulo the shorter period. -/
def phasesMeet (k1 p1 k2 p2 : Nat) : Bool := p1 % 2 ^ (min k1 k2) == p2 % 2 ^ (min k1 k2)

/-- The blocks of a run may hold a periodic transfer: inside the tick, no marker, window or reserved block (R195, R196). -/
def State.runOk (s : State) (up : Bool) (b len : Nat) : Bool :=
  (if up then b % 20 != 0 else b != 0) &&
  (slotRun up b (len + 1)).all (fun c => c < 80 * s.tickUs && c % 80 != 33 && c % 80 != 34 && c % 80 != 35)

/-- No entry of `l` shares a tick and a block with the run (R195 item 2). -/
def runFree (l : List AEntry) (up : Bool) (k phase b len : Nat) : Bool :=
  let r := slotRun up b (len + 1)
  l.all (fun e => e.up != up || !phasesMeet e.k e.phase k phase || !(e.slots.any (fun c => r.contains c)))

/-- Periodic blocks of a direction in tick `n`. -/
def loadAt (l : List AEntry) (up : Bool) (n : Nat) : Nat :=
  (l.filter (fun e => e.up == up && e.due n)).foldl (fun a e => a + e.len + 1) 0

/-- Peak load of a direction over the ticks of phase `phase` modulo 2^k (R198). -/
def peakAt (l : List AEntry) (up : Bool) (k phase : Nat) : Nat :=
  let h := l.foldl (fun a e => max a e.k) k
  (List.range (2 ^ (h - k))).foldl (fun a m => max a (loadAt l up (phase + m * 2 ^ k))) 0

/-- Peak load of a direction over all ticks (R219). -/
def peakOf (l : List AEntry) (up : Bool) : Nat :=
  let h := l.foldl (fun a e => max a e.k) 0
  (List.range (2 ^ h)).foldl (fun a m => max a (loadAt l up m)) 0

/-- The lowest first block at which a transfer of the node may stand at a phase (R195). -/
def State.firstBlock (s : State) (g : Nat) (l : List AEntry) (d : Desc) (phase : Nat) : Option Nat :=
  (List.range (80 * s.tickUs)).find? (fun b =>
    s.runOk d.up b d.len && runFree l d.up d.k phase b d.len && (!d.up || decide (s.bmin g d.node ≤ b)))

/-- The phase and first block of lowest peak, ties to the lowest phase and block (R198). -/
def State.bestPlace (s : State) (g : Nat) (l : List AEntry) (d : Desc) : Option (Nat × Nat) :=
  ((List.range (d.phhi + 1 - d.phlo)).foldl (fun (best : Option (Nat × Nat × Nat)) i =>
    let ph := d.phlo + i
    let pk := peakAt l d.up d.k ph
    let better := match best with | some (p, _, _) => decide (pk < p) | none => true
    if better && decide (pk + d.len + 1 ≤ s.tickLimit d.up) then
      match s.firstBlock g l d ph with
      | some b => some (pk, ph, b)
      | none => best
    else best) none).map (·.2)

/-! ## Lists (R179-R190) -/

def listKey (f g : Nat) : Nat := f * 128 + g
def State.list (s : State) (f g : Nat) : SList := nget {} s.lists (listKey f g)
def State.modList (s : State) (f g : Nat) (u : SList → SList) : State :=
  { s with lists := nmod {} s.lists (listKey f g) u }
/-- Functions with something to compile or read on a port. -/
def State.listFns (s : State) (g : Nat) : List Nat :=
  (s.lists.filter (fun x => x.1 % 128 == g)).map (fun x => x.1 / 128)

/-- The function's lists are not read and its entries stay as they are (R214 case 7, R384). -/
def State.listsFrozen (s : State) (f : Nat) : Bool :=
  f != 0 && ((s.fn f).st == .freezing || (s.fn f).st == .frozen)

/-- A reserved handle that no generation took (R209). -/
def dropHandle (f seq : Nat) (s : State) : State :=
  s.modFn f (fun x => { x with handles := x.handles.filter (·.seq != seq) })

/-- A cause of a compile of the port is pending (R204). -/
def needCompile (g : Nat) (s : State) : State := s.modPlan g (fun p => { p with cause := true })

/-- A fetch in progress ends without a generation. -/
def cancelFetch (f g : Nat) (s : State) : State :=
  let l := s.list f g
  if l.st = .fetching then dropHandle f l.fetchSeq s else s

/-- A command whose TARGET is a port (R304, R315). -/
def onPort (f : Nat) (x : Entry) (k : Nat → State → State) (s : State) : State :=
  let g := bits x.target 0 7
  if s.hasPort g then k g s else finish f x false 0 0x06 2 [] s

/-- The generation that the next compile takes: the last accepted one, else the last committed (R191, R210). -/
def SList.now (l : SList) : ListGen := (l.pend.getLast?.map (·.2)).getD l.base
/-- A generation under its handle. -/
def SList.genOf (l : SList) (seq : Nat) : ListGen := ((l.pend.find? (·.1 == seq)).map (·.2)).getD l.base
/-- The content of a generation is gone; its GEN and its report stay (R179, R209). -/
def ListGen.emptied (x : ListGen) : ListGen := { gen := x.gen, report := x.report }

/-- LIST_ATTACH (R179): the list replaces an earlier one, whose transfers stay until a generation of the new one takes
their place. -/
def listAttach (f : Nat) (x : Entry) (s : State) : State :=
  onPort f x (fun g s =>
    finish f x false 0 0 0 [] ((cancelFetch f g s).modList f g (fun l =>
      { l with st := .idle, addr := x.addr, gen := none, reason := 0, seg := 0, idx := 0, restart := false,
               fetchUnits := 0 }))) s

def execListAttach (f e : Nat) (s : State) : Res := .next (cmd f e 0x01 (listAttach f) s)

/-- The list of a function on a port is gone; its transfers leave at the next swap (R179). -/
def detachList (f g : Nat) (s : State) : State :=
  ((cancelFetch f g s).modList f g (fun l =>
    { l with st := .detached, addr := 0, gen := none, base := {}, pend := l.pend.map (fun x => (x.1, x.2.emptied))
             reason := 0, seg := 0, idx := 0, restart := false })).modPlan g
    (fun p => { p with causeNext := true })

def execListDetach (f e : Nat) (s : State) : Res :=
  .next (cmd f e 0x02 (fun x s => onPort f x (fun g s => finish f x false 0 0 0 [] (detachList f g s)) s) s)

/-- A write of a port to DBL_SCHED (R190, R215). -/
def dblSched (f v : Nat) (s : State) : State :=
  let g := min (v % 128) (s.portCount - 1)
  if s.pagesOpen f && (s.list f g).st == .stopped then
    s.modList f g (fun l => { l with st := .idle, restart := true }) else s

def execDblSchedWrite (f : Nat) (v : W32) (s : State) : Res := .next (mmio f 0 (fun s => doorbell f (dblSched f v.toNat s)) s)

/-- STATUS and DETAIL of a list stop (R190); `err` is the read error of R319. -/
def listStopStatus (reason err : Nat) : Nat × Nat :=
  if reason = 1 then (0x20, err) else if reason = 2 then (0x21, 0) else if reason = 8 then (0x22, 0) else (0x09, reason)

/-- A list stops (R185, R190). -/
def listStop (f g reason err seg idx : Nat) (s : State) : State :=
  let st := listStopStatus reason err
  let s1 := (cancelFetch f g s).modList f g (fun l => { l with st := .stopped, reason, seg, idx })
  emit f { cls := 2, kind := 2, status := st.1, detail := st.2,
           recs := [recData [(16, 1, g), (17, 1, reason), (18, 1, seg), (20, 2, idx)]] } s1

/-- The header reads of a function at a frame boundary (R186), ports in ascending order after the one served last
(R187); the engines of each port's tile make them (R27). -/
def readHeaders (f : Nat) (s : State) : State :=
  if s.listsFrozen f || !s.alive f then s
  else
    let last := (s.fn f).portLast
    let l := s.lists.filter (fun x => x.1 / 128 == f && x.2.st == .idle && s.publishes (x.1 % 128 / 16))
    (sortBy (fun (x : Nat × SList) => (x.1 % 128 + 127 - last) % 128) l).foldl (fun s x =>
      let g := x.1 % 128
      let s1 := engineWork (g / 16) s
      if s1.dmaOk f then out (.dmaRead f x.2.addr 64) (s1.modList f g (fun l => { l with st := .header }))
      else listStop f g 8 0 0 0 (dmaRefused f s1)) s

/-- GEN 0 is accepted at once as an empty generation (R186, R209). -/
def acceptEmpty (f g report : Nat) (s : State) : State :=
  match newHandle f 0xFFFF 0 (.generation g 0) true 0 0 0 s with
  | none => s.modList f g (fun l => { l with st := .idle })
  | some (seq, s1) =>
    needCompile g ((s1.modList f g (fun l =>
      { l with st := .idle, gen := some 0, restart := false,
               pend := l.pend ++ [(seq, { gen := 0, report := if report % 4096 = 0 then report else 0 })] })).modPlan g
      (fun p => { p with pendingGens := p.pendingGens ++ [(f, seq)] }))

/-- COUNT, NEXT and the point map of a segment header after its clamps (R182, R184). -/
def segCount (d : List Byte) : Nat := min 1024 (byteField d 2 2 % 2048)
def segNext (d : List Byte) : Nat := byteField d 16 8
def mapAddr (d : List Byte) : Nat := byteField d 24 8
def mapCount (d : List Byte) : Nat := min 65536 (byteField d 32 4 % 2 ^ 17)

/-- Reads of a list for function `f`, as (address, length, segment), until one is refused by the anchor: the segment of
that one (R30, R185 REASON 8). -/
def listReads (f : Nat) : List (Nat × Nat × Nat) → State → State × Option Nat
  | [], s => (s, none)
  | (a, n, i) :: r, s =>
    if n = 0 then listReads f r s
    else
      let x := dmaRead f a n s
      if x.2 then listReads f r x.1 else (x.1, some i)

/-- The read requests of a fetch after the first header: the first segment's descriptors and the point map. -/
def firstReads (a : Nat) (d : List Byte) : List (Nat × Nat × Nat) :=
  [(a + 64, 32 * segCount d, 0), (mapAddr d, 8 * mapCount d, 0)]

/-- Those that follow: each later segment's header and descriptors, and the first header again (R188). -/
def laterReads (a : Nat) : Nat → List (List Byte) → List (Nat × Nat × Nat)
  | _, [] => []
  | _, [_] => [(a, 64, 0)]
  | i, d :: d2 :: r => (segNext d, 64, i + 1) :: (segNext d + 64, 32 * segCount d2, i + 1) :: laterReads a (i + 1) (d2 :: r)

/-- LIST_HEADER_READ_DONE: the first segment header, or an error (1 UR, 2 CA, 3 poisoned) (R186). The content is fetched
by the engines of the port's tile (R27). -/
def listHeaderDone (f g err : Nat) (d : List Byte) (s : State) : State :=
  let l := s.list f g
  if l.st ≠ .header then s
  else if s.listsFrozen f then s.modList f g (fun l => { l with st := .idle })
  else if err ≠ 0 then listStop f g 1 err 0 0 s
  else
    let gen := byteField d 8 8
    if !l.restart && (l.gen == some gen || gen % 2 == 1) then s.modList f g (fun l => { l with st := .idle })
    else if gen = 0 && !l.restart then acceptEmpty f g (byteField d 40 8) (engineWork (g / 16) s)
    else match newHandle f 0xFFFF 0 (.generation g gen) false 0 0 0 s with
      | none => s.modList f g (fun l => { l with st := .idle })
      | some (seq, s1) =>
        let r := listReads f (firstReads l.addr d) ((engineWork (g / 16) s1).modList f g (fun l =>
          { l with st := .fetching, fetchGen := gen, fetchSeq := seq, fetchUnits := 0 }))
        match r.2 with
        | some i => listStop f g 8 0 i 0 r.1
        | none => r.1

def execListHeaderReadDone (f g err : Nat) (d : List Byte) (s : State) : Res := .next (listHeaderDone f g err d s)

/-- Why a fetched chain fails as a whole, with segment (R185 REASON 3 to 7); `a` is the segment's address. A header that
fails several checks stops the list for the first of them in the order address, FORMAT, PORT, alignment of its fields,
loop, length: the spec orders no two reasons of one header (DESIGN CHOICE, log entry 43). -/
def chainFails (g : Nat) : Nat → List Nat → Nat → List (List Byte) → Option (Nat × Nat)
  | _, _, _, [] => none
  | i, seen, a, d :: r =>
    let n := segNext d
    if a % 64 ≠ 0 then some (7, i)
    else if byteField d 0 2 ≠ 1 then some (5, i)
    else if byteField d 4 1 % 128 ≠ g then some (6, i)
    else if n % 64 ≠ 0 then some (7, i)
    else if i = 0 ∧ (byteField d 24 8 % 8 ≠ 0 ∨ byteField d 40 8 % 4096 ≠ 0) then some (7, i)
    else if n ≠ 0 ∧ (a :: seen).contains n then some (3, i)
    else if n ≠ 0 ∧ i ≥ 15 then some (4, i)
    else if n = 0 then none
    else chainFails g (i + 1) (a :: seen) n r

/-- The 8 bytes of a point-map entry (R231). -/
def parsePm (d : List Byte) : PmEntry :=
  let o := byteField d 4 2
  let w := byteField d 6 1
  { point := byteField d 0 4 % 2 ^ 23, byteOff := o % 512, bitOff := bits o 9 3, width := w % 32 + 1,
    signed := bit w 5, enabled := true }

/-- A descriptor with its clamps (R183, R184). -/
def parseDesc (didx pmCount : Nat) (pm : List PmEntry) (d : List Byte) : Desc × List ClampRow :=
  let w := byteField d 0 2
  let len0 := byteField d 4 1 % 64
  let len := if len0 = 0 then 1 else len0
  let kp := byteField d 5 1
  let k0 := kp % 32
  let k := min k0 16
  let m := 2 ^ k - 1
  let lo0 := byteField d 6 2
  let lo := min lo0 m
  let hi0 := byteField d 8 2
  let hi := max lo (min hi0 m)
  let pf := byteField d 12 2
  let pc0 := byteField d 14 2 % 512
  let pc1 := min pc0 500
  let pc := if pf + pc1 > pmCount then (if pf ≥ pmCount then 0 else pmCount - pf) else pc1
  let up := bit w 12
  let rt0 := bit w 13
  let rt := rt0 && up && decide (4 ≤ k)
  let c := fun (code a b : Nat) => if a = b then [] else [(didx, code, a, b)]
  ({ didx, node := w % 4096, up, retry := rt, xid := byteField d 2 2, len, k, prio := kp / 32, phlo := lo, phhi := hi,
     pmFirst := pf, pm := (pm.drop pf).take pc },
   c 3 len0 len ++ c 4 k0 k ++ c 5 lo0 lo ++ c 6 hi0 hi ++ c 7 pc0 pc ++ c 9 (b2n rt0) (b2n rt))

/-- The descriptors of the segments, numbered segment * 1,024 + index (R212). -/
def parseSegs (pmCount : Nat) (pm : List PmEntry) : Nat → List (List Byte) → List (List Byte) → List (Desc × List ClampRow)
  | _, [], _ => []
  | i, h :: hs, ds =>
    let body := (ds[0]?).getD []
    ((chunks 32 (segCount h) body).zipIdx).map (fun x => parseDesc (1024 * i + x.2) pmCount pm x.1) ++
      parseSegs pmCount pm (i + 1) hs (ds.drop 1)

/-- The node of a descriptor is in a state other than ADMITTED, DEMOTED or ABSENT: it waits (R191). -/
def State.descWaits (s : State) (g n : Nat) : Bool :=
  let st := (s.node g n).st
  !(st == .admitted || st == .demoted || st == .absent)

/-- The content of a list that has passed its checks: its generation after the clamps (R184, R191). -/
def State.listGen (s : State) (g gen : Nat) (heads bodies : List (List Byte)) (pmap : List Byte) : ListGen :=
  let h0 := (heads[0]?).getD []
  let pc0 := byteField h0 32 4 % 2 ^ 17
  let pm := (chunks 8 (mapCount h0) pmap).map parsePm
  let ps := parseSegs (mapCount h0) pm 0 heads bodies
  let hc := (heads.zipIdx).filterMap (fun x =>
    let c := byteField x.1 2 2 % 2048
    if c > 1024 then some (0x7FFF, 1, c, 1024) else none)
  let hc2 := if pc0 > 65536 then [(0x7FFF, 2, pc0, 65536)] else []
  let descs := ps.map (·.1)
  { gen, report := byteField h0 40 8, descs, clamps := hc ++ hc2 ++ ps.flatMap (·.2)
    waiting := (descs.filter (fun d => s.descWaits g d.node)).map (·.didx) }

/-- The first header has been read again: a changed GEN discards the fetch, and the header decides afresh at the next
frame boundary; else the generation is accepted (R188). -/
def acceptFetched (f g : Nat) (heads bodies : List (List Byte)) (pmap : List Byte) (gen2 : Nat) (s : State) : State :=
  let l := s.list f g
  if gen2 ≠ l.fetchGen then
    (dropHandle f l.fetchSeq s).modList f g (fun l => { l with st := .idle, restart := false, fetchUnits := 0 })
  else
    let s2 := s.modList f g (fun l =>
      { l with st := .idle, gen := some gen2, restart := false, reason := 0, seg := 0, idx := 0, fetchUnits := 0
               pend := l.pend ++ [(l.fetchSeq, s.listGen g gen2 heads bodies pmap)] })
    needCompile g ((s2.modHandle f l.fetchSeq (fun h => { h with ready := true })).modPlan g
      (fun p => { p with pendingGens := p.pendingGens ++ [(f, l.fetchSeq)] }))

/-- LIST_FETCH_DONE: the chain's headers, each segment's descriptor bytes, the point map, the GEN read again, or an
error `err` (1 UR, 2 CA, 3 poisoned, 8 refused) at (seg, idx) (R184, R185, R187, R188). The requests of the later
segments are recorded here, in their order (log entry 101). -/
def listFetchDone (f g err seg idx : Nat) (heads bodies : List (List Byte)) (pmap : List Byte) (gen2 : Nat)
    (s : State) : State :=
  let l := s.list f g
  if l.st ≠ .fetching then s
  else if err = 8 then listStop f g 8 0 seg idx (dmaRefused f s)
  else if err ≠ 0 then listStop f g 1 err seg idx s
  else match chainFails g 0 [] l.addr heads with
    | some (r, i) => listStop f g r 0 i 0 s
    | none =>
      let h0 := (heads[0]?).getD []
      let need := heads.foldl (fun a h => a + segCount h) 0 + (mapCount h0 + 3) / 4
      let s := engineWork (g / 16) (s.modFn f (fun x => { x with portLast := g }))
      let left := (s.fn f).fetchLeft
      if need - l.fetchUnits > left then
        (s.modFn f (fun x => { x with fetchLeft := 0 })).modList f g (fun l => { l with fetchUnits := l.fetchUnits + left })
      else
        let r := listReads f (laterReads l.addr 0 heads)
          (s.modFn f (fun x => { x with fetchLeft := x.fetchLeft - (need - l.fetchUnits) }))
        match r.2 with
        | some i => listStop f g 8 0 i 0 r.1
        | none => acceptFetched f g heads bodies pmap gen2 r.1

def execListFetchDone (f g err seg idx : Nat) (heads bodies : List (List Byte)) (pmap : List Byte) (gen2 : Nat)
    (s : State) : Res := .next (listFetchDone f g err seg idx heads bodies pmap gen2 s)

/-- No completion of a header or fetch read within 10 ms, at segment `seg` and descriptor `idx` (R185 REASON 2, R190). -/
def listReadTimeout (f g seg idx : Nat) (s : State) : State :=
  if (s.list f g).st = .header then listStop f g 2 0 0 0 s
  else if (s.list f g).st = .fetching then listStop f g 2 0 seg idx s else s

/-! ## The compile (R191-R204) -/

/-- Outcomes 1 to 3 of a list's descriptors, in list order (R191). -/
def State.ownOutcome (s : State) (f g : Nat) (l : ListGen) (before : List Desc) (d : Desc) : Nat :=
  if l.waiting.contains d.didx then 1
  else if (s.node g d.node).lessee ≠ f then 2
  else if before.any (fun x => x.node == d.node && x.xid == d.xid) then 3
  else 0

def State.ownOutcomes (s : State) (f g : Nat) (l : ListGen) : List Desc → List Desc → List (Desc × Nat)
  | _, [] => []
  | b, d :: r => (d, s.ownOutcome f g l b d) :: s.ownOutcomes f g l (b ++ [d]) r

/-- The budget walk of R193 over descriptors in order of descending PRIO: those left out of the budget. -/
def State.overBudget (s : State) (f g : Nat) (l : List Desc) : List Nat :=
  let r := (sortBy (fun d => 7 - d.prio) l).foldl (fun (a : Nat × Nat × Bool × Bool × List Nat) d =>
    let (cu, cd, xu, xd, outl) := a
    let c := s.cost d.len d.k
    if d.up then
      let excess := xu || (match s.budget f g true with | some b => decide (cu + c > b) | none => false)
      if excess then (cu, cd, true, xd, outl ++ [d.didx]) else (cu + c, cd, xu, xd, outl)
    else
      let excess := xd || (match s.budget f g false with | some b => decide (cd + c > b) | none => false)
      if excess then (cu, cd, xu, true, outl ++ [d.didx]) else (cu, cd + c, xu, xd, outl))
    (0, 0, false, false, [])
  r.2.2.2.2

/-- Outcomes 1 to 3 of the generation that the next compile takes of a function's list. -/
def State.ownNow (s : State) (f g : Nat) : List (Desc × Nat) :=
  let l := (s.list f g).now
  s.ownOutcomes f g l [] l.descs

/-- The move of the current proposal for a transfer, where it is folded in (R200 MERGE). -/
def State.folded (s : State) (g f node xid : Nat) : Option (Nat × Nat) :=
  if bit (s.reg 0x100042 pATZ g 0x040) 1 && bit (s.reg 1 pATZ g 0x00C) 0 then
    ((s.plan g).proposal.find? (fun m => m.1 == f && m.2.1 == node && m.2.2.1 == xid)).map (fun m => (m.2.2.2.1, m.2.2.2.2))
  else none

/-- The running entry that a descriptor retains (R197). -/
def State.retains (s : State) (f g : Nat) (d : Desc) : Option AEntry :=
  (s.plan g).run.entries.find? (fun e => e.func == f && e.node == d.node && e.xid == d.xid && !e.mute && !e.muteAfter &&
    e.up == d.up && e.len == d.len && e.k == d.k && decide (d.phlo ≤ e.phase ∧ e.phase ≤ d.phhi) && !s.late g e &&
    (s.folded g f d.node d.xid).isNone && s.runOk e.up e.first e.len)

/-- The candidate of a compile: function, list position, descriptor. -/
abbrev Cand := Nat × Nat × Desc

/-- Placement order of the transfers that are not retained (R198), as one number. -/
def candKey (c : Cand) : Nat :=
  (((c.2.2.k * 64 + (63 - c.2.2.len)) * 8 + (7 - c.2.2.prio)) * 1024 + c.1) * 32768 + c.2.1

def mkEntry (f : Nat) (d : Desc) (phase first : Nat) : AEntry :=
  { node := d.node, up := d.up, retry := d.retry, mute := false, xid := d.xid, len := d.len, k := d.k, prio := d.prio,
    phase, first, func := f, pmref := 0, phlo := d.phlo, phhi := d.phhi, pm := d.pm }

/-- The place that a transfer is to take, where it meets R195 here: that of the proposal folded in, or the saved one of a
restored transfer (R200, R391). -/
def State.wantedPlace (s : State) (g : Nat) (l : List AEntry) (c : Cand) : Option (Nat × Nat) :=
  let d := c.2.2
  let saved := ((s.plan g).saved.find? (fun m => m.1 == c.1 && m.2.1 == d.node && m.2.2.1 == d.xid)).map
    (fun m => (m.2.2.2.1, m.2.2.2.2))
  ((s.folded g c.1 d.node d.xid).orElse (fun _ => saved)).filter (fun (ph, b) =>
    decide (d.phlo ≤ ph ∧ ph ≤ d.phhi) && s.runOk d.up b d.len && runFree l d.up d.k ph b d.len &&
      (!d.up || decide (s.bmin g d.node ≤ b)) && decide (peakAt l d.up d.k ph + d.len + 1 ≤ s.tickLimit d.up))

/-- What the Atomizer keeps of a transfer that is placed anew over the running entry `x` (R219). -/
def State.movedFrom (s : State) (g : Nat) (x e : AEntry) : AEntry :=
  let same := x.phase == e.phase && x.first == e.first && x.up == e.up
  { e with shift := if x.up == e.up then (e.first : Int) - x.first else 0
           moved := if same then x.moved else satAdd 255 x.moved 1, tseq := x.tseq
           moveKind := if same then 0 else if s.late g x then 2
             else if (s.folded g x.func x.node x.xid).isSome then 1 else 0 }

/-- Place one candidate, or give the outcome that names the first constraint it fails (R191, R198). -/
def State.placeOne (s : State) (g : Nat) (a : List AEntry × List (Nat × Nat × Nat)) (c : Cand) :
    List AEntry × List (Nat × Nat × Nat) :=
  let (l, o) := a
  let d := c.2.2
  if s.costOf l d.up (fun _ => true) + s.cost d.len d.k > s.ceil d.up then (l, o ++ [(c.1, d.didx, 6)])
  else if l.length ≥ 4092 then (l, o ++ [(c.1, d.didx, 9)])
  else if (l.filter (fun e => e.node == d.node)).length ≥ (s.node g d.node).planCap then (l, o ++ [(c.1, d.didx, 8)])
  else match (s.wantedPlace g l c).orElse (fun _ => s.bestPlace g l d) with
    | some (ph, b) =>
      let old := (s.plan g).run.entries.find? (fun e => e.func == c.1 && e.node == d.node && e.xid == d.xid)
      let e := mkEntry c.1 d ph b
      (l ++ [match old with
        | some x => s.movedFrom g x e
        | none => e], o)
    | none => (l, o ++ [(c.1, d.didx, 7)])

/-- Claims on points by Accords of the tile: (port, entry) pairs of every running and idle plan, the idle ones of ports
that meet `skip` aside (R596). -/
def State.claims (s : State) (t : Nat) (skip : Nat → Bool) : List (Nat × AEntry) :=
  (s.plans.filter (fun x => x.1 / 16 == t)).flatMap (fun x =>
    (x.2.run.entries ++ (if x.2.idleSt = .empty || skip x.1 then [] else x.2.idle.entries)).map (fun e => (x.1, e)))

/-- A point-map entry of a transfer passes the checks of R233. -/
def State.pmOk (s : State) (g : Nat) (others : List (Nat × AEntry)) (e : AEntry) (m : PmEntry) : Bool :=
  ptTile m.point == g / 16 && s.owns e.func m.point &&
  (s.point m.point).kind == (if e.up then 1 else 2) &&
  decide (8 * m.byteOff + m.bitOff + m.width ≤ 8 * (8 * e.len - 4)) &&
  !(others.any (fun x => x.2.up == e.up && x.2.pm.any (fun y => y.enabled && y.point == m.point) &&
    (if e.up then !(x.2.func == e.func && x.1 == g && x.2.node == e.node && x.2.xid == e.xid)
     else !(x.1 == g && x.2.node == e.node))))

/-- Check the point maps of the placed entries in turn, each seeing the claims made before it (R233, R596). -/
def State.checkMaps (s : State) (g : Nat) : List (Nat × AEntry) → List AEntry → List AEntry
  | _, [] => []
  | cl, e :: r =>
    -- an entry that waits for its mute, or whose function is frozen, goes on as it is (R214 case 7, R382 item 7)
    let e1 := if e.muteAfter || s.listsFrozen e.func then e
      else { e with pm := e.pm.map (fun m => { m with enabled := s.pmOk g cl e m }) }
    e1 :: s.checkMaps g ((g, e1) :: cl) r

/-- Order of the entries in an Accord: DIR, FIRST, PHASE (R222). -/
def entryKey (e : AEntry) : Nat := (b2n e.up * 2 ^ 10 + e.first) * 2 ^ 16 + e.phase

/-- What identifies an entry's placement, its point references aside. -/
def AEntry.same (a b : AEntry) : Bool :=
  a.node == b.node && a.up == b.up && a.retry == b.retry && a.xid == b.xid && a.len == b.len && a.k == b.k &&
  a.prio == b.prio && a.phase == b.phase && a.first == b.first && a.func == b.func && a.pm == b.pm && a.mute == b.mute

def sameEntries (a b : List AEntry) : Bool :=
  a.length == b.length && a.all (fun x => b.any (AEntry.same x))

/-- PLANID after `n` (R205). -/
def planNext (n : Nat) : Nat := if n ≥ 0xFF then 1 else n + 1

/-- The placement of a port: entries, and the outcomes (function, DIDX, OUTCOME) of descriptors not placed. -/
def State.placement (s : State) (g : Nat) : List AEntry × List (Nat × Nat × Nat) :=
  let run := (s.plan g).run.entries
  -- entries of a frozen function stay as they are (R214 case 7), and so do entries whose mute is still to come (R382 item 7)
  let frozen := run.filter (fun e => !e.mute && (s.listsFrozen e.func || e.muteAfter))
  let fs := (s.listFns g).filter (fun f => !s.listsFrozen f)
  let own := fs.map (fun f => (f, s.ownNow f g))
  let drop := own.flatMap (fun x => (x.2.filter (fun y => y.2 != 0)).map (fun y => (x.1, y.1.didx, y.2)))
  let live := own.map (fun x => (x.1, (x.2.filter (fun y => y.2 == 0)).map (·.1)))
  -- until a shrink deadline the over-budget transfers that run keep running (R213 item 2)
  let stays := fun (f : Nat) (d : Desc) => (s.list f g).deadline.isSome && (s.retains f g d).isSome
  let budg := live.flatMap (fun x =>
    let out := s.overBudget x.1 g x.2
    (x.2.filter (fun d => out.contains d.didx && !stays x.1 d)).map (fun d => (x.1, d.didx, 4)))
  let cands : List Cand := live.flatMap (fun x =>
    (x.2.filter (fun d => !(budg.contains (x.1, d.didx, 4)))).map (fun d => (x.1, d.didx, d)))
  let kept := cands.filterMap (fun c => (s.retains c.1 g c.2.2).map (fun e =>
    { e with prio := c.2.2.prio, retry := c.2.2.retry, phlo := c.2.2.phlo, phhi := c.2.2.phhi, pm := c.2.2.pm, shift := 0
             moveKind := 0 }))
  let rest := sortBy candKey (cands.filter (fun c => (s.retains c.1 g c.2.2).isNone))
  let still := fun (e : AEntry) => { e with shift := 0, moveKind := 0 }
  let r := rest.foldl (s.placeOne g) (frozen.map still ++ kept, [])
  (r.1, drop ++ budg ++ r.2)

/-- Map entries of a descriptor that its compile disables: as placed, else checked against the claims `cl` of the other
Accords and `es` of this one, none of its own being made (R184 FIELD 8, R233). -/
def State.disabled (s : State) (g : Nat) (cl : List (Nat × AEntry)) (es : List AEntry) (f : Nat) (d : Desc)
    (placed : Bool) : List ClampRow :=
  let pm := match if placed then es.find? (fun e => e.func == f && e.node == d.node && e.xid == d.xid) else none with
    | some e => e.pm
    | none => d.pm.map (fun (m : PmEntry) => { m with
        enabled := s.pmOk g (es.map (fun e => (g, e)) ++ cl) (mkEntry f d 0 0) m })
  ((pm.zipIdx).filter (fun m => !m.1.enabled)).map (fun m => (d.didx, 8, d.pmFirst + m.2, 0))

/-- Clamp records of a generation: its headers', then each descriptor's in list order, its fields in the order of R184. -/
def State.clampRows (s : State) (g : Nat) (cl : List (Nat × AEntry)) (f : Nat) (x : ListGen) (es : List AEntry)
    (out : List (Nat × Nat)) : List ClampRow :=
  (x.clamps.filter (fun c => c.1 == 0x7FFF)) ++ x.descs.flatMap (fun d =>
    let own := x.clamps.filter (fun c => c.1 == d.didx)
    own.filter (fun c => decide (c.2.1 < 8)) ++ s.disabled g cl es f d (!out.any (fun o => o.1 == d.didx)) ++
      own.filter (fun c => decide (8 < c.2.1)))

/-- What the compile gives one covered generation (R211). Of two generations of one list that a compile covers, both carry
the outcomes of the later one, which alone is placed (DESIGN CHOICE, log entry 102). -/
def State.coverOf (s : State) (g : Nat) (cl : List (Nat × AEntry)) (es : List AEntry) (outs : List (Nat × Nat × Nat))
    (t : Nat × Nat) : Cover :=
  let f := t.1
  let x := (s.list f g).genOf t.2
  let mine := es.filter (fun e => e.func == f)
  let out := (outs.filter (fun o => o.1 == f)).map (·.2)
  { func := f, seq := t.2, gen := x.gen, report := x.report, placed := mine.length
    clamps := s.clampRows g cl f x es out, outcomes := out
    costUp := s.costOf mine true (fun _ => true), costDn := s.costOf mine false (fun _ => true)
    changed := !sameEntries mine ((s.plan g).run.entries.filter (fun e => e.func == f)) }

/-- Records of a compile report: clamps first, then the given descriptors not placed (R212). -/
def reportRecords (c : Cover) (outs : List (Nat × Nat)) : List (List Byte) :=
  c.clamps.map (fun r => toLe 2 r.1 ++ [BitVec.ofNat 8 r.2.1, 0#8] ++ toLe 4 r.2.2.1 ++ toLe 4 r.2.2.2 ++ toLe 4 0) ++
  (sortBy (·.1) outs).map (fun o => toLe 2 (o.1 + 2 ^ 15) ++ [BitVec.ofNat 8 o.2, 0#8] ++ toLe 12 0)

/-- The bytes of a compile report that records the outcomes `outs` (R211). -/
def reportBytes (g : Nat) (c : Cover) (handle planid swaptick : Nat) (outs : List (Nat × Nat)) : List Byte :=
  let n := fun (p : Nat → Bool) => (c.outcomes.filter (fun o => p o.2)).length
  let recs := reportRecords c outs
  toLe 8 c.gen ++ toLe 4 handle ++ [BitVec.ofNat 8 g, BitVec.ofNat 8 planid, 0#8, 0#8] ++ toLe 2 c.placed ++
  toLe 2 (n (· == 1)) ++ toLe 2 (n (fun o => decide (4 ≤ o))) ++ toLe 2 (n (fun o => o == 2 || o == 3)) ++
  toLe 2 (min 65535 c.clamps.length) ++ toLe 2 (min 248 recs.length) ++ toLe 4 (b2n (decide (recs.length > 248))) ++
  toLe 4 c.costUp ++ toLe 4 c.costDn ++ toLe 8 swaptick ++ toLe 16 0 ++ (recs.take 248).flatten

/-- DATA of the plan event (R318). -/
def planData (g planid gen placed notPlaced : Nat) : List Byte :=
  recData [(16, 1, g), (17, 1, planid), (18, 8, gen), (26, 2, min 65535 placed), (28, 2, min 65535 notPlaced)]

/-- The commit of a generation: its report, then its plan event (R209). -/
def commitGeneration (g planid swaptick : Nat) (s : State) (c : Cover) : State :=
  match s.handle? c.func c.seq with
  | none => s
  | some h =>
    if h.word ≠ .pending then s
    else
      -- a report that the anchor refuses ends the work with 0x22 (R594)
      let w := if c.report = 0 then (s, true)
        else dmaWrite c.func c.report (reportBytes g c (handleOf c.func c.seq) planid swaptick c.outcomes) s
      let s1 := w.1.modList c.func g (fun l =>
        if l.pend.any (·.1 == c.seq) then
          { l with base := l.genOf c.seq, pend := (l.pend.dropWhile (·.1 != c.seq)).drop 1 } else l)
      flushAll c.func (endHandle c.func c.seq .committed (if w.2 then 0 else 0x22) 0 s.time.tick
        (s1.modHandle c.func c.seq (fun h => { h with planData := planData g planid c.gen c.placed c.outcomes.length })))

/-- The Accord that a compile started now makes, its maps not yet checked: entries and covered generations, placed from
what is in force at its start (R198, R204). -/
def State.placedPlan (s : State) (g : Nat) : Plan :=
  { ticklen := s.time.ticklen, fllog2 := s.time.fllog2, sampleOff := s.time.sampleOff, entries := (s.placement g).1
    covers := (s.plan g).pendingGens.map (fun t => { func := t.1, seq := t.2, gen := 0, report := 0, placed := 0, clamps := []
                                                     outcomes := ((s.placement g).2.filter (fun o => o.1 == t.1)).map (·.2)
                                                     costUp := 0, costDn := 0, changed := true }) }

/-- The point maps of the Accord in the idle buffer are checked, the claims of ports that meet `skip` aside, and its
covered generations are told (R211, R233, R596). -/
def checkPlan (skip : Nat → Bool) (s : State) (g : Nat) : State :=
  let cl := s.claims (g / 16) skip
  let p := (s.plan g).idle
  let es := s.checkMaps g cl p.entries
  let outs := p.covers.flatMap (fun c => c.outcomes.map (fun o => (c.func, o)))
  s.modPlan g (fun x => { x with idle := { p with
    entries := sortBy entryKey es, covers := p.covers.map (fun c => s.coverOf g cl es outs (c.func, c.seq)) } })

/-- Compiles of the tile that started in this tick, ascending. -/
def State.newCompiles (s : State) (t : Nat) : List Nat :=
  (s.plans.filter (fun x => x.1 / 16 == t && x.2.idleSt == .compiling && x.2.compiledAt == s.time.tick)).map (·.1)

/-- The compiles of one tick make their checks in ascending port order, each seeing the claims of those before it
(R596 item 2). -/
def checkNew (t : Nat) (s : State) : State :=
  let gs := s.newCompiles t
  gs.foldl (fun s g => checkPlan (fun h => gs.contains h && decide (g ≤ h)) s g) s

/-- COMPILE_START: with a cause pending and the idle buffer EMPTY (R204). Causes that arise later wait for its swap. -/
def compileStart (g : Nat) (s : State) : State :=
  let p := s.plan g
  if s.hasPort g && s.ready && (s.tl (g / 16)).ready && p.idleSt == .empty && p.cause &&
      !(s.listFns g).any (fun f => (s.list f g).st == .fetching) then
    spawn (g / 16) 14 0 (.compile g) (checkNew (g / 16)
      (s.modPlan g (fun p => { p with
        idle := s.placedPlan g, idleSt := .compiling, cause := false, taken := p.pendingGens, pendingGens := []
        saved := p.saved.filter (fun m => s.listsFrozen m.1), compiledAt := s.time.tick })))
  else s

def execCompileStart (g : Nat) (s : State) : Res := .next (compileStart g s)

/-- A transfer-table row as written to a node's bank (R134). -/
def tableRow (e : AEntry) : List Nat :=
  [e.xid + e.len * 2 ^ 16 + b2n e.up * 2 ^ 22 + e.k * 2 ^ 23 + 2 ^ 31, e.phase + e.first * 2 ^ 16]

/-- Load a node's bank for a PLANID: the entries if they differ, then the tag with its valid bit (R112, R134, R206). -/
def loadNode (g n planid : Nat) (es : List AEntry) (s : State) : State :=
  let x := s.node g n
  let rows := (es.filter (fun e => e.node == n)).map tableRow
  -- the bank whose tag is not the running PLANID
  let bank := if x.xfer0 = some (s.plan g).run.planid then 1 else 0
  let old := if bank = 0 then x.tab0 else x.tab1
  -- rows left over from an earlier content are written as 0
  let words := rows.flatten ++ List.replicate (2 * ((match old with | some o => o.length | none => x.xfercap) - rows.length)) 0
  let s1 := if old = some rows then s else
    ((List.range ((words.length + 15) / 16)).foldl (fun s i =>
      mgmtWrite g n (0xFF400000 + 0x10000 * bank + 64 * i) ((words.drop (16 * i)).take 16) (.table planid bank) s) s)
  let t0 := if bank = 0 then planid else x.xfer0.getD 0
  let t1 := if bank = 1 then planid else x.xfer1.getD 0
  let v0 := bank == 0 || x.xfer0.isSome
  let v1 := bank == 1 || x.xfer1.isSome
  let s2 := s1.modNode g n (fun x => if bank = 0 then { x with tab0 := some rows, xfer0 := some planid }
    else { x with tab1 := some rows, xfer1 := some planid })
  mgmtWrite g n lnkXfertag [t0 + t1 * 256 + b2n v0 * 2 ^ 16 + b2n v1 * 2 ^ 17] (.table planid bank) s2

/-- Rows (position, block, branch) of a hub's gate map under an Accord (R122). -/
def State.gateRows (s : State) (g h : Nat) (es : List AEntry) : List (List Nat) :=
  let x := s.node g h
  let per := 2 ^ x.gmlog2
  (es.filter (fun e => e.up && s.below g h e.node)).flatMap (fun e =>
    let br := if e.node = h then 16 else pathBranch (s.node g e.node).path (x.depth + 1)
    let pos := if 2 ^ e.k ≥ per then [e.phase % per]
      else (List.range (per / 2 ^ e.k)).map (fun i => e.phase + i * 2 ^ e.k)
    pos.flatMap (fun p => e.slots.map (fun b => [p, b, br])))

/-- Load a hub's idle gate-map bank where its map changes, then its tag. A hub whose map does not change has its idle
bank's tag written too, since R122 needs a bank that matches the new PLANID (DESIGN CHOICE, log entry 103). -/
def loadHub (g h planid : Nat) (es : List AEntry) (s : State) : State :=
  let x := s.node g h
  let rows := s.gateRows g h es
  let bank := if x.gate0 = some (s.plan g).run.planid then 1 else 0
  let old := if bank = 0 then x.gm0 else x.gm1
  -- words of four blocks that hold an open entry of the new map or of the bank's old one
  let ws := (rows ++ old).foldl (fun a r => insertAsc ((r[0]?.getD 0) * 0x400 + (r[1]?.getD 0) / 4 * 4) a) []
  let val := fun (a : Nat) => (List.range 4).foldl (fun v i =>
    let br := match rows.find? (fun r => r[0]? == some (a / 0x400) && r[1]? == some (a % 0x400 + i)) with
      | some r => r[2]?.getD 31
      | none => 31
    v + br * 2 ^ (8 * i)) 0
  let s1 := if old = rows then s else ws.foldl (fun s a =>
    mgmtWrite g h (0xFF800000 + 0x40000 * bank + a) [val a] (.gateMap planid bank) s) s
  let t0 := if bank = 0 then planid else x.gate0.getD 0
  let t1 := if bank = 1 then planid else x.gate1.getD 0
  let v0 := bank == 0 || x.gate0.isSome
  let v1 := bank == 1 || x.gate1.isSome
  let s2 := s1.modNode g h (fun x => if bank = 0 then { x with gm0 := rows, gate0 := some planid }
    else { x with gm1 := rows, gate1 := some planid })
  mgmtWrite g h lnkGatetag [t0 + t1 * 256 + b2n v0 * 2 ^ 16 + b2n v1 * 2 ^ 17] (.gateMap planid bank) s2

/-- The nodes of an Accord, ascending. -/
def planNodes (es : List AEntry) : List Nat := es.foldl (fun a e => insertAsc e.node a) []

/-- The loads of R206: every ADMITTED or DEMOTED node with transfers, every hub above them. -/
def loadAll (g : Nat) (p : Plan) (s : State) : State :=
  let ns := (planNodes p.entries).filter (fun n => (s.node g n).st == .admitted || (s.node g n).st == .demoted)
  let hubs := (s.nodesOf g).filter (fun n => (s.node g n).isHub && ((s.node g n).st == .admitted || (s.node g n).st == .demoted))
  hubs.foldl (fun s h => loadHub g h p.planid p.entries s) (ns.foldl (fun s n => loadNode g n p.planid p.entries s) s)

/-- Ranges (first index, entries) of a tile's point-map store that its running and idle Accords hold, that of the idle
buffer of port `g` aside (R599). -/
def State.storeUsed (s : State) (g : Nat) : List (Nat × Nat) :=
  (s.plans.filter (fun x => x.1 / 16 == g / 16)).flatMap (fun x =>
    (x.2.run.entries ++ (if x.1 = g then [] else x.2.idle.entries)).map (fun e => (e.pmref, e.pm.length)))

/-- `n` indexes from `i` lie in the store and meet none of the ranges. -/
def refFits (used : List (Nat × Nat)) (n i : Nat) : Bool :=
  decide (i + n ≤ 2 ^ 20 ∧ i < 2 ^ 20) && used.all (fun r => decide (i + n ≤ r.1 ∨ r.1 + r.2 ≤ i))

/-- Give every entry its PMREF: a free place of the tile's store, its PMCOUNT indexes apart from every other's (R599). -/
def assignRefs : List (Nat × Nat) → List AEntry → State → List AEntry × State
  | _, [], s => ([], s)
  | used, e :: r, s =>
    let n := e.pm.length
    let v := s.freeVal % 2 ^ 20
    let i := if refFits used n v then v else (((0 :: used.map (fun x => x.1 + x.2)).find? (refFits used n))).getD v
    let x := assignRefs ((i, n) :: used) r s.draw
    ({ e with pmref := i } :: x.1, x.2)

/-- COMPILE_DONE: the new Accord is written to the idle buffer, and its loads start (R204-R206). A compile that changes
nothing commits its generations at once and leaves the buffer EMPTY (R209). -/
def compileDone (g : Nat) (s : State) : State :=
  let p := s.plan g
  if p.idleSt ≠ .compiling then s
  else
    let es := p.idle.entries
    let covers := p.idle.covers
    let s0 := s.modPlan g (fun p => { p with taken := [] })
    -- an Accord of another sample offset is swapped in though its entries are the same (R65)
    if sameEntries es p.run.entries && (es == [] || p.idle.sampleOff == p.run.sampleOff) then
      (covers.foldl (commitGeneration g 0 0) s0).modPlan g (fun p => { p with idle := {}, idleSt := .empty })
    else
      let r := assignRefs (s.storeUsed g) es s0
      let plan : Plan := { p.idle with
        planid := planNext p.run.planid, entries := r.1, covers := covers.filter (·.changed) }
      let s1 := (covers.filter (fun c => !c.changed)).foldl (commitGeneration g 0 0) r.2
      loadAll g plan (s1.modPlan g (fun p => { p with idle := plan, idleSt := .loading, proposal := [] }))

def execCompileDone (g : Nat) (s : State) : Res := .next (compileDone g s)

/-- A load of the PLANID still awaits its answer. -/
def State.loading (s : State) (g planid : Nat) : Bool :=
  (s.port g).mgmtOpen.any (fun r => match r.purpose with
    | .table p _ => p == planid
    | .gateMap p _ => p == planid
    | _ => false)

/-- ACCORD_READY (R204, R206). -/
def accordReady (g : Nat) (s : State) : State :=
  if (s.plan g).idleSt = .loading ∧ !s.loading g (s.plan g).idle.planid then
    s.modPlan g (fun p => { p with idleSt := .ready }) else s

def execAccordReady (g : Nat) (s : State) : Res := .next (accordReady g s)

/-- SEQ_SWAPCTL.HOLD (R207). -/
def State.holdSwap (s : State) (g : Nat) : Bool := bit (s.reg 0 pSEQ g 0x044) 0

/-- The swap tick is fixed 8 ticks before a frame boundary, first in that tick (R60, R203, R207): the tick boundary calls it
before any grant is decided. SWAP_TICK_FIXED, within the tick, fixes an Accord that has become READY since, unless a
grant already made for the swap tick stands where the new Accord has a transfer (R113, R137 item 5; DESIGN CHOICE, log
entry 104). -/
def swapFixed (g : Nat) (s : State) : State :=
  let p := s.plan g
  let n := s.time.tick + 8
  let clash := ((s.port g).grants.filter (·.tick == n)).any (fun x =>
    (upRun x.len x.upslot).any (fun b => (p.idle.busyUp n).contains b))
  if p.idleSt == .ready && p.fixed.isNone && !s.holdSwap g && !s.time.pending && (s.tl (g / 16)).ready &&
      n % s.frameLen == 0 && !clash then
    s.modPlan g (fun p => { p with fixed := some (s.time.tick + 8) }) else s

def execSwapTickFixed (g : Nat) (s : State) : Res := .next (swapFixed g s)

/-- The lock of R58 at a swap of an Accord with periodic transfers; a pending change is cancelled (R60 case 2). -/
def lockCommit (s : State) : State :=
  let s1 := if s.time.pending then
    setErr pTIM 0 31 (s.modTime (fun t => { t with pending := false, ticklenW := t.ticklen, fllog2W := t.fllog2 })) else s
  s1.modTime (fun t => { t with locked := true })

/-- Points that the entries of a direction feed through enabled map entries. -/
def feeds (l : List AEntry) (up : Bool) : List Nat :=
  (l.filter (fun e => e.up == up)).flatMap (fun e => (e.pm.filter (·.enabled)).map (·.point))

/-- Of these points those that still are inputs, or outputs: a stale code is an input's and a fail-safe an output's
(R237, R238). -/
def State.fed (s : State) (l : List AEntry) (up : Bool) : List Nat :=
  (feeds l up).filter (fun p => (s.point p).kind == (if up then 1 else 2))

/-- Entries that stop feeding: inputs turn stale under a code and outputs take fail-safe under a cause, in the next tick
(R237, R238). -/
def stopFeeds (code : Nat) (cause : LockCause) (l : List AEntry) (s : State) : State :=
  (s.fed l false).foldl (fun s p => lockPoint cause p s) ((s.fed l true).foldl (fun s p => staleNext code p s) s)

/-- The same transfer: function, node and XID (R197). -/
def AEntry.isOf (a b : AEntry) : Bool := a.func == b.func && a.node == b.node && a.xid == b.xid

/-- What leaving entries do to their points: inputs turn STALE_MUTED, outputs lose the locks of mutes and of their
node (R237, R239). -/
def leavePoints (g : Nat) (old new : List AEntry) (s : State) : State :=
  let s1 := (s.fed old true).foldl (fun s p => if (feeds new true).contains p then s else staleNext 6 p s) s
  let gone := old.filter (fun e => !e.up && (e.mute || !new.any e.isOf))
  gone.foldl (fun s e => ((e.pm.filter (·.enabled)).map (·.point)).foldl (fun s p =>
    let still := new.any (fun x => !x.up && x.pm.any (fun m => m.enabled && m.point == p))
    let muted := new.any (fun x => !x.up && x.mute && x.pm.any (fun m => m.enabled && m.point == p))
    let s2 := if muted then s else unlockPoint (.mute g) p s
    if still then s2 else unlockPoint (.node (nodeKey g e.node)) p s2) s) s1

/-- The stale code of the inputs of a node that is out of service or demoted; 0 for none (R165, R166, R169, R237). -/
def Node.outCode (x : Node) : Nat :=
  if !(x.st == .admitted || x.st == .demoted) || !x.resumed then 4 else if x.st == .demoted then 5 else 0

/-- Entries that a swap brings in for a node that is out of service or demoted: their inputs are stale and their outputs at
fail-safe, as those of the node's other entries are (R165, R169, R237, R238; DEDUCED, log entry 123). -/
def enterPoints (g : Nat) (new : List AEntry) (s : State) : State :=
  new.foldl (fun s e => if (s.node g e.node).outCode = 0 then s
    else stopFeeds (s.node g e.node).outCode (.node (nodeKey g e.node)) [e] s) s

/-- No Accord holds an entry of the function that is muted or to be muted. -/
def State.noMuted (s : State) (f : Nat) : Bool :=
  !(s.plans.any (fun x => (x.2.run.entries ++ x.2.idle.entries).any (fun e => e.func == f && (e.mute || e.muteAfter))))

/-- A reset completes: the granules of the function's earlier life are released, the locks end, and the manager
receives reset-done (R382 item 9). -/
def resetDone (f : Nat) (s : State) : State :=
  let s1 := (s.owners.filter (fun x => x.2 == f + 1025)).foldl (fun s x => releaseGranule x.1 s) s
  emitMgr 0x0B 2 [(16, 2, f), (20, 8, s.time.tick)] (s1.modFn f (fun x => { x with purging := false }))

/-- ACCORD_SWAP: at block 0 of the fixed tick (R207, R209, R213). -/
def accordSwap (g : Nat) (s : State) : State :=
  let p := s.plan g
  if p.fixed ≠ some s.time.tick then s
  else
    let new : Plan := { p.idle with swapTick := s.time.tick, covers := [] }
    let s1 := if new.entries = [] then s else if s.time.locked then s else lockCommit s
    let s2 := s1.modPlan g (fun p =>
      { p with run := new, idle := {}, runBuf := 1 - p.runBuf, idleSt := .empty, fixed := none, lastSwap := s.time.tick,
               swaps := satAdd (2 ^ 64 - 1) p.swaps 1, prior := p.run.entries
               movesOpt := satAdd 65535 p.movesOpt (new.entries.filter (·.moveKind == 1)).length
               movesForced := satAdd 65535 p.movesForced (new.entries.filter (·.moveKind == 2)).length })
    let s3 := enterPoints g new.entries (leavePoints g p.run.entries new.entries (leaveDoze (g / 16) s2))
    -- the nodes' new banks may start from any TSEQ (R170, R600)
    let s3 := (s3.nodesOf g).foldl (fun s n => s.modNode g n (fun x => { x with tseqs := [] })) s3
    -- read rights that ended with the entries that left (R241, R244)
    let s4 := zeroAll (s.lostReads s3 (feeds p.run.entries true)) s3
    p.idle.covers.foldl (commitGeneration g new.planid s.time.tick) s4

/-- Tenants whose last muted entry a swap has removed, past their service point (R382 item 9). -/
def finishPurges (s : State) : State :=
  (s.fns.filter (fun x => x.2.purging && x.2.st != .resetting && s.noMuted x.1)).foldl (fun s x => resetDone x.1 s) s

/-! ## Mutes and budgets (R208, R213) -/

/-- A muted entry (R208). -/
def AEntry.muted (e : AEntry) : AEntry := { e with mute := true, muteAfter := false }

/-- Mute the entries that meet `p`, in the running Accord and in one that a compile has made and no swap has brought in
yet (R208, R214 case 5): their downstream points are locked, their inputs stale (R237, R238). -/
def muteEntries (g : Nat) (p : AEntry → Bool) (s : State) : State :=
  let l := ((s.plan g).run.entries ++ (s.plan g).idle.entries).filter (fun e => p e && !e.mute)
  let mark := fun (l : List AEntry) => l.map (fun e => if p e then e.muted else e)
  let s1 := s.modPlan g (fun x =>
    { x with run := { x.run with entries := mark x.run.entries }, idle := { x.idle with entries := mark x.idle.entries } })
  if l = [] then s else needCompile g (stopFeeds 6 (.mute g) l s1)

/-- Cost of a function's placed transfers on a port, muted ones aside. -/
def State.placedCost (s : State) (f g : Nat) (up : Bool) : Nat :=
  s.costOf (s.plan g).run.entries up (fun e => e.func == f && !e.mute)

/-- The function's placed transfers exceed its budget in a direction (R213). -/
def State.exceeds (s : State) (f g : Nat) (up : Bool) : Bool :=
  match s.budget f g up with
  | some b => decide (s.placedCost f g up > b)
  | none => false

/-- A budget change applies at a frame boundary: a rise starts a compile, a cut that no longer fits starts the
shrink deadline (R213). -/
def budgetApplies (f g : Nat) (rise : Bool) (wait : Nat) (s : State) : State :=
  let s1 := if rise then needCompile g s else s
  let u := s1.exceeds f g true
  let d := s1.exceeds f g false
  if u || d then
    let n := s1.time.tick + s1.ticksOf (wait * 1000)
    let dl := (n + s1.frameLen - 1) / s1.frameLen * s1.frameLen
    emit f (mkEvent 2 3 [(16, 1, g), (17, 1, b2n u + 2 * b2n d), (20, 8, dl)])
      (s1.modList f g (fun l => { l with deadline := some dl }))
  else s1.modList f g (fun l => { l with deadline := none })

/-- The transfers of the running Accord that the budget walk would suspend: (node, XID, DIDX) (R193, R213). -/
def State.shrinkOut (s : State) (f g : Nat) : List (Nat × Nat × Nat) :=
  let run := (s.plan g).run.entries.filter (fun e => e.func == f && !e.mute)
  let own := ((s.ownNow f g).filter (·.2 == 0)).map (·.1)
  let excess := s.overBudget f g own
  (own.filter (fun d => excess.contains d.didx && run.any (fun e => e.node == d.node && e.xid == d.xid))).map
    (fun d => (d.node, d.xid, d.didx))

/-- Outcomes of a list's descriptors that are not placed at a shrink deadline, the muted ones under OUTCOME 5: of the
others those of the function's own list, and outcome 7 for what the running Accord leaves out (R211, R213). -/
def State.shrinkOutcomes (s : State) (f g : Nat) (o : List (Nat × Nat × Nat)) : List (Nat × Nat) :=
  (s.ownNow f g).filterMap (fun x =>
    if o.any (fun m => m.2.2 == x.1.didx) then some (x.1.didx, 5)
    else if x.2 ≠ 0 then some (x.1.didx, x.2)
    else if (s.plan g).run.entries.any (fun e => e.func == f && !e.mute && e.node == x.1.node && e.xid == x.1.xid) then none
    else some (x.1.didx, 7))

/-- The shrink deadline of a function on a port (R213 item 3); it waits for a generation still compiling or loading. -/
def shrinkDeadline (f g : Nat) (s : State) : State :=
  let l := s.list f g
  match l.deadline with
  | none => s
  | some dl =>
    let busy := (s.plan g).taken.any (·.1 == f) || (s.plan g).idle.covers.any (·.func == f)
    if s.time.tick < dl || s.time.tick % s.frameLen != 0 || busy then s
    else
      let s0 := s.modList f g (fun l => { l with deadline := none })
      if !(s.exceeds f g true || s.exceeds f g false) then s0
      else
        let o := s.shrinkOut f g
        let s1 := muteEntries g (fun e => e.func == f && o.any (fun x => x.1 == e.node && x.2.1 == e.xid)) s0
        let mine := (s1.plan g).run.entries.filter (fun e => e.func == f && !e.mute)
        let outs := s1.shrinkOutcomes f g o
        let c : Cover := {
          func := f, seq := 0, gen := l.gen.getD l.now.gen, report := l.now.report, placed := mine.length,
          clamps := [], outcomes := outs, costUp := s1.placedCost f g true,
          costDn := s1.placedCost f g false, changed := true }
        let w := if c.report = 0 then (s1, true)
          else dmaWrite f c.report (reportBytes g c 0 0 0 (outs.filter (·.2 == 5))) s1
        -- a report that the anchor refuses ends the work with 0x22 (R594)
        emit f { cls := 2, kind := 1, status := if w.2 then 0 else 0x22
                 recs := [planData g (s.plan g).run.planid c.gen mine.length outs.length] } w.1

def execShrinkDeadline (f g : Nat) (s : State) : Res := .next (shrinkDeadline f g s)

/-! ## The Atomizer (R200, R201) -/

/-- ATZ_CTL and the block's ENABLE (R219, R541); reset MERGE 1, GAIN 4, MOVEMAX 16. -/
def State.atzCtl (s : State) (g : Nat) : Nat := s.reg 0x100042 pATZ g 0x040
def State.atzOn (s : State) (g : Nat) : Bool := bit (s.reg 1 pATZ g 0x00C) 0

/-- Apply a move to the entries it names. -/
def applyMove (l : List AEntry) (m : Nat × Nat × Nat × Nat × Nat) : List AEntry :=
  l.map (fun e => if e.func == m.1 && e.node == m.2.1 && e.xid == m.2.2.1 then
    { e with phase := m.2.2.2.1, first := m.2.2.2.2 } else e)

/-- A candidate move of entry `e`: another phase of its window and a first block that R195 allows there (R200). -/
def State.legalMove (s : State) (g : Nat) (l : List AEntry) (e : AEntry) (ph b : Nat) : Bool :=
  let rest := l.filter (fun x => x != e)
  decide (2 ^ e.k ≤ s.frameLen ∧ e.phlo < e.phhi ∧ e.phlo ≤ ph ∧ ph ≤ e.phhi ∧ ph ≠ e.phase) && !e.mute &&
  s.runOk e.up b e.len && runFree rest e.up e.k ph b e.len && (!e.up || decide (s.bmin g e.node ≤ b)) &&
  decide (peakAt rest e.up e.k ph + e.len + 1 ≤ s.tickLimit e.up)

/-- Up to `n` moves drawn free among the legal ones, one per entry. -/
def drawMoves (g : Nat) : Nat → List AEntry → List (Nat × Nat × Nat × Nat × Nat) → State →
    List AEntry × List (Nat × Nat × Nat × Nat × Nat) × State
  | 0, l, ms, s => (l, ms, s)
  | n + 1, l, ms, s =>
    match l[s.freeVal % l.length]? with
    | none => (l, ms, s)
    | some e =>
      let s1 := s.draw
      let ph := e.phlo + s1.freeVal % (e.phhi + 1 - e.phlo)
      let s2 := s1.draw
      let b := s2.freeVal % (80 * s.tickUs)
      let m := (e.func, e.node, e.xid, ph, b)
      if s.legalMove g l e ph b && decide (peakOf (applyMove l m) e.up < peakOf l e.up) &&
          !(ms.any (fun x => x.1 == e.func && x.2.1 == e.node && x.2.2.1 == e.xid)) then
        drawMoves g n (applyMove l m) (ms ++ [m]) s2.draw
      else drawMoves g n l ms s2.draw

/-- The Atomizer's current proposal, renewed once per frame: a free set of legal moves, each of which lowers a peak
(R200). -/
def renewProposal (g : Nat) (s : State) : State :=
  let l := (s.plan g).run.entries
  if l = [] || !s.atzOn g then s.modPlan g (fun p => { p with proposal := [] })
  else
    let r := drawMoves g (bits (s.atzCtl g) 16 8) l [] s
    r.2.2.modPlan g (fun p => { p with proposal := r.2.1 })

/-- The gain of the proposal in blocks of peak (R200). -/
def State.proposalGain (s : State) (g : Nat) : Nat :=
  let l := (s.plan g).run.entries
  let m := (s.plan g).proposal.foldl applyMove l
  max (peakOf l true - peakOf m true) (peakOf l false - peakOf m false)

/-- The Atomizer's own causes of a compile: late transfers, and with AUTO a proposal of GAIN or more (R200, R201). -/
def atomizerCause (g : Nat) (s : State) : State :=
  let p := s.plan g
  let lateNow := p.run.entries.any (fun e => s.late g e)
  let auto := s.atzOn g && bit (s.atzCtl g) 0 && p.proposal != [] && decide (s.proposalGain g ≥ bits (s.atzCtl g) 4 8)
  if (lateNow || auto) && p.idleSt == .empty then needCompile g s else s

/-- An abort of a generation before its commit removes its changes; a loaded idle buffer is compiled afresh (R210). -/
def abortGeneration (f seq g : Nat) (s : State) : State :=
  let p := s.plan g
  let s1 := s.modList f g (fun l => { l with pend := l.pend.filter (·.1 != seq) })
  let s2 := s1.modPlan g (fun p => { p with pendingGens := p.pendingGens.filter (· != (f, seq)), taken := p.taken.filter (· != (f, seq)) })
  if p.idle.covers.any (fun c => c.func == f && c.seq == seq) then
    s2.modPlan g (fun p =>
      { p with idle := {}, idleSt := .empty, fixed := none, cause := true, taken := []
               pendingGens := p.pendingGens ++ (p.idle.covers.filter (fun c => !(c.func == f && c.seq == seq))).map (fun c => (c.func, c.seq)) })
  else s2

/-! ## Payloads (R232) -/

/-- The field of a payload, a little-endian number, that a map entry takes (R232). -/
def pmField (m : PmEntry) (payload : Nat) : Nat :=
  let v := bits payload (8 * m.byteOff + m.bitOff) m.width
  if m.signed then ofSigned 32 (toSigned m.width v) else v

/-- The payload of a downstream entry from its output records; a later map entry sets overlapping bits (R232, R235). -/
def State.payloadOf (s : State) (e : AEntry) : List Byte :=
  toLe (8 * e.len - 4) ((e.pm.filter (·.enabled)).foldl (fun a m =>
    setBits a (8 * m.byteOff + m.bitOff) m.width (recVal (s.record m.point))) 0)

end Sys2Proof.Machine
end

