-- ==== Sys2Proof/Machine/Nodes.lean ====
section
/-!
DEFINITION. Nodes: rights to a node, node events, misses and demotion
(spec/04_trees_hotplug_admission.md, R161-R169; R318).
-/
namespace Sys2Proof.Machine

/-- TPT_TREECFG and TPT_MISSWIN of a port (R178). -/
def State.treecfg (s : State) (g : Nat) : Nat := s.sreg 0x01100804 pTPT g 0x080
def State.misswin (s : State) (g : Nat) : Nat := s.sreg 0x00002040 pTPT g 0x084

/-- The node is ADMITTED or DEMOTED. -/
def Node.present (x : Node) : Bool := x.st == .admitted || x.st == .demoted
/-- The first hop of the port is UP. -/
def State.hopUp (s : State) (g : Nat) : Bool := (s.port g).hop == .up
/-- The tile is in RUN or DOZE and READY. -/
def State.tileRuns (s : State) (t : Nat) : Bool := ((s.tl t).pow == .run || (s.tl t).pow == .doze) && (s.tl t).ready
/-- The manager's pages of the tile answer (R456 step 1, R464). -/
def State.tileOpen (s : State) (t : Nat) : Bool :=
  s.ready && s.hasTile t && ((s.tl t).pow == .run || (s.tl t).pow == .doze || (s.tl t).pow == .drying)

/-- Right of function `f` on a node: 0 none, 1 reader, 2 writer (R161, R323). -/
def State.right (s : State) (f g n : Nat) : Nat :=
  let x := s.node g n
  if f ≠ 0 ∧ x.lessee = f then 2 else if x.readers.contains f then 1 else 0

/-! ## Node events (R318) -/

/-- Records of a node event: at most five node words each; the first four bytes repeat. -/
def nodeRecs (g why total : Nat) : Nat → List Nat → List (List Byte)
  | 0, _ => []
  | k + 1, ws =>
    let one := recData ([(16, 1, g), (17, 1, why), (18, 2, total)] ++ ((ws.take 5).zipIdx).map (fun x => (20 + 2 * x.2, 2, x.1)))
    if ws.length ≤ 5 then [one] else one :: nodeRecs g why total k (ws.drop 5)

/-- A node event of a kind naming node words. -/
def nodeEvent (kind g why total : Nat) (words : List Nat) : Event :=
  { cls := 3, kind, recs := nodeRecs g why total (words.length + 1) words }

/-- The manager and a node's writer. -/
def State.writerAudience (s : State) (g n : Nat) : List Nat := insertAsc (s.node g n).lessee [0]
/-- The manager, the writer and the readers. -/
def State.audience (s : State) (g n : Nat) : List Nat :=
  (s.node g n).readers.foldl (fun a f => insertAsc f a) (s.writerAudience g n)

def emitAll (fs : List Nat) (e : Event) (s : State) : State := fs.foldl (fun s f => emit f e s) s

/-! ## Points tied to a node (R237-R239) -/

/-- Entries of the running Accord that name the node. -/
def State.nodeEntries (s : State) (g n : Nat) : List AEntry := (s.plan g).run.entries.filter (fun e => e.node == n)

/-- The node's inputs turn stale and its outputs take fail-safe in the next tick. -/
def stopPoints (code g n : Nat) (s : State) : State :=
  stopFeeds code (.node (nodeKey g n)) (s.nodeEntries g n) s

/-- The node's cause of R238 ends on its outputs (R239). -/
def freePoints (g n : Nat) (s : State) : State := unlockAll (.node (nodeKey g n)) s

/-! ## Misses and demotion (R169) -/

/-- A node is demoted; REASON 13 misses, 11 class changed. -/
def demote (g n reason : Nat) (s : State) : State :=
  let s1 := stopPoints 5 g n (s.modNode g n (fun x => { x with st := .demoted, reason }))
  emitAll (s.writerAudience g n) (nodeEvent 4 g reason 1 [n]) s1

/-- The node is of those a departure covers: a lower end with a number takes part, or is being numbered or admitted. -/
def Node.leaves (x : Node) : Bool :=
  x.st == .numbering || x.st == .admitting || x.st == .held || x.st == .admitted || x.st == .demoted

/-- One miss of a node: counted, and demotion of an admitted one at a threshold. Absent nodes have no misses counted
(R165); of one whose transfers have not resumed the callers count no slot run (R166). -/
def miss (g n : Nat) (s : State) : State :=
  let x := s.node g n
  if !x.leaves then s
  else
    let run := satAdd 255 x.run 1
    let win := x.win + 1
    let s1 := s.modNode g n (fun x => { x with run, win, misses := satAdd 65535 x.misses 1 })
    if x.st == .admitted && (decide (run ≥ bits (s.treecfg g) 8 8) || decide (win ≥ bits (s.misswin g) 0 8)) then
      demote g n 13 s1
    else s1

/-- A valid periodic transfer or ECHO clears RUN. -/
def heard (g n : Nat) (s : State) : State := s.modNode g n (fun x => { x with run := 0 })

end Sys2Proof.Machine
end

