-- ==== Sys2Proof/Machine/Bridge.lean ====
section
/-!
DEFINITION. Bridge: register access to nodes through tenant BAR2 and the BRG page, node semaphores and attention
(spec/09_bridge.md).
-/
namespace Sys2Proof.Machine

def State.modBridge (s : State) (f : Nat) (u : BridgeView → BridgeView) : State :=
  s.modFn f (fun x => { x with bridge := u x.bridge })

/-- Node and port that BWV_WINBASE names, and the window's region (R323). -/
def State.winNode (s : State) (f : Nat) : Nat := bits (s.fn f).bridge.winbase 0 12
def State.winPort (s : State) (f : Nat) : Nat := bits (s.fn f).bridge.winbase 12 7
def State.winRegion (s : State) (f : Nat) : Nat := bits (s.fn f).bridge.winbase 24 8

/-- Address `a` lies in a range that the node declares read-sensitive (R332). -/
def Node.sensitive (x : Node) (a : Nat) : Bool := x.rsens.any (fun r => decide (r.1 ≤ a ∧ a ≤ r.2))
def State.sensAccess (s : State) (g n a : Nat) (wide : Bool) : Bool :=
  (s.node g n).sensitive a || (wide && (s.node g n).sensitive (a + 4))

/-- The load is held: its PCI Express request has no completion yet. -/
def BAcc.held (f : Nat) (a : BAcc) : Bool := a.load && a.fn == f && f != 0 && a.ended.isNone
/-- The access has not been sent. -/
def BAcc.unsent (a : BAcc) : Bool := a.btag == 0
/-- A store of the function's queue (R328): not sent yet. -/
def BAcc.queued (f : Nat) (a : BAcc) : Bool := !a.load && a.fn == f && f != 0 && a.unsent && !a.resent

def State.heldCount (s : State) (f : Nat) : Nat := (s.bridge.filter (BAcc.held f)).length
def State.queuedCount (s : State) (f : Nat) : Nat := (s.bridge.filter (BAcc.queued f)).length

/-- All ones in a word or two. -/
def ones (wide : Bool) : Nat := if wide then 2 ^ 64 - 1 else 2 ^ 32 - 1

/-- A bridge event (R341). -/
def bridgeEvent (kind status detail g b17 n : Nat) (sent wide : Bool) (addr value tag : Nat) : Event :=
  { cls := 6, kind, status, detail,
    recs := [recData [(16, 1, g), (17, 1, b17), (18, 2, n + 4096 * b2n sent + 8192 * b2n wide), (20, 4, addr),
      (24, 4, value), (28, 2, tag)]] }

/-- Count in BWV_LOADEND (R322): the hold limit, or any other reason. -/
def countEnd (f : Nat) (limit : Bool) (s : State) : State := countReg pBWV f 0x064 (if limit then 0 else 16) 16 1 s

/-- A load that ends at once: all ones, a load-ended event (R324, R330). -/
def endAtOnce (f off size g n addr status detail : Nat) (wide : Bool) (s : State) : State :=
  emit f (bridgeEvent 2 status detail g 0 n false wide addr 0 0)
    (out (.readData f 2 off size (ones wide)) (countEnd f false s))

/-- The check of R324: STATUS and DETAIL of a refusal of the node's state, none while it can be reached. -/
def State.unreachable (s : State) (g n : Nat) : Option (Nat × Nat) :=
  if !s.tileRuns (g / 16) then some (0xA0, g / 16)
  else if !s.hopUp g then some (0x44, 0)
  else if !(s.node g n).present then some (0x40, 0)
  else none

/-- Accesses of the function end in Unsupported Request: it is not reachable, not in D0, or resetting (R369, R382,
R467). -/
def State.shut (s : State) (f : Nat) : Bool :=
  !s.reach f || (s.fn f).dstate != 0 || (s.fn f).st == .resetting || (s.fn f).st == .destroying

/-- BRIDGE_LOAD: a read of tenant BAR2 (R321, R324, R330). One that is not aligned ends in Unsupported Request (PRESUMED,
log entry 116); a function without pages reads zero (R369, R523). -/
def bridgeLoad (f off size : Nat) (s : State) : State :=
  let g := s.winPort f
  let n := s.winNode f
  let addr := s.winRegion f * 2 ^ 24 + off % 2 ^ 24
  let wide := size == 8
  if f = 0 || !(size == 4 || size == 8) || decide (off ≥ 2 ^ 24) then s
  else if off % size != 0 then out (.readUR f 2 off) s
  else if !s.pagesOpen f then out (if s.shut f then .readUR f 2 off else .readData f 2 off size 0) s
  else if (s.fn f).st != .active then endAtOnce f off size g n addr 0x07 0 wide s
  else if s.right f g n = 0 then endAtOnce f off size g n addr 0x46 3 wide s
  else match s.unreachable g n with
    | some e => endAtOnce f off size g n addr e.1 e.2 wide s
    | none =>
      if s.right f g n = 1 && s.sensAccess g n addr wide then endAtOnce f off size g n addr 0x46 4 wide s
      else if s.heldCount f ≥ 8 then endAtOnce f off size g n addr 0x46 5 wide s
      else
        let a : BAcc := { fn := f, g, node := n, load := true, wide, addr, tag := (s.fn f).bridge.lseq,
                          sens := s.sensAccess g n addr wide }
        { s.modBridge f (fun v => { v with lseq := (v.lseq + 1) % 65536 }) with bridge := s.bridge ++ [a] }

def execBridgeLoad (f off size : Nat) (s : State) : Res := .next (bridgeLoad f off size s)

/-- Stores dropped: counted, and the first since the last read of BWV_DROP writes an event (R328). -/
def dropStores (f g n reason status detail k addr value tag : Nat) (wide always : Bool) (s : State) : State :=
  let s1 := countReg pBWV f 0x060 (if reason = 1 then 0 else 16) 16 k s
  if (s1.fn f).bridge.dropEvent && !always then s1
  else emit f (bridgeEvent 5 status detail g reason n false wide addr (if value = 0 then k else value) tag)
    (s1.modBridge f (fun v => { v with dropEvent := true }))

/-- A store that R324 refuses. -/
def refuseStore (f g n status addr : Nat) (wide : Bool) (s : State) : State :=
  dropStores f g n 3 status 0 1 addr 0 0 wide false s

/-- BRIDGE_STORE: a write of tenant BAR2, `part` with partial byte enables (R321, R324, R328). -/
def bridgeStore (f off size v : Nat) (part : Bool) (s : State) : State :=
  let g := s.winPort f
  let n := s.winNode f
  let addr := s.winRegion f * 2 ^ 24 + off % 2 ^ 24
  let wide := size == 8
  if f = 0 || !s.pagesOpen f || !(size == 4 || size == 8) || off % size != 0 || decide (off ≥ 2 ^ 24) then s
  else if (s.fn f).st != .active then countReg pBWV f 0x060 16 16 1 s
  -- the spec gives the event of a partial write no STATUS: a free value
  else if part then refuseStore f g n (s.freeVal % 256) addr wide s.draw
  else if s.right f g n = 0 then refuseStore f g n 0x61 addr wide s
  else if (s.unreachable g n).isSome then refuseStore f g n 0x40 addr wide s
  else if s.right f g n = 1 then refuseStore f g n 0x62 addr wide s
  else if (s.fn f).bridge.wfault.contains (nodeKey g n) then dropStores f g n 2 0x46 6 1 addr 0 0 wide false s
  else if s.queuedCount f ≥ 64 then dropStores f g n 1 0x46 7 1 addr 0 0 wide false (setErr pBWV f 1 s)
  else
    let a : BAcc := { fn := f, g, node := n, load := false, wide, addr, tag := (s.fn f).bridge.wseq,
                      v0 := v % 2 ^ 32, v1 := if wide then v / 2 ^ 32 % 2 ^ 32 else 0 }
    { s.modBridge f (fun w => { w with wseq := (w.wseq + 1) % 65536 }) with bridge := s.bridge ++ [a] }

def execBridgeStore (f off size : Nat) (v : W64) (part : Bool) (s : State) : Res :=
  .next (bridgeStore f off size v.toNat part s)

/-! ## Ends of accesses (R326, R330, R334, R335) -/

def removeAcc (a : BAcc) (s : State) : State := { s with bridge := s.bridge.filter (· != a) }
def changeAcc (a b : BAcc) (s : State) : State := { s with bridge := s.bridge.map (fun x => if x = a then b else x) }

/-- RESULT and DATA of a manager access (R343). -/
def mgrResult (t status : Nat) (s : State) : State :=
  s.setReg 0 pBRG t 0x04C (setBits (s.reg 0 pBRG t 0x04C) 16 8 status)

/-- The PCI Express completion of a held load that ends without data, and its event with BSTATUS `b17` (R330, R341). -/
def tellLoad (kind status detail b17 : Nat) (sentFlag : Bool) (a : BAcc) (s : State) : State :=
  emit a.fn (bridgeEvent kind status detail a.g b17 a.node sentFlag a.wide a.addr 0 a.tag)
    (out (.loadData a.fn a.tag (if a.wide then 8 else 4) (ones a.wide)) (countEnd a.fn (kind == 1) s))

/-- A held load ends without data: all ones and its event; sent, it waits for its reply to be discarded. -/
def endLoad (kind status detail : Nat) (sentFlag : Bool) (s : State) (a : BAcc) : State :=
  tellLoad kind status detail 0 (sentFlag && !a.unsent) a
    (if a.unsent then removeAcc a s else changeAcc a { a with ended := some (status, detail) } s)

/-- An access fails under R326, with BSTATUS `b17` or without an answer. -/
def failAcc (status detail b17 : Nat) (a : BAcc) (s : State) : State :=
  let s1 := removeAcc a s
  if a.fn = 0 then mgrResult (a.g / 16) status s1
  else if a.load then
    if a.ended.isSome then s1 else tellLoad 2 status detail b17 false a s1
  else
    emit a.fn (bridgeEvent 3 status detail a.g b17 a.node false a.wide a.addr a.v0 a.tag)
      (s1.modBridge a.fn (fun v => { v with wfault := insertAsc (nodeKey a.g a.node) v.wfault }))

/-- An access completes: BSTATUS 0 (R326, R330, R334). -/
def doneAcc (d0 d1 : Nat) (a : BAcc) (s : State) : State :=
  let s1 := removeAcc a s
  if a.fn = 0 then
    mgrResult (a.g / 16) 0 (if a.load then s1.setReg 0 pBRG (a.g / 16) 0x048 (d0 % 2 ^ 32) else s1)
  else if !a.load then s1
  else match a.ended with
    | none => out (.loadData a.fn a.tag (if a.wide then 8 else 4) (d0 % 2 ^ 32 + (if a.wide then d1 % 2 ^ 32 * 2 ^ 32 else 0))) s1
    | some (st, d) =>
      if a.sens then
        let e := bridgeEvent 4 st d a.g 0 a.node false a.wide a.addr d0 a.tag
        emit a.fn { e with recs := e.recs ++ (if a.wide then [recData [(16, 4, d1)]] else []) } s1
      else s1

/-- The requests of port `g` that await a reply, oldest first; one to be sent again is among them. -/
def State.bridgeSent (s : State) (g : Nat) : List BAcc := s.bridge.filter (fun a => a.g == g && (!a.unsent || a.resent))

/-- Slots of the grant of an access (R325). -/
def BAcc.slots (a : BAcc) : Nat := if a.load && a.wide then 3 else 2

/-- The reply of the access is granted, with the same GSEQ each time, past block `after` (R325, R326). -/
def regrant (after : Nat) (a : BAcc) (s : State) : State := issueGrant a.g a.node 1 a.slots a.btag after s

/-- A busy reply is granted again in the tick after it (R326 BSTATUS 2). -/
def regrantNext (a : BAcc) (s : State) : State :=
  addWish a.g { node := a.node, cls := 1, len := a.slots, gseq := a.btag, due := s.time.tick + 1 } s

/-- The reply was missing or failed R103 (R326). -/
def missedReply (a : BAcc) (s : State) : State :=
  if a.misses = 0 then regrant 0 a (changeAcc a { a with misses := 1 } s)
  else miss a.g a.node (failAcc 0x42 0 0 a s)

/-- A reply that passed its identity check; values outside the table of R326 are taken as a failed reply. -/
def replyAcc (bstatus d0 d1 : Nat) (a : BAcc) (s : State) : State :=
  match bstatus with
  | 0 => doneAcc d0 d1 a s
  | 1 => failAcc 0x43 1 1 a s
  | 2 => regrantNext a s
  | 3 => failAcc 0x43 3 3 a s
  | 4 => failAcc 0x43 4 4 a s
  | 5 => if a.resent then failAcc 0x42 0 5 a s else changeAcc a { a with btag := 0, resent := true, lastTag := a.btag } s
  | _ => missedReply a s

/-- BRIDGE_HOLD_LIMIT (R330). -/
def holdLimit (f tag : Nat) (s : State) : State :=
  match s.bridge.find? (fun a => a.held f && a.tag == tag) with
  | some a => endLoad 1 0x46 1 false s a
  | none => s

def execBridgeHoldLimit (f tag : Nat) (s : State) : Res := .next (holdLimit f tag s)

/-- BRIDGE_ANSWER_LIMIT: the `k`-th oldest request of the port that awaits a reply (R326). -/
def answerLimit (g k : Nat) (s : State) : State :=
  match (s.bridgeSent g)[k]? with
  | some a => failAcc 0x42 0 0 a s
  | none => s

def execBridgeAnswerLimit (g k : Nat) (s : State) : Res := .next (answerLimit g k s)

/-! ## Sending (R325, R329, R337) -/

/-- The `k`-th number from 1 that is not in `used`. -/
def nthFree (k : Nat) (used : List Nat) : Nat := (used.foldl (fun a u => insertAsc u a) []).foldl (fun c u => if u ≤ c then c + 1 else c) (1 + k)

/-- BRG_CTL.QUIESCE (R541). -/
def State.brgQuiet (s : State) (t : Nat) : Bool := bit (s.reg 1 pBRG t 0x00C) 1


/-- BTAGs that access `a` may not take: those of the port's requests, and the one it carried before (R325, R326). -/
def State.btagsUsed (s : State) (a : BAcc) : List Nat :=
  ((s.bridgeSent a.g).foldl (fun l b => insertAsc b.btag l) [a.lastTag]).filter (· != 0)

/-- An access may be sent, seen the unsent ones before it (R329, R337). -/
def State.maySend (s : State) (before : List BAcc) (a : BAcc) : Bool :=
  s.hopUp a.g && !s.brgQuiet (a.g / 16) &&
  !(before.any (fun b => b.fn == a.fn && ((b.g == a.g && b.node == a.node) || (!a.load && !b.load)))) &&
  !(a.load && a.fn != 0 && s.right a.fn a.g a.node == 1 && (s.node a.g a.node).lockHolder.isSome) &&
  decide ((s.btagsUsed a).length < 255)

/-- Payload of a request (R325). -/
def BAcc.payload (a : BAcc) : List Byte :=
  if a.load then toLe 4 a.addr else toLe 4 a.addr ++ toLe 4 a.v0 ++ toLe 4 a.v1

/-- Send an access under a free BTAG of the port from block `b` on; its grant stands after it (R325). -/
def sendAcc (b : Nat) (a : BAcc) (s : State) : State :=
  let used := s.btagsUsed a
  let tag := nthFree (s.freeVal % (255 - used.length)) used
  let a1 := { a with btag := tag }
  let s1 := changeAcc a a1 s.draw
  regrant (b + dataBlocks a.payload.length) a1
    (out (.xfer a.g b 1 a.node (tag + 256 * (if a.load then 1 else 2) + 1024 * b2n a.wide) 0
      (s.planNow a.g).planid a.payload) s1)

/-- One access of the pass over the waiting ones: sent where the tick has a run of blocks for it (R100, R202). -/
def sendStep (r : State × List BAcc) (a : BAcc) : State × List BAcc :=
  let (s, before) := r
  if s.maySend before a then
    match takeDown a.g 1 (dataBlocks a.payload.length + 1) 0 s with
    | some (b, s1) => (sendAcc b a s1, before)
    | none => (s, before ++ [a])
  else (s, before ++ [a])

/-- At a tick boundary the bridge has its turn: grants that wait, then the waiting accesses in their order; what it leaves
of its reserved blocks passes on (R202). -/
def bridgeTick (s : State) : State :=
  let gs := (s.ports.map (·.1)).filter s.hopUp
  let s1 := gs.foldl (fun s g => grantWishes g 1 s) s
  let s2 := ((s1.bridge.filter BAcc.unsent).foldl sendStep (s1, [])).1
  gs.foldl (fun s g => s.modPort g (fun p => { p with turn := true })) s2

/-! ## Window, marks and semaphores -/

/-- A write of BWV_WINBASE: clamped, and a change ends every held load (R323, R340). -/
def winbaseWrite (f v : Nat) (s : State) : State :=
  if f = 0 || !s.pagesOpen f then s
  else
    let p := bits v 12 7
    let pc := min p (s.portCount - 1)
    let a := bits v 24 8
    let ac := min a 0xFE
    let s1 := if pc = p then s else logClamp pBWV f 0x040 12 s
    let s2 := if ac = a then s1 else logClamp pBWV f 0x040 24 s1
    let w := bits v 0 12 + pc * 2 ^ 12 + ac * 2 ^ 24
    if w = (s.fn f).bridge.winbase then s2
    else (s.bridge.filter (BAcc.held f)).foldl (endLoad 2 0x46 2 false)
      (s2.modBridge f (fun x => { x with winbase := w }))

def execBwvWinbaseWrite (f : Nat) (v : W32) (s : State) : Res := .next (mmio f 0 (fun s => winbaseWrite f v.toNat s) s)

/-- BWV_WFCLR: clears the write-faulted mark of a node (R335). -/
def wfclr (f v : Nat) (s : State) : State :=
  if s.pagesOpen f then
    s.modBridge f (fun x => { x with wfault := x.wfault.filter (· != nodeKey (bits v 12 7) (bits v 0 12)) }) else s

def execBwvWfclrWrite (f : Nat) (v : W32) (s : State) : Res := .next (mmio f 0 (fun s => wfclr f v.toNat s) s)

/-- Tokens that a new one must differ from: the node's last 16, and those the function holds (R336). -/
def State.usedTokens (s : State) (f g n : Nat) : List Nat :=
  (s.node g n).lockTokens ++ (s.nodes.filter (fun x => x.2.lockHolder == some f)).map (·.2.lockToken)

/-- A read of BWV_LOCK: what it returns, and the semaphore taken (R336). -/
def takeLock (f : Nat) (s : State) : Nat × State :=
  let g := s.winPort f
  let n := s.winNode f
  if (s.node g n).lockHolder.isSome then (0, s)
  else
    let used := s.usedTokens f g n
    let tok := nthFree (s.freeVal % (65535 - used.length)) used
    (tok + 2 ^ 16, s.draw.modNode g n (fun x =>
      { x with lockHolder := some f, lockToken := tok, lockTokens := (x.lockTokens ++ [tok]).drop ((x.lockTokens.length + 1) - 16) }))

/-- BWV_LOCK_ACQUIRE: a read of BWV_LOCK (R336). -/
def lockAcquire (f : Nat) (s : State) : State :=
  if f = 0 || !s.pagesOpen f then s else out (.readData f 0 0x4050 4 (takeLock f s).1) (takeLock f s).2

def execBwvLockAcquire (f : Nat) (s : State) : Res := .next (mmio f 0 (fun s => lockAcquire f s) s)

/-- The node whose semaphore `f` holds under a token. -/
def State.lockOf (s : State) (f tok : Nat) : Option Nat :=
  (s.nodes.find? (fun x => x.2.lockHolder == some f && x.2.lockToken == tok)).map (·.1)

/-- BWV_LOCK written with OP 1: the lease runs anew, or LOCKTOK (R336). -/
def lockRenew (f tok : Nat) (s : State) : State :=
  if !s.pagesOpen f then s else if (s.lockOf f tok).isSome then s else setErr pBWV f 0 s

def execBwvLockRenew (f : Nat) (tok : BitVec 16) (s : State) : Res := .next (mmio f 0 (fun s => lockRenew f tok.toNat s) s)

/-- The semaphore of node key `k` is freed. -/
def freeLock (k : Nat) (s : State) : State := s.modNode (k / 4096) (k % 4096) (fun x => { x with lockHolder := none })

/-- BWV_LOCK written with OP 2 (R336). -/
def lockRelease (f tok : Nat) (s : State) : State :=
  if !s.pagesOpen f then s
  else match s.lockOf f tok with
    | some k => freeLock k s
    | none => setErr pBWV f 0 s

def execBwvLockRelease (f : Nat) (tok : BitVec 16) (s : State) : Res := .next (mmio f 0 (fun s => lockRelease f tok.toNat s) s)

/-- LOCK_LEASE_EXPIRY of node `g/n` (R336). -/
def lockExpiry (g n : Nat) (s : State) : State :=
  match (s.node g n).lockHolder with
  | some f => emit f (bridgeEvent 7 0x46 9 g 0 n false false 0 (s.node g n).lockToken 0) (freeLock (nodeKey g n) s)
  | none => s

def execLockLeaseExpiry (g n : Nat) (s : State) : Res := .next (lockExpiry g n s)

/-! ## Attention (R338) -/

/-- Period of a silent node's polls, as a power of two of ticks. -/
def State.pollK (s : State) (g n : Nat) : Nat :=
  let f := (s.node g n).lessee
  if f = 0 then 16 else bits (s.reg 0x0A pBWV f 0x04C) 0 5

/-- ATTENTION_POLL: a node silent for 2^POLLK ticks is polled. -/
def attentionPoll (g n : Nat) (s : State) : State :=
  let x := s.node g n
  if x.present && s.hopUp g && !s.brgQuiet (g / 16) && decide (s.time.tick ≥ x.lastHeader + 2 ^ s.pollK g n) then
    issueGrant g n 1 2 0 0 (engineWork (g / 16) s) else s

def execAttentionPoll (g n : Nat) (s : State) : Res := .next (attentionPoll g n s)

/-- The ATTN bit of an upstream HEADER: newly 1, it writes one attention event. -/
def seeHeader (g n : Nat) (attn : Bool) (s : State) : State :=
  let x := s.node g n
  let s1 := s.modNode g n (fun x => { x with attn, lastHeader := s.time.tick, lastBlock := s.time.tick })
  if attn && !x.attn && x.present then emit x.lessee (bridgeEvent 6 0 0 g 0 n false false 0 0 0) s1 else s1

/-! ## The manager's access (R343) -/

/-- BRG_MCTL.BUSY. -/
def State.mgrBusy (s : State) (t : Nat) : Bool := s.bridge.any (fun a => a.fn == 0 && a.g / 16 == t)

/-- An OP of BRG_MCTL starts an access; with the node out of reach it ends at once. -/
def mgrAccess (t : Nat) (load : Bool) (s : State) : State :=
  if !s.tileOpen t || s.mgrBusy t then s
  else
    let sel := s.reg 0 pBRG t 0x040
    let g := 16 * t + bits sel 12 4
    let n := bits sel 0 12
    match s.unreachable g n with
    | some e => mgrResult t e.1 s
    | none =>
      let a : BAcc := { fn := 0, g, node := n, load, wide := false, addr := s.reg 0 pBRG t 0x044, tag := 0,
                        v0 := if load then 0 else s.reg 0 pBRG t 0x048 }
      { s with bridge := s.bridge ++ [a] }

/-- A write of BRG_MCTL: discarded while BUSY; OP 1 loads, 2 stores (R343). -/
def mctlWrite (t v : Nat) (s : State) : State :=
  if !s.tileOpen t || s.mgrBusy t then s
  else
    let op := v % 4
    let s1 := if op = 3 then logClamp pBRG t 0x04C 0 s else s
    let s2 := s1.setReg 0 pBRG t 0x04C (setBits (s1.reg 0 pBRG t 0x04C) 0 2 (if op = 3 then 0 else op))
    if op = 1 then mgrAccess t true s2 else if op = 2 then mgrAccess t false s2 else s2

def execBrgMctlLoad (t : Nat) (s : State) : Res :=
  .next (tileMmio t (regAcc pBRG t 0x04C 1) (fun s => mctlWrite t 1 s) s)
def execBrgMctlStore (t : Nat) (s : State) : Res :=
  .next (tileMmio t (regAcc pBRG t 0x04C 2) (fun s => mctlWrite t 2 s) s)

/-! ## Departure, lease change, reset (R339, R340) -/

/-- One function's bridge work to a departed node ends (R339). -/
def departFn (g n status : Nat) (s : State) (f : Nat) : State :=
  let mine := s.bridge.filter (fun a => a.fn == f && a.g == g && a.node == n)
  let loads := mine.filter (BAcc.held f)
  let drops := (mine.filter (BAcc.queued f)).length
  let s1 := loads.foldl (endLoad 2 status (if status = 0xA0 then g / 16 else 0) true) s
  let s2 := { s1 with bridge := s1.bridge.filter (fun a => !(a.fn == f && a.g == g && a.node == n)) }
  if f = 0 then (if mine = [] then s2 else mgrResult (g / 16) status s2)
  else if drops = 0 then s2
  else dropStores f g n 4 0x40 0 drops 0 0 0 false true s2

/-- The bridge work of every function to a departed node ends, and its semaphore is freed. -/
def bridgeDepart (g n status : Nat) (s : State) : State :=
  let fs := s.bridge.foldl (fun l a => if a.g == g && a.node == n then insertAsc a.fn l else l) []
  freeLock (nodeKey g n) (fs.foldl (departFn g n status) s)

/-- The old writer's unsent stores to the node are dropped and counted; its mark and semaphore go (R340). -/
def bridgeLeaseChange (g n old : Nat) (s : State) : State :=
  let gone := fun (a : BAcc) => a.queued old && a.g == g && a.node == n
  let k := (s.bridge.filter gone).length
  let s1 := { s with bridge := s.bridge.filter (fun a => !gone a) }
  let s2 := if k = 0 then s1 else dropStores old g n 3 0x61 0 k 0 0 0 false false s1
  let s3 := s2.modBridge old (fun v => { v with wfault := v.wfault.filter (· != nodeKey g n) })
  if (s3.node g n).lockHolder = some old then freeLock (nodeKey g n) s3 else s3

/-- A reset of the function discards its bridge work without an event (R340). -/
def bridgeReset (f : Nat) (s : State) : State :=
  let s1 := { s with bridge := s.bridge.filter (fun a => a.fn != f) }
  let s2 := (s1.nodes.filter (fun x => x.2.lockHolder == some f)).foldl (fun s x => freeLock x.1 s) s1
  s2.modFn f (fun x => { x with bridge := {} })

/-- BWV_WINSTAT (R323). -/
def State.winstat (s : State) (f : Nat) : Nat :=
  let g := s.winPort f
  let n := s.winNode f
  s.right f g n + 4 * b2n (!(s.node g n).present) + 8 * b2n ((s.fn f).bridge.wfault.contains (nodeKey g n)) +
  16 * b2n ((s.node g n).lockHolder == some f) + s.heldCount f * 2 ^ 8 + s.queuedCount f * 2 ^ 16

end Sys2Proof.Machine
end

