-- ==== Sys2Proof/Machine/Bulk.lean ====
section
/-!
DEFINITION. Bulk: the bulk mover's channels, jobs, bursts and completion queue (spec/10_bulk_mover.md).
-/
namespace Sys2Proof.Machine

def State.chan (s : State) (k : Nat) : Chan := nget {} s.chans k
def State.modChan (s : State) (k : Nat) (u : Chan → Chan) : State := { s with chans := nmod {} s.chans k u }

/-- The channel behind view `v` of a function (R345). -/
def State.viewChan (s : State) (f v : Nat) : Option Nat :=
  ((s.fn f).bulk.views.find? (·.1 == v)).map (·.2)
/-- The function and view that hold channel `k`. -/
def State.chanOwner (s : State) (k : Nat) : Option (Nat × Nat) :=
  (s.fns.filterMap (fun x => (x.2.bulk.views.find? (·.2 == k)).map (fun y => (x.1, y.1)))).head?

def JobSet.port (j : JobSet) : Nat := bits j.node 12 7
def JobSet.nodeNo (j : JobSet) : Nat := bits j.node 0 12
def JobSet.up (j : JobSet) : Bool := bit j.ctl 0
def JobSet.fixed (j : JobSet) : Bool := bit j.ctl 1
def JobSet.prio (j : JobSet) : Nat := bits j.ctl 2 3

/-- BMC_WAIT (R347). -/
def State.bmcWait (s : State) (f : Nat) : Nat := s.reg 0x00080064 pBMC f 0x044
/-- BMV_CTL.QUIESCE (R541). -/
def State.bmvQuiet (s : State) (t : Nat) : Bool := bit (s.reg 1 pBMV t 0x00C) 1

/-! ## The completion queue (R359-R361) -/

/-- A BCQ stops and its function hears of it (R361). -/
def bcqStop (f reason latched : Nat) (s : State) : State :=
  emit f { cls := 7, kind := 1, status := 0x0A, detail := reason, recs := [recData [(18, 1, reason), (20, 2, latched)]] }
    (s.modRing f 3 0 (·.stop reason latched))

/-- The oldest waiting record is written if the BCQ takes it; the channel leaves HOLD (R360). -/
def putBulkRecord (f : Nat) (s : State) : State :=
  let r := (s.fn f).bulk.ring
  match (s.fn f).bulk.recs with
  | [] => s
  | (k, irq, b) :: rest =>
    if !r.running || r.room == 0 || s.paused || !s.alive f then s
    else if !s.dmaOk f then bcqStop f 7 r.head (dmaRefused f s)
    else
      let s1 := out (.dmaWrite f (r.base.toNat + 32 * r.head) (b ++ [BitVec.ofNat 8 (b2n r.phase)])) s
      let s2 := (s1.modRing f 3 0 Ring.wrote).modFn f (fun x => { x with bulk := { x.bulk with recs := rest } })
      let s3 := s2.modChan k (fun c => if c.st = .hold then { c with st := .idle } else c)
      if irq then raiseNorm f 10 s3 else s3

/-- The bytes of a record but its last (R359). -/
def recordBytes (c : Chan) (view status detail tick : Nat) : List Byte :=
  toLe 4 c.cur.tag ++ toLe 1 (view + 16 * b2n c.cur.up + 32 * b2n c.cur.fixed + 64 * b2n c.doubt + 128 * b2n c.cut) ++
  toLe 1 status ++ toLe 1 detail ++ [0#8] ++ toLe 4 c.bytes ++ toLe 2 c.bursts ++ toLe 2 c.shorts ++ toLe 8 tick ++
  toLe 4 c.cur.naddr ++ toLe 2 c.cur.nodeNo ++ toLe 1 c.cur.port

/-- A job's record is written or the channel enters HOLD (R360, R362). -/
def recordJob (k status detail : Nat) (s : State) : State :=
  match s.chanOwner k with
  | none => s.modChan k (fun c => { c with st := .idle, out := [], ends := none })
  | some (f, v) =>
    let c := s.chan k
    let rec0 := recordBytes c v status detail s.time.tick
    let s1 := (s.modChan k (fun c =>
      { c with st := .hold, out := [], ends := none, stopreq := false, buf := [], reading := none, readErr := none
               short := false })).modFn f
      (fun x => { x with bulk := { x.bulk with recs := x.bulk.recs ++ [(k, bit c.cur.ctl 5 || status != 0, rec0)] } })
    let s2 := if (s1.fn f).bulk.recs.length = 1 then putBulkRecord f s1 else s1
    if (s2.chan k).st = .hold then setErr pBMV (k / 32) 0 s2 else s2


/-! ## Promotion (R350) -/

/-- The first check of R350 that a job fails. -/
def State.jobFails (s : State) (f k : Nat) (j : JobSet) : Option (Nat × Nat) :=
  let g := j.port
  let n := j.nodeNo
  if g / 16 ≠ k / 32 then some (0x47, 3)
  else if s.right f g n = 0 then some (0x61, 0)
  else if s.right f g n = 1 then some (0x62, 0)
  else if !(s.node g n).present then some (0x40, 0)
  else if !s.hopUp g then some (0x44, 0)
  else if !s.tileRuns (g / 16) then some (0xA0, g / 16)
  else none

/-- An armed job of an IDLE channel is copied, checked and started or ended. -/
def promote (k : Nat) (s : State) : State :=
  match s.chanOwner k with
  | none => s
  | some (f, _) =>
    let c := s.chan k
    if !(c.arm && c.st == .idle && (s.fn f).st == .active && !s.bmvQuiet (k / 32)) then s
    else
      let excess := !c.nxt.fixed && decide (c.nxt.naddr + c.nxt.len > 0xFF000000)
      let s1 := s.modChan k (fun c =>
        { c with cur := { c.nxt with len := if excess then 0xFF000000 - c.nxt.naddr else c.nxt.len, ctl := c.nxt.ctl % 64 },
                 arm := false, st := .run, jobseq := (c.jobseq + 1) % 256, bytes := 0, bursts := 0, shorts := 0,
                 doubt := false, cut := excess, short := false, ready := false, buf := [], reading := none, readErr := none })
      match s.jobFails f k c.nxt with
      | some e => recordJob k e.1 e.2 s1
      | none => s1

/-- A job ends with its record, and in the cycle after it an armed job of the channel is promoted (R350, R362). -/
def endJobNow (k status detail : Nat) (s : State) : State := promote k (recordJob k status detail s)

/-- The job of a channel ends once the answers still awaited are in. -/
def endJob (k status detail : Nat) (s : State) : State :=
  let c := s.chan k
  if c.ends.isSome then s
  else if c.out = [] then endJobNow k status detail s
  else s.modChan k (fun c => { c with st := .ending, ends := some (status, detail) })

/-- A record is written, then the channels it freed may promote (R350, R366 case 1). -/
def recordRelease (f : Nat) (s : State) : State :=
  match (s.fn f).bulk.recs with
  | [] => s
  | (k, _, _) :: _ => promote k (putBulkRecord f s)

def execBulkRecordRelease (f : Nat) (s : State) : Res := .next (recordRelease f s)

/-- BMC_BCQHEAD (R296, R359). -/
def bcqHead (f v : Nat) (s : State) : State :=
  if f = 0 || !s.pagesOpen f then s
  else
    let r := (s.fn f).bulk.ring
    if !r.enable then setErr pBMC f 2 s
    else if r.stopped then s
    else if v ≥ r.size then bcqStop f 3 v s
    else if r.freedBy v > r.unfreed then bcqStop f 4 v s
    else s.modRing f 3 0 (fun r => { r with tail := v, unfreed := r.unfreed - r.freedBy v })

def execBcqHeadDoorbell (f : Nat) (v : BitVec 16) (s : State) : Res := .next (mmio f 0 (fun s => doorbell f (bcqHead f v.toNat s)) s)

/-! ## The next set (R348-R351) -/

/-- The clamped value of a next-set register, with the bits clamped (R349). -/
def nxtClamp (s : State) (off v : Nat) : Nat × List Nat :=
  if off = 0x00 then (v / 8 * 8, if v % 8 = 0 then [] else [3])
  else if off = 0x08 then
    let a := v / 4 * 4
    if a > 0xFEFFFFFC then (0xFEFFFFFC, [2]) else (a, [])
  else if off = 0x0C then
    let l := v % 2 ^ 24
    if l = 0 then (8, [0]) else if l < 8 then (8, [0]) else (l / 8 * 8, if l % 8 = 0 then [] else [0])
  else if off = 0x10 then
    let p := bits v 12 7
    let pc := min p (s.portCount - 1)
    (bits v 0 12 + pc * 4096, if pc = p then [] else [12])
  else if off = 0x14 then (v % 64, [])
  else (v, [])

def JobSet.put (off v : Nat) (j : JobSet) : JobSet :=
  if off = 0x00 then { j with host := v } else if off = 0x08 then { j with naddr := v }
  else if off = 0x0C then { j with len := v } else if off = 0x10 then { j with node := v }
  else if off = 0x14 then { j with ctl := v } else { j with tag := v }

/-- A write to a next-set register of view `v`; while a job is armed it is discarded with SHBUSY (R349). -/
def nxtWrite (f v off w : Nat) (s : State) : State :=
  match s.viewChan f v with
  | none => s
  | some k =>
    if (s.chan k).arm then setErr pBMC f 0 s
    else
      let c := nxtClamp s off w
      let s1 := c.2.foldl (fun s b => logClamp pBMC f (0x100 + 0x80 * v + off) b s) s
      s1.modChan k (fun x => { x with nxt := x.nxt.put off c.1 })

/-- NXT_ARM: NXT_CTL written with ARM 1 (R349, R350). -/
def nxtArm (f v ctl : Nat) (s : State) : State :=
  if f = 0 || !s.pagesOpen f then s
  else match s.viewChan f v with
    | none => s
    | some k =>
      if (s.chan k).arm then setErr pBMC f 0 s
      else promote k ((nxtWrite f v 0x14 ctl s).modChan k (fun c => { c with arm := true, cancelled := false }))

def execNxtArm (f v : Nat) (ctl : W32) (s : State) : Res := .next (mmio f 0 (fun s => nxtArm f v ctl.toNat s) s)

/-- CMD.STOP (R351). -/
def bulkStop (f v : Nat) (s : State) : State :=
  if f = 0 || !s.pagesOpen f then s
  else match s.viewChan f v with
    | none => s
    | some k =>
      let c := s.chan k
      if c.st = .run ∨ c.st = .wait ∨ c.st = .probe then endJob k 0x47 2 (s.modChan k (fun c => { c with stopreq := true })) else s

def execBulkStop (f v : Nat) (s : State) : Res := .next (mmio f 0 (fun s => bulkStop f v s) s)

/-- CMD.CANCEL (R351). -/
def bulkCancel (f v : Nat) (s : State) : State :=
  if f = 0 || !s.pagesOpen f then s
  else match s.viewChan f v with
    | none => s
    | some k => if (s.chan k).arm then s.modChan k (fun c => { c with arm := false, cancelled := true }) else s

def execBulkCancel (f v : Nat) (s : State) : Res := .next (mmio f 0 (fun s => bulkCancel f v s) s)

/-! ## Bursts (R352, R356, R357) -/

/-- Longest run of free blocks of a tick: first block and length; skipped blocks neither count nor break it. -/
def longestRun (total : Nat) (skip free : Nat → Bool) : Nat × Nat :=
  let r := (List.range total).foldl (fun (a : (Nat × Nat) × (Nat × Nat)) b =>
    if skip b then a
    else if free b then
      let c := if a.1.2 = 0 then (b, 1) else (a.1.1, a.1.2 + 1)
      (c, if c.2 > a.2.2 then c else a.2)
    else ((0, 0), a.2)) ((0, 0), (0, 0))
  r.2

/-- Bytes of the job that awaited bursts carry or ask for. -/
def Chan.inFlight (c : Chan) : Nat := c.out.foldl (fun a b => if b.probe then a else a + 8 * (b.len - 1)) 0
/-- The channel may send a burst, the room in the tick aside (R356 rule 2). -/
def Chan.due (c : Chan) : Bool :=
  c.st == .run && c.ends.isNone && !c.short && decide (c.out.length < 8) &&
  (if c.cur.up then decide (c.inFlight < c.cur.len) else decide (8 ≤ c.buf.length))

/-- XID of a device-to-node CLASS 3 transfer (R352). -/
def bulkXid (chan bseq : Nat) (up probe : Bool) : Nat := chan + 32 * bseq + 256 * b2n up + 512 * b2n probe

/-- Slots used by CLASS 3 on a tile (R365). -/
def countBlocks (t n : Nat) (s : State) : State := countReg pBMV t 0x048 0 64 n s

/-- Send a burst, request or probe of channel `k` from downstream block `b` on; it awaits its answer. -/
def sendBurst (k b len : Nat) (probe : Bool) (payload : List Byte) (s : State) : State :=
  let c := s.chan k
  let g := c.cur.port
  let na := if c.cur.fixed then c.cur.naddr else c.cur.naddr + c.inFlight
  let s1 := out (.xfer g b 3 c.cur.nodeNo (bulkXid (k % 32) c.bseq c.cur.up probe) 0 (s.planNow g).planid
    (toLe 4 na ++ payload)) (useDown g b ((payload.length + 4 + 7) / 8 + 1) s)
  countBlocks (k / 32) ((payload.length + 4 + 7) / 8 + 1) (s1.modChan k (fun c =>
    { c with bseq := (c.bseq + 1) % 8, out := c.out ++ [{ bseq := c.bseq, len, naddr := na, probe }] }))

/-- The grant of an answer of two slots. -/
def replyGrant (k bseq after : Nat) (s : State) : State :=
  issueGrant (s.chan k).cur.port (s.chan k).cur.nodeNo 3 2 (k % 32 + 32 * bseq) after s

/-- A grant at downstream block `b` of the run found for a request's answer, in tick `n` (R356 rule 3). -/
def requestGrant (k b bseq n up len : Nat) (s : State) : State :=
  let g := (s.chan k).cur.port
  let node := (s.chan k).cur.nodeNo
  let gseq := k % 32 + 32 * bseq
  out (.block g b (grantBytes node 3 up len gseq)) ((useDown g b 1 s).modPort g (fun p =>
    { p with grants := p.grants ++ [{ tick := n, node, cls := 3, upslot := up, len, gseq }] }))

/-- Longest run that upstream grants may still take in tick `n`. -/
def State.upFree (s : State) (g n : Nat) : Nat × Nat :=
  let taken := s.upTaken g n
  longestRun (80 * s.tickUs) (fun b => b % 20 == 0) (fun b => !taken.contains b)

/-- A downstream block is left in the current tick. -/
def State.dnLeft (s : State) (g b : Nat) : Bool :=
  let busy := (s.planNow g).busyDn s.time.tick ++ (s.port g).dnUsed
  b != 0 && !busy.contains b
/-- Longest downstream run left in the current tick. -/
def State.downFree (s : State) (g : Nat) : Nat × Nat := longestRun (80 * s.tickUs) (fun _ => false) (s.dnLeft g)
/-- A downstream block left in the current tick beside the two that a request takes at `b`: the first one after them where
there is one, else the first one (R356 rule 3, log entry 100). -/
def State.grantLeft (s : State) (g b : Nat) : Option Nat :=
  let l := (List.range (80 * s.tickUs)).filter (fun x => s.dnLeft g x && decide (x < b ∨ b + 1 < x))
  ((l.find? (fun x => decide (b < x))).map some).getD l.head?

/-- One channel's turn on a port: a burst if the runs fit it. -/
def bulkTurn (g : Nat) (s : State) (k : Nat) : State :=
  let c := s.chan k
  let d := s.downFree g
  let served := fun (s : State) => s.modPort g (fun p => { p with bulkLast := k % 32 })
  if c.cur.up then
    let u := s.upFree g (s.time.tick + 8)
    let len := min u.2 (min 63 ((c.cur.len - c.inFlight) / 8 + 1) + 1)
    match s.grantLeft g d.1 with
    | none => s
    | some b =>
      if d.2 < 2 ∨ len < 3 then s
      else served (requestGrant k b c.bseq (s.time.tick + 8) u.1 len (sendBurst k d.1 (len - 1) false [] s))
  else
    let len := min (d.2 - 1) (min 63 (min (c.cur.len - c.inFlight) c.buf.length / 8 + 1))
    if d.2 < 3 then s
    else
      let n := 8 * (len - 1)
      let s1 := sendBurst k d.1 len false (c.buf.take n) s
      let s2 := served (replyGrant k c.bseq (d.1 + len) (s1.modChan k (fun c => { c with buf := c.buf.drop n })))
      match c.readErr with
      | some e => if c.buf.length < n + 8 then endJob k e.1 e.2 s2 else s2
      | none => s2

/-- Channels of the tile with a burst due on the port, in the order of R356 rule 1. -/
def State.bulkOrder (s : State) (g : Nat) : List Nat :=
  let t := g / 16
  let last := (s.port g).bulkLast
  sortBy (fun k => (7 - (s.chan k).cur.prio) * 32 + (k % 32 + 31 - last) % 32)
    ((s.chans.filter (fun x => x.1 / 32 == t && x.2.cur.port == g && x.2.due)).map (·.1))

/-- Host data is read at most two bursts ahead of the line (R357). -/
def readAhead (k : Nat) (s : State) : State :=
  match s.chanOwner k with
  | none => s
  | some (f, _) =>
    let c := s.chan k
    let left := c.cur.len - c.inFlight - c.buf.length
    if c.st = .run ∧ !c.cur.up ∧ c.ends.isNone ∧ !c.short ∧ c.reading.isNone ∧ c.readErr.isNone ∧ c.buf.length ≤ 496 ∧ 0 < left then
      let n := min 496 left
      let r := request f (.bulkRead f (c.cur.host + c.inFlight + c.buf.length) n) s
      if r.2 then r.1.modChan k (fun c => { c with reading := some n }) else endJob k 0x22 0 r.1
    else s

/-- The bulk work of a port at a tick boundary. -/
def bulkPort (g : Nat) (s : State) : State :=
  if s.hopUp g && s.tileRuns (g / 16) && !s.bmvQuiet (g / 16) then (s.bulkOrder g).foldl (bulkTurn g) s else s

/-- At a tick boundary: idle channels with armed jobs promote, each port is shared out, host data is read ahead. -/
def bulkTick (s : State) : State :=
  let ks := (s.chans.map (·.1))
  let s1 := ks.foldl (fun s k => promote k s) s
  let s2 := ((s1.ports.map (·.1)).filter s1.hopUp).foldl (fun s g => grantWishes g 3 s) s1
  let gs := (s2.chans.filter (fun x => x.2.due)).foldl (fun l x => insertAsc x.2.cur.port l) []
  ks.foldl (fun s k => readAhead k s) (gs.foldl (fun s g => bulkPort g s) s2)

/-! ## Answers (R353, R355, R357, R358) -/

/-- The job of a channel moves on once an answer has been checked: to its end, to WAIT, or it goes on (R358). -/
def settleChan (k : Nat) (s : State) : State :=
  let c := s.chan k
  if c.out ≠ [] then s
  else match c.ends with
    | some e => endJobNow k e.1 e.2 s
    | none =>
      if c.short && c.st == .run then
        match s.chanOwner k with
        | none => s
        | some (f, _) =>
          if (s.fn f).st != .active then endJobNow k 0x07 0 s
          else s.modChan k (fun c =>
            { c with st := .wait, short := false, buf := [], reading := none, readErr := none
                     probeAt := if c.ready then s.time.tick else s.time.tick + 2 ^ bits (s.bmcWait f) 16 5 })
      else s

/-- `n` bytes are counted (R357). -/
def countBytes (k n : Nat) (s : State) : State :=
  let s1 := s.modChan k (fun c =>
    { c with bytes := c.bytes + n, bursts := if n = 0 then c.bursts else satAdd 65535 c.bursts 1
             cur := { c.cur with host := c.cur.host + n, len := c.cur.len - n
                                 naddr := if c.cur.fixed then c.cur.naddr else c.cur.naddr + n } })
  match s.chanOwner k with
  | some (f, _) => countReg pBMC f 0x060 0 64 n s1
  | none => s1

def dropBurst (k bseq : Nat) (s : State) : State :=
  s.modChan k (fun c => { c with out := c.out.filter (·.bseq != bseq) })

/-- An answer was missing or failed its check: granted twice more, then the job ends with 0x42 (R355). -/
def missedBurst (k : Nat) (b : Burst) (s : State) : State :=
  let c := s.chan k
  if b.misses < 2 then
    let s1 := s.modChan k (fun c => { c with out := c.out.map (fun x => if x.bseq = b.bseq then { x with misses := x.misses + 1 } else x) })
    if c.cur.up && !b.probe then
      issueGrant c.cur.port c.cur.nodeNo 3 (b.len + 1) (k % 32 + 32 * b.bseq) 0 s1
    else replyGrant k b.bseq 0 s1
  else
    let s1 := (dropBurst k b.bseq s).modChan k (fun c => { c with doubt := c.doubt || (!c.cur.up && !b.probe) })
    let s2 := if (s1.chan k).ends.isSome then settleChan k s1 else endJob k 0x42 0 s1
    miss c.cur.port c.cur.nodeNo s2

/-- A node error BRES ends the job (R355). -/
def burstError (k bseq bres : Nat) (s : State) : State :=
  let s1 := dropBurst k bseq s
  if (s1.chan k).ends.isSome then settleChan k s1 else endJob k 0x43 bres s1

/-- The job is complete when CUR_LEFT is 0 (R362); otherwise the channel settles. -/
def afterAnswer (k : Nat) (s : State) : State :=
  if (s.chan k).cur.len = 0 then endJobNow k 0 0 s else settleChan k s

/-- A short answer: counted, and the channel will wait (R353, R358). -/
def shortAnswer (k : Nat) (ready : Bool) (s : State) : State :=
  countReg pBMV (k / 32) 0x050 0 32 1 (s.modChan k (fun c =>
    { c with shorts := satAdd 65535 c.shorts 1, short := true, ready := if c.short then c.ready else ready }))

/-- A reply to a data burst or probe that passed its checks. -/
def burstReply (k : Nat) (b : Burst) (bres accepted : Nat) (ready : Bool) (s : State) : State :=
  let s0 := countBlocks (k / 32) 2 s
  if bres ≠ 0 then burstError k b.bseq bres s0
  else if accepted > b.len - 1 then missedBurst k b s0
  else if b.probe then
    let s1 := dropBurst k b.bseq s0
    if (s1.chan k).ends.isSome then settleChan k s1
    else if ready then s1.modChan k (fun c => { c with st := .run, short := false })
    else match s1.chanOwner k with
      | some (f, _) => s1.modChan k (fun c => { c with st := .wait, probeAt := c.probeAt + 2 ^ bits (s1.bmcWait f) 16 5 })
      | none => s1
  else
    let s1 := countBytes k (8 * accepted) (dropBurst k b.bseq s0)
    afterAnswer k (if accepted < b.len - 1 then shortAnswer k ready s1 else s1)

/-- An answer to a request that passed its checks: its data goes to host memory, then it is counted (R353, R357). -/
def requestAnswer (k : Nat) (b : Burst) (bres naddr l : Nat) (data : List Byte) (s : State) : State :=
  let s0 := countBlocks (k / 32) (l + 1) s
  if bres ≠ 0 then burstError k b.bseq bres s0
  else if naddr ≠ b.naddr then missedBurst k b s0
  else
    let n := min (8 * (l - 1)) (s.chan k).cur.len
    match s.chanOwner k with
    | none => s0
    | some (f, _) =>
      let w := if n = 0 then (s0, true) else request f (.bulkWrite f (s.chan k).cur.host (data.take n)) s0
      let s1 := dropBurst k b.bseq w.1
      if !w.2 then (if (s1.chan k).ends.isSome then settleChan k s1 else endJob k 0x22 0 s1)
      else
        let s2 := countBytes k n s1
        afterAnswer k (if l < b.len then shortAnswer k false s2 else s2)

/-- The burst of a channel that awaits its answer under a BSEQ. -/
def State.burst? (s : State) (k bseq : Nat) : Option Burst := (s.chan k).out.find? (·.bseq == bseq)

/-- BULK_PROBE_DUE (R358): the probe goes where the tick still has two slots for it; the next is due 2^PROBEK ticks after
this one was. -/
def probeDue (t c : Nat) (s : State) : State :=
  let k := t * 32 + c
  let x := s.chan k
  let d := s.downFree x.cur.port
  if c < 32 && x.st == .wait && decide (s.time.tick ≥ x.probeAt) && s.hopUp x.cur.port && !s.bmvQuiet t && decide (2 ≤ d.2) then
    replyGrant k x.bseq (d.1 + 1)
      ((sendBurst k d.1 1 true [] s).modChan k (fun y => { y with st := .probe }))
  else s

def execBulkProbeDue (t c : Nat) (s : State) : Res := .next (probeDue t c s)

/-- BULK_WAIT_LIMIT (R358). -/
def waitLimit (t c : Nat) (s : State) : State :=
  let k := t * 32 + c
  match s.chanOwner k with
  | some (f, _) =>
    if c < 32 && ((s.chan k).st == .wait || (s.chan k).st == .probe) && bits (s.bmcWait f) 0 13 != 0 then
      endJobNow k 0x47 1 s else s
  | none => s

def execBulkWaitLimit (t c : Nat) (s : State) : Res := .next (waitLimit t c s)

/-- A host read of a channel failed. The bursts whose data was read before it still go out, and the job ends once they are
answered (R366 case 7). -/
def readFailed (k status detail : Nat) (s : State) : State :=
  if (s.chan k).buf.length < 8 then endJob k status detail s
  else s.modChan k (fun x => { x with readErr := some (status, detail) })

/-- BULK_HOST_READ_DONE: host data, or an error (1 UR, 2 CA, 3 poisoned) (R357, R366 case 7). -/
def hostReadDone (t c err : Nat) (data : List Byte) (s : State) : State :=
  let k := t * 32 + c
  match (s.chan k).reading with
  | none => s
  | some n =>
    let s1 := s.modChan k (fun x => { x with reading := none })
    if err ≠ 0 then readFailed k 0x20 err s1 else s1.modChan k (fun x => { x with buf := x.buf ++ data.take n })

def execBulkHostReadDone (t c err : Nat) (data : List Byte) (s : State) : Res := .next (hostReadDone t c err data s)

/-- No completion of a host read within 10 ms (R362). -/
def hostReadTimeout (k : Nat) (s : State) : State :=
  if (s.chan k).reading.isSome then readFailed k 0x21 0 (s.modChan k (fun x => { x with reading := none })) else s

/-! ## Departure, freeze, reset and lease change (R363, R364) -/

/-- A channel with a job in progress. -/
def Chan.busy (c : Chan) : Bool := c.st == .run || c.st == .wait || c.st == .probe || c.st == .ending

/-- Every job on a departed node ends at once (R363). -/
def bulkDepart (g n status : Nat) (s : State) : State :=
  (s.chans.filter (fun x => x.2.busy && x.2.cur.port == g && x.2.cur.nodeNo == n)).foldl (fun s x =>
    let e := x.2.ends.getD (status, if status = 0xA0 then g / 16 else 0)
    endJobNow x.1 e.1 e.2 (s.modChan x.1 (fun c =>
      { c with doubt := c.doubt || (!c.cur.up && c.out.any (fun b => !b.probe)) }))) s

/-- Channels of a function. -/
def State.chansOf (s : State) (f : Nat) : List Nat := (s.fn f).bulk.views.map (·.2)

/-- Freezing ends the jobs that wait (R364). -/
def bulkFreeze (f : Nat) (s : State) : State :=
  (s.chansOf f).foldl (fun s k =>
    if (s.chan k).st = .wait ∨ (s.chan k).st = .probe then endJobNow k 0x07 0 s else s) s

/-- At the end of the freeze time jobs still in RUN end as a STOP would (R384). -/
def bulkForce (f : Nat) (s : State) : State :=
  (s.chansOf f).foldl (fun s k => if (s.chan k).st = .run then endJob k 0x07 0 s else s) s

/-- A reset of the function (R364). -/
def bulkReset (f : Nat) (s : State) : State :=
  ((s.chansOf f).foldl (fun s k => s.modChan k (fun _ => {})) s).modFn f
    (fun x => { x with bulk := { x.bulk with ring := {}, recs := [] } })

/-- The old writer's jobs on a node finish what is sent and end with 0x61 (R364). -/
def bulkLeaseChange (g n old : Nat) (s : State) : State :=
  (s.chansOf old).foldl (fun s k =>
    let c := s.chan k
    if c.busy && c.cur.port == g && c.cur.nodeNo == n then endJob k 0x61 0 s else s) s

def ChanSt.code : ChanSt → Nat
  | .idle => 0 | .run => 1 | .wait => 2 | .probe => 3 | .hold => 4 | .ending => 5

/-- STAT of a view (R349). -/
def Chan.stat (c : Chan) : Nat :=
  c.st.code + 8 * b2n c.arm + 16 * b2n c.cancelled + 32 * b2n c.stopreq + 256 * c.jobseq + 65536 * min 8 c.out.length

end Sys2Proof.Machine
end

