-- ==== Sys2Proof/Machine/Equaliser.lean ====
section
/-!
DEFINITION. Equaliser: what the first hop's upper end sends in DOWN, and the margins and presets of every hop
(spec/03_dapen_link.md, R123, R127-R129, R139).
-/
namespace Sys2Proof.Machine

/-- TPT_LINKCFG (R139). -/
def State.linkcfg (s : State) (g : Nat) : Nat := s.reg 0x80D pTPT g 0x040
def State.linken (s : State) (g : Nat) : Bool := bit (s.linkcfg g) 0

/-- Nothing holds the port's transmitter idle: LINKEN is 1, no quarantine or refusal holds the hop as if it were 0, and
the tile runs (R123, R139, R173, R597). -/
def State.transmits (s : State) (g : Nat) : Bool :=
  let p := s.port g
  s.linken g && !p.holdDown && !p.quarPort && !p.refusedLocs.contains (0, 0) && s.tileRuns (g / 16) && s.ready &&
    !(s.tl (g / 16)).pwr.stopped

/-- A receiver is named by a key: twice the hop, plus 0 for the lower end's and 1 for the upper end's; hop 0 is the
first hop, and the hop above node `n` at depth 2 or more is `n + 1`. -/
def State.rx (s : State) (g key : Nat) : Hop := nget {} (s.port g).hops key
def modRx (g key : Nat) (u : Hop → Hop) (s : State) : State :=
  s.modPort g (fun p => { p with hops := nmod {} p.hops key u })

/-- The port's line while the hop is in DOWN: TRAIN where nothing holds it, whose STEP no rule gives (a free value), else
electrical idle (R123, R139; log entry 108). -/
def downLine (g : Nat) (s : State) : State :=
  if s.transmits g then out (.train g (trainBytes (s.freeVal % 16) (s.rx g 1).preset (s.port g).blockLock false)) s.draw
  else out (.train g []) s

/-! ## Margins and presets (R127-R129) -/

/-- The even key of a receiver's hop. -/
def hopKey (key : Nat) : Nat := key / 2 * 2

/-- The node whose number a hop's events give: the lower end, 0xFFFF for the port's own hop. -/
def hopNode (key : Nat) : Nat := if key / 2 = 0 then 0xFFFF else key / 2 - 1

/-- A preset change of the transmitter that feeds a receiver, at APPLYTICK eight ticks ahead (R128). -/
def sendPreset (g key p : Nat) (s : State) : State :=
  let at_ := s.time.tick + 8
  let word := p + at_ % 65536 * 16
  let s1 := modRx g key (fun x => { x with pending := some (p, at_) }) s
  if key = 0 then s1
  else if key = 1 then
    match s.nodeAt g 1 0 with
    | some n => mgmtWrite g n lnkPreset [word] .preset s1
    | none => s1
  else
    let n := key / 2 - 1
    if key % 2 = 1 then mgmtWrite g n lnkPreset [word] .preset s1
    else match s.parentOf g n with
      | some h => mgmtWrite g h (lnkBrpreset (pathBranch (s.node g n).path (s.node g n).depth)) [word] .preset s1
      | none => s1

/-- The alarm of a hop: raised by the margin of either receiver, and armed again once every margin known of the hop is back
at MARGINLOW + 4 (R129). -/
def marginAlarm (g key h : Nat) (s : State) : State :=
  let low := bits (s.linkcfg g) 8 4
  let k := hopKey key
  let on := (s.rx g k).alarmed
  let known := [(s.rx g k).margin, (s.rx g (k + 1)).margin]
  if h < low ∧ !on then
    emitMgr 8 1 [(16, 1, g), (17, 1, 1), (20, 2, hopNode key)] (setErr pTPT g 1 (modRx g k (fun x => { x with alarmed := true }) s))
  else if known.all (fun m => m.all (fun m => decide (low + 4 ≤ m))) then modRx g k (fun x => { x with alarmed := false }) s
  else s

/-- A step of the transmitter that feeds a receiver, to preset `p`; `from_` is what it can still be reverted to. -/
def stepPreset (g key p : Nat) (from_ : Option Nat) (s : State) : State :=
  sendPreset g key p (modRx g (hopKey key) (fun x => { x with stepped := true }) (modRx g key (fun x => { x with stepFrom := from_ }) s))

/-- The margin of one receiver has been read: a step after which it has fallen by 2/64 UI is reverted, and one below 16/64 UI
moves its transmitter a step, one step per hop and period, the receiver read first winning (R127; log entry 109). -/
def marginSeen (g key h v : Nat) (s : State) : State :=
  let x := s.rx g key
  let s0 := if key = 1 then s.modPort g (fun p => { p with marginH := h, marginV := v }) else s
  let s1 := marginAlarm g key h (modRx g key (fun x => { x with margin := some h, stepFrom := none }) s0)
  let worse := match x.stepFrom, x.margin with
    | some old, some m => if h + 2 ≤ m then some old else none
    | _, _ => none
  if !(s.hopUp g && bit (s.linkcfg g) 2) then s1
  else match worse with
    | some old => stepPreset g key old none s1
    | none =>
      if h < 16 ∧ x.preset < 10 ∧ !(s.rx g (hopKey key)).stepped then stepPreset g key (x.preset + 1) (some x.preset) s1
      else s1

/-- What is kept of a receiver's margins and steps when its hop has trained; its transmitter starts from the preset chosen
in EQ (R127). -/
def Hop.trained (x : Hop) (p : Nat) : Hop :=
  { x with margin := none, stepFrom := none, stepped := false, pending := none, alarmed := false, preset := p, eqPreset := p }

/-- The hop above a lower end below a hub has trained: the hub chose its presets in EQ and reports them nowhere, so they are
free values to the device (R123, R127; log entry 109). -/
def trainedBelow (g n : Nat) (s : State) : State :=
  if (s.node g n).depth ≤ 1 then s
  else
    let one := fun (key : Nat) (s : State) => modRx g key (fun x => x.trained (s.freeVal % 11)) s.draw
    one (2 * (n + 1)) (one (2 * (n + 1) + 1) s)

/-- The margins of the hop above node `n` that are read through the link registers (R127, R134). -/
def readMargins (g : Nat) (s : State) (n : Nat) : State :=
  let x := s.node g n
  let key := if x.depth ≤ 1 then 0 else 2 * (n + 1)
  let s1 := mgmtRead g n lnkEye 1 (.margin key) s
  match s.parentOf g n with
  | some h => mgmtRead g h (lnkBrstat (pathBranch x.path x.depth)) 2 (.margin (key + 1)) s1
  | none => s1

/-- EQ_LOOP_PERIOD of a port, every 64 ms: the port's receiver shows margins `h` and `v`, and every other receiver of the
tree is read (R127). -/
def eqPeriod (g h v : Nat) (s : State) : State :=
  if !(s.hopUp g && bit (s.linkcfg g) 2) then s
  else
    let s1 := s.modPort g (fun p => { p with hops := nmapAll {} (fun _ x => { x with stepped := false }) p.hops })
    ((s.nodesOf g).filter (fun n => (s.node g n).leaves && (s.node g n).delayValid)).foldl (readMargins g) (marginSeen g 1 h v s1)

def execEqLoopPeriod (g h v : Nat) (s : State) : Res := .next (eqPeriod g (h % 64) (v % 256) s)

/-- PRESET_APPLY at block 0 of APPLYTICK (R128). -/
def presetApply (g key : Nat) (s : State) : State :=
  match (s.rx g key).pending with
  | some (p, t) => if s.time.tick ≥ t then modRx g key (fun x => { x with preset := p, pending := none }) s else s
  | none => s

def execPresetApply (g key : Nat) (s : State) : Res := .next (presetApply g key s)

/-- The words of a margin read (R134): LNK_EYE, or LNK_BRSTAT of the branch for the receiver at the hub. -/
def marginRead (g key : Nat) (ws : List Nat) (s : State) : State :=
  let w := ws[key % 2]?.getD 0
  if key < 2 ∨ (s.node g (key / 2 - 1)).leaves then marginSeen g key (bits w 0 6) (bits w 8 8) s else s

end Sys2Proof.Machine
end

