-- ==== Sys2Proof/Machine/Tree.lean ====
section
/-!
DEFINITION. Tree: departure, quarantine, enumeration, admission and leases of a port's nodes
(spec/04_trees_hotplug_admission.md, R142-R178; R136, R525, R597 of the neighbouring chapters).
-/
namespace Sys2Proof.Machine

/-! ## Locations (R143, R144) -/

/-- Depth and path of the lower end below branch `br` of a parent: key 0 the port, else hub number plus one. -/
def State.locOf (s : State) (g pk br : Nat) : Nat × Nat :=
  if pk = 0 then (1, 0)
  else
    let h := s.node g (pk - 1)
    (h.depth + 1, h.path + br * 2 ^ (4 * (h.depth - 1)))

/-- Parent key and branch of a bound node. -/
def State.placeOf (s : State) (g n : Nat) : Nat × Nat :=
  let x := s.node g n
  if x.depth ≤ 1 then (0, 0)
  else match s.parentOf g n with
    | some h => (h + 1, pathBranch x.path x.depth)
    | none => (0, 0)

/-- The nodes below, and at, a node's location. -/
def State.subtree (s : State) (g n : Nat) : List Nat := (s.nodesOf g).filter (s.below g n)

/-- A change of the node tables waits to be journalled (R506). -/
def noteTable (type g n : Nat) (d : List Byte) (s : State) : State := { s with journal := s.journal ++ [(type, g, n, d)] }
def locBytes (x : Node) : List Byte := toLe 6 x.path ++ toLe 1 x.depth

/-- Word of a hub's route table that holds node `n` (R145). -/
def State.routeWord (s : State) (g h n : Nat) : Nat :=
  let x := s.node g h
  (List.range 4).foldl (fun a i =>
    let m := n / 4 * 4 + i
    let b := if s.below g h m && m != h then pathBranch (s.node g m).path (x.depth + 1) else 0xFF
    a + b * 2 ^ (8 * i)) 0

/-- One hub's route entry of node `n` is written, or waits for a hub that cannot be reached (R145). -/
def writeRoute (g n : Nat) (s : State) (h : Nat) : State :=
  if (s.node g h).present && s.hopUp g then mgmtWrite g h (lnkRoute + n / 4 * 4) [s.routeWord g h n] (.route n) s
  else s.modNode g h (fun x => { x with routesDue := insertAsc n x.routesDue })

/-- The route entry of node `n` is written in every hub on its path (R145). -/
def writeRoutes (g n depth path : Nat) (s : State) : State := (s.hubsAbove g depth path).foldl (writeRoute g n) s

/-- LNK_BRCTL of a hub as the device holds it. -/
def State.brctl (s : State) (g h : Nat) : Nat := (s.node g h).brEnable % 2 ^ 16 + (s.node g h).brQuar % 2 ^ 16 * 2 ^ 16

/-- Set or clear a branch's ENABLE bit and write it. -/
def enableBranch (g h br : Nat) (on : Bool) (p : Purpose) (s : State) : State :=
  let s1 := s.modNode g h (fun x => { x with brEnable := if on then setBit x.brEnable br else clrBit x.brEnable br })
  mgmtWrite g h lnkBrctl [s1.brctl g h] p s1

/-- The number's location holds no lower end in another state; the moment orders the releases of R144. -/
def makeAbsent (g n : Nat) (s : State) : State :=
  s.modNode g n (fun x => { x with st := .absent, absentStamp := s.time.tick, delayValid := false })

/-! ## Departure (R164, R165, R136) -/

/-- A pending NODE_ADMIT of a departed node fails (R176 case 9). -/
def failAdmits (g n : Nat) (s : State) : State :=
  ((s.fn 0).handles.filter (fun h => h.op == .nodeAdmit g n && !h.done)).foldl (fun s h => failHandle 0 h.seq 0x40 0 s) s

/-- One node becomes ABSENT. -/
def departOne (g why status : Nat) (s : State) (n : Nat) : State :=
  let s1 := stopPoints 4 g n s
  let s2 := s1.modNode g n (fun x =>
    { x with st := .absent, reason := if why = 0 then x.reason else why, absentStamp := s.time.tick, resumed := false,
             bankLoaded := false, xfer0 := none, xfer1 := none, tab0 := none, tab1 := none, delayValid := false, stepWait := none, missedEcho := 0,
             brEnable := 0, look := none, authTry := 0, waitNonce := false, waitSig := false, leaseLook := 0, attn := false,
             wantWriter := none, relet := false })
  let s3 := s2.modPort g (fun p =>
    { p with mreqs := p.mreqs.filter (·.node != n), mwait := p.mwait.filter (·.node != n)
             wishes := p.wishes.filter (·.node != n), retries := p.retries.filter (·.node != n),
             echoes := p.echoes.filter (·.1 != n), held := p.held.filter (·.1 != n + 1),
             enumNow := match p.enumNow with
               | some e => if e.2.2 = n ∨ e.1 = n + 1 then none else some e
               | none => none })
  failAdmits g n (bulkDepart g n status (bridgeDepart g n status s3))

/-- The listed nodes leave together: one departure event per function concerned, naming the nodes it covers (R165, R176). -/
def departList (g why status : Nat) (gone : List Nat) (s : State) : State :=
  let s1 := gone.foldl (departOne g why status) s
  let aud := fun n => if (s.node g n).st == .held then [0] else s.audience g n
  let fs := gone.foldl (fun a n => (aud n).foldl (fun a f => insertAsc f a) a) []
  fs.foldl (fun s f =>
    let l := gone.filter (fun n => (aud n).contains f)
    emit f (nodeEvent 2 g why l.length l) s) s1

/-- Those of the nodes leave that have a lower end in service or on its way there. One that is REFUSED or QUARANTINED keeps
its state below a hub or first hop that departs: R597 and R175 alone release it (DEDUCED, log entry 105). -/
def departNodes (g why status : Nat) (ns : List Nat) (s : State) : State :=
  departList g why status (ns.filter (fun n => (s.node g n).leaves)) s

/-- The first hop leaves UP, or its training ends (R136, R597); with `flag` LINKDOWN and its link event. -/
def hopDown (g : Nat) (flag : Bool) (status : Nat) (s : State) : State :=
  let up := s.hopUp g
  let s1 := s.modPort g (fun p =>
    { p with hop := .down, blockLock := false, grants := [], mreqs := [], mwait := [], wishes := [], acks := [], echoes := []
             retries := [], enumNow := none, held := [], rangeAgain := none, gates := [] })
  let s2 := departNodes g 0 status (s.nodesOf g) s1
  let s3 := downLine g s2
  if up && flag then
    emitMgr 8 1 [(16, 1, g), (17, 1, 0), (20, 2, 0xFFFF)] (setErr pTPT g 0 s3)
  else s3

/-! ## Hostile partners (R172-R175) -/

/-- A hash enters the quarantine list; the oldest leaves a full one (R160). -/
def quarAdd (g : Nat) (h : List Byte) (s : State) : State × Option (List Byte) :=
  if h = [] ∨ s.quar.contains h then (s, none)
  else if s.quar.length < 4096 then (noteTable 3 g 0 h { s with quar := s.quar ++ [h] }, none)
  else (noteTable 3 g 0 h (noteTable 4 g 0 (s.quar.head?.getD []) { s with quar := s.quar.drop 1 ++ [h] }), s.quar.head?)

/-- The displaced hash is told to the manager (R160). -/
def displaced (g : Nat) (h : Option (List Byte)) (s : State) : State :=
  match h with
  | some h => emit 0 { cls := 3, kind := 9, recs := [recData [(16, 1, g), (17, 13, leNat (h.take 13))],
      recData [(16, 3, leNat (h.drop 13))]] } s
  | none => s

/-- A hub whose gates can be trusted (R173 item 1). -/
def State.trusted (s : State) (g h : Nat) : Bool :=
  (s.node g h).present && !(s.node g h).suspect &&
  !((s.port g).mgmtOpen.any (fun r => r.node == h && (match r.purpose with | .gate _ _ => true | _ => false)))

/-- The suspect behind a hub that itself reports gate discards (R172). -/
def State.refine (s : State) : Nat → Nat → Nat → Nat
  | 0, _, n => n
  | k + 1, g, n =>
    let x := s.node g n
    match x.discards.find? (fun d => decide (d.2 ≥ bits (s.treecfg g) 16 8)) with
    | some d => match s.nodeAt g (x.depth + 1) (x.path + d.1 * 2 ^ (4 * (x.depth - 1))) with
      | some m => s.refine k g m
      | none => n
    | none => n

/-- The gate point of a suspect: the nearest trustworthy hub above it and its branch, none for the port. -/
def State.gatePoint (s : State) (g n : Nat) : Option (Nat × Nat) :=
  let x := s.node g n
  ((s.hubsAbove g x.depth x.path).reverse.find? (s.trusted g)).map
    (fun h => (h, pathBranch x.path ((s.node g h).depth + 1)))

/-- Nodes below a gate point. -/
def State.behind (s : State) (g : Nat) (gate : Option (Nat × Nat)) : List Nat :=
  match gate with
  | none => s.nodesOf g
  | some (h, br) => (s.nodesOf g).filter (fun m =>
      m != h && s.below g h m && pathBranch (s.node g m).path ((s.node g h).depth + 1) == br)

/-- QUARPORT of the port as TPT_TREECFG shows it (R178). -/
def setQuarPort (g : Nat) (on : Bool) (s : State) : State :=
  (s.setSreg 0x01100804 pTPT g 0x080 (if on then setBit (s.treecfg g) 3 else clrBit (s.treecfg g) 3)).modPort g
    (fun p => { p with quarPort := on })

/-- The gate order of a suspect (R173 item 2). -/
def orderGate (g : Nat) (gate : Option (Nat × Nat)) (n : Nat) (s : State) : State :=
  match gate with
  | none => hopDown g true 0x40 (setQuarPort g true s)
  | some (h, br) =>
    let s1 := s.modNode g h (fun x => { x with brQuar := setBit x.brQuar br, discards := nput 0 x.discards br 0 })
    (mgmtWrite g h lnkBrctl [s1.brctl g h] (.gate br n) s1).modNode g h (fun x => { x with brEnable := clrBit x.brEnable br })

/-- The gate set above a location that is the highest: the port's, or a hub's branch (R173, R176 case 8). -/
def State.gateOver (s : State) (g n : Nat) : Option (Option (Nat × Nat)) :=
  let x := s.node g n
  if (s.port g).quarPort then some none
  else ((s.hubsAbove g x.depth x.path).find? (fun h =>
    bit (s.node g h).brQuar (pathBranch x.path ((s.node g h).depth + 1)))).map
      (fun h => some (h, pathBranch x.path ((s.node g h).depth + 1)))

/-- Quarantine of suspect `n` (R173). A suspect that a gate above already closes off gets no order of its own (R176 case 8);
every other node behind the gate point becomes ABSENT, a REFUSED one too. -/
def quarantine (g n obs : Nat) (s : State) : State :=
  let x := s.node g n
  if x.st = .quarantined then s
  else
    let past := s.gateOver g n
    let gate := past.getD (s.gatePoint g n)
    let aud := s.audience g n
    let others := (s.behind g gate).filter (fun m => m != n && ((s.node g m).leaves || (s.node g m).st == .refused))
    let q := quarAdd g x.hash s
    let s1 := if x.leaves then departOne g x.reason 0x40 q.1 n else q.1
    let s2 := if x.bound then s1.modNode g n (fun y =>
        { y with st := .quarantined, suspect := true,
                 gateAt := some (match gate with | some p => (p.1 + 1, p.2) | none => (0, 0)) }) else s1
    let word := if x.bound then n else 0xFFF
    let s3 := emitAll aud (nodeEvent 5 g obs 1 [word, match gate with | some p => p.1 | none => 0x0FFF]) (setErr pTPT g 4 s2)
    let s4 := departList g 12 0x40 others (displaced g q.2 s3)
    if past.isSome then s4 else orderGate g gate n s4

/-- A suspect without a number, on branch `br` of hub `h` (R172, R173). -/
def quarantineBranch (g h br obs : Nat) (s : State) : State :=
  if bit (s.node g h).brQuar br || (s.gateOver g h).isSome then s
  else orderGate g (some (h, br)) 0xFFF (emit 0 (nodeEvent 5 g obs 1 [0xFFF, h]) (setErr pTPT g 4 s))

/-- A suspect that departed before its gate order was sent: its identity alone is entered, if read (R176 case 4). -/
def quarantineGone (g n : Nat) (s : State) : State :=
  let q := quarAdd g (s.node g n).hash s
  displaced g q.2 q.1

/-- A hostile observation attributed to node `n` (R172). -/
def hostile (g n obs : Nat) (s : State) : State := quarantine g (s.refine 12 g n) obs s

/-- A hostile observation attributed to the lower end of the first hop. -/
def hostileFirst (g obs : Nat) (s : State) : State :=
  hostile g ((s.nodeAt g 1 0).getD 0xFFFF) obs s

/-- A gate order at hub `h` failed: the hub becomes the suspect, one level up (R174). -/
def escalate (g h : Nat) (s : State) : State :=
  let s1 := setErr pTPT g 7 (s.modNode g h (fun x => { x with suspect := true }))
  let gate := s1.gatePoint g h
  quarantine g h 7 (emit 0 (nodeEvent 7 g 7 1 [h, match gate with | some p => p.1 | none => 0x0FFF]) s1)

/-- A HEADER came from below a gate that was acknowledged within the last 64 ticks (R174). -/
def gateLeak (g n : Nat) (s : State) : State :=
  match (s.port g).gates.find? (fun t => decide (s.time.tick ≤ t.2.2.2.1 + 64) && (s.behind g (some (t.1, t.2.1))).contains n) with
  | some t => escalate g t.1 (s.modPort g (fun p => { p with gates := p.gates.filter (· != t) }))
  | none => s

/-! ## Numbers (R144, R145) -/

/-- The binding of number `n` is released. -/
def unbind (g n : Nat) (s : State) : State :=
  let x := s.node g n
  let s1 := noteTable 2 g n (locBytes x) (s.modNode g n (fun _ => {}))
  writeRoutes g n x.depth x.path s1

/-- Number `n` is named by a running Accord. -/
def State.named (s : State) (g n : Nat) : Bool := (s.plan g).run.entries.any (fun e => e.node == n)

/-- The number for a location: bound, lowest free, or the binding ABSENT longest that can be released (R144). -/
def takeNumber (g depth path : Nat) (s : State) : Option (Nat × State) :=
  match s.nodeAt g depth path with
  | some n => some (n, s)
  | none =>
    let bind := fun (n : Nat) (rel : Option Nat) (s : State) =>
      let s1 := s.modNode g n (fun _ => { bound := true, depth, path, st := .absent, releasedNum := rel })
      noteTable 1 g n (locBytes (s1.node g n)) s1
    match firstBelow 4096 (fun n => !(s.node g n).bound) with
    | some n => some (n, bind n none s)
    | none =>
      let c := (s.nodesOf g).filter (fun n => (s.node g n).st == .absent && !s.named g n)
      match (sortBy (fun n => (s.node g n).absentStamp) c).head? with
      | some n => some (n, bind n (some n) (unbind g n s))
      | none => none

/-- A refusal before any number was assigned: reasons 7 and 8 (R318). -/
def refuseLoc (g pk br reason errBit : Nat) (s : State) : State :=
  let l := s.locOf g pk br
  emit 0 { cls := 3, kind := 3, recs := [recData [(16, 1, g), (17, 1, reason), (20, 6, l.2), (26, 1, l.1)]] }
    (setErr pTPT g errBit (s.modPort g (fun p => { p with refusedLocs := (pk, br) :: p.refusedLocs })))

/-! ## Refusal and release (R597) -/

/-- Steps 1 and 2 of R152: the number is being given; of a lower end not yet read no identity is kept (R173 item 3). -/
def startNumber (g pk br n : Nat) (s : State) : State :=
  (s.modNode g n (fun x => { x with st := .numbering, hash := [], pubkey := [], idrec := [] })).modPort g
    (fun p => { p with enumNow := some (pk, br, n) })

/-- A first hop in DOWN with signal is numbered and starts to train, unless something holds it: the port is its parent, and
LINKEN at 0 holds it, so that step 3 of R152 finds LINKEN at 1 (R123, R139, R152, R173, R597). -/
def tryTrain (g : Nat) (s : State) : State :=
  let p := s.port g
  if !(p.hop == .down && s.transmits g) then s
  else if !(p.sigdet && !p.roleBad) then downLine g s
  else
    let go := fun (s : State) => out (.train g (trainBytes 1 (s.rx g 1).preset (s.port g).blockLock false))
      (s.modPort g (fun p => { p with hop := .lock }))
    if p.enumNow.isSome then go s
    else match takeNumber g 1 0 s with
      | none => refuseLoc g 0 0 8 5 s
      | some (n, s1) => go (startNumber g 0 0 n s1)

/-- The lower end of number `n` is refused; its branch is held again. -/
def refuse (g n reason : Nat) (s : State) : State :=
  let pl := s.placeOf g n
  let s1 := s.modNode g n (fun x =>
    { x with st := .refused, reason, look := none, authTry := 0, waitNonce := false, waitSig := false, leaseLook := 0, delayValid := false })
  let s2 := s1.modPort g (fun p => { p with
    enumNow := match p.enumNow with | some e => if e.2.2 = n then none else some e | none => none })
  let s3 := emitAll (s.writerAudience g n) (nodeEvent 3 g reason 1 [n]) s2
  if pl.1 = 0 then hopDown g true 0x44 (s3.modPort g (fun p => { p with holdDown := true }))
  else enableBranch g (pl.1 - 1) pl.2 false (.disable pl.2) s3

/-- A held branch with signal waits to be numbered (R152). -/
def holdBranch (g pk br : Nat) (s : State) : State :=
  let p := s.port g
  if p.held.contains (pk, br) || (match p.enumNow with | some e => e.1 == pk && e.2.1 == br | none => false) then s
  else s.modPort g (fun p => { p with held := p.held ++ [(pk, br)] })

/-- A location is enumerated afresh, from step 1 of R152. -/
def enumAfresh (g n : Nat) (s : State) : State :=
  let pl := s.placeOf g n
  let s1 := (makeAbsent g n s).modNode g n (fun x => { x with gateAt := none, suspect := false })
  let s2 := s1.modPort g (fun p => { p with trainFails := p.trainFails.filter (fun t => !(t.1 == pl.1 && t.2.1 == pl.2)) })
  if pl.1 = 0 then tryTrain g (s2.modPort g (fun p => { p with holdDown := false })) else holdBranch g pl.1 pl.2 s2

/-- Every lower end refused as not listed, on any port, is released (R157). -/
def releaseUnlisted (s : State) : State :=
  (s.nodes.filter (fun x => x.2.st == .refused && x.2.reason == 1)).foldl
    (fun s x => enumAfresh (x.1 / 4096) (x.1 % 4096) s) s

/-- The first hop is taken to DOWN and trained again: every REFUSED location of the tree is released. -/
def releaseTree (g : Nat) (s : State) : State :=
  ((s.nodesOf g).filter (fun n => (s.node g n).st == .refused)).foldl
    (fun s n => makeAbsent g n s)
    (s.modPort g (fun p => { p with holdDown := false, refusedLocs := [], trainFails := [] }))

/-! ## Enumeration (R152, R153) -/

/-- ASSIGN of number `n` with its first DELAY (R126). -/
def assign (g n delay : Nat) (s : State) : State :=
  sendMgmt g n 3 [n + delay % 2 ^ 20 * 2 ^ 12] .assign 0
    (trainedBelow g n <| (s.modNode g n (fun x => { x with st := .numbering, delay := delay % 2 ^ 20 })).modPort g (fun p => { p with enumNow := none }))

/-- Steps 1 to 3 of R152 for the lower end of a held branch below a hub. -/
def beginEnum (g pk br : Nat) (s : State) : State :=
  let l := s.locOf g pk br
  if l.1 > 12 then refuseLoc g pk br 7 6 s
  else match takeNumber g l.1 l.2 s with
    | none => refuseLoc g pk br 8 5 s
    | some (n, s1) =>
      enableBranch g (pk - 1) br true (.enable br n)
        (writeRoutes g n l.1 l.2 (startNumber g pk br n s1))

/-- The next held branch of the port is numbered, one at a time (R152). -/
def startEnum (g : Nat) (s : State) : State :=
  let p := s.port g
  match p.enumNow, p.held with
  | none, (pk, br) :: rest =>
    if !s.hopUp g then s
    else
      let s1 := s.modPort g (fun p => { p with held := rest })
      if pk != 0 && !(s.node g (pk - 1)).present then s1 else beginEnum g pk br s1
  | _, _ => s

/-- The branch did not train or ASSIGN was not answered: back in the queue, or refused after the third time (R153). -/
def trainFailed (g n : Nat) (s : State) : State :=
  let pl := s.placeOf g n
  let k := (match (s.port g).trainFails.find? (fun t => t.1 == pl.1 && t.2.1 == pl.2) with | some t => t.2.2 | none => 0) + 1
  let s1 := s.modPort g (fun p =>
    { p with trainFails := (pl.1, pl.2, k) :: p.trainFails.filter (fun t => !(t.1 == pl.1 && t.2.1 == pl.2)),
             enumNow := match p.enumNow with | some e => if e.2.2 = n then none else some e | none => none })
  if k ≥ 3 then refuse g n 9 s1
  else
    let s2 := makeAbsent g n s1
    if pl.1 = 0 then tryTrain g (hopDown g true 0x44 s2)
    else holdBranch g pl.1 pl.2 (enableBranch g (pl.1 - 1) pl.2 false (.disable pl.2) s2)

/-- ENUM_UP_CHECK: the branch being enabled is read (R152 step 4). -/
def enumUpCheck (g : Nat) (s : State) : State :=
  match (s.port g).enumNow with
  | some (pk, br, n) => if pk = 0 then s else mgmtRead g (pk - 1) (lnkBrstat br) 2 (.enumUp br n) s
  | none => s

def execEnumUpCheck (g : Nat) (s : State) : Res := .next (enumUpCheck g s)

/-- BRANCH_TRAIN_TIMEOUT (R153). -/
def branchTimeout (g : Nat) (s : State) : State :=
  match (s.port g).enumNow with
  | some e => trainFailed g e.2.2 s
  | none => s

def execBranchTrainTimeout (g : Nat) (s : State) : Res := .next (branchTimeout g s)

/-! ## Leases (R161, R163, R378, R525) -/

/-- Nodes leased to a writer. -/
def State.leased (s : State) (w : Nat) : Nat := (s.nodes.filter (fun x => x.2.lessee == w)).length
/-- The writer's node lease quota has room (R378). -/
def State.leaseRoom (s : State) (w : Nat) : Bool := w == 0 || decide (s.leased w < (s.fn w).share.nodes)

/-- What a lease that moves at a frame boundary changes but for the images of its readers (R163, R214 case 5). -/
def moveLease (g n w : Nat) (readers : List Nat) (s : State) : State :=
  let old := (s.node g n).lessee
  let s0 := s.modNode g n (fun x => { x with lessee := w, readers, wantWriter := none, relet := false })
  if old = w then s0
  else
    let mine := (s.nodeEntries g n).filter (fun e => e.func == old)
    let s1 := (s0.fed mine false).foldl (fun s p => lockPoint (.node (nodeKey g n)) p s) s0
    let s2 := if old = 0 then s1
      else emit old (nodeEvent 6 g 0 1 [n]) (bulkLeaseChange g n old (bridgeLeaseChange g n old s1))
    let s3 := muteEntries g (fun e => e.func == old && e.node == n) (needCompile g s2)
    if w = 0 then s3 else emit w (nodeEvent 1 g 0 1 [n + 4096]) s3

/-- A lease moves at a frame boundary (R163); the read rights that it gave end (R241, R244). -/
def changeLease (g n w : Nat) (readers : List Nat) (s : State) : State :=
  let s1 := moveLease g n w readers s
  zeroAll (s.lostReads s1 (feeds (s.nodeEntries g n) true)) s1

/-- The admitted node's arrival is told and its bank loaded (R152 step 8, R166). -/
def arrive (g n : Nat) (s : State) : State :=
  let x := s.node g n
  let ret := decide (x.lastHash = some x.hash)
  let repl := !ret && x.lastHash.isSome && x.lastCls == x.cls
  let other := x.lastHash.isSome && !ret && !repl
  let w := n + 8192 * b2n repl + 16384 * b2n ret
  let rel := match x.releasedNum with | some r => [r + 2 ^ 15] | none => []
  let s1 := s.modNode g n (fun y =>
    -- another hub has gate-map banks of its own, not yet tagged (R122, R151)
    let y1 := if ret then y else { y with gate0 := none, gate1 := none, gm0 := [], gm1 := [] }
    { y1 with lastHash := some y.hash, lastCls := y.cls, replaced := repl, releasedNum := none, reason := 0 })
  let s2 := emitAll (s1.writerAudience g n) (nodeEvent 1 g 0 1 ([w] ++ rel)) s1
  let es := s2.nodeEntries g n
  let s3 := if es = [] then s2.modNode g n (fun y => { y with bankLoaded := true })
    else loadNode g n (s2.plan g).run.planid es s2
  let s4 := if other then demote g n 11 s3 else s3
  -- route entries that fell due while the hub could not be reached (R145)
  let s4 := x.routesDue.foldl (fun s m => writeRoute g m s n) (s4.modNode g n (fun y => { y with routesDue := [] }))
  if x.isHub then (List.range x.branches).foldl (fun s b => mgmtRead g n (lnkBrstat b) 2 (.brstat b) s) s4 else s4

/-- A lease has been resolved for an admitted node (R161, R378). -/
def leaseGiven (g n w : Nat) (readers : List Nat) (s : State) : State :=
  let s0 := s.modNode g n (fun x => { x with leaseLook := 0 })
  if (s0.node g n).relet then
    s0.modNode g n (fun x => { x with relet := w != 0, wantWriter := if w = 0 then none else some w, wantReaders := readers })
  else
    -- read rights of an earlier lease that the new one does not give end here (R241, R244)
    let s1 := if s0.leaseRoom w then s0.modNode g n (fun x => { x with lessee := w, readers })
      else emitMgr 0x0B 3 [(16, 1, g), (18, 2, n), (20, 2, w)]
        (s0.modNode g n (fun x => { x with lessee := 0, readers := [], wantWriter := some w, wantReaders := readers }))
    arrive g n (zeroAll (s0.lostReads s1 (feeds (s0.nodeEntries g n) true)) s1)

/-- The policy is read, or there is none (R161, R525). -/
def leaseRead (g n : Nat) (s : State) : State :=
  match s.policy with
  | some a => (dmaRead 0 a 16 (engineWork (g / 16) s)).1.modNode g n (fun x => { x with leaseLook := 1, leaseAddr := a })
  | none => s

/-- Admission commits: state ADMITTED, both miss counts 0, then the lease (R152, R166, R169). -/
def admitCommit (g n : Nat) (s : State) : State :=
  let s1 := s.modNode g n (fun x =>
    { x with st := .admitted, earlier := true, run := 0, win := 0, aseq := none, resumed := false, bankLoaded := false, alertOver := 0,
             alertsFrame := 0, lastHeader := s.time.tick, lastBlock := s.time.tick, known := true, relet := false,
             leaseForList := false, tseqs := [] })
  let x := s1.node g n
  if x.lessee ≠ 0 then arrive g n s1
  else if s1.policy = none then leaseGiven g n 0 [] s1
  else leaseRead g n s1

/-- Every check has passed: HELD where R159 asks for it, else admitted. -/
def passed (g n : Nat) (s : State) : State :=
  if bit (s.treecfg g) 2 && !(s.node g n).earlier then s.modNode g n (fun x => { x with st := .held })
  else admitCommit g n s

/-! ## Admission checks (R154-R158) -/

/-- The generator gives random bits (R561): RNGFAIL is not set, or a later test has passed. -/
def State.rngOk (s : State) : Bool := !bit (s.reg 0 pCRY 0 0x014) 0 || bit (s.reg 0 pCRY 0 0x044) 0

/-- 32 random bytes that no challenge has used: the next unused ones from a free value on (R158). -/
def State.freshNonce (s : State) : List Byte :=
  let l := (List.range (s.nonces.length + 1)).map (fun i => toLe 32 (s.freeVal + i))
  (l.find? (fun v => !s.nonces.contains v)).getD (l.headD [])

/-- Step 1 of the challenge: a fresh nonce, or the wait for random bits (R158, R561). -/
def sendNonce (g n : Nat) (s : State) : State :=
  if !s.rngOk then s.modNode g n (fun x => { x with waitNonce := true })
  else
    let v := s.freshNonce
    let words := (List.range 8).map (fun i => byteField v (4 * i) 4)
    mgmtWrite g n lnkNonce words .nonce
      ({ s.draw with nonces := v :: s.nonces }.modNode g n (fun x =>
        { x with waitNonce := false, authTry := x.authTry + 1, nonce := v, sig := [] }))

/-- Prime and coefficient of the curve P-256 (FIPS 186-5). -/
def p256 : Nat := 0xFFFFFFFF00000001000000000000000000000000FFFFFFFFFFFFFFFFFFFFFFFF
def b256 : Nat := 0x5AC635D8AA3A93E7B3EBBD55769886BC651D06B0CC53B0F63BCE3C3E27D2604B

/-- A public key X, Y is a point of the curve. -/
def onCurve (key : List Byte) : Bool :=
  let x := leNat (key.take 32).reverse
  let y := leNat ((key.drop 32).take 32).reverse
  decide (x < p256 ∧ y < p256 ∧ y * y % p256 = (x * x * x + (p256 - 3) * x + b256) % p256)

/-- AUTH and HUB of the identity record (R155). -/
def Node.auth (x : Node) : Bool := bit (byteField x.idrec 22 1) 0

/-- The hash was found in an allowlist (R154). -/
def listed (g n : Nat) (s : State) : State :=
  let x := s.node g n
  let s1 := s.modNode g n (fun x => { x with look := none })
  if x.admMode < 2 then passed g n s1
  else if !x.auth then refuse g n 2 s1
  else if !onCurve x.pubkey then refuse g n 4 s1
  else sendNonce g n s1

/-- Node `g/n` reads for its lookup: the header, or the middle entry, of the list as it was given when the lookup began
(R176 case 6); a read that the anchor refuses fails as any other (R157, R381). -/
def lookRead (g n : Nat) (l : Look) (s : State) : State :=
  let r := dmaRead l.owner (if l.hdr then l.addr else l.addr + 16 + 16 * ((l.lo + l.hi) / 2)) 16 (engineWork (g / 16) s)
  r.1.modNode g n (fun x => { x with look := some { l with retry := !r.2 } })

/-- A lookup of the hash starts in the list of `f` at address `a`. -/
def startLook (g n f a : Nat) (s : State) : State := lookRead g n { owner := f, addr := a } s

/-- The prospective writer is known: its list is searched, or there is none (R154). -/
def prospect (g n w : Nat) (s : State) : State :=
  let s1 := s.modNode g n (fun x => { x with leaseForList := false, leaseLook := 0 })
  match (if w = 0 then none else (s.fn w).allowAddr) with
  | some a => startLook g n w a s1
  | none => refuse g n 1 s1

/-- The list of `f` does not hold the hash: the prospective writer's list comes next, then refusal. The prospective writer
is the node's writer where an earlier admission left it a lease, else the one that the policy gives (R154, R161). -/
def notListed (g n f : Nat) (s : State) : State :=
  let s1 := s.modNode g n (fun x => { x with look := none })
  if f ≠ 0 then refuse g n 1 s1
  else if (s.node g n).lessee ≠ 0 then prospect g n (s.node g n).lessee s1
  else if s.policy = none then refuse g n 1 s1
  else leaseRead g n (s1.modNode g n (fun x => { x with leaseForList := true }))

/-- Look the hash up in the manager's list. -/
def lookFirst (g n : Nat) (s : State) : State :=
  match (s.fn 0).allowAddr with
  | none => notListed g n 0 s
  | some a => startLook g n 0 a s

/-- Step 7 of R152: the identity is complete. -/
def admitCheck (g n : Nat) (s : State) : State :=
  let x := s.node g n
  let hash := (Config.sha256 (if x.auth then x.pubkey else x.idrec)).take 16
  let s1 := s.modNode g n (fun y =>
    { y with st := .admitting, hash, cls := byteField x.idrec 2 2, isHub := decide (x.branches ≠ 0), authTry := 0
             admMode := min 2 (bits (s.treecfg g) 0 2) })
  if bit (byteField x.idrec 22 1) 1 != decide (x.branches ≠ 0) then refuse g n 5 s1
  else if s.quar.contains hash then refuse g n 6 s1
  else if (s1.node g n).admMode = 0 then passed g n s1
  else lookFirst g n s1

/-- Entries a lookup may cover: the header's COUNT, clamped (R157). -/
def allowMax (f : Nat) : Nat := if f = 0 then 1048576 else 65536

/-- An allowlist entry of a lookup has arrived (R157). -/
def lookStep (g n : Nat) (l : Look) (d : List Byte) (s : State) : State :=
  let next := fun (l : Look) (s : State) =>
    if l.lo < l.hi then lookRead g n l s else notListed g n l.owner s
  if l.hdr then next { l with hdr := false, lo := 0, hi := min (byteField d 8 4) (allowMax l.owner) } s
  else
    let be := fun (b : List Byte) => leNat b.reverse
    let h := d.take 16
    let t := (s.node g n).hash
    let mid := (l.lo + l.hi) / 2
    if (l.loH != [] && decide (be h ≤ be l.loH)) || (l.hiH != [] && decide (be h ≥ be l.hiH)) then
      notListed g n l.owner (emit l.owner (mkEvent 3 8 [(16, 1, b2n (l.owner != 0))]) s)
    else if h = t then listed g n s
    else if be h < be t then next { l with lo := mid + 1, loH := h } s
    else next { l with hi := mid, hiH := h } s

/-- The header of function `f`'s list was read at a frame boundary: a changed GEN releases refusals (R157). -/
def genSeen (f gen : Nat) (s : State) : State :=
  let old := (s.fn f).allowGen
  let s1 := s.modFn f (fun x => { x with allowGen := some gen })
  if old.isSome ∧ old ≠ some gen then releaseUnlisted s1 else s1

/-- ALLOWLIST_READ_DONE: of node `g/n`'s lookup, or with port 128 of the header of function `n`'s list;
`err` is 1 UR, 2 CA, 3 poisoned (R157). -/
def allowlistReadDone (g n err : Nat) (d : List Byte) (s : State) : State :=
  if g = 128 then (if err = 0 ∧ (s.fn n).allowAddr.isSome then genSeen n (byteField d 0 8) s else s)
  else match (s.node g n).look with
    | none => s
    | some l =>
      if l.retry then s
      else if err ≠ 0 then s.modNode g n (fun x => { x with look := some { owner := l.owner, addr := l.addr, retry := true } })
      else lookStep g n l d s

def execAllowlistReadDone (g n err : Nat) (d : List Byte) (s : State) : Res := .next (allowlistReadDone g n err d s)

/-- ALLOWLIST_TIMEOUT (R157). -/
def execAllowlistTimeout (g n : Nat) (s : State) : Res :=
  .next (if (s.node g n).look.isSome then refuse g n 10 s else s)

/-- AUTHSTAT_POLL (R158 step 3). -/
def execAuthstatPoll (g n : Nat) (s : State) : Res :=
  .next (if (s.node g n).st == .admitting && (s.node g n).authTry != 0 && !(s.node g n).waitNonce && !(s.node g n).waitSig then
    mgmtRead g n lnkAuthstat 1 .authstat s else s)

/-- CHALLENGE_TIMEOUT (R158 step 4). -/
def execChallengeTimeout (g n : Nat) (s : State) : Res :=
  .next (let x := s.node g n
    if x.st != .admitting || x.authTry == 0 || x.waitSig || x.waitNonce then s
    else if x.authTry < 2 then sendNonce g n s
    else refuse g n 3 s)

/-- LNK_SIG verifies with LNK_PUBKEY over SHA-256 of the nonce followed by LNK_IDREC (R158). -/
def Node.sigGood (x : Node) : Bool := Config.p256Verify x.pubkey (Config.sha256 (x.nonce ++ x.idrec)) x.sig

/-- SIGNATURE_VERIFIED: CRY has verified the signature that was read (R154, R158). -/
def signatureVerified (g n : Nat) (s : State) : State :=
  if (s.node g n).st == .admitting && (s.node g n).waitSig then
    let good := (s.node g n).sigGood
    let s1 := countReg pCRY 0 0x040 (if good then 0 else 16) 16 1 (s.modNode g n (fun x => { x with waitSig := false, authTry := 0 }))
    if good then passed g n s1 else hostile g n 4 s1
  else s

def execSignatureVerified (g n : Nat) (s : State) : Res := .next (signatureVerified g n s)

/-- A lease-policy entry matches the node. Where PDEPTH exceeds the hops of its path, the branch numbers that the path does
not have compare as the zeros of its unused bits (R143, R161; DEDUCED, log entry 106). -/
def State.policyHit (s : State) (g n : Nat) (e : List Byte) : Bool :=
  let x := s.node g n
  let mask := byteField e 2 2
  let pd := min 11 (byteField e 6 1 % 16)
  let top := s.portCount - 1
  (x.cls &&& mask) == (byteField e 0 2 &&& mask) &&
  decide (min top (byteField e 4 1 % 128) ≤ g ∧ g ≤ min top (byteField e 5 1 % 128)) &&
  x.path % 2 ^ (4 * pd) == byteField e 8 6 % 2 ^ (4 * pd)

/-- What the table's entries give the node: writer and readers, a number above 512 as 512 (R161, R526). -/
def State.policyLease (s : State) (g n : Nat) (es : List (List Byte)) : Nat × List Nat :=
  match es.find? (s.policyHit g n) with
  | some e => (min 512 (byteField e 14 2 % 1024),
      (((List.range 8).map (fun i => min 512 (byteField e (16 + 2 * i) 2))).filter (fun r => decide (1 ≤ r))).eraseDups)
  | none => (0, [])

/-- LEASEPOLICY_READ_DONE: the header, then the entries (R161). -/
def leaseReadDone (g n err : Nat) (d : List Byte) (s : State) : State :=
  let x := s.node g n
  let give := fun (w : Nat) (rs : List Nat) (s : State) =>
    if x.leaseForList then prospect g n w s else if w = 0 then leaseGiven g n 0 [] s else leaseGiven g n w rs s
  if x.leaseLook ≠ 1 ∧ x.leaseLook ≠ 2 then s
  else if err ≠ 0 then s.modNode g n (fun x => { x with leaseLook := 3 })
  else if x.leaseLook = 1 then
    let c := min 4096 (byteField d 8 4)
    if c = 0 then give 0 [] s
    else (dmaRead 0 (x.leaseAddr + 16) (32 * c) (engineWork (g / 16) s)).1.modNode g n
      (fun x => { x with leaseLook := 2, leaseCount := c })
  else
    let r := s.policyLease g n (chunks 32 x.leaseCount d)
    give r.1 r.2 s

def execLeasepolicyReadDone (g n err : Nat) (d : List Byte) (s : State) : Res := .next (leaseReadDone g n err d s)

/-- LEASE_RESOLVE_TIMEOUT (R161). -/
def leaseTimeout (g n : Nat) (s : State) : State :=
  let x := s.node g n
  if x.leaseLook = 0 then s
  else if x.leaseForList then prospect g n 0 s
  else leaseGiven g n 0 [] s

def execLeaseResolveTimeout (g n : Nat) (s : State) : Res := .next (leaseTimeout g n s)

/-! ## Answers to management requests (R147-R149) -/

/-- HUB_POLL: the next hub of the port is polled (R148). -/
def hubPoll (g : Nat) (s : State) : State :=
  let hubs := (s.nodesOf g).filter (fun n => (s.node g n).isHub && (s.node g n).present)
  let last := (s.port g).pollLast
  match hubs.find? (fun h => decide (last < h + 1)) <|> hubs.head? with
  | some h =>
    if s.hopUp g then issueGrant g h 2 2 0 0 (engineWork (g / 16) (s.modPort g (fun p => { p with pollLast := h + 1 }))) else s
  | none => s

def execHubPoll (g : Nat) (s : State) : Res := .next (hubPoll g s)

/-- The LNK_TOPO word of a hub: branches with CHANGED or DISCARD are read (R148, R164, R172). -/
def topoSeen (g n word : Nat) (s : State) : State :=
  let m := bits word 0 16 ||| bits word 16 16
  ((List.range 16).filter (fun b => bit m b)).foldl (fun s b => mgmtRead g n (lnkBrstat b) 2 (.brstat b) s)
    (s.modNode g n (fun x => { x with discards := x.discards.filter (fun d => bit (bits word 16 16) d.1) }))

/-- POLL_ANSWER: what arrived in the slots granted to node `n` for a poll. Its XID carries GSEQ 0 and 0x80; an answer
without the latter is none (R148, R149, R172; DEDUCED, log entry 107). -/
def pollAnswer (g n : Nat) (mis : Bool) (blocks : List RxBlock) (s : State) : State :=
  if !(s.hopUp g && (s.node g n).present) then s
  else
    let r := receive g mis n 2 1 (fun x => x % 256 == 0) false blocks s
    match r.1 with
    | .hostile o => hostile g n o r.2
    | .good h body =>
      let s1 := seeHeader g n (hAttn h) r.2
      if (s.node g n).isHub && hXid h / 256 == 0x80 then topoSeen g n (bodyNum h body % 2 ^ 32) s1 else s1
    | .missing | .faulty _ => r.2

def execPollAnswer (g n : Nat) (mis : Bool) (blocks : List RxBlock) (s : State) : Res := .next (pollAnswer g n mis blocks s)

/-- ATTENTION_POLL_REPLY: what arrived in the slots granted to node `n` for an attention poll (R338). -/
def attentionReply (g n : Nat) (mis : Bool) (blocks : List RxBlock) (s : State) : State :=
  if !(s.hopUp g && (s.node g n).present) then s
  else
    let r := receive g mis n 1 1 (fun x => x % 256 == 0) false blocks s
    match r.1 with
    | .hostile o => hostile g n o r.2
    | .good h _ => seeHeader g n (hAttn h) r.2
    | .missing | .faulty _ => r.2

def execAttentionPollReply (g n : Nat) (mis : Bool) (blocks : List RxBlock) (s : State) : Res :=
  .next (attentionReply g n mis blocks s)

/-- LNK_BRSTAT of a branch after a poll: departure, a held branch with signal, gate discards (R150, R152, R164, R172). -/
def branchStat (g h b w0 w1 : Nat) (s : State) : State :=
  let up := bits w0 20 3 == 4
  let l := s.locOf g (h + 1) b
  let low := s.nodeAt g l.1 l.2
  let s1 := match low with
    | some n => if !up && (s.node g n).leaves && !(match (s.port g).enumNow with | some e => e.2.2 == n | none => false) then
        departNodes g 0 0x40 (s.subtree g n) s else s
    | none => s
  let s2 := s1.modNode g h (fun x => { x with brEnable := if up then x.brEnable else clrBit x.brEnable b,
                                              discards := nput 0 x.discards b (bits w0 24 8) })
  let refused := (match low with
      | some n => (s2.node g n).st == .refused || (s2.node g n).st == .quarantined
      | none => false) || (s2.port g).refusedLocs.contains (h + 1, b)
  let s3 := if !up && bit w1 16 && !bit w1 17 && !refused && bits w0 20 3 == 0 then holdBranch g (h + 1) b s2 else s2
  let s4 := if bits w0 24 8 ≥ bits (s.treecfg g) 16 8 then
      (match low with
      | some n => if up then hostile g n 6 s3 else quarantineGone g n s3
      | none => quarantineBranch g h b 6 s3) else s3
  startEnum g s4

/-- A first delay, or a new one, is in force at the node. -/
def delaySet (g n delay : Nat) (s : State) : State := s.modNode g n (fun x => { x with delay, delayValid := true })

/-- A request is answered with RSTATUS 0: what it served goes on. -/
def mgmtDone (g : Nat) (r : MReq) (ws : List Nat) (s : State) : State :=
  let n := r.node
  let w0 := ws[0]?.getD 0
  let w1 := ws[1]?.getD 0
  match r.purpose with
  | .poll | .route _ | .enable _ _ | .disable _ | .nonce | .preset => s
  | .brstat b => branchStat g n b w0 w1 s
  | .enumUp b m =>
    -- the number is given out once every hub on the path has answered its route entry (R145)
    let routes := (s.port g).mgmtOpen.any (fun q => q.purpose == .route m)
    if bits w0 20 3 = 4 ∧ (s.port g).enumNow = some (n + 1, b, m) ∧ !routes then
      startEnum g (assign g m ((s.node g n).delay + 200 + bits w0 0 20) s)
    else s
  | .assign => mgmtRead g n lnkCaps 1 .caps (delaySet g n (s.node g n).delay s)
  | .caps => mgmtRead g n lnkIdrec 16 .idrec (s.modNode g n (fun x =>
      { x with branches := bits w0 0 5, isHub := bits w0 0 5 != 0, gmlog2 := bits w0 5 4, xfercap := bits w0 9 8,
               sendlat := bits w0 17 11 }))
  | .idrec =>
    let s1 := s.modNode g n (fun x => { x with idrec := (ws.take 16).flatMap (toLe 4), pubkey := [] })
    if (s1.node g n).auth then mgmtRead g n lnkPubkey 16 .pubkey s1 else mgmtRead g n 0xFF001200 16 .rsens s1
  | .pubkey => mgmtRead g n 0xFF001200 16 .rsens (s.modNode g n (fun x => { x with pubkey := (ws.take 16).flatMap (toLe 4) }))
  | .rsens =>
    let rs := (List.range 8).filterMap (fun i =>
      let b := ws[2 * i]?.getD 0
      let l := ws[2 * i + 1]?.getD 0
      if bit b 0 && decide (b / 4 * 4 ≤ l / 4 * 4) then some (b / 4 * 4, l / 4 * 4) else none)
    admitCheck g n (s.modNode g n (fun x => { x with rsens := rs }))
  | .authstat =>
    if bit w0 2 then refuse g n 2 s
    else if bit w0 1 then mgmtRead g n lnkSig 16 .sig s else s
  | .sig => s.modNode g n (fun x => { x with waitSig := true, sig := (ws.take 16).flatMap (toLe 4) })
  | .table id _ =>
    if (s.port g).mgmtOpen.any (fun q => q.node == n && (match q.purpose with | .table _ _ => true | _ => false)) then s
    -- a bank of the running Accord loaded anew may start from any TSEQ (R170, R600)
    else s.modNode g n (fun x => { x with bankLoaded := true, tseqs := if id = (s.planNow g).planid then [] else x.tseqs })
  | .gateMap _ _ => s
  | .margin key => marginRead g key ws s
  | .delay v => delaySet g n v s
  | .gate b m => s.modPort g (fun p => { p with gates := p.gates ++ [(n, b, m, s.time.tick, 0)] })
  | .ungate _ => s

/-- A request has failed for good, unanswered twice or answered with an error. -/
def mgmtFailed (g : Nat) (r : MReq) (s : State) : State :=
  match r.purpose with
  | .assign | .caps | .idrec | .pubkey | .rsens =>
    if (s.node g r.node).leaves then trainFailed g r.node s else s
  | .route m => match (s.port g).enumNow with
    | some e => if e.2.2 = m then trainFailed g m s else s
    | none => s
  | .gate _ _ => escalate g r.node s
  | .table _ b => s.modNode g r.node (fun x => if b = 0 then { x with xfer0 := none, tab0 := none } else { x with xfer1 := none, tab1 := none })
  | .gateMap _ b => s.modNode g r.node (fun x => if b = 0 then { x with gate0 := none, gm0 := [] } else { x with gate1 := none, gm1 := [] })
  | .poll | .enable _ _ | .disable _ | .nonce | .preset | .brstat _ | .enumUp _ _ | .authstat | .sig
  | .delay _ | .ungate _ | .margin _ => s

/-- The answer of request `r` is missing or failed R103: sent once more, then one miss (R149). -/
def mgmtMissing (g : Nat) (r : MReq) (s : State) : State :=
  let s1 := s.modPort g (fun p => { p with mreqs := p.mreqs.filter (· != r) })
  if r.attempt = 0 then sendReq g { r with attempt := 1 } s1
  else mgmtFailed g r (miss g r.node s1)

/-- The words of an answer's payload, those that pad its last block among them. -/
def bodyWords (h : List Byte) (body : List RxBlock) : List Nat :=
  let p := bodyBytes h body
  (List.range (p.length / 4)).map (fun i => byteField p (4 * i) 4)

/-- MANAGEMENT_ANSWER: what arrived in the slots granted for the request under MSEQ `m` (R147, R149). An answer with RSTATUS
0 shorter than R147 gives carries no result, and counts as missing (DEDUCED, log entry 107). -/
def managementAnswer (g m : Nat) (mis : Bool) (blocks : List RxBlock) (s : State) : State :=
  match (s.port g).mreqs.find? (·.mseq == m) with
  | none => s
  | some r =>
    let len := answerLen r.op r.words - 1
    let x := receive g mis r.node 2 len (fun x => x % 256 == m) false blocks s
    match x.1 with
    | .missing | .faulty _ => mgmtMissing g r x.2
    | .hostile o => hostile g r.node o x.2
    | .good h body =>
      let s1 := seeHeader g r.node (hAttn h) x.2
      let s2 := s1.modPort g (fun p => { p with mreqs := p.mreqs.filter (· != r) })
      if hXid h / 256 ≠ 0 then mgmtFailed g r s2
      else if hLen h < len then mgmtMissing g r s1
      else mgmtDone g r (bodyWords h body) s2

def execManagementAnswer (g m : Nat) (mis : Bool) (blocks : List RxBlock) (s : State) : Res :=
  .next (managementAnswer g m mis blocks s)

/-- BRIDGE_REPLY: what arrived in the slots granted for the `k`-th oldest request of the port that awaits a reply; a NODE or
BTAG that differs from the grant's is hostile (R326, R327). -/
def bridgeReply (g k : Nat) (mis : Bool) (blocks : List RxBlock) (s : State) : State :=
  match (s.bridgeSent g)[k]? with
  | none => s
  | some a => if a.unsent then s else
    let x := receive g mis a.node 1 (a.slots - 1) (fun x => x % 256 == a.btag) false blocks s
    match x.1 with
    | .missing | .faulty _ => missedReply a x.2
    | .hostile o => hostile g a.node o x.2
    | .good h body =>
      let ws := bodyWords h body
      let st := hXid h / 256
      let s1 := seeHeader g a.node (hAttn h) x.2
      if st = 0 ∧ hLen h < a.slots - 1 then missedReply a s1
      else replyAcc st (ws[0]?.getD 0) (ws[1]?.getD 0) a s1

def execBridgeReply (g k : Nat) (mis : Bool) (blocks : List RxBlock) (s : State) : Res :=
  .next (bridgeReply g k mis blocks s)

/-- BULK_BURST_REPLY: what arrived in the slots granted for the burst or probe of channel `c` of tile `t` under a BSEQ
(R353, R355). A BRES above 3 is reserved, and its answer counts as missing (DEDUCED, log entry 107). -/
def bulkBurstReply (t c bseq : Nat) (mis : Bool) (blocks : List RxBlock) (s : State) : State :=
  let k := t * 32 + c
  match s.burst? k bseq with
  | none => s
  | some b =>
    let g := (s.chan k).cur.port
    let n := (s.chan k).cur.nodeNo
    if c ≥ 32 ∨ (!b.probe && (s.chan k).cur.up) then s
    else
      let x := receive g mis n 3 1 (fun x => x % 1024 == bulkXid c bseq (s.chan k).cur.up b.probe) false blocks s
      match x.1 with
      | .missing | .faulty _ => missedBurst k b x.2
      | .hostile o => hostile g n o x.2
      | .good h body =>
        let w := bodyNum h body
        let s1 := seeHeader g n (hAttn h) x.2
        if bits (hXid h) 10 3 > 3 then missedBurst k b s1
        else burstReply k b (bits (hXid h) 10 3) (bits w 0 6) (bit w 8) s1

def execBulkBurstReply (t c bseq : Nat) (mis : Bool) (blocks : List RxBlock) (s : State) : Res :=
  .next (bulkBurstReply t c bseq mis blocks s)

/-- BULK_REQUEST_ANSWER: what arrived in the slots granted for a request; a LEN above the grant's is hostile, an oversize
claim, and a smaller one a short answer (R353). -/
def bulkRequestAnswer (t c bseq : Nat) (mis : Bool) (blocks : List RxBlock) (s : State) : State :=
  let k := t * 32 + c
  match s.burst? k bseq with
  | none => s
  | some b =>
    let g := (s.chan k).cur.port
    let n := (s.chan k).cur.nodeNo
    if c ≥ 32 ∨ b.probe ∨ !(s.chan k).cur.up then s
    else
      let x := receive g mis n 3 b.len (fun x => x % 1024 == bulkXid c bseq true false) false blocks s
      match x.1 with
      | .missing | .faulty _ => missedBurst k b x.2
      | .hostile o => hostile g n o x.2
      | .good h body =>
        let p := bodyBytes h body
        let s1 := seeHeader g n (hAttn h) x.2
        if bits (hXid h) 10 3 > 3 then missedBurst k b s1
        else requestAnswer k b (bits (hXid h) 10 3) (byteField p 0 4) (hLen h) (p.drop 4) s1

def execBulkRequestAnswer (t c bseq : Nat) (mis : Bool) (blocks : List RxBlock) (s : State) : Res :=
  .next (bulkRequestAnswer t c bseq mis blocks s)

/-! ## Commands -/

/-- A command whose TARGET is a node (R304, R315). -/
def onNode (f : Nat) (x : Entry) (free : Bool) (k : Nat → Nat → State → State) (s : State) : State :=
  let g := bits x.target 12 7
  let n := bits x.target 0 12
  if !s.hasPort g then finish f x false 0 0x06 2 [] s
  else if !free && (s.node g n).st == .free then finish f x false 0 0x06 3 [] s
  else k g n s

def NodeSt.code : NodeSt → Nat
  | .free => 0 | .absent => 1 | .numbering => 2 | .admitting => 3 | .held => 4 | .admitted => 5 | .demoted => 6
  | .refused => 7 | .quarantined => 8

/-- The command needs another state of its node: 0x40 or 0x41. -/
def wrongState (f : Nat) (x : Entry) (g n : Nat) (s : State) : State :=
  if (s.node g n).st = .absent then finish f x false 0 0x40 0 [] s
  else finish f x false 0 0x41 (s.node g n).st.code [] s

/-- A list is given or removed: refusals as not listed are released (R157, R525). -/
def allowSet (f : Nat) (a : Option Nat) (s : State) : State :=
  releaseUnlisted (s.modFn f (fun x => { x with allowAddr := a, allowGen := none }))

/-- ALLOWLIST_SET: removal at once, else the header is read for its clamp (R157). -/
def allowlistSet (f : Nat) (x : Entry) (s : State) : State :=
  if x.addr = 0 then finish f x false 0 0 0 [] (allowSet f none s) else readStruct f x 16 s

def execAllowlistSet (f e : Nat) (s : State) : Res := .next (cmd f e 0x18 (allowlistSet f) s)

/-- The clamp of a list header's COUNT. -/
def countClamp (d : List Byte) (m : Nat) : List ListRec :=
  let c := byteField d 8 4
  if c > m then [clampItem 0xFFFFFFFE 64 c m] else []

def allowlistDone (f : Nat) (x : Entry) (d : List Byte) (s : State) : State :=
  finish f x false 0 0 0 (countClamp d (allowMax f)) (allowSet f (some x.addr) s)

/-- LEASEPOLICY_SET: the header is read for its clamp (R161). -/
def execLeasepolicySet (f e : Nat) (s : State) : Res := .next (cmd f e 0x20 (fun x s => readStruct f x 16 s) s)

/-- The policy is in force: every admitted node leased to the manager alone is resolved afresh (R525). -/
def policyDone (f : Nat) (x : Entry) (d : List Byte) (s : State) : State :=
  let s1 := { s with policy := some x.addr }
  let l := s1.nodes.filter (fun y => y.2.present && y.2.lessee == 0 && y.2.leaseLook == 0)
  let s2 := l.foldl (fun s y => leaseRead (y.1 / 4096) (y.1 % 4096)
    (s.modNode (y.1 / 4096) (y.1 % 4096) (fun z => { z with relet := true, wantWriter := none }))) s1
  finish f x false 0 0 0 (countClamp d 4096) s2

/-- NODE_PROMOTE by the writer or the manager (R162, R169). -/
def nodePromote (f : Nat) (x : Entry) (s : State) : State :=
  onNode f x false (fun g n s =>
    if f ≠ 0 ∧ (s.node g n).lessee ≠ f then finish f x false 0 0x61 0 [] s
    else if !(s.node g n).present then wrongState f x g n s
    else startLong f x (.nodePromote g n) true [] (fun _ s => s) s) s

def execNodePromote (f e : Nat) (s : State) : Res := .next (cmd f e 0x19 (nodePromote f) s)

/-- The reader fields of LEASE_SET: bit offset in the entry and value, READER 0 to 3 in P1 and 4 to 7 in P2 (R303). -/
def leaseReaders (x : Entry) : List (Nat × Nat) :=
  (List.range 4).map (fun i => (192 + 16 * i, bits x.p1 (16 * i) 16)) ++
  (List.range 4).map (fun i => (384 + 16 * i, bits x.p2 (16 * i) 16))

/-- LEASE_SET (R163); numbers above 512 are clamped, each with its record (R526). -/
def leaseSet (f : Nat) (x : Entry) (s : State) : State :=
  onNode f x false (fun g n s =>
    let w := bits x.p0 0 10
    let rs := ((leaseReaders x).map (fun r => min 512 r.2)).filter (fun r => decide (1 ≤ r))
    let recs := ((160, w) :: leaseReaders x).filterMap (fun r => if r.2 > 512 then some (clampRec r.1 r.2 512) else none)
    startLong f x (.leaseSet g n (min w 512) rs.eraseDups) true recs (fun _ s => s) s) s

def execLeaseSet (f e : Nat) (s : State) : Res := .next (cmd f e 0x21 (leaseSet f) s)

/-- NODE_ADMIT of a HELD lower end (R159). -/
def nodeAdmit (f : Nat) (x : Entry) (s : State) : State :=
  onNode f x false (fun g n s =>
    if (s.node g n).st ≠ .held then wrongState f x g n s
    else startLong f x (.nodeAdmit g n) true [] (fun _ s => s) s) s

def execNodeAdmit (f e : Nat) (s : State) : Res := .next (cmd f e 0x22 (nodeAdmit f) s)

/-- NODE_UNBIND (R144, R317). -/
def nodeUnbind (f : Nat) (x : Entry) (s : State) : State :=
  onNode f x true (fun g n s =>
    let st := (s.node g n).st
    if s.named g n || !(st == .free || st == .absent || st == .refused) then finish f x false 0 0x66 0 [] s
    else finish f x false 0 0 0 [] (if (s.node g n).bound then unbind g n s else s)) s

def execNodeUnbind (f e : Nat) (s : State) : Res := .next (cmd f e 0x23 (nodeUnbind f) s)

/-- The gate of a quarantined node opens and its hash leaves the list (R175). -/
def liftQuarantine (g n : Nat) (s : State) : State :=
  let x := s.node g n
  let s1 := if s.quar.contains x.hash then noteTable 4 g n x.hash { s with quar := s.quar.filter (· != x.hash) } else s
  match x.gateAt with
  | some (0, _) => tryTrain g (enumAfresh g n (setQuarPort g false s1))
  | some (pk, br) =>
    let s2 := s1.modNode g (pk - 1) (fun y => { y with brQuar := clrBit y.brQuar br, discards := nput 0 y.discards br 0 })
    let s3 := mgmtWrite g (pk - 1) lnkBrctl [s2.brctl g (pk - 1)] (.ungate br) s2
    -- the branch of the gate is enumerated afresh, the node's own with it (R175)
    holdBranch g pk br (if s.placeOf g n = (pk, br) then enumAfresh g n s3
      else (makeAbsent g n s3).modNode g n (fun x => { x with gateAt := none, suspect := false }))
  | none => enumAfresh g n s1

def nodeRelease (f : Nat) (x : Entry) (s : State) : State :=
  onNode f x false (fun g n s =>
    if (s.node g n).st = .quarantined then finish f x false 0 0 0 [] (liftQuarantine g n s)
    else if (s.node g n).st = .refused then finish f x false 0 0 0 [] (enumAfresh g n s)
    else wrongState f x g n s) s

def execNodeRelease (f e : Nat) (s : State) : Res := .next (cmd f e 0x24 (nodeRelease f) s)

/-- QUARPORT written 0: as NODE_RELEASE for the port gate (R178). -/
def quarportClear (g : Nat) (s : State) : State :=
  if !(s.tileOpen (g / 16) && s.hasPort g && (s.port g).quarPort) then s
  else
    match (s.nodesOf g).find? (fun n => (s.node g n).st == .quarantined && (s.node g n).gateAt == some (0, 0)) with
    | some n => tryTrain g (liftQuarantine g n s)
    | none => tryTrain g (setQuarPort g false s)

def execQuarportClear (g : Nat) (s : State) : Res := .next (tileMmio (g / 16) (regAcc pTPT g 0x080 (clrBit (s.treecfg g) 3)) (fun s => quarportClear g s) s)

/-! ## The frame boundary (R157, R159, R161, R163, R166, R169, R378) -/

/-- Commits of node operations of one handle; revokes and grants of other chapters are not touched. -/
def commitNodeOp (f : Nat) (h : Handle) (s : State) : State :=
  match h.op with
  | .nodePromote g n =>
    if (s.node g n).present then
      let s1 := s.modNode g n (fun x => { x with st := .admitted, run := 0, win := 0 })
      commitHandle f h.seq (if (s.node g n).resumed then freePoints g n s1 else s1)
    else failHandle f h.seq 0x40 0 s
  | .nodeAdmit g n =>
    if (s.node g n).st = .held then commitHandle f h.seq (admitCommit g n s) else failHandle f h.seq 0x40 0 s
  | .leaseSet g n w rs =>
    if (s.node g n).lessee ≠ w && !s.leaseRoom w then failHandle f h.seq 0x64 7 s
    else commitHandle f h.seq (changeLease g n w rs s)
  | _ => s

/-- One node at a frame boundary: transfers resume, a waiting lease is given, waiting reads are retried. -/
def nodeFrame (s : State) (key : Nat) : State :=
  let g := key / 4096
  let n := key % 4096
  let x := s.node g n
  let s1 := if x.present && x.bankLoaded && !x.resumed then
      let s0 := s.modNode g n (fun x => { x with resumed := true })
      if x.st = .admitted then freePoints g n s0 else s0
    else s
  let s2 := match x.wantWriter with
    | some w =>
      if !x.present then s1
      else if s1.leaseRoom w then changeLease g n w x.wantReaders s1
      else if x.relet then emitMgr 0x0B 3 [(16, 1, g), (18, 2, n), (20, 2, w)] (s1.modNode g n (fun x => { x with relet := false }))
      else s1
    | none => s1
  let s3 := match x.look with
    | some l => if l.retry then
        lookRead g n { owner := l.owner, addr := l.addr } s2 else s2
    | none => s2
  let s4 := if x.leaseLook = 3 then leaseRead g n s3 else s3
  -- ALERTMAX (R171) and the window of WIN (R169)
  let excess := x.alertsFrame > bits (s.misswin g) 8 8
  let s5 := s4.modNode g n (fun x =>
    { x with alertsFrame := 0, alertOver := if excess then x.alertOver + 1 else 0
             win := if s.time.tick / s.frameLen % 64 = 0 then 0 else x.win })
  if (s5.node g n).alertOver ≥ 4 then hostile g n 5 (s5.modNode g n (fun x => { x with alertOver := 0 })) else s5

/-- While a lower end is refused as not listed every allowlist header is read; a GEN counts as read at the previous boundary
only within one such spell (R157). -/
def genCheck (s : State) : State :=
  if s.nodes.any (fun x => x.2.st == .refused && x.2.reason == 1) then
    (s.fns.filter (fun x => x.2.allowAddr.isSome)).foldl (fun s x => (dmaRead x.1 (x.2.allowAddr.getD 0) 16 s).1) s
  else (s.fns.filter (fun x => x.2.allowGen.isSome)).foldl (fun s x => s.modFn x.1 (fun y => { y with allowGen := none })) s

def treeFrame (s : State) : State := genCheck ((s.nodes.map (·.1)).foldl nodeFrame s)

end Sys2Proof.Machine
end

