-- ==== Sys2Proof/Machine/Link.lean ====
section
/-!
DEFINITION. Link: the first hop's training and equalisation, the tick on the line, upstream transfers, retries and
ranging (spec/03_dapen_link.md; R169, R170, R234 of the neighbouring chapters).
-/
namespace Sys2Proof.Machine

/-! ## Training (R97, R123-R126) -/

/-- SIGNAL_DETECT: signal on the port's first hop (R123). -/
def execSignalDetect (g : Nat) (s : State) : Res :=
  .next (if s.hasPort g then tryTrain g (s.modPort g (fun p => { p with sigdet := true })) else s)

/-- The hop returns to DOWN from a training state. -/
def trainDown (g : Nat) (s : State) : State :=
  downLine g (s.modPort g (fun p => { p with hop := .down, blockLock := false, sigdet := false }))

/-- The upper end sends TRAIN of a step, requesting a preset of the lower end (R123, R124). -/
def sendTrain (g step preset : Nat) (s : State) : State :=
  out (.train g (trainBytes step preset (s.port g).blockLock (decide (step = 3)))) s

/-- The preset that gave the widest margin; of several the one tried first (R123; DESIGN CHOICE, log entry 109). -/
def bestPreset (cur : Nat) (tried : List (Nat × Nat)) : Nat :=
  (tried.foldl (fun (a : Nat × Option Nat) x => match a.2 with
    | some m => if m < x.2 then (x.1, some x.2) else a
    | none => (x.1, some x.2)) (cur, none)).1

/-- EQ ends with a preset of the lower end's transmitter, and IDENT begins (R123). -/
def eqEnds (g preset : Nat) (s : State) : State :=
  sendTrain g 3 preset ((modRx g 1 (fun x => x.trained preset) (modRx g 0 (fun x => x.trained x.eqPreset) s)).modPort g
    (fun p => { p with hop := .ident }))

/-- One TRAIN block of the lower end in EQ: with the requested preset in use its margins are judged, at the port as `h` and
`v` and at the lower end as `good`; the next preset not tried is requested until all of 0 to 10 are (R123, R124). -/
def eqBlock (g h v : Nat) (good : Bool) (s : State) : State :=
  let x := s.rx g 1
  let tried := x.tried ++ [(x.preset, h)]
  let s1 := (modRx g 1 (fun x => { x with tried }) s).modPort g (fun p => { p with marginH := h, marginV := v })
  if good ∧ bits (s.linkcfg g) 8 4 ≤ h then eqEnds g x.preset s1
  else match (List.range 11).find? (fun p => !tried.any (·.1 == p)) with
    | some p => sendTrain g 2 p (modRx g 1 (fun x => { x with preset := p }) s1)
    | none => eqEnds g (bestPreset x.preset tried) s1

/-- The first hop is UP: the lower end that is being numbered gets its number and the measured hop delay (R126, R152). -/
def firstUp (g d : Nat) (s : State) : State :=
  let s1 := s.modPort g (fun p => { p with hop := .up, hopDelay := d })
  match (s1.port g).enumNow with
  | some (0, _, n) => assign g n d s1
  | _ => s1

/-- TRAIN_BLOCK_RECEIVED: a TRAIN block of the lower end, read in the state the hop is in; `h` and `v` are the port's margins,
`good` that the lower end's reaches MARGINLOW, `rtt` the round trip from ECHOREQ to ECHORSP in 1/8 ns. Half of it less TURN
is rounded down (R123-R126; DESIGN CHOICE, log entry 110). A ROLE that R125 forbids holds the hop in DOWN until LINKEN is
written 0 or the port is reset (DESIGN CHOICE, log entry 110). -/
def trainBlock (g : Nat) (w : W64) (h v : Nat) (good : Bool) (rtt : Nat) (s : State) : State :=
  let p := s.port g
  let b := toLe 8 w.toNat
  if !s.hasPort g || !(p.hop == .lock || p.hop == .eq || p.hop == .ident) then s
  else if !blockOk 0x78 b then countBlk g 1 s
  else if trainRole b ≠ 2 ∧ trainRole b ≠ 3 then
    setErr pTPT g 3 (trainDown g (s.modPort g (fun p => { p with roleBad := true })))
  else match p.hop with
    | .lock =>
      if trainStep b = 1 ∧ trainLocked b ∧ p.blockLock then
        sendTrain g 2 (s.rx g 1).preset ((modRx g 1 (fun x => { x with tried := [] }) s).modPort g (fun p => { p with hop := .eq }))
      else s
    | .eq => if trainStep b = 2 ∧ trainPreset b = (s.rx g 1).preset then eqBlock g h v good s else s
    | .ident => if trainStep b = 3 ∧ trainEcho b then firstUp g ((rtt - trainTurn b) / 2) s else s
    | _ => s

def execTrainBlockReceived (g : Nat) (w : W64) (h v : Nat) (good : Bool) (rtt : Nat) (s : State) : Res :=
  .next (trainBlock g w (h % 64) (v % 256) good rtt s)

/-- TRAIN_STATE_TIMEOUT (R123). -/
def trainTimeout (g : Nat) (s : State) : State :=
  match (s.port g).hop with
  | .lock | .ident => trainDown g s
  | .eq => eqEnds g (bestPreset (s.rx g 1).preset (s.rx g 1).tried) s
  | _ => s

def execTrainStateTimeout (g : Nat) (s : State) : Res := .next (trainTimeout g s)

/-- BLOCK_LOCK_ACQUIRED (R97); the TRAIN blocks sent show it as LOCKED (R124). -/
def blockLocked (g : Nat) (s : State) : State :=
  if !(s.hasPort g && (s.port g).sigdet) then s
  else
    let s1 := s.modPort g (fun p => { p with blockLock := true })
    if (s.port g).hop = .lock ∧ !(s.port g).blockLock then sendTrain g 1 (s.rx g 1).preset s1 else s1

def execBlockLockAcquired (g : Nat) (s : State) : Res := .next (blockLocked g s)

/-- BLOCK_LOCK_LOST: the hop goes down (R97, R136). -/
def blockLockLost (g : Nat) (s : State) : State :=
  if !(s.port g).blockLock then s
  else if s.hopUp g then (hopDown g true 0x44 s).modPort g (fun p => { p with sigdet := false })
  else if (s.port g).hop == .lock then sendTrain g 1 (s.rx g 1).preset (s.modPort g (fun p => { p with blockLock := false }))
  else trainDown g s

def execBlockLockLost (g : Nat) (s : State) : Res := .next (blockLockLost g s)

/-- TPT_LINKCFG_WRITE (R139): MARGINLOW clamped; LINKEN 0 holds the hop in DOWN, 1 lets it train. -/
def linkcfgWrite (g v : Nat) (s : State) : State :=
  if !(s.hasPort g && s.tileOpen (g / 16)) then s
  else
    let m := bits v 8 4
    let mc := max 2 m
    let s1 := if m = mc then s else logClamp pTPT g 0x040 8 s
    let was := s.linken g
    let s2 := s1.setReg 0x80D pTPT g 0x040 (bits v 0 4 + mc * 2 ^ 8)
    if !bit v 0 then (if was then hopDown g true 0x44 s2 else s2).modPort g (fun p => { p with hop := .down, roleBad := false })
    else if was then s2
    else tryTrain g (releaseTree g s2)

def execTptLinkcfgWrite (g : Nat) (v : W32) (s : State) : Res := .next (tileMmio (g / 16) (regAcc pTPT g 0x040 v.toNat) (fun s => linkcfgWrite g v.toNat s) s)

/-! ## The tick on the line (R98, R104, R105, R108, R113, R116) -/

/-- The next ranging target after the one named last, node numbers ascending (R116, R118). -/
def State.nextTarget (s : State) (g : Nat) : Option Nat :=
  let l := (s.nodesOf g).filter (fun n => (s.node g n).delayValid)
  match (s.port g).rangeAgain with
  | some n => if l.contains n then some n else l.find? (fun n => decide (n > (s.port g).rangeLast)) <|> l.head?
  | none => l.find? (fun n => decide (n > (s.port g).rangeLast)) <|> l.head?

/-- AUX of a tick but for the ranging word (R105). -/
def State.auxWord (s : State) : Nat :=
  let t := s.time.tick
  match t % 8 with
  | 0 => s.time.sampleOff % 2 ^ 13
  | 1 => bits t 16 16
  | 2 => bits t 32 16
  | 3 => bits t 48 16
  | 4 => s.time.ticklen + s.time.fllog2 * 4
  | _ => 0

/-- The ranging target of the tick is named, and its slot awaited (R116). With none AUX is 0, which no rule gives (DESIGN
CHOICE, log entry 110). -/
def rangeTarget (g : Nat) (s : State) : State × Nat :=
  if s.time.tick % 8 = 5 ∧ bit (s.linkcfg g) 3 then
    match s.nextTarget g with
    | some n =>
      let q := ((s.port g).rseq + 1) % 16
      (s.modPort g (fun p => { p with
        rangeLast := if p.rangeAgain = some n then p.rangeLast else n, rangeAgain := none, rseq := q
        echoes := p.echoes ++ [(n, s.time.tick + 8, q)] }), n + q * 4096)
    | none => (s, 0)
  else (s, s.auxWord)

/-- The plan that runs in the current tick is changed. -/
def State.modPlanNow (s : State) (g : Nat) (u : Plan → Plan) : State :=
  s.modPlan g (fun p => match p.fixed with
    | some t => if s.time.tick ≥ t then { p with idle := u p.idle } else { p with run := u p.run }
    | none => { p with run := u p.run })

/-- The due downstream instances of the tick: sent while the hop is UP, from the records as they stand at its boundary, and
numbered whether or not (R112, R136, R235, R600). -/
def sendPeriodic (g : Nat) (s : State) : State :=
  let pl := s.planNow g
  let due := pl.entries.filter (fun e => !e.up && e.due s.time.tick)
  let up := s.hopUp g
  let s1 := if up then due.foldl (fun s e =>
    if e.mute then s else out (.xfer g e.first 0 e.node e.xid e.tseq pl.planid (s.payloadOf e)) s) s else s
  if due = [] then s1
  else s1.modPlanNow g (fun p => { p with entries := p.entries.map (fun e =>
    if !e.up && e.due s.time.tick then
      { e with tseq := (e.tseq + 1) % 4, sentSince := e.sentSince || (up && decide (s.time.tick ≥ (s.fn e.func).resetTick + 2)) }
    else e) })

/-- One ACK that waited from the tick before: in a free slot, else in a reserved bridge block (R115, R202). -/
def sendAck (g : Nat) (s : State) (a : Nat × Nat) : State :=
  match takeDown g 0 1 0 s with
  | some (b, s1) => out (.block g b (ackBytes a.1 a.2)) s1
  | none => match takeDown g 1 1 0 s with
    | some (b, s1) => out (.block g b (ackBytes a.1 a.2)) s1
    | none => s.modPort g (fun p => { p with acks := p.acks ++ [a] })

def sendAcks (g : Nat) (s : State) : State :=
  (s.port g).acks.foldl (sendAck g) (s.modPort g (fun p => { p with acks := [] }))

/-- The entry of the running Accord that a retry belongs to. -/
def State.retryEntry (s : State) (g : Nat) (r : Retry) : Option AEntry :=
  (s.planNow g).entries.find? (fun e => e.up && e.node == r.node && e.xid == r.xid && !e.mute)

def dropRetry (g : Nat) (r : Retry) (s : State) : State :=
  s.modPort g (fun p => { p with retries := p.retries.filter (· != r) })

/-- The grant of a retry decided in the tick before. It must land before the entry's next instance and finds its slots in
this tick, or the fault stays unrecovered and is a miss (R169, R170). -/
def retryGrant (g : Nat) (s : State) (r : Retry) : State :=
  match s.retryEntry g r with
  | none => dropRetry g r s
  | some e =>
    if s.time.tick + 8 < r.tick + 2 ^ e.k then
      (tryGrant g r.node 4 (e.len + 1) 0 0 s).getD (miss g r.node (dropRetry g r s))
    else miss g r.node (dropRetry g r s)

def retryGrants (g : Nat) (s : State) : State :=
  ((s.port g).retries.filter (fun r => r.due == s.time.tick)).foldl (retryGrant g) s

/-- A port begins its tick: a swap tick is fixed before anything is granted; then the marker, periodic transfers, ACKs and
retry grants, in the order of their classes; while the hop is not UP only the Accord's numbering goes on
(R98, R116, R136, R202, R203). -/
def portTick (s : State) (g : Nat) : State :=
  let s0 := swapFixed g (s.modPort g (fun p =>
    { p with grants := p.grants.filter (fun x => decide (s.time.tick ≤ x.tick)), dnUsed := [], turn := false }))
  if !s0.hopUp g then sendPeriodic g s0
  else
    let r := rangeTarget g s0
    let s1 := out (.block g 0 (markerBytes s.time.tick (s0.planNow g).planid (tcorr (s.tl (g / 16)).offset) r.2)) r.1
    retryGrants g (sendAcks g (sendPeriodic g s1))

/-- A port's management turn of the tick, after the bridge's: the next lower end to number among it (R152, R202). -/
def portMgmt (s : State) (g : Nat) : State := startEnum g (mgmtTurn g s)

/-! ## Upstream transfers (R103, R110, R135, R169-R172, R234, R600) -/

/-- A point's record is about to be written by a transfer whose last block is `last`: past the reflex cut-off, the tick's
window goes on seeing the record as it was before (R267). -/
def hideRecord (last p : Nat) (s : State) : State :=
  if last + 51 ≤ 80 * s.tickUs then s
  else match s.unseen.find? (fun x => x.1 == p) with
    | some x => { s with unseen := (p, x.2.1, max last x.2.2) :: s.unseen.filter (fun y => y.1 != p) }
    | none => { s with unseen := (p, s.record p, last) :: s.unseen }

/-- Write the payload of a transfer that ended at block `last` into the records that the enabled map entries of an
upstream entry name (R232, R234, R267). -/
def writeUp (e : AEntry) (last payload age q : Nat) (s : State) : State :=
  (e.pm.filter (·.enabled)).foldl (fun s m =>
    writePoint m.point (pmField m payload) age q (hideRecord last m.point s)) s

/-- The TSEQ a retry must carry, where the faulty HEADER did not give it (R170). -/
def State.expectTseq (s : State) (g : Nat) (e : AEntry) : Option Nat :=
  ((s.node g e.node).tseqs.find? (·.1 == e.xid)).map (fun t => (t.2.1 + (s.time.tick - t.2.2) / 2 ^ e.k) % 4)

/-- A faulty instance: a retry is granted in the next tick where R170 allows it, else it is a miss. -/
def faulty (g : Nat) (e : AEntry) (tseq : Option Nat) (s : State) : State :=
  let r := bits (s.treecfg g) 24 2
  if e.retry && decide (4 ≤ e.k) && r != 0 then
    s.modPort g (fun p => { p with retries := p.retries ++
      [{ node := e.node, xid := e.xid, tseq := tseq, tick := s.time.tick, left := r, due := s.time.tick + 1 }] })
  else miss g e.node s

/-- The port judges what the node sends: it takes part and its transfers have resumed (R165, R166). -/
def State.listens (s : State) (g n : Nat) : Bool := (s.node g n).present && (s.node g n).resumed

/-- In the first tick under a new PLANID, the node whose assignment in the Accord before it a block fits (R176 case 5). -/
def State.priorFit (s : State) (g slot : Nat) (b : RxBlock) : Option Nat :=
  if s.time.tick ≠ (s.plan g).lastSwap then none
  else ((s.plan g).prior.find? (fun e => e.up && e.due s.time.tick &&
    (if b.isHeader then e.first == slot && hNode b.bytes == e.node && hXid b.bytes == e.xid else e.slots.contains slot))).map (·.node)

/-- A deviation of node `n` in upstream block `slot`: hostile, or a miss where the Accord of the tick before allowed it
(R172, R176 case 5). -/
def deviates (g n obs slot : Nat) (b : RxBlock) (s : State) : State :=
  match s.priorFit g slot b with
  | some m => miss g m s
  | none => hostile g n obs s

/-- A valid instance is recorded and written; a demoted node's data is not (R169, R234). -/
def accept (g : Nat) (e : AEntry) (h : List Byte) (body : List RxBlock) (s : State) : State :=
  let s1 := (heard g e.node (seeHeader g e.node (hAttn h) s)).modNode g e.node (fun x =>
    { x with tseqs := (e.xid, hTseq h, s.time.tick) :: x.tseqs.filter (·.1 != e.xid) })
  if (s.node g e.node).st = .demoted then s1
  else writeUp e (e.slots.getLast?.getD 0) (bodyNum h body) 0 (if s.late g e then 2 else 1) s1

/-- What arrives in the slot run of entry `e` of the running Accord (R135). A muted entry's blocks are counted and not judged,
a node's out of service neither, but for what they say of a gate above it (R165, R166, R174, R208). -/
def runReceived (g : Nat) (e : AEntry) (mis : Bool) (blocks : List RxBlock) (s : State) : State :=
  if e.mute then (if mis then countMis g blocks.length s else countRun g blocks s)
  else
    let r := receive g mis e.node 0 e.len (· == e.xid) true blocks s
    let s1 := if anyHeader (blocks.take 1) && !mis then gateLeak g e.node r.2 else r.2
    if !s1.listens g e.node then s1
    else match r.1 with
      | .missing => miss g e.node s1
      | .faulty t => faulty g e (t <|> s1.expectTseq g e) s1
      | .hostile o => deviates g e.node o e.first (blocks.head?.getD (0, 0)) s1
      | .good h body => accept g e h body s1

/-- A block other than ALERT in an alert window: it counts as invalid, and unless it is IDLE it is babble of the lower end
of the first hop (R135, R138, R172). -/
def windowBabble (g : Nat) (b : RxBlock) (s : State) : State :=
  if b.isIdle then s else hostileFirst g 2 (countBlk g 1 s)

/-- The lower end of the first hop (R172). -/
def State.firstLower (s : State) (g : Nat) : Nat := (s.nodeAt g 1 0).getD 0xFFFF

/-- A grant in whose slots the block falls in the current tick (R113). -/
def State.grantAt (s : State) (g slot : Nat) : Option Grant :=
  (s.port g).grants.find? (fun x => x.tick == s.time.tick && (upRun x.len x.upslot).contains slot)

/-- A run of blocks that begins where it should not, in slots of node `n`'s path: a HEADER is babble, a data block or a HEADER
that fails HCHK is one miss (R53, R135, R169, R172; DEDUCED, log entry 111). -/
def stray (g n slot : Nat) (b : RxBlock) (s : State) : State :=
  if b.isHeader && hOk b.bytes then deviates g n 2 slot b s
  else if b.isHeader || b.isData then miss g ((s.priorFit g slot b).getD n) s
  else s

/-- PERIODIC_TRANSFER_RECEIVED: the blocks of a transfer whose first block is upstream block `slot` of the current tick;
`mis` that they were misaligned. The first slot of a granted run whose HEADER is as granted belongs to the command of that
service (R53, R110, R135, R169, R172). -/
def periodicReceived (g slot : Nat) (mis : Bool) (blocks : List RxBlock) (s : State) : State :=
  if !s.hopUp g then s
  else
    let es := (s.planNow g).entries.filter (fun e => e.up && e.due s.time.tick)
    match es.find? (fun e => e.first == slot), blocks with
    | some e, _ => runReceived g e mis blocks s
    | none, [] => s
    | none, b :: _ =>
      let s1 := if mis then countMis g blocks.length s else if slot % 20 = 0 then s else countRun g blocks s
      match es.find? (fun e => e.slots.contains slot), s.grantAt g slot with
      | some e, _ =>
        if e.mute then s1
        else
          let s2 := if anyHeader [b] && !mis then gateLeak g e.node s1 else s1
          if !s2.listens g e.node then s2 else if mis then miss g e.node s2 else stray g e.node slot b s2
      | none, some x =>
        if mis then s1
        else if x.upslot = slot ∧ b.isHeader ∧ hOk b.bytes then
          if hNode b.bytes = x.node ∧ hClass b.bytes = x.cls then s else deviates g x.node 1 slot b s1
        else stray g x.node slot b s1
      | none, none =>
        if mis then s1 else if slot % 20 = 0 then windowBabble g b s1 else stray g (s.firstLower g) slot b s1

def execPeriodicTransferReceived (g slot : Nat) (mis : Bool) (blocks : List RxBlock) (s : State) : Res :=
  .next (periodicReceived g slot mis blocks s)

/-- The retry of a node's transfer that is outstanding, and its entry. -/
def State.retry? (s : State) (g n xid : Nat) : Option (Retry × AEntry) :=
  match (s.port g).retries.find? (fun r => r.node == n && r.xid == xid) with
  | some r => (s.retryEntry g r).map (fun e => (r, e))
  | none => none

/-- A retry failed: granted again while RETRYMAX and the next instance allow it, else the fault is a miss (R170). -/
def retryFailed (g : Nat) (r : Retry) (e : AEntry) (s : State) : State :=
  if r.left > 1 ∧ s.time.tick + 9 < r.tick + 2 ^ e.k then
    s.modPort g (fun p => { p with retries := p.retries.map (fun x =>
      if x = r then { x with left := x.left - 1, due := s.time.tick + 1 } else x) })
  else miss g e.node (dropRetry g r s)

/-- Last block of the run granted to a node's retry in the current tick (R113, R170). -/
def State.retryLast (s : State) (g n : Nat) : Nat :=
  match (s.port g).grants.find? (fun x => x.cls == 4 && x.node == n && x.tick == s.time.tick) with
  | some x => (upRun x.len x.upslot).getLast?.getD 0
  | none => 0

/-- RETRY_RECEIVED: what arrived in the slots granted to node `n` for its transfer `xid` (R135, R170). -/
def retryReceived (g n xid : Nat) (mis : Bool) (blocks : List RxBlock) (s : State) : State :=
  match s.retry? g n xid with
  | none => s
  | some (r, e) =>
    if !s.listens g n then dropRetry g r s
    else
      let x := receive g mis n 4 e.len (· == xid) true blocks s
      match x.1 with
      | .missing | .faulty _ => retryFailed g r e x.2
      | .hostile o => hostile g n o x.2
      | .good h body =>
        if r.tseq.isSome ∧ r.tseq ≠ some (hTseq h) then retryFailed g r e x.2
        else
          let s1 := (dropRetry g r (seeHeader g n (hAttn h) x.2)).modNode g n (fun x =>
            { x with recovered := satAdd 65535 x.recovered 1 })
          if (s.node g n).st = .demoted then s1
          else writeUp e (s.retryLast g n) (bodyNum h body) (min 65535 (s.time.tick - r.tick)) 0x12 s1

def execRetryReceived (g n xid : Nat) (mis : Bool) (blocks : List RxBlock) (s : State) : Res :=
  .next (retryReceived g n xid mis blocks s)

/-! ## Ranging (R116-R118) -/

/-- An expected ECHO did not arrive, or arrived invalid or misaligned: one miss, and with the fourth in a row and no valid
block since the first the lower end is absent, which wins over a demotion (R117, R164, R176 case 3). -/
def echoMissed (g n : Nat) (s : State) : State :=
  if !(s.port g).echoes.any (·.1 == n) then s
  else
    let s1 := (s.modPort g (fun p => { p with echoes := p.echoes.filter (·.1 != n) })).modNode g n (fun x =>
      { x with missFrom := if x.missedEcho = 0 then s.time.tick else x.missFrom, missedEcho := satAdd 63 x.missedEcho 1 })
    let x := s1.node g n
    if x.missedEcho ≥ 4 ∧ x.lastBlock < x.missFrom ∧ x.leaves then
      departNodes g 0 0x40 (s1.subtree g n) (s1.modNode g n (fun x => { x with misses := satAdd 65535 x.misses 1 }))
    else miss g n s1

/-- A new DELAY is written to the node (R117). -/
def writeDelay (g n d : Nat) (s : State) : State := mgmtWrite g n lnkDelay [d % 2 ^ 20 + 2 ^ 31] (.delay d) s

/-- A good ECHO with the measured round trip in 1/8 ns (R117, R118). -/
def echoGood (g n rt : Nat) (s : State) : State :=
  let x := s.node g n
  let new := (rt + 1) / 2
  let diff := if new ≥ x.delay then new - x.delay else x.delay - new
  let s1 := (heard g n (s.modPort g (fun p => { p with echoes := p.echoes.filter (·.1 != n) }))).modNode g n
    (fun x => { x with missedEcho := 0, stepWait := none, lastBlock := s.time.tick })
  if diff < 4 then s1
  else if diff ≤ 25 then writeDelay g n new s1
  else match x.stepWait with
    | some old =>
      let gap := if new ≥ old then new - old else old - new
      if gap ≤ 8 then
        emitMgr 8 1 [(16, 1, g), (17, 1, 2), (20, 2, n)] (setErr pTPT g 2 (writeDelay g n ((new + old + 1) / 2) s1))
      else (s1.modNode g n (fun x => { x with stepWait := some new })).modPort g (fun p => { p with rangeAgain := some n })
    | none => (s1.modNode g n (fun x => { x with stepWait := some new })).modPort g (fun p => { p with rangeAgain := some n })

/-- ECHO_RECEIVED: the block in the slot of the ECHO awaited in the current tick, `span` 1/8 ns after the departure of the
marker that asked for it; `mis` that it missed its window. One of another NODE or RSEQ is none (R110, R116, R117; DEDUCED,
log entry 112). Where none is awaited an ECHO is an invalid block (R95, R96). -/
def echoReceived (g span : Nat) (mis : Bool) (b : RxBlock) (s : State) : State :=
  let y := b.bytes
  let bad := !b.isData && !b.isIdle && !(b.isHeader && hchk y)
  if !s.hopUp g then s
  else match (s.port g).echoes.find? (fun x => x.2.1 == s.time.tick) with
    | none => if mis then countMis g 1 s else if bad then countBlk g 1 s else s
    | some (n, _, q) =>
      if mis then echoMissed g n (countMis g 1 s)
      else if b.1 = 2#2 ∧ blockOk 0x5A y then
        if byteField y 1 2 = n + q * 2 ^ 12 then echoGood g n (span - byteField y 3 3) s else echoMissed g n s
      else echoMissed g n (if bad then countBlk g 1 s else s)

def execEchoReceived (g span : Nat) (mis : Bool) (b : RxBlock) (s : State) : Res := .next (echoReceived g span mis b s)

/-! ## The end of a slot run (R169) -/

/-- UPSTREAM_SLOT_RUN_END with nothing valid received. `what`: 0 a periodic run of node `a`, XID `b`; 1 the ECHO of
node `a`; 2 the answer to MSEQ `a`; 3 the `a`-th bridge reply awaited; 4 the answer of bulk channel `a` to BSEQ `b`;
5 the retry of node `a`, XID `b`; others, a poll. -/
def slotRunEnd (g what a b : Nat) (s : State) : State :=
  match what with
  | 0 =>
    match ((s.plan g).at s.time.tick).entries.find? (fun e => e.up && e.due s.time.tick && e.node == a && e.xid == b) with
    | some e => if s.hopUp g then runReceived g e false [] s else s
    | none => s
  | 1 => echoMissed g a s
  | 2 => match (s.port g).mreqs.find? (·.mseq == a) with
    | some r => mgmtMissing g r s
    | none => s
  | 3 => match (s.bridgeSent g)[a]? with
    | some x => missedReply x s
    | none => s
  | 4 => match s.burst? a b with
    | some x => if (s.chan a).cur.port = g then missedBurst a x s else s
    | none => s
  | 5 => match s.retry? g a b with
    | some (r, e) => retryFailed g r e s
    | none => s
  | _ => s

def execUpstreamSlotRunEnd (g what a b : Nat) (s : State) : Res := .next (slotRunEnd g what a b s)

end Sys2Proof.Machine
end

