-- ==== Sys2Proof/Machine/Reflex.lean ====
section
/-!
DEFINITION. Reflex: reflex rules, the reflex window, remote input copies and fast alerts
(spec/07_reflex_and_alerts.md, R265-R289).
-/
namespace Sys2Proof.Machine

/-! ## Rule entries (R271-R274) -/

/-- Key of rule `l` of function `f` on tile `t`; keys of a tile rise by function, then by local number. -/
def ruleKey (t f l : Nat) : Nat := (t * 513 + f) * 65536 + l
def ruleTile (k : Nat) : Nat := k / 65536 / 513
def ruleFn (k : Nat) : Nat := k / 65536 % 513
def ruleLocal (k : Nat) : Nat := k % 65536

/-- Rules of a tile with their keys, in order of function and local number. -/
def State.rulesOn (s : State) (t : Nat) : List (Nat × Rule) := s.rules.filter (fun x => ruleTile x.1 == t)

/-- Local numbers of a function on a tile: its quota; the manager's are those of the whole pool (R271, R373). -/
def State.ruleQuota (s : State) (f t : Nat) : Nat := if f = 0 then 65536 else nget 0 (s.fn f).share.rules t

/-- The inputs a rule reads (R272). -/
def RuleEntry.inputs (e : RuleEntry) : List Nat := if e.qual = 0 then [e.ina] else [e.ina, e.inb]
/-- The action writes a point. -/
def RuleEntry.writes (e : RuleEntry) : Bool := e.action == 1 || e.action == 2 || e.action == 3 || e.action == 5

/-- A value under the rule's SIGNED setting. -/
def RuleEntry.val (e : RuleEntry) (v : Nat) : Int := if e.signed then toSigned 32 v else ((v % 2 ^ 32 : Nat) : Int)

/-- The 48 bytes of a rule entry (R272). -/
def parseRule (d : List Byte) : RuleEntry :=
  let w := byteField d 0 4
  { cond := bits w 0 3, signed := bit w 3, adapt := bit w 4, qual := bits w 5 2, action := bits w 8 3,
    bitNo := bits w 16 5, edge := bits w 21 2, asrc := bits w 24 6, aprio := bits w 30 2,
    ina := byteField d 4 4 % 2 ^ 23, inb := byteField d 8 4 % 2 ^ 23, out := byteField d 12 4 % 2 ^ 23,
    hi := byteField d 16 4, lo := byteField d 20 4, blo := byteField d 24 4, bhi := byteField d 28 4,
    val1 := byteField d 32 4, val0 := byteField d 36 4, pulsen := byteField d 40 2, hystmin := byteField d 42 2,
    hystmax := byteField d 44 2, hgain := byteField d 46 1, acode := byteField d 47 1 }

/-- The clamps of R273 in table order, then the undefined QUAL of R526, with their records. -/
def clampRule (item : Nat) (e : RuleEntry) : RuleEntry × List ListRec :=
  let r := fun (b : Bool) (field orig stored : Nat) => if b then [clampItem item field orig stored] else []
  let c1 := decide (5 ≤ e.cond)
  let e1 := if c1 then { e with cond := 0 } else e
  let c2 := decide (6 ≤ e.action)
  let e2 := if c2 then { e1 with action := 0 } else e1
  let c3 := e.edge == 0
  let e3 := if c3 then { e2 with edge := 1 } else e2
  let c4 := e1.cond == 4 && e.hi == 0
  let c5 := e1.cond == 2 && decide (e.val e.hi < e.val e.lo)
  let e4 := if c4 then { e3 with hi := 1 } else if c5 then { e3 with hi := e.lo } else e3
  let c6 := decide (e.val e.bhi < e.val e.blo)
  let e5 := if c6 then { e4 with bhi := e.blo } else e4
  let c7 := e.pulsen == 0
  let e6 := if c7 then { e5 with pulsen := 1 } else e5
  let c8 := decide (e.hystmax < e.hystmin)
  let e7 := if c8 then { e6 with hystmax := e.hystmin } else e6
  let c9 := e.qual == 3
  let e8 := if c9 then { e7 with qual := 0 } else e7
  (e8, r c1 0 e.cond 0 ++ r c2 8 e.action 0 ++ r c3 21 0 1 ++ r c4 128 0 1 ++ r c5 128 e.hi e.lo ++
    r c6 224 e.bhi e.blo ++ r c7 320 0 1 ++ r c8 352 e.hystmax e.hystmin ++ r c9 5 3 0)

/-- A command whose TARGET names a tile with a first local number (R304, R315). -/
def onTile (f t : Nat) (x : Entry) (k : State → State) (s : State) : State :=
  if s.hasTile t then k s else finish f x false 0 0x06 1 [] s

/-- RULE_SET: a long operation whose table is read (R271). -/
def ruleSet (f : Nat) (x : Entry) (s : State) : State :=
  let t := bits x.target 16 3
  onTile f t x (fun s =>
    let c := count16 x
    startLong f x (.ruleSet t (x.target % 2 ^ 16) c.1 []) false c.2 (fun seq s =>
      let r := dmaRead f x.addr (48 * c.1) s
      if r.2 then r.1 else failHandle f seq 0x22 0 r.1) s) s

def execRuleSet (f e : Nat) (s : State) : Res := .next (cmd f e 0x10 (ruleSet f) s)

/-- The table of a RULE_SET has arrived: entries at or above the quota are not stored, the others are clamped
(R271, R273). -/
def ruleDone (f seq t first count : Nat) (d : List Byte) (s : State) : State :=
  let q := s.ruleQuota f t
  let r := ((chunks 48 count d).zipIdx).foldl (fun (a : List (Nat × RuleEntry) × List ListRec) y =>
    let l := first + y.2
    if l ≥ q then (a.1, a.2 ++ [leftOut y.2 0x64 2])
    else
      let c := clampRule y.2 (parseRule y.1)
      (a.1 ++ [(l, c.1)], a.2 ++ c.2)) ([], [])
  (listMore f seq r.2 s).modHandle f seq (fun h => { h with ready := true, op := .ruleSet t first count r.1 })

/-- OUT passes the check of R274 and R280. -/
def State.outOk (s : State) (f t : Nat) (e : RuleEntry) : Bool :=
  ptTile e.out == t && s.owns f e.out && (s.point e.out).kind == (if e.action = 5 then 0 else 2)

/-- Distinct remote inputs of a tile's rules (R269). -/
def remoteInputs (t : Nat) (l : List RuleEntry) : List Nat :=
  l.foldl (fun a e => (e.inputs.filter (fun p => ptTile p != t)).foldl (fun a p => insertAsc p a) a) []

/-- Store one entry at the commit of its RULE_SET: the pulse of a replaced rule is cut (R286 case 2); each entry is
checked for rights (R274), and one with COND 0 is not stored (R271). A tile holds 65,536 rules (R288): the manager,
whose local numbers no quota bounds, finds the engine full under 0x64, DETAIL 2 (DESIGN CHOICE, log entry 68). -/
def storeRule (f t first : Nat) (a : State × List ListRec) (x : Nat × RuleEntry) : State × List ListRec :=
  let s := a.1
  let e := x.2
  let k := ruleKey t f x.1
  let old := s.rules.find? (·.1 == k)
  let s1 := { s with rules := s.rules.filter (·.1 != k) }
  let s2 := match old with
    | some (_, r) => if r.pulse ≠ 0 ∧ r.e.action = 3 then
        s1.modTile t (fun y => { y with cuts := y.cuts ++ [(f, r.e.out, r.e.val0)] }) else s1
    | none => s1
  if !(e.inputs.all (s2.mayRead f)) || (e.writes && !s2.outOk f t e) then
    (s2, a.2 ++ [leftOut (x.1 - first) 0x63 0])
  else if e.cond = 0 then (s2, a.2)
  else if (s2.rulesOn t).length ≥ 65536 then (s2, a.2 ++ [leftOut (x.1 - first) 0x64 2])
  else if (remoteInputs t (e :: (s2.rulesOn t).map (·.2.e))).length > 4096 then
    (s2, a.2 ++ [leftOut (x.1 - first) 0x64 8])
  else ({ s2 with rules := nput { e := {} } s2.rules k { e } }, a.2)

/-- Copies of remote inputs that no rule of the tile reads any more are dropped. -/
def trimCopies (t : Nat) (s : State) : State :=
  let ins := remoteInputs t ((s.rulesOn t).map (·.2.e))
  { s with remote := s.remote.filter (fun x => x.1 / 2 ^ 23 != t || ins.contains (x.1 % 2 ^ 23)),
           copies := s.copies.filter (fun x => x.1 != t || ins.contains x.2.1) }

/-- The commit of a RULE_SET at its frame boundary (R271). -/
def commitRules (f seq t first : Nat) (rules : List (Nat × RuleEntry)) (s : State) : State :=
  let r := rules.foldl (storeRule f t first) (s, [])
  commitHandle f seq (listMore f seq r.2 (trimCopies t r.1))

/-- Every rule of a function ends; it has no more part in a window (R286 case 8, R382 item 5). -/
def dropRules (f : Nat) (s : State) : State :=
  let s1 := { s with rules := s.rules.filter (fun x => ruleFn x.1 != f) }
  (List.range s.tiles).foldl (fun s t =>
    trimCopies t (s.modTile t (fun x => { x with cuts := x.cuts.filter (·.1 != f) }))) s1

/-- Rules restart with cleared state (R391, R601); a rule-rights event is not written again (R280). -/
def clearRules (p : Nat → Bool) (s : State) : State :=
  { s with rules := nmapAll { e := {} } (fun (k : Nat) (r : Rule) =>
      if p k then { e := r.e, noRight := r.noRight, sent := r.sent } else r) s.rules }

/-- The copies of remote inputs that a tile holds, or that are on their way to it, are lost with its memory: R461 and
R518 step 3 initialise it (R269). -/
def loseCopies (t : Nat) (s : State) : State :=
  { s with remote := s.remote.filter (fun x => x.1 / 2 ^ 23 != t), copies := s.copies.filter (fun x => x.1 != t) }

/-! ## Conditions (R275-R277) -/

/-- Limits of 32-bit comparisons. -/
def RuleEntry.least (e : RuleEntry) : Int := if e.signed then -(2 ^ 31) else 0
def RuleEntry.most (e : RuleEntry) : Int := if e.signed then 2 ^ 31 - 1 else 2 ^ 32 - 1

/-- NOISE after a window in which A differs from PREV (R275). -/
def noiseNext (noise : Nat) (d : Int) : Nat :=
  let m := clampInt 0 (2 ^ 32 - 1) (if d < 0 then -d else d)
  ((noise : Int) + (m - noise).tdiv 16).toNat

/-- The hysteresis H (R275). -/
def RuleEntry.hyst (e : RuleEntry) (noise : Nat) : Nat :=
  if e.adapt then min e.hystmax (max e.hystmin (noise * e.hgain / 16)) else e.hystmin

/-- A's condition as it stands after a window (R276); `rise` and `edge` are found against a loaded PREV. -/
def RuleEntry.condNow (e : RuleEntry) (was : Bool) (a : Int) (h cnt : Nat) (edge : Bool) : Bool :=
  let lo := clampInt e.least e.most (e.val e.lo - h)
  let hi := clampInt e.least e.most (e.val e.hi + h)
  if e.cond = 1 then
    if a ≥ e.val e.hi then true
    else if a < clampInt e.least e.most (e.val e.hi - h) then false else was
  else if e.cond = 2 then
    if e.val e.lo ≤ a ∧ a ≤ e.val e.hi then true
    else if a < lo ∨ a > hi then false else was
  else if e.cond = 3 then edge
  else decide (cnt ≥ e.hi)

/-- The qualifier Q (R276). -/
def RuleEntry.qualNow (e : RuleEntry) (b : Nat) : Bool :=
  let inside := decide (e.val e.blo ≤ e.val b ∧ e.val b ≤ e.val e.bhi)
  if e.qual = 0 then true else if e.qual = 1 then inside else !inside

/-- The rule after a window in which its inputs were good, with A's and B's VALUE (R275-R277, R601). -/
def Rule.evalGood (r : Rule) (a b : Nat) : Rule :=
  let e := r.e
  let r0 : Rule := if r.good then r else { r with good := true, prev := a, ca := false, c := false, noise := 0, cnt := 0 }
  let pb := bit r0.prev e.bitNo
  let nb := bit a e.bitNo
  let rise := !pb && nb
  let edge := (rise && bit e.edge 0) || (pb && !nb && bit e.edge 1)
  let noise := if e.adapt && a != r0.prev then noiseNext r0.noise (e.val a - e.val r0.prev) else r0.noise
  let cnt := if e.cond = 4 ∧ rise then satAdd (2 ^ 32 - 1) r0.cnt 1 else r0.cnt
  let ca := e.condNow r0.ca (e.val a) (e.hyst noise) cnt edge
  { r0 with prev := a, noise, cnt := if e.cond = 4 ∧ ca then 0 else cnt, ca, c := ca && e.qualNow b }

/-- The rule after a window in which an input was not good (R277). -/
def Rule.evalBad (r : Rule) : Rule := { r with good := false, ca := false, c := false }

/-- The rule fires in this window (R278). -/
def Rule.fires (was new : Rule) : Bool := new.c && (!was.c || new.e.cond == 3 || new.e.cond == 4)

/-! ## The window (R265-R269, R278-R280) -/

/-- Quality codes that count as good (R277). -/
def goodRec (w : Nat) : Bool := recQ w % 16 == 1 || recQ w % 16 == 2 || recQ w % 16 == 3

/-- The tile's reflex engine works: it is in service, and not past the boundary B of a Drydown entry (R286 case 7). -/
def State.rfxRuns (s : State) (t : Nat) : Bool := s.hasTile t && s.publishes t

/-- A record as the window of the current tick sees it: a transfer that ended past the reflex cut-off is not seen
(R266, R267). -/
def State.seenRecord (s : State) (p : Nat) : Nat :=
  match s.unseen.find? (fun x => x.1 == p) with
  | some x => x.2.1
  | none => s.record p

/-- The record of an input as the tile's rules see it: its own records, or the latest copy of a remote one; none where
there is no copy or the input's tile sleeps (R266, R269, R459). -/
def State.inputRec (s : State) (t p : Nat) : Option Nat :=
  if ptTile p = t then some (s.seenRecord p)
  else if !s.rfxRuns (ptTile p) then none
  else match nget 0 s.remote (t * 2 ^ 23 + p) with
    | 0 => none
    | n + 1 => some n

/-- A write of a window: function, point, and the value; none for a COUNT's rise by one. -/
abbrev RuleWrite := Nat × Nat × Option Nat

/-- A rule's or an alert's latch entry, and the raise of its source (R281-R283). -/
def alertTo (f src origin wher : Nat) (isRule : Bool) (code aprio aseq data : Nat) (s : State) : State :=
  let c := (s.fn f).fast
  let idle := !bit c.pend.toNat src && !bit c.cause.toNat src
  let s1 := s.modFn f (fun x => { x with latches := nmod {} x.latches src (fun l =>
    if idle then { origin, wher, isRule, code, aprio, aseq, merged := 0, firstData := data, lastData := data
                   tick := s.time.tick % 2 ^ 32 }
    else { l with merged := satAdd 255 l.merged 1, lastData := data }) })
  raiseSrc f true src s1


/-- A rule lacks rights: RIGHTS, and one rule-rights event until its next RULE_SET (R277, R280, R318). -/
def rightsEvent (k : Nat) (r : Rule) (s : State) : State :=
  if r.sent then s
  else emit (ruleFn k) (mkEvent 5 1 [(16, 1, ruleTile k), (20, 2, ruleLocal k)]) (setErr pRFX (ruleTile k) 0 s)

/-- What a rule writes in a window, given itself before and after, and whether it fires (R278). -/
def ruleWrite (was new : Rule) (fire : Bool) : Option (Option Nat) :=
  let e := new.e
  if e.action = 1 then (if fire then some (some e.val1) else none)
  else if e.action = 2 then
    if new.c && !was.c then some (some e.val1) else if was.c && !new.c then some (some e.val0) else none
  else if e.action = 3 then
    if fire then some (some e.val1) else if was.pulse = 1 then some (some e.val0) else none
  else if e.action = 5 then (if fire then some none else none)
  else none

/-- One rule's evaluation against the state `s0` at the window's opening: its new state, its write, its alert. -/
def evalRule (s0 : State) (t : Nat) (a : State × List RuleWrite) (x : Nat × Rule) : State × List RuleWrite :=
  let f := ruleFn x.1
  let r := x.2
  let e := r.e
  let right := e.inputs.all (s0.mayRead f)
  let recs := e.inputs.map (s0.inputRec t)
  let good := right && recs.all (fun w => match w with | some v => goodRec v | none => false)
  let av := (recs[0]?.join).getD 0
  let bv := (recs[1]?.join).getD 0
  let r1 := if good then r.evalGood (recVal av) (recVal bv) else r.evalBad
  let fire := Rule.fires r r1
  let outOk := !e.writes || s0.outOk f t e
  let w := ruleWrite r r1 fire
  let pulse := if e.action = 3 ∧ fire then e.pulsen else r.pulse - 1
  let bad := !right || !outOk
  let r2 := { r1 with pulse, noRight := bad, sent := r.sent || bad }
  let s1 := { a.1 with rules := nput { e := {} } a.1.rules x.1 r2 }
  let s2 := if bad then rightsEvent x.1 r s1 else s1
  let s3 := if e.action = 4 && fire then
    alertTo f e.asrc (ruleLocal x.1) t true e.acode e.aprio 0 (recVal av % 2 ^ 16) s2 else s2
  match w with
  | none => (s3, a.2)
  | some v => if outOk then (s3, a.2 ++ [(f, e.out, v)]) else (rfxLost f t s3, a.2)

/-- One point's last write of the window lands (R234, R278), or is discarded: by a lock, or where it meets a sequencer
write in one cycle (R43, R239, R279). -/
def landWrite (t : Nat) (s : State) (w : RuleWrite) : State :=
  let p := w.2.1
  let v := match w.2.2 with | some v => v | none => recVal (s.record p) + 1
  let land := fun (s : State) =>
    let s1 := sourceWrite 1 w.1 p (v % 2 ^ 32) s
    if (s.point p).locks = [] then s1.modPoint p (fun x => { x with rfxTick := some s.time.tick }) else s1
  if (s.point p).locks = [] ∧ s.seqWrote p 0 then
    if s.meets = 0 then rfxLost w.1 t s.draw else if s.meets = 1 then s.draw else land s.draw
  else land s

/-- Of several writes to a record only the last of the list stands (R279). -/
def lastWrites : List RuleWrite → List RuleWrite
  | [] => []
  | w :: r => if r.any (fun x => x.2.1 == w.2.1) then lastWrites r else w :: lastWrites r

/-- Records that rules of other tiles read are sent to them when the window opens, over the links of their path
(R34, R36, R269). -/
def sendCopies (t : Nat) (s : State) : State :=
  (List.range s.tiles).foldl (fun s u =>
    if u = t ∨ !s.rfxRuns u then s
    else
      let ps := (remoteInputs u ((s.rulesOn u).map (·.2.e))).filter (fun p => ptTile p == t)
      ps.foldl (fun s p => out (.reflexCopy t u p (s.route t u))
        { s with copies := s.copies ++ [(u, p, s.seenRecord p, s.time.tick)] }) s) s

/-- REFLEX_WINDOW of tile `t`: every enabled rule is evaluated once against the records as the window opens, then the
writes land, a cut pulse's VAL0 first (R265-R280, R286). -/
def reflexWindow (t : Nat) (s : State) : State :=
  if !(s.rfxRuns t) || (s.tl t).rfxTick == some s.time.tick then s
  else
    let s0 := sendCopies t s
    let cuts := (s.tl t).cuts
    let good := fun (c : Nat × Nat × Nat) => s0.owns c.1 c.2.1 && (s0.point c.2.1).kind == 2
    let s1 := (cuts.filter (fun c => !good c)).foldl (fun s c => rfxLost c.1 t s) s0
    let n := (s0.rulesOn t).length
    let cyc := if n = 0 then 0 else (n + 255) / 256 + 16
    let s2 := s1.modTile t (fun x => { x with rfxTick := some s.time.tick, cuts := [], scanLast := cyc
                                              scanPeak := max x.scanPeak cyc })
    let r := (s0.rulesOn t).foldl (evalRule s0 t) (s2, [])
    let cw : List RuleWrite := (cuts.filter good).map (fun c => (c.1, c.2.1, some c.2.2))
    (lastWrites (cw ++ r.2)).foldl (landWrite t) r.1

def execReflexWindow (t : Nat) (s : State) : Res := .next (reflexWindow t s)

/-- REMOTE_INPUT_COPY: a copy sent in an earlier window arrives; past the opening of the window it was sent for, it
is used in the next one and counted (R269, R286 case 9). -/
def remoteCopy (t p : Nat) (s : State) : State :=
  match s.copies.find? (fun c => c.1 == t && c.2.1 == p) with
  | none => s
  | some c =>
    let open_ := (s.tl t).rfxTick == some s.time.tick
    if c.2.2.2 = s.time.tick ∧ !open_ then s
    else
      let late := decide (s.time.tick > c.2.2.2 + 1) || (s.time.tick == c.2.2.2 + 1 && open_)
      let s1 := { s with copies := s.copies.erase c, remote := nput 0 s.remote (t * 2 ^ 23 + p) (c.2.2.1 + 1) }
      if late then setErr pRFX t 1 (countReg pRFX t 0x04C 0 16 1 s1) else s1

def execRemoteInputCopy (t p : Nat) (s : State) : Res := .next (remoteCopy t p s)

/-- RFX_USED of a tile (R288). -/
def State.rfxUsed (s : State) (t : Nat) : Nat :=
  (s.rulesOn t).length + (remoteInputs t ((s.rulesOn t).map (·.2.e))).length * 2 ^ 17

/-- TNH_RFXNORIGHT of a function (R289). -/
def State.noRights (s : State) (f : Nat) : Nat := (s.rules.filter (fun x => ruleFn x.1 == f && x.2.noRight)).length

/-! ## Fast alerts (R114, R115, R171, R281-R285) -/

/-- ALERT_BIND (R281, R316). -/
def alertBind (f : Nat) (x : Entry) (s : State) : State :=
  onNode f x false (fun g n s =>
    if (s.node g n).lessee ≠ f then finish f x false 0 0x61 0 [] s
    else
      let k := nodeKey g n
      finish f x false 0 0 0 [] (s.modFn f (fun y =>
        { y with binds := (y.binds.filter (·.1 != k)) ++ (if bit x.p0 31 then [] else [(k, x.p0 % 64)]) }))) s

def execAlertBind (f e : Nat) (s : State) : Res := .next (cmd f e 0x11 (alertBind f) s)

/-- The fast source that a node's alert raises (R281). -/
def State.alertSrc (s : State) (f g n aprio : Nat) : Nat :=
  match (s.fn f).binds.find? (·.1 == nodeKey g n) with
  | some b => b.2
  | none => 60 + aprio % 4

/-- The ACK of an alert received in block `blk`: in a free slot of the tick after it, else in the next tick (R115 item 3,
R202). -/
def ackAlert (g blk n aseq : Nat) (s : State) : State :=
  match takeDown g 0 1 blk s with
  | some (b, s1) => out (.block g b (ackBytes n aseq)) s1
  | none => s.modPort g (fun p => { p with acks := p.acks ++ [(n, aseq)] })

/-- An ALERT in an alert window (R115, R171, R281-R285): acknowledged; a repeat changes nothing; held back and counted
past ALERTMAX or in another node state; else delivered to the node's writer. -/
def alertIn (g blk : Nat) (b : List Byte) (s : State) : State :=
  let n := byteField b 1 2 % 2 ^ 12
  let aseq := byteField b 1 2 / 2 ^ 12
  let aprio := byteField b 4 1 % 4
  let s1 := ackAlert g blk n aseq (countReg pTPT g 0x078 0 64 1 s)
  let x := s.node g n
  let f := x.lessee
  if !x.present then countReg pFIB f 0x800 16 16 1 s1
  else
    let s2 := s1.modNode g n (fun y => { y with lastBlock := s.time.tick })
    if x.aseq = some aseq then s2
    else
      let s3 := s2.modNode g n (fun y => { y with alertsFrame := y.alertsFrame + 1 })
      if x.alertsFrame ≥ bits (s.misswin g) 8 8 then
        countReg pFIB f 0x800 0 16 1 s3
      else
        alertTo f (s.alertSrc f g n aprio) n g false (byteField b 3 1) aprio aseq (byteField b 5 2)
          (s3.modNode g n (fun y => { y with aseq := some aseq }))

/-- An ALERT in a slot is invalid there, and hostile: of the node whose periodic or granted run it stands in, in a slot given
to nobody of the lower end of the first hop (R96, R135, R172; DEDUCED, log entry 111). A misaligned block is discarded, a miss
of the node in whose periodic run it falls (R110, R169). -/
def alertAstray (g blk : Nat) (mis : Bool) (s : State) : State :=
  let s1 := if mis then countMis g 1 s else countBlk g 1 s
  match ((s.planNow g).entries.filter (fun e => e.up && e.due s.time.tick && e.slots.contains blk)).head?, s.grantAt g blk with
  | some e, _ =>
    if e.mute || !s.listens g e.node then s1 else if mis then miss g e.node s1 else hostile g e.node 2 s1
  | none, some x => if mis then s1 else hostile g x.node 2 s1
  | none, none => if mis then s1 else hostileFirst g 2 s1

/-- ALERT_RECEIVED: an ALERT block in upstream block `blk` of the current tick, `mis` that it missed its window (R99, R110,
R115). A block of another type in an alert window is babble (R135). -/
def alertReceived (g blk : Nat) (mis : Bool) (w : W64) (s : State) : State :=
  let b := toLe 8 w.toNat
  if !s.hopUp g || !s.hasPort g then s
  else if blk % 20 = 0 then
    if mis then countMis g 1 s
    else if byteField b 0 1 != 0x55 then windowBabble g (2#2, w) s
    else if !blockOk 0x55 b then countBlk g 1 s
    else alertIn g blk b s
  else if byteField b 0 1 = 0x55 ∧ blockOk 0x55 b then alertAstray g blk mis s
  else if mis then countMis g 1 s else countBlk g 1 s

def execAlertReceived (g blk : Nat) (mis : Bool) (w : W64) (s : State) : Res := .next (alertReceived g blk mis w s)

end Sys2Proof.Machine
end

