-- ==== Sys2Proof/Machine/Tenant.lean ====
section
/-!
DEFINITION. Tenant: pools and shares, function-level reset, freeze and thaw, SR-IOV enable
(spec/11_tenants_isolation_migration.md, R367-R397).
-/
namespace Sys2Proof.Machine

/-! ## Pools and shares (R373-R376) -/

/-- A countable share of a tenant (R374). -/
inductive Cell where
  | vectors | credits | nodes
  | granules (t : Nat) | rules (t : Nat) | channels (t : Nat)
  | budUp (g : Nat) | budDn (g : Nat)
deriving DecidableEq, Repr

def Share.get (sh : Share) : Cell → Nat
  | .vectors => sh.vectors
  | .credits => sh.credits
  | .nodes => sh.nodes
  | .granules t => nget 0 sh.granules t
  | .rules t => nget 0 sh.rules t
  | .channels t => nget 0 sh.channels t
  | .budUp g => nget 0 sh.budUp g
  | .budDn g => nget 0 sh.budDn g

def Share.set (sh : Share) (c : Cell) (v : Nat) : Share :=
  match c with
  | .vectors => { sh with vectors := v }
  | .credits => { sh with credits := v }
  | .nodes => { sh with nodes := v }
  | .granules t => { sh with granules := nput 0 sh.granules t v }
  | .rules t => { sh with rules := nput 0 sh.rules t v }
  | .channels t => { sh with channels := nput 0 sh.channels t v }
  | .budUp g => { sh with budUp := nput 0 sh.budUp g v }
  | .budDn g => { sh with budDn := nput 0 sh.budDn g v }

/-- Bit offset of a share's field in the share record (R375). -/
def Cell.field : Cell → Nat
  | .vectors => 24
  | .credits => 32
  | .nodes => 64
  | .granules t => 8 * (64 + 16 * t)
  | .rules t => 8 * (68 + 16 * t)
  | .channels t => 8 * (72 + 16 * t)
  | .budUp g => 8 * (192 + 8 * g)
  | .budDn g => 8 * (196 + 8 * g)

/-- Pool of a share (R373). -/
def Cell.pool : Cell → Nat
  | .budUp _ => 1
  | .budDn _ => 2
  | .granules _ => 3
  | .rules _ => 4
  | .channels _ => 5
  | .nodes => 6
  | .credits => 7
  | .vectors => 8

/-- Every share of a record, in the record's order: package, tiles, ports. -/
def allCells : List Cell :=
  [.vectors, .credits, .nodes] ++ (List.range 8).flatMap (fun t => [.granules t, .rules t, .channels t]) ++
  (List.range 128).flatMap (fun g => [.budUp g, .budDn g])

/-- The share's tile or port is populated. -/
def State.hasCell (s : State) : Cell → Bool
  | .granules t => s.hasTile t
  | .rules t => s.hasTile t
  | .channels t => s.hasTile t
  | .budUp g => s.hasPort g
  | .budDn g => s.hasPort g
  | _ => true

/-- Size of the pool a share is taken from (R373). -/
def State.poolSize (s : State) (c : Cell) : Nat :=
  if !s.hasCell c then 0 else
  match c.pool with
  | 1 => s.ceilUp
  | 2 => s.ceilDn
  | 3 => 16384
  | 4 => 65536
  | 5 => 32
  | 6 => 65536 * s.tiles
  | 7 => 65536
  | _ => 8192

/-- What a function holds of a share: until a change commits, the larger of the old and the new (R377, R379). -/
def Fn.holds (x : Fn) (c : Cell) : Nat :=
  if x.st = .none then 0 else max (x.share.get c) (match x.shareNew with | some sh => sh.get c | none => 0)

/-- Units of a share's pool not granted (R395 TPL_POOLFREE). -/
def State.poolFree (s : State) (c : Cell) : Nat :=
  let own := match c with | .granules t => s.granulesOwned 0 t | _ => 0
  s.poolSize c - own - (s.fns.filter (fun x => x.1 != 0)).foldl (fun a x => a + x.2.holds c) 0

/-- The save size W of a share (R387). -/
def Share.saveSize (sh : Share) : Nat :=
  let sum := fun (m : NMap Nat) => m.foldl (fun a x => a + x.2) 0
  65536 + 544 * sum sh.granules + 64 * sum sh.rules + 32 * sh.nodes +
    8 * sumTo 128 (fun g => min 4092 ((nget 0 sh.budUp g + nget 0 sh.budDn g + 1) / 2))

/-- The clamp of one share, with its record. -/
def clampCell (c : Cell) (v : Nat) (a : Share × List ListRec) : Share × List ListRec :=
  let old := a.1.get c
  if old = v then a else (a.1.set c v, a.2 ++ [clampItem 0xFFFFFFFE c.field old v])

/-- The record's fields before any clamp (R375). -/
def parseShare (d : List Byte) : Share :=
  let r := allCells.foldl (fun (sh : Share) c =>
    let b := c.field / 8
    match c with
    | .vectors => sh.set c (byteField d b 1 % 32)
    | .credits => sh.set c (byteField d b 4 % 2 ^ 13)
    | .nodes => sh.set c (byteField d b 4 % 2 ^ 17)
    | .granules _ => sh.set c (byteField d b 4 % 2 ^ 15)
    | .rules _ => sh.set c (byteField d b 4 % 2 ^ 17)
    | .channels _ => sh.set c (byteField d b 4 % 32)
    | .budUp _ => sh.set c (byteField d b 4 % 2 ^ 23)
    | .budDn _ => sh.set c (byteField d b 4 % 2 ^ 23)) {}
  { r with prio := byteField d 2 1 % 16, shrinkWait := byteField d 12 2, motion := bit (byteField d 14 1) 0 }

/-- Range of a share, CHANNELS' total aside (R374, R376). -/
def State.cellRange (s : State) (c : Cell) (v : Nat) : Nat :=
  if !s.hasCell c then 0 else
  match c with
  | .vectors => min v 16
  | .credits => if v = 0 then 1 else min v 4096
  | .nodes => min v 65536
  | .granules _ => min v 16384
  | .rules _ => min v 65536
  | .channels _ => v
  | _ => min v (s.poolSize c)

/-- Pass 1 of R376. -/
def State.sharePass1 (s : State) (sh : Share) : Share × List ListRec :=
  let one := fun (field orig v : Nat) => if orig = v then [] else [clampItem 0xFFFFFFFE field orig v]
  let p := if sh.prio < 4 then 4 else min sh.prio 11
  let w := if sh.shrinkWait = 0 then 1000 else min sh.shrinkWait 60000
  let a0 : Share × List ListRec := ({ sh with prio := p, shrinkWait := w }, one 16 sh.prio p ++ one 96 sh.shrinkWait w)
  let a1 := allCells.foldl (fun a c => clampCell c (s.cellRange c (a.1.get c)) a) a0
  -- the total of CHANNELS is cut from the highest tile down
  [7, 6, 5, 4, 3, 2, 1, 0].foldl (fun a t =>
    let total := sumTo 8 (fun i => a.1.get (.channels i))
    clampCell (.channels t) (a.1.get (.channels t) - (total - 16)) a) a1

/-- Views of a function from the highest number down that a cut of tile `t` may withdraw (R379). -/
def State.cutViews (s : State) (t : Nat) : List (Nat × Nat) → Nat
  | [] => 0
  | v :: r => if v.2 / 32 == t && (s.chan v.2).st == .idle && !(s.chan v.2).arm then s.cutViews t r + 1 else 0

/-- Views from the highest number down. -/
def State.viewsDown (s : State) (f : Nat) : List (Nat × Nat) := (sortBy (·.1) (s.fn f).bulk.views).reverse

/-- One above the highest enabled local number of a function on a tile. -/
def State.ruleFloor (s : State) (f t : Nat) : Nat :=
  (s.rules.filter (fun x => ruleTile x.1 == t && ruleFn x.1 == f)).foldl (fun a x => max a (ruleLocal x.1 + 1)) 0

/-- The floor of a share under TENANT_SHARE (R379). -/
def State.floor (s : State) (f : Nat) : Cell → Nat
  | .granules t => s.granulesOwned f t
  | .rules t => s.ruleFloor f t
  | .channels t => ((s.fn f).bulk.views.filter (fun v => v.2 / 32 == t)).length - s.cutViews t (s.viewsDown f)
  | .nodes => s.leased f
  | .credits => 1
  | _ => 0

/-- Pass 4 of R376: rule quotas, point quotas, NODES, then budgets, until the save size fits. -/
def saveFits (floor : Cell → Nat) (a : Share × List ListRec) : Share × List ListRec :=
  let tiles := [7, 6, 5, 4, 3, 2, 1, 0]
  let cut := fun (unit : Nat) (c : Cell) (a : Share × List ListRec) =>
    let excess := a.1.saveSize - 4194304
    let v := a.1.get c
    clampCell c (max (min v (floor c)) (v - (excess + unit - 1) / unit)) a
  let a1 := tiles.foldl (fun a t => cut 64 (.rules t) a) a
  let a2 := tiles.foldl (fun a t => cut 544 (.granules t) a) a1
  let a3 := cut 32 .nodes a2
  (List.range 128).reverse.foldl (fun a g =>
    let excess := a.1.saveSize - 4194304
    if excess = 0 then a else
    let u := a.1.get (.budUp g)
    let d := a.1.get (.budDn g)
    let e := min 4092 ((u + d + 1) / 2)
    let sum := 2 * (e - (excess + 7) / 8)
    if u + d ≤ sum then a
    else
      let d2 := min d sum
      clampCell (.budDn g) d2 (clampCell (.budUp g) (min u (sum - d2)) a)) a3

/-- The four passes of R376 over the bytes of a share record, with the clamps. -/
def State.clampShare (s : State) (f : Nat) (create : Bool) (d : List Byte) : Share × List ListRec :=
  let fl := fun c => if create then (if c = .credits then 1 else 0) else s.floor f c
  let a1 := s.sharePass1 (parseShare d)
  let a2 := if create then a1 else allCells.foldl (fun a c => clampCell c (max (a.1.get c) (fl c)) a) a1
  let a3 := allCells.foldl (fun a c => clampCell c (min (a.1.get c) ((s.fn f).holds c + s.poolFree c)) a) a2
  saveFits fl a3

/-! ## Shares in force (R379) -/

/-- A free channel of a tile, the lowest: no function has a view of it. -/
def State.freeChan (s : State) (t : Nat) : Option Nat :=
  (firstBelow 32 (fun c => (s.chanOwner (t * 32 + c)).isNone)).map (t * 32 + ·)

/-- New views above the highest view number, until the tile's share is met. -/
def addViews (f t : Nat) : Nat → State → State
  | 0, s => s
  | k + 1, s =>
    let vs := (s.fn f).bulk.views
    if (vs.filter (fun v => v.2 / 32 == t)).length ≥ nget 0 (s.fn f).share.channels t then s
    else match s.freeChan t with
      | none => s
      | some c =>
        let v := vs.foldl (fun a x => max a (x.1 + 1)) 0
        addViews f t k (s.modFn f (fun x => { x with bulk := { x.bulk with views := x.bulk.views ++ [(v, c)] } }))

/-- Views of a tile withdrawn from the highest number down, until the tile's share is met or a view stops it. -/
def cutTileViews (f t : Nat) : Nat → State → State
  | 0, s => s
  | k + 1, s =>
    let vs := (s.fn f).bulk.views
    if (vs.filter (fun v => v.2 / 32 == t)).length ≤ nget 0 (s.fn f).share.channels t then s
    else match s.viewsDown f with
      | [] => s
      | v :: _ =>
        if s.cutViews t [v] = 1 then
          cutTileViews f t k ((s.modFn f (fun x =>
            { x with bulk := { x.bulk with views := x.bulk.views.filter (· != v) } })).modChan v.2 (fun _ => {}))
        else s

/-- The views of a function follow its CHANNELS share, tile by tile. -/
def fitViews (f : Nat) (s : State) : State :=
  let s1 := [7, 6, 5, 4, 3, 2, 1, 0].foldl (fun s t => cutTileViews f t 16 s) s
  (List.range 8).foldl (fun s t => addViews f t 16 s) s1

/-- Vectors at or above the count are cleared: IRQEN of rings, IMGIRQ, and the entries of FIB_VECMAP (R379, R435). -/
def fitVectors (f : Nat) (s : State) : State :=
  let n := s.vectors f
  let ring := fun (kind q : Nat) (s : State) =>
    let r := s.ring f kind q
    if r.irqen && decide (r.vector ≥ n) then
      logClamp (if kind = 3 then pBMC else pDBL) f (cfgOff kind q) 8 (s.modRing f kind q (fun r => { r with irqen := false }))
    else s
  let s1 := ((List.range 8).map (fun q => (1, q)) ++ [(2, 0), (2, 1), (3, 0)]).foldl (fun s (k : Nat × Nat) => ring k.1 k.2 s) s
  let s2 := s1.modImage f (fun m => { m with desc := m.desc.map (fun (d : ImageDesc) =>
    if d.imgirq && decide (d.imgvec ≥ n) then { d with imgirq := false } else d) })
  (List.range 64).foldl (fun s i =>
    let w := nget 0 (s.fn f).vecmap (i / 8)
    let v := bits w (4 * (i % 8)) 4
    if v ≥ n ∧ v ≠ n - 1 then
      logClamp pFIB f (0x060 + 4 * (i / 8)) (4 * (i % 8))
        (s.modFn f (fun x => { x with vecmap := nput 0 x.vecmap (i / 8) (setBits w (4 * (i % 8)) 4 (n - 1)) }))
    else s) s2

/-- The shares of a TENANT_SHARE take effect (R379, R405, R213). -/
def applyShare (f : Nat) (sh : Share) (s : State) : State :=
  let old := (s.fn f).share
  let s1 := s.modFn f (fun x => { x with share := sh, shareNew := none, motionDeclared := x.motionDeclared && sh.motion })
  let s2 := (List.range 128).foldl (fun s g =>
    let u := nget 0 sh.budUp g
    let d := nget 0 sh.budDn g
    let u0 := nget 0 old.budUp g
    let d0 := nget 0 old.budDn g
    if u = u0 ∧ d = d0 then s else budgetApplies f g (decide (u > u0) || decide (d > d0)) sh.shrinkWait s) s1
  fitVectors f (fitViews f s2)

/-! ## Commands on tenants (R372) -/

/-- A function that is NONE: the manager's controls and its configuration space stay. -/
def Fn.gone (x : Fn) : Fn :=
  { dmaBlock := x.dmaBlock, freezeMs := x.freezeMs, bme := x.bme, dstate := x.dstate, msixEn := x.msixEn,
    fnMask := x.fnMask }

/-- A TENANT_* operation of the same function is pending. -/
def LongOp.tenant : LongOp → Option Nat
  | .tenantCreate f _ => some f
  | .tenantShare f _ => some f
  | .tenantFreeze f => some f
  | .tenantThaw f => some f
  | .tenantSave f _ => some f
  | .tenantRestore f _ => some f
  | .tenantDestroy f => some f
  | _ => none

/-- The handle of the manager, not yet ended, for an operation that meets `p`. -/
def State.mgrOp (s : State) (p : LongOp → Bool) : Option Handle :=
  (s.fn 0).handles.find? (fun h => !h.done && p h.op)

def State.tenantOp (s : State) (t : Nat) : Option Handle := s.mgrOp (fun o => o.tenant == some t)

/-- A TENANT_* command: its function, the pending operation and the state NONE are checked (R372). -/
def onTenant (x : Entry) (fresh : Bool) (k : Nat → State → State) (s : State) : State :=
  let t := x.target % 1024
  if t = 0 ∨ 512 < t ∨ s.numVfs < t then finish 0 x false 0 0x06 5 [] s
  else match s.tenantOp t with
    | some h => finish 0 x false 0 0x08 (h.seq % 256) [] s
    | none =>
      let st := (s.fn t).st
      if fresh then (if st = .none then k t s else finish 0 x false 0 0x66 0 [] s)
      else if st = .none then finish 0 x false 0 0x06 5 [] s
      else k t s

/-- Read a structure of a long operation, or fail it with 0x22. -/
def readFor (f seq addr len : Nat) (s : State) : State :=
  let r := dmaRead f addr len s
  if r.2 then r.1 else failHandle f seq 0x22 0 r.1

/-- TENANT_CREATE: state CREATING, the share record is read (R371, R376, R377). -/
def tenantCreate (f : Nat) (x : Entry) (s : State) : State :=
  onTenant x true (fun t s =>
    if x.addr % 64 ≠ 0 then finish f x false 0 0x09 2 [] s
    else startLong f x (.tenantCreate t none) false [] (fun seq s =>
      readFor f seq x.addr 1216 (s.modFn t (fun y => { y with st := .creating }))) s) s

def execTenantCreate (f e : Nat) (s : State) : Res := .next (cmd f e 0x30 (tenantCreate f) s)

/-- The share record of a TENANT_CREATE has arrived: its shares are taken (R376, R377). -/
def createDone (seq t : Nat) (d : List Byte) (s : State) : State :=
  let none_ := fun (s : State) => s.modFn t Fn.gone
  if byteField d 0 2 ≠ 1 then failHandle 0 seq 0x09 1 (none_ s)
  else if s.poolFree .credits = 0 then failHandle 0 seq 0x67 7 (none_ s)
  else
    let c := s.clampShare t true d
    ((listMore 0 seq c.2 s).modFn t (fun x => { x with share := c.1 })).modHandle 0 seq
      (fun h => { h with ready := true, op := .tenantCreate t (some c.1) })

/-- TENANT_SHARE: the share record is read (R379). -/
def tenantShare (f : Nat) (x : Entry) (s : State) : State :=
  onTenant x false (fun t s =>
    if x.addr % 64 ≠ 0 then finish f x false 0 0x09 2 [] s
    else startLong f x (.tenantShare t none) false [] (fun seq s => readFor f seq x.addr 1216 s) s) s

def execTenantShare (f e : Nat) (s : State) : Res := .next (cmd f e 0x31 (tenantShare f) s)

/-- The share record of a TENANT_SHARE has arrived: the new shares are recorded at once (R376, R379). -/
def shareDone (seq t : Nat) (d : List Byte) (s : State) : State :=
  if byteField d 0 2 ≠ 1 then failHandle 0 seq 0x09 1 s
  else
    let c := s.clampShare t false d
    ((listMore 0 seq c.2 s).modFn t (fun x => { x with shareNew := some c.1 })).modHandle 0 seq
      (fun h => { h with ready := true, op := .tenantShare t (some c.1) })

/-- A function's freeze is accepted (R384, R432). -/
def freezeFn (t : Nat) (s : State) : State :=
  bulkFreeze t (s.modFn t (fun x => { x with st := .freezing, fast := x.fast.hold, norm := x.norm.hold }))

/-- TENANT_FREEZE (R372, R384); a function in reset answers with the reset's status. -/
def tenantFreeze (f : Nat) (x : Entry) (s : State) : State :=
  onTenant x false (fun t s =>
    let st := (s.fn t).st
    if st = .frozen then finish f x false 0 0 0 [] s
    else if st ≠ .active then finish f x false 0 0x0B 3 [] s
    else startLong f x (.tenantFreeze t) true [] (fun _ s => freezeFn t s) s) s

def execTenantFreeze (f e : Nat) (s : State) : Res := .next (cmd f e 0x32 (tenantFreeze f) s)

/-- TENANT_THAW: commits at the next frame boundary (R372, R386). -/
def tenantThaw (f : Nat) (x : Entry) (s : State) : State :=
  onTenant x false (fun t s =>
    let st := (s.fn t).st
    if st = .active then finish f x false 0 0 0 [] s
    else if st ≠ .frozen then finish f x false 0 0x0B 3 [] s
    else startLong f x (.tenantThaw t) true [] (fun _ s => s) s) s

def execTenantThaw (f e : Nat) (s : State) : Res := .next (cmd f e 0x33 (tenantThaw f) s)

/-- The commit of a thaw (R386, R432). -/
def thawFn (t : Nat) (s : State) : State :=
  let s1 := s.modFn t (fun x =>
    { x with st := .active, thawTick := s.time.tick, fast := x.fast.release, norm := x.norm.release
             image := { x.image with fullNext := true } })
  -- a restored function's transfers enter at the first compile of each port after its first thaw (R391)
  let gs := if (s.fn t).restored && (s.fn t).thawTick == 0 then (s.lists.filter (fun x => x.1 / 128 == t && x.2.gen.isSome)).map (·.1 % 128) else []
  flushAll t (gs.foldl (fun s g => needCompile g s) s1)

/-! ## Function-level reset (R382, R383, R394, R433) -/

/-- Tiles on which a function has work of its own. -/
def State.tilesOf (s : State) (f : Nat) : List Nat :=
  (List.range s.tiles).filter (fun t =>
    s.granulesOwned f t != 0 || s.rules.any (fun x => ruleTile x.1 == t && ruleFn x.1 == f) ||
    s.lists.any (fun x => x.1 / 128 == f && x.1 % 128 / 16 == t) ||
    s.plans.any (fun p => p.1 / 16 == t && p.2.run.entries.any (·.func == f)))

/-- A plan at the reset of a function: its generations leave the compiles, its entries are to be muted, and a transfer
that only the Accord in the idle buffer has never runs (R382 item 7, R383). -/
def PlanSt.resetFn (f : Nat) (p : PlanSt) : PlanSt :=
  let due := fun (e : AEntry) => if e.func = f ∧ !e.mute then { e with muteAfter := true, sentSince := false } else e
  { p with run := { p.run with entries := p.run.entries.map due },
           idle := { p.idle with
             entries := p.idle.entries.map (fun e =>
               if p.run.entries.any e.isOf then due e else if e.func = f then e.muted else e)
             covers := p.idle.covers.filter (·.func != f) },
           cause := p.cause || p.idle.entries.any (fun e => e.func == f && !p.run.entries.any e.isOf),
           pendingGens := p.pendingGens.filter (·.1 != f), taken := p.taken.filter (·.1 != f),
           saved := p.saved.filter (·.1 != f) }

/-- Points of the granules a function owns. -/
def State.pointsOf (s : State) (f : Nat) : List Nat :=
  (s.owners.filter (fun x => x.2 == f + 1)).flatMap (fun x => (List.range 64).map (64 * x.1 + ·))

/-- Grants given and received end; readers' windows lose the points (R244, R382 item 5). -/
def dropGrants (f : Nat) (s : State) : State :=
  let s1 := { s with grants := s.grants.filter (fun g => g.owner != f && g.reader != f) }
  (s.grants.filter (fun g => g.owner == f && g.reader != f)).foldl (fun s2 g =>
    zeroRights g.reader (((List.range g.count).map (g.first + ·)).filter
      (fun p => s.mayRead g.reader p && !s1.mayRead g.reader p)) s2) s1

/-- The tasks of a function that are not running end; a running one ends at its step boundary (R382 item 3, R417). -/
def endTasks (f : Nat) (s : State) : State :=
  (List.range s.tiles).foldl (fun s t =>
    let s1 := s.modTile t (fun x => { x with ctxq := x.ctxq.filter (·.fn != f) })
    ((s1.tl t).tasks.filter (fun k => k.fn == f && (match k.st with | .running _ => false | _ => true))).foldl
      (fun s k => freeTask t k.ctx s) s1) s

/-- The tenant's part of the state once a reset is initiated: shares, tenancy and the manager's controls stay. -/
def Fn.wiped (x : Fn) (st : TenSt) : Fn :=
  { st, share := x.share, shareNew := x.shareNew, purging := x.purging, dmaBlock := x.dmaBlock, freezeMs := x.freezeMs,
    dmaEventSent := x.dmaEventSent, resetCause := x.resetCause, resetTick := x.resetTick,
    bulk := { views := x.bulk.views } }

/-- What a reset of `t` changes in the tables of the package: its granules are kept for it, its entries in the plans are
muted, its lists and its held events go (R382). -/
def resetTables (t : Nat) (s : State) : State :=
  { s with
    owners := nmapAll 0 (fun (_ : Nat) (o : Nat) => if o = t + 1 then t + 1025 else o) s.owners
    plans := nmapAll {} (fun (_ : Nat) (p : PlanSt) => p.resetFn t) s.plans
    lists := s.lists.filter (fun x => x.1 / 128 != t)
    evHeld := s.evHeld.filter (fun x => x.1 != t) }

/-- A reset of tenant `t` is initiated, with cause 1 FLR, 2 VF disable or 3 destroy (R382). -/
def resetFn (t cause : Nat) (s : State) : State :=
  -- operations of the manager on it that the reset ends (R394 cases 1 and 4)
  let s0 := match s.mgrOp (fun o => o == .tenantFreeze t || o == .tenantThaw t || (match o with | .tenantSave u _ => u == t | _ => false)) with
    | some h => failHandle 0 h.seq 0x0B 3 s
    | none => s
  let wake := (s0.tilesOf t).foldl (fun s u => wakeSource u 4 0 s) s0
  let s1 := endTasks t (bulkReset t (bridgeReset t (dropGrants t (dropRules t wake))))
  let outs := (s1.pointsOf t).filter (fun p => (s1.point p).kind == 2)
  let s2 := outs.foldl (fun s p => lockPoint .reset p s) s1
  let s4 := (resetTables t s2).modFn t (fun x => { x.wiped .resetting with purging := true, resetCause := cause, resetTick := s.time.tick })
  emitMgr 0x0B 1 [(16, 2, t), (18, 1, cause), (20, 8, s.time.tick)] s4

/-- The function can be reset: it is created and in or past service. -/
def State.resettable (s : State) (t : Nat) : Bool :=
  t != 0 && decide (t ≤ 512) && ((s.fn t).st == .active || (s.fn t).st == .freezing || (s.fn t).st == .frozen || (s.fn t).st == .resetting)

/-- FLR_INITIATE (R382). -/
def execFlrInitiate (f : Nat) (s : State) : Res :=
  .next (if s.ready && s.reach f && s.resettable f then resetFn f 1 s else s)

/-- Words of a function's own pages return to reset. -/
def clearPages (t : Nat) (s : State) : State :=
  { s with regs := s.regs.filter (fun (x : Nat × W64) => !(decide (0x30 ≤ x.1 / 4096 / 1024) && x.1 / 4096 % 1024 == t)) }

/-- A created function ends: its shares return, its nodes are leased to the manager alone (R393). -/
def destroyDone (t : Nat) (s : State) : State :=
  let s1 := (s.nodes.filter (fun x => x.2.lessee == t)).foldl
    (fun s (x : Nat × Node) => changeLease (x.1 / 4096) (x.1 % 4096) 0 [] s) s
  let s2 : State := { s1 with nodes := nmapAll {} (fun (_ : Nat) (x : Node) =>
    if x.wantWriter = some t then { x with wantWriter := none } else x) s1.nodes }
  let s3 := (clearPages t s2).modFn t Fn.gone
  match s.mgrOp (· == .tenantDestroy t) with
  | some h => endHandle 0 h.seq .committed 0 0 s.time.tick s3
  | none => s3

/-- Resets that are complete: no muted entry is left and the service point is past (R382 item 9, R393). -/
def settleResets (s : State) : State :=
  let done : List (Nat × TenSt) :=
    (s.fns.filter (fun x => x.2.purging && x.2.st != .resetting && s.noMuted x.1)).map (fun x => (x.1, x.2.st))
  done.foldl (fun s (x : Nat × TenSt) => if x.2 = .destroying then destroyDone x.1 s else s) (finishPurges s)

/-- The reset's work on the engines, the bridge and the bulk mover has stopped (R382 item 8). -/
def State.resetQuiet (s : State) (t : Nat) : Bool :=
  !((List.range s.tiles).any (fun u => (s.tl u).tasks.any (fun k => k.fn == t))) &&
  !s.bridge.any (fun a => a.fn == t) && !(s.chansOf t).any (fun k => (s.chan k).busy)

/-- TENANT_SERVICE_POINT: every page at its reset value, the state ACTIVE; DESTROYING for a destroy not aborted
(R382 item 8, R393). -/
def servicePoint (t : Nat) (s : State) : State :=
  if (s.fn t).st = .resetting ∧ s.resetQuiet t then
    let d := s.mgrOp (· == .tenantDestroy t)
    let s1 := (clearPages t s).modFn t (fun x => x.wiped (if d.isSome then .destroying else .active))
    match d with
    | some h => s1.modHandle 0 h.seq (fun h => { h with word := .committed })
    | none => s1
  else s

def execTenantServicePoint (t : Nat) (s : State) : Res := .next (servicePoint t s)

/-- TENANT_DESTROY (R393). -/
def tenantDestroy (f : Nat) (x : Entry) (s : State) : State :=
  onTenant x false (fun t s => startLong f x (.tenantDestroy t) true [] (fun _ s => resetFn t 3 s) s) s

def execTenantDestroy (f e : Nat) (s : State) : Res := .next (cmd f e 0x36 (tenantDestroy f) s)

/-! ## SR-IOV (R368-R370) -/

/-- VF_ENABLE_SET: without ARI no function is enabled and NOARI is set (R368). -/
def execVfEnableSet (s : State) : Res :=
  .next (if s.ari then { s with vfEnable := true } else setErr pTPL 0 1 s)

/-- An operation that creates or restores a function ends with it (R394 case 6). -/
def cancelCreate (t : Nat) (s : State) : State :=
  match s.tenantOp t with
  | some h => failHandle 0 h.seq 0x0B 3 (s.modFn t Fn.gone)
  | none => s.modFn t Fn.gone

/-- VF_ENABLE_CLEAR: every created tenant is reset (R370). -/
def vfEnableClear (s : State) : State :=
  if !s.vfEnable then s
  else
    (s.fns.map (·.1)).foldl (fun s t =>
      if (s.fn t).st = .creating ∨ (s.fn t).st = .restoring then cancelCreate t s
      else if s.resettable t then resetFn t 2 s else s) { s with vfEnable := false }

def execVfEnableClear (s : State) : Res := .next (vfEnableClear s)

end Sys2Proof.Machine
end

