-- ==== Sys2Proof/Machine/Time.lean ====
section
/-!
DEFINITION. Time: the tick and frame configuration, plant time, IEEE 1588 and tile alignment
(spec/02_tick_frame_time.md).
-/
namespace Sys2Proof.Machine

/-! ## Plant time at a tick boundary (R72-R77) -/

/-- The written MODE comes into force; SYNC clears, and free-running mode sets RATE to 0 (R74, R77). -/
def TimeSt.takeMode (t : TimeSt) : TimeSt :=
  if t.modeW = t.mode then t
  else
    let t := { t with sync := false, syncRun := 0 }
    let t := if t.mode = 1 then
      { t with master := none, foreign := [], syncWait := none, delayReq := none, delayWait := none } else t
    let t := { t with mode := t.modeW }
    if t.modeW = 0 then { t with rate := 0, rateW := none } else t

/-- A RATE set since the last boundary comes into force (R72). -/
def TimeSt.takeRate (t : TimeSt) : TimeSt :=
  match t.rateW with
  | some r => { t with rate := r, rateW := none }
  | none => t

/-- `k` ticks' worth of plant time, `L * 1000 * (1 + RATE * 10^-12)` ns each, fractions carried (R72). -/
def TimeSt.advance (k : Nat) (t : TimeSt) : TimeSt :=
  let tot := ((k * 2 ^ t.ticklen * 1000 : Nat) : Int) * (1000000000000 + t.rate) + (t.plantFrac : Int)
  { t with plant := (t.plant + (tot / 1000000000000).toNat) % 2 ^ 64, plantFrac := (tot % 1000000000000).toNat }

/-- The time-discontinuity event: plant time before and after, and the source (R76, R318). -/
def discontinuity (before after source sat : Nat) (extra : List (List Byte)) : Event :=
  { cls := 9, kind := 2, recs := [recData [(16, 8, before), (24, 1, source), (25, 1, sat)],
      recData [(16, 8, after)]] ++ extra }

/-- The step due at a boundary, after the advance (R72, R75, R76). -/
def plantStep (s : State) : State :=
  match s.time.step with
  | none => s
  | some d =>
    let before := s.time.plant
    let after := ofSigned 64 ((before : Int) + d)
    let s1 := s.modTime (fun t => { t with step := none, plant := after })
    if d = 0 then s1 else emit 0 (discontinuity before after 0 0 []) s1

/-- The advance over the tick that closes, at that tick's length. -/
def TimeSt.advanceOne (t : TimeSt) : TimeSt :=
  match t.lastLen with
  | some l => { TimeSt.advance 1 { t with ticklen := l } with ticklen := t.ticklen, lastLen := none }
  | none => t.advance 1

/-- Plant time over one tick boundary (R72). -/
def plantTick (s : State) : State :=
  plantStep (s.modTime (fun t => (t.takeMode.takeRate).advanceOne))

/-! ## Configuration writes -/

/-- A write of TIM_TIMECFG (R58, R59, R88): stored and pending before the lock, discarded with LOCKWR after it. -/
def timecfgWrite (v : Nat) (s : State) : State :=
  if !s.ready then s
  else if s.time.locked then setErr pTIM 0 31 s
  else
    let f := bits v 4 5
    let fc := if f < 4 then 4 else if f > 16 then 16 else f
    let s1 := if fc = f then s else logClamp pTIM 0 0x040 4 s
    s1.modTime (fun t => { t with ticklenW := bits v 0 2, fllog2W := fc, pending := true })

def execTimecfgWrite (v : W32) (s : State) : Res := .next (mmio 0 0 (fun s => timecfgWrite v.toNat s) s)

/-- Largest SAMPLEOFF at tick length code `l` (R87). -/
def sampleMax (l : Nat) : Nat := 2 ^ l * 1000 - 1

/-- A write of TIM_SAMPLEOFF: clamped, in force from the next frame boundary (R65, R87). -/
def sampleoffWrite (v : Nat) (s : State) : State :=
  if !s.ready then s
  else
    let x := bits v 0 13
    let m := sampleMax s.time.ticklen
    let s1 := if x > m then logClamp pTIM 0 0x050 0 s else s
    s1.modTime (fun t => { t with sampleOffW := min x m })

def execSampleoffWrite (v : W32) (s : State) : Res := .next (mmio 0 0 (fun s => sampleoffWrite v.toNat s) s)

/-- A write of TIM_PTCTL (R77, R89): MODE takes effect at the next tick boundary. -/
def ptctlWrite (v : Nat) (s : State) : State :=
  if !s.ready then s
  else
    let m := bits v 0 2
    let mc := if m = 3 then 0 else m
    let s1 := if m = 3 then logClamp pTIM 0 0x064 0 s else s
    (s1.setReg 0 pTIM 0 0x064 (mc + bits v 8 10 * 256)).modTime (fun t => { t with modeW := mc })

def execPtctlWrite (v : W32) (s : State) : Res := .next (mmio 0 0 (fun s => ptctlWrite v.toNat s) s)

/-- A write of TIM_PTRATE (R74, R75): RATE from the next boundary in manager mode, else MODEWR. -/
def ptrateWrite (v : Nat) (s : State) : State :=
  if !s.ready then s
  else if s.time.mode ≠ 2 then setErr pTIM 0 0 s
  else
    let r := toSigned 32 v
    let rc := clampInt (-500000000) 500000000 r
    let s1 := if rc = r then s else logClamp pTIM 0 0x070 0 s
    s1.modTime (fun t => { t with rateW := some rc })

def execPtrateWrite (v : W32) (s : State) : Res := .next (mmio 0 0 (fun s => ptrateWrite v.toNat s) s)

/-- A write of TIM_PTSTEP (R74, R75): one 64-bit access in manager mode adds to the step of the next boundary
and sets SYNC; a 32-bit write is discarded with PARTWR. -/
def ptstepWrite (v : Nat) (whole : Bool) (s : State) : State :=
  if !s.ready then s
  else if s.time.mode ≠ 2 then setErr pTIM 0 0 s
  else if !whole then setErr pTIM 0 30 s
  else s.modTime (fun t =>
    { t with
      step := some (clampInt (-(2 ^ 63)) (2 ^ 63 - 1) ((t.step.getD 0) + toSigned 64 v))
      sync := true, wakeUnsync := false })

def execPtstepWrite (v : W64) (whole : Bool) (s : State) : Res := .next (mmio 0 0 (fun s => ptstepWrite v.toNat whole s) s)

/-! ## IEEE 1588 (R78-R80) -/

/-- RXLAT and TXLAT of TIM_PTPLAT (R87). -/
def State.rxLat (s : State) : Nat := bits (s.reg 0 pTIM 0 0x074) 0 12
def State.txLat (s : State) : Nat := bits (s.reg 0 pTIM 0 0x074) 16 12
/-- DOMAIN, DELAYMECH of TIM_PTCTL (R89). -/
def State.ptpDomain (s : State) : Nat := bits (s.reg 0 pTIM 0 0x064) 8 8
def State.ptpPeer (s : State) : Bool := bit (s.reg 0 pTIM 0 0x064) 16

/-- The link of the management port is up at 1000 Mb/s full duplex (R558). -/
def MgtSt.served (m : MgtSt) : Bool := m.up && m.speed == 2 && m.duplex
/-- The MAC is enabled: CTL.ENABLE, which the strap MGTOFF holds at 0 (R541, R554). -/
def State.mgtEnabled (s : State) : Bool := bit (s.reg 1 pMGT 0 0x00C) 0 && !bit s.pins.straps 2
/-- The management port sends and receives; in Standby it is dark (R469, R558). -/
def State.mgtUp (s : State) : Bool :=
  s.ready && s.mgtEnabled && s.mgt.served && ((s.tl 0).pow == .run || (s.tl 0).pow == .doze || (s.tl 0).pow == .drying)
/-- A family is enabled by MGT_CFG (R560). -/
def State.familyOn (s : State) (v6 : Bool) : Bool := bit (s.sreg 4 pMGT 0 0x040) (b2n v6)

/-- The management port serves IEEE 1588: the mode in force is 1, the port is up, the family that IPV6 selects is
enabled (R558). -/
def State.ptpOn (s : State) : Bool :=
  s.time.mode == 1 && s.mgtUp && s.familyOn (bit (s.reg 0 pTIM 0 0x064) 17)

/-- The servo on one offset measurement, in ns (R79): a step at 1 ms or more, else a free RATE within 500 ppm;
sixteen Sync offsets below 1 us set SYNC. -/
def servo (off : Int) (s : State) : State :=
  let s1 := s.modTime (fun t => { t with ptOffset := clampInt (-2147483647) 2147483647 off })
  if off.natAbs ≥ 1000000 then
    s1.modTime (fun t => { t with sync := false, syncRun := 0, step := some (clampInt (-(2 ^ 63)) (2 ^ 63 - 1)
      (t.step.getD 0 - off)) })
  else
    let r : Int := ((s1.freeVal % 1000000001 : Nat) : Int) - 500000000
    s1.draw.modTime (fun t =>
      let n := if off.natAbs < 1000 then t.syncRun + 1 else 0
      let t := { t with rateW := some r, syncRun := n }
      if n ≥ 16 then { t with sync := true, wakeUnsync := false } else t)

/-- The message comes from the selected master of the domain (R78). -/
def State.fromMaster (s : State) (domain source : Nat) : Bool :=
  s.ptpOn && domain == s.ptpDomain && s.time.master.any (fun m => m.1 == source)

/-- A Sync message (R78, R79): domain, port identity of its sender, whether that is two-step, origin time, receive time and
correction, in ns; a two-step Sync waits for its Follow_Up. -/
def ptpSync (domain source : Nat) (twoStep : Bool) (origin rx corr : Int) (s : State) : State :=
  if s.fromMaster domain source then
    let r := rx - (s.rxLat : Int) - corr
    if twoStep then s.modTime (fun t => { t with syncWait := some r })
    else servo (r - origin - s.time.pathDelay) (s.modTime (fun t => { t with msDiff := r - origin }))
  else s

def execPtpSync (domain source : Nat) (twoStep : Bool) (origin rx corr : Int) (s : State) : Res :=
  .next (ptpSync domain source twoStep origin rx corr s)

/-- A master is selected: HOLDOVER clears and the manager hears of it (R78, R80). -/
def selectMaster (source ds : Nat) (s : State) : State :=
  let s1 := s.modTime (fun t =>
    { t with master := some (source, ds), holdover := false, syncWait := none, delayReq := none, delayWait := none, syncRun := 0 })
  if s.time.holdover then emitMgr 9 3 [(16, 1, 2)] s1 else s1

/-- An Announce message of a sender's port identity: `ds` is its data set, the 16 bytes from grandmasterPriority1 to
stepsRemoved as one number, of which the lower is the better, the port identity breaking a tie. A sender qualifies with its
second Announce and stepsRemoved below 255; the best qualified one is the master (R78; PRESUMED, log entry 113). -/
def ptpAnnounce (domain source ds : Nat) (s : State) : State :=
  if !(s.ptpOn && domain == s.ptpDomain && decide (ds % 2 ^ 16 < 255)) then s
  else
    let better := match s.time.master with
      | some m => decide (ds < m.2) || (ds == m.2 && decide (source < m.1))
      | none => true
    if s.time.master.any (fun m => m.1 == source) then s.modTime (fun t => { t with master := some (source, ds) })
    else if !s.time.foreign.contains source then s.modTime (fun t => { t with foreign := insertAsc source t.foreign })
    else if better then selectMaster source ds s
    else s

def execPtpAnnounce (domain : Nat) (source : BitVec 80) (ds : BitVec 128) (s : State) : Res :=
  .next (ptpAnnounce domain source.toNat ds.toNat s)

/-- A Delay_Req, once a master is selected, or in any case a Pdelay_Req is sent at local time `tx` (R78). -/
def ptpDelayRequestDue (tx : Int) (s : State) : State :=
  if s.ptpOn && (s.ptpPeer || s.time.master.isSome) then
    out (.mgt (if s.ptpPeer then 6 else 5) 0 []) (s.modTime (fun t =>
      { t with delayReq := some (tx + (s.txLat : Int)), delayWait := none }))
  else s

def execPtpDelayRequestDue (tx : Int) (s : State) : Res := .next (ptpDelayRequestDue tx s)

/-- Path delay of the peer mechanism: half of what the turnaround leaves of the round trip (R78). -/
def peerDelay (sent arrival turn : Int) : Int := (arrival - sent - turn) / 2

/-- A Delay_Resp of the master (`ts` its receive time) or a Pdelay_Resp of the link's peer (`ts` its turnaround, `arrival`
its local arrival) completes a path-delay measurement; a two-step peer's waits for its Follow_Up (R78). -/
def ptpDelayResponse (domain source : Nat) (twoStep : Bool) (ts arrival : Int) (s : State) : State :=
  match s.time.delayReq with
  | none => s
  | some sent =>
    if s.ptpOn && domain == s.ptpDomain then
      if s.ptpPeer then
        if twoStep then s.modTime (fun t => { t with delayWait := some (arrival - (s.rxLat : Int)) })
        else s.modTime (fun t => { t with delayReq := none, pathDelay := peerDelay sent (arrival - (s.rxLat : Int)) ts })
      else if s.fromMaster domain source then
        s.modTime (fun t => { t with delayReq := none, pathDelay := (t.msDiff + (ts - sent)) / 2 })
      else s
    else s

def execPtpDelayResponse (domain source : Nat) (twoStep : Bool) (ts arrival : Int) (s : State) : Res :=
  .next (ptpDelayResponse domain source twoStep ts arrival s)

/-- A Follow_Up gives the origin time of a two-step Sync, a Pdelay_Resp_Follow_Up the turnaround of a two-step
peer response (R78). -/
def ptpFollowUp (domain source : Nat) (peer : Bool) (ts : Int) (s : State) : State :=
  if s.ptpOn && domain == s.ptpDomain then
    if peer then
      match s.time.delayReq, s.time.delayWait with
      | some sent, some arr =>
        s.modTime (fun t => { t with delayReq := none, delayWait := none, pathDelay := peerDelay sent arr ts })
      | _, _ => s
    else
      match s.time.syncWait with
      | some r =>
        if s.fromMaster domain source then
          servo (r - ts - s.time.pathDelay) (s.modTime (fun t => { t with syncWait := none, msDiff := r - ts }))
        else s
      | none => s
  else s

def execPtpFollowUp (domain source : Nat) (peer : Bool) (ts : Int) (s : State) : Res :=
  .next (ptpFollowUp domain source peer ts s)

/-- The IEEE 1588 master is lost: SYNC clears, HOLDOVER and SYNCLOST set, a plant-time event (R80). -/
def masterLost (s : State) : State :=
  emitMgr 9 3 [(16, 1, 1)] (setErr pTIM 0 2 (s.modTime (fun t =>
    { t with master := none, foreign := [], sync := false, syncRun := 0, holdover := true, syncWait := none, delayReq := none,
             delayWait := none })))

/-- ANNOUNCE_RECEIPT_TIMEOUT in IEEE 1588 mode: there is no valid master, or no longer one (R80). -/
def execAnnounceReceiptTimeout (s : State) : Res := .next (if s.ready && s.time.mode == 1 then masterLost s else s)

/-! ## Tile alignment (R66-R69) -/

def AlignSt.code : AlignSt → Nat
  | .notStarted => 0 | .locked => 1 | .drift => 2 | .fault => 3

/-- The alignment state after a measurement of `ps` picoseconds (R67). -/
def Tile.measure (ps : Int) (x : Tile) : Tile :=
  let a := ps.natAbs
  let w := if a ≤ 2000 then x.within + 1 else 0
  let o := if a ≤ 2000 then 0 else x.outside + 1
  let st := if a > 6000 then .fault else if w ≥ 16 then .locked else if o ≥ 16 then .drift else x.align
  { x with offset := clampInt (-8388607) 8388607 ps, within := w, outside := o, align := st }

/-- A measurement of tile `t`'s path offset: ALIGN and a time-alignment event on entering DRIFT or FAULT and on
return to LOCKED (R67, R68). The anchor's own tile is not measured: its TIL_TIMEOFF shows OFFSET 0 and STATE 0, and its ports
wait for no LOCKED (DESIGN CHOICE, log entry 114). -/
def alignMeasurement (t : Nat) (ps : Int) (s : State) : State :=
  if t ≠ 0 ∧ s.hasTile t ∧ (s.tl t).ready then
    let old := (s.tl t).align
    let s1 := s.modTile t (Tile.measure ps)
    let new := (s1.tl t).align
    if new = old then s1
    else if new = .locked then
      if old = .notStarted then s1 else emitMgr 9 1 [(16, 1, t), (17, 1, 1)] s1
    else emitMgr 9 1 [(16, 1, t), (17, 1, new.code)] (setErr pTIM 0 1 (setErr pTIL t 1 s1))
  else s

def execAlignMeasurement (t : Nat) (ps : Int) (s : State) : Res := .next (alignMeasurement t ps s)

end Sys2Proof.Machine
end

