-- ==== Sys2Proof/Machine/Power.lean ====
section
/-!
DEFINITION. Power: failed tiles, performance levels, the adaptive voltage loop, Doze, Drydown, wakes and Standby
(spec/14_power_performance.md, R37, R444-R474; spec/18_signals_package_electrical.md, R586-R592).
-/
namespace Sys2Proof.Machine

/-! ## A tile's ports and work -/

/-- Global ports of a tile (R7). -/
def tilePorts (t : Nat) : List Nat := (List.range 16).map (16 * t + ·)

/-- The ports of a tile stop: every first hop leaves UP without LINKDOWN and every node is absent; with `arm` the
wake detectors of ports with WAKEDET are armed (R456 step 2, R518 step 2). -/
def stopPorts (t status : Nat) (arm : Bool) (s : State) : State :=
  ((tilePorts t).foldl (fun s g =>
    (hopDown g false status s).modPort g (fun p =>
      { p with hop := if arm && bit (s.linkcfg g) 1 then .wakeDetect else .down })) s).modPwr t
    (fun p => { p with stopped := true })

/-- The idle buffer of a port is discarded; its pending generations compile again from the next frame boundary
(R533 case 5). -/
def dropIdle (g : Nat) (s : State) : State :=
  s.modPlan g (fun p =>
    let gens := p.taken ++ ((p.idle.covers.map (fun c => (c.func, c.seq))).filter (fun x => !p.taken.contains x))
    if p.idleSt = .empty then p
    else { p with idle := {}, idleSt := .empty, fixed := none, causeNext := true, taken := [],
                  pendingGens := p.pendingGens ++ gens })

/-- The command of a task, or of held work, ends with a status. -/
def endCommand (f id status detail : Nat) (s : State) : State :=
  match (s.fn f).entries.find? (fun e => e.id == id && !e.ended) with
  | some e => finish f e false 0 status detail [] s
  | none => s

/-- The tile on which a long operation's work runs, for those bound to one (R398). -/
def LongOp.tileOf : LongOp → Option Nat
  | .pointFree l => l.head?.map (· / 16384)
  | .pointShare first _ _ _ => some (first / 2 ^ 20)
  | .ruleSet t _ _ _ => some t
  | .nodePromote g _ => some (g / 16)
  | .leaseSet g _ _ _ => some (g / 16)
  | .nodeAdmit g _ => some (g / 16)
  | _ => none

/-- Every command whose work runs on the tile ends with the status, and every long operation of the tile that is
before its commit point. -/
def endTileWork (t status detail : Nat) (s : State) : State :=
  s.fnList.foldl (fun s f =>
    let es := (s.fn f).entries.filter (fun e => !e.ended && s.workTile e == t && badOpcode f e == none)
    let s1 := es.foldl (fun s e => finish f e false 0 status detail [] s) s
    ((s1.fn f).handles.filter (fun h => !h.done && h.word == .pending && h.op.tileOf == some t)).foldl
      (fun s h => failHandle f h.seq status detail s) s1) s

/-- The operation is a generation of a schedule list, which no command starts. -/
def LongOp.isGen : LongOp → Bool
  | .generation .. => true
  | _ => false

/-- Long operations that entry `id` started and that still await a host structure or the state they save. -/
def State.openHandles (s : State) (f id : Nat) : List Handle :=
  (s.fn f).handles.filter (fun h => h.eid == id && !h.op.isGen && !h.done && h.word == .pending && !h.ready)

/-- The command of a task, and the long operation it started, end with a status (R411, R456, R518). -/
def endTask (t : Nat) (k : Task) (status detail : Nat) (s : State) : State :=
  let s1 := match k.work with
    | .command f id =>
      let s1 := endCommand f id status detail s
      (s1.openHandles f id).foldl (fun s h => failHandle f h.seq status detail s) s1
    | .compile g => dropIdle g s
  freeTask t k.ctx s1

/-! ## Package fault and failed tiles (R37, R463, R464, R579) -/

def State.modPins (s : State) (u : Pins → Pins) : State := { s with pins := u s.pins }
def State.modFw (s : State) (u : FwSt → FwSt) : State := { s with fw := u s.fw }

/-- FAULT_N is asserted and the host link stays down until package reset. -/
def packageFault (s : State) : State :=
  { s.modPins (fun p => { p with faultN := 1 }) with boot := { s.boot with dead := true }, link := 0 }

/-- TILE_OK of a tile: 0 high impedance, 1 low, 2 high. -/
def setTileOk (t v : Nat) (s : State) : State := s.modPins (fun p => { p with tileOk := nput 0 p.tileOk t v })

/-- The next tile of the switches in progress that has to switch; the last one completes the activation (R495, R496). -/
def nextSwitch (s : State) : State :=
  match s.fw.switch with
  | none => s
  | some w =>
    match w.todo.find? (fun t => (s.tl t).pow != .drydown && (s.tl t).pow != .off) with
    | some t =>
      s.modFw (fun x => { x with switch := some { w with tile := t, todo := (w.todo.dropWhile (· != t)).drop 1 } })
    | none =>
      let s1 := s.modFw (fun x => { x with switch := none })
      match w.seq with
      | some q => endHandle 0 q .committed 0 0 ((s.handle? 0 q).map (·.commitTick) |>.getD 0) s1
      | none => s1

/-- A tile that fails is skipped by the switches, and by the trial's auto-confirmation (R497, R508 case 9). -/
def fwTileFails (t : Nat) (s : State) : State :=
  let s1 := s.modFw (fun x => { x with trialBad := true })
  match s1.fw.switch with
  | some w => if w.tile = t then nextSwitch s1 else s1
  | none => s1

/-- Accesses held for the tile end: a read returns zeros, a write is discarded (R462). -/
def dropHeld (t : Nat) (s : State) : State :=
  let l := (s.tl t).pwr.held
  let s1 := l.foldl (fun s a => if a.write then s else out (.readData 0 a.bar a.off a.size 0) s)
    (s.modPwr t (fun p => { p with held := [] }))
  if l = [] then s1 else setErr pPWR 0 2 s1

/-- Lower tile, higher tile and link of a bit that exists on this part. -/
def State.meshEnds (s : State) (b : Nat) : Option (Nat × Nat × Nat) :=
  ((List.range s.tiles).flatMap (fun i => (List.range s.tiles).flatMap (fun j =>
    if i < j then [(i, j, 0), (i, j, 1)] else []))).find? (fun x => meshBit x.1 x.2.1 x.2.2 == b)

/-- The link of a bit ends at the tile. -/
def State.linkOfTile (s : State) (t b : Nat) : Bool :=
  match s.meshEnds b with
  | some x => x.1 == t || x.2.1 == t
  | none => false

/-- The links of a tile whose core loses power go down without an event (R49); failures counted on them are of the past
(R35). -/
def dropMesh (t : Nat) (s : State) : State :=
  { s with mesh := BitVec.ofNat 64 ((List.range 56).foldl (fun w b => if s.linkOfTile t b then clrBit w b else w) s.mesh.toNat)
           meshFails := s.meshFails.filter (fun x => !s.linkOfTile t x.1) }

/-- The tile enters OFF: rails off, pins at high impedance, nodes absent, its work and held accesses ended
(R463, R464). -/
def enterOff (t status : Nat) (s : State) : State :=
  let s1 := (tilePorts t).foldl (fun s g => dropIdle g s) (stopPorts t 0xA0 false s)
  let s2 := endTileWork t status t s1
  let p := (s2.tl t).pwr
  let s3 := (p.wakeHandles ++ p.dryHandle.toList).foldl (fun s q => failHandle 0 q status t s) s2
  let s4 := dropHeld t (s3.modTile t (fun x => { x with pow := .off, tasks := [], ctxq := [], reload := [], resetAt := none }))
  let s5 := s4.modPwr t (fun p =>
    { level := p.level, trim := p.trim, trims := p.trims, trimTick := p.trimTick, fails := p.fails, cause := p.cause,
      port := p.port, duration := p.duration, lost := 2 ^ 32 - 1, stopped := true })
  fwTileFails t (setErr pGLB 0 1 (setTileOk t 0 (dropMesh t s5)))

/-- A tile is taken out of service (R37): a tile-failure event; on the anchor a package fault. -/
def tileFail (t : Nat) (s : State) : State :=
  if !s.hasTile t || (s.tl t).pow == .off then s
  else if t = 0 then packageFault s
  else emitMgr 8 3 [(16, 1, t)] (enterOff t 0xA0 s)

/-- Tiles in service without a path to the anchor fail, each of which may have been another's relay (R36, R37). -/
def failLost : Nat → State → State
  | 0, s => s
  | k + 1, s =>
    match (List.range s.tiles).find? (fun t => t != 0 && s.meshOn t && s.ready && !s.pathTo 0 t) with
    | some t => failLost k (tileFail t s)
    | none => s

/-- A tile fails, and with it every tile that it alone joined to the anchor. -/
def tileOut (t : Nat) (s : State) : State := failLost 8 (tileFail t s)

/-- TIME_TOKEN_LOSS: the tile has received no time token for 64 consecutive ticks (R69). -/
def execTimeTokenLoss (t : Nat) (s : State) : Res :=
  .next (if t ≠ 0 ∧ s.ready ∧ s.meshOn t then tileOut t s else s)

/-- THERMAL_TRIP (R589, R592 case 5). -/
def execThermalTrip (t : Nat) (s : State) : Res := .next (if s.hasTile t then tileOut t s else s)

/-- PGOOD_LOST: rail 0 VDD_CORE, 1 VDD_SRAM (R592 cases 1 to 3). -/
def pgoodLost (t rail : Nat) (s : State) : State :=
  let x := s.tl t
  if !s.hasTile t then s
  else if x.pow = .run ∨ x.pow = .doze ∨ x.pow = .drying ∨ (x.pow = .waking ∧ x.pwr.pgood) then tileOut t s
  else if x.pow = .drydown ∧ rail = 1 then s.modPwr t (fun p => { p with lost := 2 ^ 32 - 1 })
  else s

def execPgoodLost (t rail : Nat) (s : State) : Res := .next (pgoodLost t rail s)

/-! ## Events of this chapter (R474) -/

def State.usSince (s : State) (tick : Nat) : Nat := (s.time.tick - tick) * s.tickUs

/-- The tile-state event. -/
def tileState (t st cause port dur : Nat) (s : State) : State :=
  emitMgr 0x0C 1 [(16, 1, t), (17, 1, st), (18, 1, cause), (19, 1, port), (20, 4, dur)] s

/-- The avs event: what is 1 AVSLIM, 2 AVSFAIL. -/
def avsEvent (t what level rail : Nat) (s : State) : State :=
  emitMgr 0x0C 3 [(16, 1, t), (17, 1, what), (18, 1, level), (19, 1, rail)] s

/-! ## Performance levels (R444-R447) -/

def State.pmtCtl (s : State) (t : Nat) : Nat := s.sreg 0x11 pPMT t 0x040
/-- LEVEL as written. -/
def State.levelSet (s : State) (t : Nat) : Nat := bits (s.pmtCtl t) 0 2
def State.avsFail (s : State) (t : Nat) : Bool := bit (s.reg 0 pPMT t 0x014) 1

/-- The voltages of the target level are sent (R446). -/
def sendLevel (t l : Nat) (s : State) : State :=
  let s1 := s.modPwr t (fun p => { p with trim := p.storedTrim l })
  sendBus t { rail := 1, mv := sramOf l, why := .level }
    (sendBus t { rail := 0, mv := coreMv l (s1.tl t).pwr.trim, why := .level } s1)

/-- A change to the stored level starts, unless one is in progress, AVSFAIL holds it, or the tile is not in RUN
or DOZE (R447). A slower level commits first. -/
def startLevel (t : Nat) (s : State) : State :=
  let p := (s.tl t).pwr
  let l := s.levelSet t
  if l = p.level ∨ p.change.isSome ∨ s.avsFail t ∨ !((s.tl t).pow == .run || (s.tl t).pow == .doze) then s
  else s.modPwr t (fun p => { p with change := some (l, 1), level := if l > p.level then l else p.level, idle := 0 })

/-- LEVEL_WRITE: a write of PMT_CTL (R446, R447, R454, R470 case 3). -/
def pmtCtlWrite (t v : Nat) (s : State) : State :=
  if !s.tileOpen t then s
  else
    let l := bits v 0 2
    let s1 := if l = 3 then logClamp pPMT t 0x040 0 s else s
    let s2 := s1.setSreg 0x11 pPMT t 0x040 (min l 2 + b2n (bit v 4) * 16)
    startLevel t (leaveDoze t (s2.modPwr t (fun p => { p with stepdown := false })))

def execLevelWrite (t : Nat) (v : W32) (s : State) : Res := .next (tileMmio t (regAcc pPMT t 0x040 v.toNat) (fun s => pmtCtlWrite t v.toNat s) s)

/-- LEVEL_STEP_DONE: the wait of the change's step is over. The waits are 1 bias to none, 2 the voltage step, which
the regulators must have reported, 3 bias to the new level (R446). -/
def levelStepDone (t : Nat) (s : State) : State :=
  let p := (s.tl t).pwr
  match p.change with
  | none => s
  | some (l, w) =>
    if w = 1 then sendLevel t l (s.modPwr t (fun p => { p with change := some (l, 2) }))
    else if w = 2 then
      if p.bus.any (fun b => b.why == .level) || s.avsFail t then s
      else s.modPwr t (fun p => { p with change := some (l, 3), level := l })
    else startLevel t (noteAvs t (bits (s.reg 0 pPMT t 0x050) 8 8)
      (s.modPwr t (fun p => { p with change := none, lowRun := 0 })))

def execLevelStepDone (t : Nat) (s : State) : Res := .next (levelStepDone t s)

/-- AVSFAIL is cleared: what it held goes on (R447, R451). -/
def avsCleared (t : Nat) (s : State) : State :=
  match (s.tl t).pwr.change with
  | some (l, 2) => sendLevel t l s
  | some _ => s
  | none => startLevel t s

/-! ## The adaptive voltage loop (R448-R451) -/

/-- AVS_LOOP_PERIOD: the smallest margin is `m` ps (R448, R450). -/
def avsPeriod (t m : Nat) (s : State) : State :=
  let x := s.tl t
  let cfg := s.reg 0x5028 pPMT t 0x04C
  if !(x.pow == .run || x.pow == .doze) || !bit (s.pmtCtl t) 4 || x.pwr.change.isSome || s.avsFail t then s
  else
    let p := x.pwr
    let trim := if m < bits cfg 0 8 then clampInt (-12) 12 (p.trim + 1)
      else if m > bits cfg 8 8 then clampInt (-12) 12 (p.trim - 1) else p.trim
    let low := if p.trim = 12 ∧ m < bits cfg 0 8 then p.lowRun + 1 else 0
    let s1 := noteAvs t m (s.modPwr t (fun p => { p with trim, lowRun := if low ≥ 16 then 0 else low }))
    let s2 := if trim = p.trim then s1 else sendBus t { rail := 0, mv := coreMv p.level trim, why := .avs } s1
    if low < 16 then s2
    else
      let l := if p.level < 2 then p.level + 1 else p.level
      let s3 := avsEvent t 1 l 0 (setErr pPMT t 0 s2)
      if p.level < 2 then
        startLevel t ((s3.setSreg 0x11 pPMT t 0x040 (setBits (s3.pmtCtl t) 0 2 l)).modPwr t (fun p => { p with stepdown := true }))
      else s3

def execAvsLoopPeriod (t m : Nat) (s : State) : Res := .next (avsPeriod t m s)

/-- TRIM_STORE: a changed trim is written to MRAM, at most once every 10 minutes (R449). -/
def trimStore (t : Nat) (s : State) : State :=
  let p := (s.tl t).pwr
  if s.tileRuns t && p.change.isNone && p.trim != p.storedTrim p.level &&
      (match p.trimTick with | some k => decide (k + s.ticksOf 600000000 ≤ s.time.tick) | none => true) then
    (out (.store 1 (t * 4 + p.level) (ofSigned 5 p.trim)) s).modPwr t (fun p =>
      { p with trims := nput 12 p.trims p.level p.trim, trimTick := some s.time.tick })
  else s

def execTrimStore (t : Nat) (s : State) : Res := .next (trimStore t s)

/-! ## Wakes that fail (R462, R463) -/

/-- A wake attempt fails on item 1 VDD_CORE power-good, 2 VDD_SRAM power-good, 3 oscillator-ready, 4 bus
transaction, 5 mesh path (R463). -/
def wakeFails (t item : Nat) (s : State) : State :=
  let p := (s.tl t).pwr
  let s1 := emitMgr 0x0C 2 [(16, 1, t), (17, 1, p.attempt), (18, 1, item)]
    (out (.bus 1 t 0) (out (.bus 0 t 0) (s.modPwr t (fun p =>
      { p with fails := satAdd 255 p.fails 1, pgood := false, bus := [], lost := 2 ^ 32 - 1 }))))
  let s2 := dropHeld t s1
  if p.attempt < 2 then s2.modPwr t (fun p => { p with retryWait := true })
  else if t = 0 then packageFault s2
  else emitMgr 8 3 [(16, 1, t)] (setErr pPWR 0 1 (enterOff t 0xA1 s2))

/-- A wake attempt is in progress. -/
def State.attempting (s : State) (t : Nat) : Bool := (s.tl t).pow == .waking && !(s.tl t).pwr.retryWait

/-- WAKE_ATTEMPT_TIMEOUT: 5 ms without the item (R463). -/
def wakeTimeout (t item : Nat) (s : State) : State :=
  let p := (s.tl t).pwr
  let due := if item = 1 ∨ item = 2 then !p.pgood else if item = 3 then p.xoWait else item == 5 && p.pgood && !p.xoWait
  if s.attempting t && due then wakeFails t item s else s

def execWakeAttemptTimeout (t item : Nat) (s : State) : Res := .next (wakeTimeout t item s)

/-- WAKE_RETRY: 1 ms after a first failed attempt (R463). -/
def wakeRetry (t : Nat) (s : State) : State :=
  if (s.tl t).pow = .waking ∧ (s.tl t).pwr.retryWait then
    powerUp t (s.modPwr t (fun p => { p with retryWait := false, attempt := 2 }))
  else s

def execWakeRetry (t : Nat) (s : State) : Res := .next (wakeRetry t s)

/-- Records of the banks that are lost (R258), and PIM_LOST. -/
def loseBanks (t : Nat) (s : State) : State :=
  let lost := (s.tl t).pwr.lost
  let pts := s.allocatedPoints.filter (fun p => ptTile p == t && bit lost (ptLocal p / 32768))
  (pts.foldl (fun s p => lostRecord p 0 s) s).setReg 0 pPIM t 0x054 lost

/-- WAKE_POWER_GOOD: power-good of both rails; the memories are initialised (R461 steps 1 to 3, R570). -/
def wakePowerGood (t : Nat) (s : State) : State :=
  let p := (s.tl t).pwr
  if s.attempting t && !p.pgood && p.bus == [] then loseBanks t (s.modPwr t (fun p => { p with pgood := true })) else s

def execWakePowerGood (t : Nat) (s : State) : Res := .next (wakePowerGood t s)

/-- OSCILLATOR_READY: the waking anchor may lock its PLLs (R463). -/
def execOscillatorReady (s : State) : Res := .next (s.modPwr 0 (fun p => { p with xoWait := false }))

/-! ## Bus transactions (R451, R456 step 7, R586) -/

/-- A source held until step 7 was over starts its wake (R457). -/
def lateWake (t : Nat) (s : State) : State :=
  match (s.tl t).pwr.late with
  | some (c, g) => if (s.tl t).pow = .drydown ∧ !(s.tl t).pwr.off7 then wakeSource t c g (s.modPwr t (fun p => { p with late := none })) else s
  | none => s

/-- Step 7 of R456 is over once both rails have answered. -/
def settleOff (t : Nat) (s : State) : State :=
  if (s.tl t).pwr.off7 && !(s.tl t).pwr.bus.any (fun b => b.why == .off) then
    lateWake t (s.modPwr t (fun p => { p with off7 := false }))
  else s

/-- Transaction `i` in flight for a tile's rails ends, acknowledged or in error; it is repeated twice (R451). -/
def busDone (t i : Nat) (ok : Bool) (s : State) : State :=
  match (s.tl t).pwr.bus[i]? with
  | none => s
  | some b =>
    let s1 := s.modPwr t (fun p => { p with bus := p.bus.eraseIdx i })
    if ok then settleOff t s1
    else if b.fails < 2 then
      out (.bus b.rail t b.mv) (s.modPwr t (fun p => { p with bus := p.bus.set i { b with fails := b.fails + 1 } }))
    else
      let s2 := avsEvent t 2 (s1.tl t).pwr.level b.rail (setErr pPMT t 1 s1)
      if b.why = .wake then (if s2.attempting t then wakeFails t 4 s2 else s2) else settleOff t s2

def execBusTransactionComplete (t k : Nat) (ok : Bool) (s : State) : Res := .next (busDone t k ok s)

/-- BUS_STUCK_TIMEOUT: a bus held low for more than 35 ms fails the transaction (R586). -/
def execBusStuckTimeout (t k : Nat) (s : State) : Res := .next (busDone t k false s)

/-! ## Doze (R453, R454) -/

def State.pmtDoze (s : State) (t : Nat) : Nat := s.sreg 0x10400 pPMT t 0x048

/-- Nothing holds the tile in RUN: no task READY or RUNNING, no context awaited, no level change, no Atomizer work
due (R453). -/
def State.dozeOk (s : State) (t : Nat) : Bool :=
  let x := s.tl t
  x.pow == .run && bit (s.pmtDoze t) 16 && x.ctxq == [] && x.pwr.change.isNone &&
    !(x.tasks.any (fun k => match k.st with | .ready => true | .running _ => true | _ => false)) &&
    (tilePorts t).all (fun g => (s.plan g).fixed.isNone && !(s.plan g).cause)

/-- DOZE_ENTRY (R453). -/
def dozeEntry (t : Nat) (s : State) : State :=
  if s.hasTile t && s.dozeOk t && decide (bits (s.pmtDoze t) 0 16 ≤ (s.tl t).pwr.idle) then
    countReg pPMT t 0x058 16 16 1 (s.modTile t (fun x => { x with pow := .doze }))
  else s

def execDozeEntry (t : Nat) (s : State) : Res := .next (dozeEntry t s)

/-- IDLE and DOZETICKS at a tick boundary (R453, R471). -/
def dozeTick (s : State) (t : Nat) : State :=
  if (s.tl t).pow = .doze then countReg pPMT t 0x060 0 64 1 s
  else if s.dozeOk t then s.modPwr t (fun p => { p with idle := satAdd 65535 p.idle 1 })
  else if (s.tl t).pwr.idle = 0 then s else s.modPwr t (fun p => { p with idle := 0 })

/-! ## Drydown (R455, R456) -/

/-- Handle of a POWER_SET or firmware activation of the tile that is pending (R455). -/
def State.powerPending (s : State) (t : Nat) : Option Nat :=
  match (s.fn 0).handles.find? (fun h => !h.done && (match h.op with
    | .powerSet u _ => u == t
    | .fwActivate => true
    | _ => false)) with
  | some h => some h.seq
  | none => none

/-- An accepted OP 1 starts the entry (R456 step 1). -/
def startDrying (t seq : Nat) (s : State) : State :=
  (s.modTile t (fun x => { x with pow := .drying })).modPwr t
    (fun p => { p with dryHandle := some seq, dryTick := s.time.tick, dryB := none, forced := false, idle := 0 })

/-- POWER_SET OP 1. -/
def powerDown (f t : Nat) (x : Entry) (recs : List ListRec) (s : State) : State :=
  let st := (s.tl t).pow
  if t = 0 then finish f x false 0 0x06 1 [] s
  else if st = .drying ∨ st = .drydown then finish f x false 0 0 0 recs s
  else match s.powerPending t with
    | some q => finish f x false 0 0x08 (q % 256) [] s
    | none =>
      if st = .off then finish f x false 0 0xA0 t [] s
      else startLong f x (.powerSet t 1) true recs (fun seq s =>
        if st = .waking then s.modPwr t (fun p => { p with dryHandle := some seq, dryTick := s.time.tick })
        else startDrying t seq s) s

/-- POWER_SET OP 2; its commit point is its acceptance. -/
def powerWake (f t : Nat) (x : Entry) (recs : List ListRec) (s : State) : State :=
  let st := (s.tl t).pow
  match s.powerPending t with
  | some q => finish f x false 0 0x08 (q % 256) [] s
  | none =>
    if st = .run ∨ st = .doze then finish f x false 0 0 0 recs s
    else startLong f x (.powerSet t 2) true recs (fun seq s =>
      wakeSource t 5 0 ((s.modHandle 0 seq (fun h => { h with word := .committed, commitTick := s.time.tick })).modPwr t
        (fun p => { p with wakeHandles := p.wakeHandles ++ [seq] }))) s

/-- POWER_SET (R455). -/
def powerSet (f : Nat) (x : Entry) (s : State) : State :=
  let t := bits x.target 16 3
  let op := x.p0 % 4
  let recs := if op = 0 ∨ op = 3 then [clampRec 160 op 2] else []
  if !s.hasTile t then finish f x false 0 0x06 1 [] s
  else if op = 1 then powerDown f t x recs s
  else powerWake f t x recs s

def execPowerSet (f e : Nat) (s : State) : Res := .next (cmd f e 0x50 (powerSet f) s)

/-- The entry of a tile is given up before core isolation: the tile is in RUN, stopped ports resume at the next frame
boundary (R455). -/
def abortDrying (t : Nat) (s : State) : State :=
  (if (s.tl t).pow = .drying then s.modTile t (fun x => { x with pow := .run }) else s).modPwr t
    (fun p => { p with dryHandle := none, dryB := none, forced := false, late := none })

/-- Output points of a tile. -/
def State.outputsOn (s : State) (t : Nat) : List Nat :=
  ((s.points.filter (fun x => x.2.kind == 2)).map (·.1)).filter (fun p => ptTile p == t)

/-- The locks of a tile's Drydown end (R239). -/
def unlockDry (t : Nat) (s : State) : State :=
  ((s.points.filter (fun x => ptTile x.1 == t && x.2.locks.contains .drydown)).map (·.1)).foldl
    (fun s p => unlockPoint .drydown p s) s

/-- Step 2 of R456 at the frame boundary B; the tile's output points take fail-safe (R238). -/
def dryBoundary (s : State) (t : Nat) : State :=
  if (s.tl t).pow = .drying ∧ (s.tl t).pwr.dryB.isNone then
    stopPorts t 0x44 true ((s.outputsOn t).foldl (fun s p => lockPoint .drydown p s)
      (s.modPwr t (fun p => { p with dryB := some s.time.tick })))
  else s

/-- Steps 3 and 4 of R456 are done: no task is left and the publishing of the capture at B is complete. -/
def State.drained (s : State) (t : Nat) : Bool :=
  let x := s.tl t
  match x.pwr.dryB with
  | none => false
  | some b => x.pow == .drying && x.tasks == [] && x.ctxq == [] &&
      s.fns.all (fun y => y.2.image.pub.isNone || decide (b < y.2.image.pubTick))

/-- Steps 5 to 7: retention, core isolation, rails off (R256, R456). -/
def isolate (t : Nat) (s : State) : State :=
  let keep := s.sreg 0xFFFFFFFF pPIM t 0x044
  let s1 := (s.modTile t (fun x => { x with pow := .drydown, ready := false })).modPwr t
    (fun p => { p with dryHandle := none, dryB := none, forced := false, off7 := true, bus := [], change := none,
                       lost := (2 ^ 32 - 1) - keep % 2 ^ 32 })
  sendBus t { rail := 1, mv := if keep = 0 then 0 else 750, why := .off }
    (sendBus t { rail := 0, mv := 0, why := .off } (dropMesh t s1))

/-- DRYDOWN_DRAINED of a field tile. -/
def drydownDrained (t : Nat) (s : State) : State :=
  if t ≠ 0 ∧ s.hasTile t ∧ s.drained t then
    let p := (s.tl t).pwr
    let s1 := match p.dryHandle with
      | some q => commitHandle 0 q s
      | none => s
    failLost 8 (tileState t 3 0 0 (s.usSince p.dryTick) (isolate t s1))
  else s

def execDrydownDrained (t : Nat) (s : State) : Res := .next (drydownDrained t s)

/-- DRYDOWN_DRAIN_TIMEOUT: 5 ms after B every task that is not FREE ends at its next step boundary (R456). -/
def drainTimeout (t : Nat) (s : State) : State :=
  match (s.tl t).pwr.dryB with
  | none => s
  | some b =>
    if (s.tl t).pow = .drying ∧ b + s.ticksOf 5000 ≤ s.time.tick then
      let s1 := s.modPwr t (fun p => { p with forced := true })
      let q := (s1.tl t).ctxq
      let s2 := q.foldl (fun s k => match k.work with
        | .command f id => endCommand f id 0x0B 1 s
        | .compile g => dropIdle g s) (s1.modTile t (fun x => { x with ctxq := [] }))
      ((s2.tl t).tasks.filter (fun k => match k.st with | .running _ => false | _ => true)).foldl
        (fun s k => endTask t k 0x0B 1 s) s2
    else s

def execDrydownDrainTimeout (t : Nat) (s : State) : Res := .next (drainTimeout t s)

/-! ## Wake sources (R457-R460) -/

/-- TRUNK_WAKE_DETECT: 12 transitions within 6.4 us on an armed port (R133, R458). -/
def trunkWake (g : Nat) (s : State) : State :=
  let t := g / 16
  if s.hasPort g && (s.port g).hop == .wakeDetect && !(s.tl t).pwr.rearm.contains g then
    wakeSource t 1 g (s.modPwr t (fun p => { p with rearm := g :: p.rearm }))
  else s

def execTrunkWakeDetect (g : Nat) (s : State) : Res := .next (trunkWake g s)

/-- WAKE_DETECTOR_REARM: 2 us without a transition (R458). -/
def execWakeDetectorRearm (g : Nat) (s : State) : Res :=
  .next (s.modPwr (g / 16) (fun p => { p with rearm := p.rearm.filter (· != g) }))

/-- WAKE_N_LOW: every tile that PWR_WAKECFG selects (R460, R592 case 6). -/
def wakeN (s : State) : State :=
  let sel := s.reg 0xFF pPWR 0 0x04C
  ((List.range s.tiles).filter (fun t => bit sel t)).foldl (fun s t => wakeSource t 2 0 s) s

def execWakeNLow (s : State) : Res := .next (wakeN s)

/-! ## Standby (R465-R468) -/

def State.stbyCtl (s : State) : Nat := s.sreg 0x03E80000 pPWR 0 0x040

/-- A write of PWR_STBYCTL: WAITMS and XOGATESET are stored; ARM 1 starts the entry, ARM 0 cancels it (R465, R466,
R473). -/
def stbyctlWrite (v : Nat) (s : State) : State :=
  if !s.ready then s
  else
    let w := bits v 16 16
    let wc := if w = 0 then 1 else min w 60000
    let s1 := if w = wc then s else logClamp pPWR 0 0x040 16 s
    let was := bit (s.stbyCtl) 0
    let put := fun (arm : Nat) (s : State) => s.setSreg 0x03E80000 pPWR 0 0x040 (arm + b2n (bit v 2) * 4 + wc * 2 ^ 16)
    if bit v 0 then
      let s2 := put 1 s1
      if was then s2 else { s2 with stage := 1 }
    else if was then cancelStandby 4 (put 1 s1)
    else put 0 s1

def execStandbyArm (v : W32) (s : State) : Res := .next (mmio 0 0 (fun s => if bit v.toNat 0 then stbyctlWrite v.toNat s else s) s)
def execStandbyDisarm (v : W32) (s : State) : Res := .next (mmio 0 0 (fun s => if bit v.toNat 0 then s else stbyctlWrite v.toNat s) s)

/-- Stage 1 ends: every field tile is in DRYDOWN or OFF and no long operation is pending (R465). -/
def State.tilesDown (s : State) : Bool :=
  (List.range s.tiles).all (fun t => t == 0 || (s.tl t).pow == .drydown || (s.tl t).pow == .off) &&
    s.fns.all (fun x => x.2.handles.all (·.done))

def standbyTick (s : State) : State := if s.stage = 1 ∧ s.tilesDown then { s with stage := 2 } else s

/-- Stage 2 at a frame boundary: the anchor stops (R465). -/
def standbyBoundary (s : State) : State :=
  if s.stage = 2 ∧ !s.stopping then
    let s1 := (s.modTile 0 (fun x => { x with pow := .drying })).modPwr 0
      (fun p => { p with dryB := none, dryTick := s.time.tick, dryHandle := none })
    { dryBoundary s1 0 with stopping := true }
  else s

/-- Every completion, event and record that is due has been written. -/
def State.allWritten (s : State) : Bool :=
  s.fns.all (fun x => x.2.entries == [] && x.2.hold == [] && x.2.finished == [] && x.2.bulk.recs == []) && s.evHeld == []

/-- STANDBY_STOP_DONE: stage 3; with XOGATE the RC is calibrated to `calib` cycles per ms, or not at all, for 0, where the
reference is already absent (R84, R85, R465). -/
def standbyStopDone (calib : Nat) (s : State) : State :=
  if s.stage = 2 ∧ s.stopping ∧ s.drained 0 ∧ s.allWritten then
    out (.ltr 1) ({ s with stage := 3 }.modTime (fun t =>
      { t with calib := if s.xogate && calib != 0 then some calib else none, sleepRc := s.xogate }))
  else s

def execStandbyStopDone (calib : Nat) (s : State) : Res := .next (standbyStopDone calib s)

/-- L1_2_ENTRY: the link enters L1.2; in stage 3 the anchor's core is isolated and the sleep counter starts (R84, R465). -/
def l12Entry (s : State) : State :=
  if s.link = 0 then s
  else
    let s1 := { s with link := 3 }
    if s.stage = 3 ∧ !s.asleep 0 then
      let s2 := (isolate 0 s1).modTime (fun t => { t with sleeping := true, entryTick := s.time.tick + 1 })
      if s.xogate then (s2.modPins (fun p => { p with xoEn := 1 })).modPwr 0 (fun p => { p with xoWait := true }) else s2
    else s1

def execL12Entry (s : State) : Res := .next (l12Entry s)

/-- L1_2_EXIT: the host leaves L1.2 (R460 cause 6, R466). -/
def l12Exit (s : State) : State :=
  if s.link ≠ 3 then s
  else
    let s1 := { s with link := 2 }
    if s.asleep 0 then wakeSource 0 6 0 s1 else if s.stage = 3 then cancelStandby 3 s1 else s1

def execL12Exit (s : State) : Res := .next (l12Exit s)

/-- STANDBY_WAIT_TIMEOUT: stage 3 has lasted WAITMS (R466). -/
def execStandbyWaitTimeout (s : State) : Res := .next (if s.stage = 3 then cancelStandby 5 s else s)

/-- The TLPs that waited for L0 leave, by class and in the order in which they became ready (R438, R413, R414). -/
def flushTlps (s : State) : State :=
  { s with wire := (leaveOrder s.tlpHeld.length s.tlpHeld.reverse).reverse ++ s.wire, tlpHeld := [] }

/-- HOST_LINK_REACHES_L0 (R438, R466, R467). -/
def linkL0 (s : State) : State :=
  if !s.pins.perst || s.boot.dead || s.link == 1 || s.asleep 0 then s
  else
    let s1 := if s.stage = 3 then cancelStandby 3 s else s
    out (.ltr 0) (flushTlps { s1 with link := 1 })

def execHostLinkReachesL0 (s : State) : Res := .next (linkL0 s)

/-- AGE rises by `k` ticks in every allocated record (R224, R257). -/
def ageBy (k : Nat) (s : State) : State :=
  s.allocatedPoints.foldl (fun s p =>
    let w := s.record p
    let a := satAdd 0xFFFF (recAge w) k
    if a = recAge w then s
    else
      let s1 := s.setRecord p (mkRec (recVal w) a (recQ w) (recSeq w))
      if a = 0xFFFF then setQuality p (setBit (recQ w) 6) s1 else s1) s

/-! ## The configuration of the tick comes into force (R59, R60, R373) -/

/-- Budgets scaled by the ratio of the new ceiling to the old one, rounding down (R373). -/
def scaleMap (old new : Nat) (m : NMap Nat) : NMap Nat := m.foldl (fun a x => nput 0 a x.1 (x.2 * new / old)) []

/-- A share with its budgets scaled. -/
def Share.scaled (u0 u1 d0 d1 : Nat) (sh : Share) : Share :=
  { sh with budUp := scaleMap u0 u1 sh.budUp, budDn := scaleMap d0 d1 sh.budDn }

/-- A pending change of TICKLEN or FLLOG2 takes effect at the boundary of the tick that follows: TIM_SAMPLEOFF is
clamped again and in force, every granted budget is scaled (R59, R373). -/
def takeTimecfg (s : State) : State :=
  let s1 := s.modTime (fun t =>
    { t with lastLen := some t.ticklen, ticklen := t.ticklenW, fllog2 := t.fllog2W, pending := false })
  let m := sampleMax s1.time.ticklen
  let s2 := (if s1.time.sampleOffW > m then logClamp pTIM 0 0x050 0 s1 else s1).modTime
    (fun t => { t with sampleOffW := min t.sampleOffW m, sampleOff := min t.sampleOffW m })
  s2.fns.foldl (fun s3 x => s3.modFn x.1 (fun y =>
    { y with share := y.share.scaled s.ceilUp s1.ceilUp s.ceilDn s1.ceilDn
             shareNew := y.shareNew.map (fun sh => sh.scaled s.ceilUp s1.ceilUp s.ceilDn s1.ceilDn) })) s2

/-! ## The wake from Standby (R84-R86, R468) -/

/-- Elapsed ticks of a sleep-counter reading, and the source (R84-R86). -/
def State.sleepTicks (s : State) (count : Nat) : Nat × Nat :=
  let l := s.tickUs
  let div := fun (n d : Nat) => (2 * n + d) / (2 * d)
  if !s.time.sleepRc then (div count (25 * l), 1)
  else match s.time.calib with
    | some c => (div (count * 1000) (max c 1 * l), 2)
    | none => (div count (10 * l), 3)

/-- STANDBY_WAKE: the anchor has woken and its sleep counter reads `count`; the link returns to L0, time is rebuilt,
and a standby event is written (R85, R86, R437, R468). -/
def standbyWake (count : Nat) (s : State) : State :=
  if !(s.time.sleeping && (s.tl 0).pow == .run) then s
  else
    let sat := decide (count ≥ 2 ^ 48 - 1)
    let e := s.sleepTicks (min count (2 ^ 48 - 1))
    let fl := s.frameLen
    let at_ := s.time.entryTick + e.1
    let tick := (at_ + fl - 1) / fl * fl
    let delta := tick - s.time.entryTick
    let up := fun (n d : Nat) => (n + d - 1) / d
    let bound := if sat then 2 ^ 64 - 1
      else (if e.2 = 1 then up e.1 10000 else if e.2 = 2 then up (2 * e.1) 1000 else up (3 * e.1) 100) + 1
    let p := (s.tl 0).pwr
    let before := s.time.plant
    -- the tick that closed as the counter started counts beside the ticks added
    let s0 := (ageBy (delta + 1) { flushTlps { s with link := 1 } with stage := 0, stopping := false }).modTime (fun t =>
      { t.advance (delta + 1) with
        tick, sleeping := false, sleepRc := false, calib := none, sync := false, syncRun := 0, holdover := false
        wakeUnsync := true, wakeDelta := delta, wakeBound := bound, wakeSource := e.2, wakeSat := sat, frameDone := none })
    let s1 := if s0.time.pending && tick % 65536 == 0 then (takeTimecfg s0).modTime (fun t => { t with lastLen := none }) else s0
    let s2 := emit 0 (discontinuity before s1.time.plant e.2 (b2n sat)
      [recData [(16, 6, delta), (22, 8, bound)]]) s1
    let s3 := out (.ltr 0) (s2.setSreg 0x03E80000 pPWR 0 0x040 (clrBit s2.stbyCtl 0))
    let s4 := if p.cause = 1 ∨ p.cause = 2 then
        raiseNorm 0 13 (s3.setReg 0 pPWR 0 0x048 (p.cause + p.port * 8 + 2 ^ 15)) else s3
    emitMgr 0x0C 4 [(16, 1, 1), (17, 1, p.cause), (20, 8, tick)] s4

def execStandbyWake (count : Nat) (s : State) : Res := .next (standbyWake count s)

end Sys2Proof.Machine
end

