-- ==== Sys2Proof/Machine/MgtPort.lean ====
section
/-!
DEFINITION. MgtPort: the management port's link, addresses, next hops and the traffic it serves
(spec/17_register_map.md, R558-R560), and the boundary-scan port (spec/18_signals_package_electrical.md, R587).
-/
namespace Sys2Proof.Machine

def State.modMgt (s : State) (u : MgtSt → MgtSt) : State := { s with mgt := u s.mgt }

/-! ## Link (R558) -/

/-- MGT_LINK_STATUS: the PHY's in-band status: link, speed code, duplex. -/
def mgtLink (up : Bool) (speed : Nat) (duplex : Bool) (s : State) : State :=
  let was := s.mgt.up
  let s1 := s.modMgt (fun m => { m with up, speed := speed % 4, duplex })
  let s2 := if was && !up then setErr pMGT 0 0 s1 else s1
  if up && !s1.mgt.served then setErr pMGT 0 1 s2 else s2

def execMgtLinkStatus (up : Bool) (speed : Nat) (duplex : Bool) (s : State) : Res := .next (mgtLink up speed duplex s)

/-- A frame that is served counts in MGT_RXFRAMES, one that is not in MGT_DROP.UNWANTED (R558, R559). -/
def rxServed (s : State) : State := countReg pMGT 0 0x090 0 64 1 s
def rxDropped (s : State) : State := if s.mgtUp then countReg pMGT 0 0x098 16 16 1 s else s

/-- MGT_UNWANTED_FRAME: a frame not served; `bad` one with a bad FCS or length (R559). -/
def execMgtUnwantedFrame (bad : Bool) (s : State) : Res :=
  .next (if bad then (if s.mgtUp then countReg pMGT 0 0x098 0 16 1 s else s) else rxDropped s)

/-! ## Addresses (R558-R560) -/

def State.mgtMac (s : State) : Nat := s.sreg Config.fuseMac.toNat pMGT 0 0x048
def State.mgtIp4 (s : State) : Nat := s.sreg 0 pMGT 0 0x050
/-- A 128-bit register from its four words. -/
def State.mgtWide (s : State) (off : Nat) : Nat :=
  sumTo 4 (fun i => s.sreg 0 pMGT 0 (off + 4 * i) * 2 ^ (32 * i))

/-- Octet `i` of an address, first octet in [7:0]. -/
def octet (a i : Nat) : Nat := bits a (8 * i) 8

/-- The first `n` bits of two addresses agree, the first octet's most significant bit first. -/
def samePrefix (n a b : Nat) : Bool :=
  (List.range n).all (fun k => bit (octet a (k / 8)) (7 - k % 8) == bit (octet b (k / 8)) (7 - k % 8))

/-- The link-local address fe80::/64 with the EUI-64 of the MAC address. -/
def State.linkLocal (s : State) : Nat :=
  let m := s.mgtMac
  let o := [0xFE, 0x80, 0, 0, 0, 0, 0, 0, octet m 0 ^^^ 2, octet m 1, octet m 2, 0xFF, 0xFE, octet m 3, octet m 4, octet m 5]
  sumTo 16 (fun i => (o[i]?.getD 0) * 2 ^ (8 * i))

/-- The address is one of the device's own. -/
def State.ownAddr (s : State) (v6 : Bool) (a : Nat) : Bool :=
  s.familyOn v6 && (if v6 then a == s.mgtWide 0x060 || a == s.linkLocal else a == s.mgtIp4)

/-- The words that each address register is made of: its first offset, its highest word. -/
def addrReg (off : Nat) : Option (Nat × Nat) :=
  if off = 0x048 ∨ off = 0x04C then some (0x048, 0x04C)
  else if 0x060 ≤ off ∧ off < 0x070 ∧ off % 4 = 0 then some (0x060, 0x06C)
  else if 0x080 ≤ off ∧ off < 0x090 ∧ off % 4 = 0 then some (0x080, 0x08C)
  else none

/-- One word of an address register: held, and the whole register takes effect with its highest word (R558). -/
def mgtWord (off v : Nat) (s : State) : State :=
  match addrReg off with
  | none => s
  | some (lo, hi) =>
    let s0 := if off = 0x048 ∧ bit v 0 then logClamp pMGT 0 0x048 0 s else s
    let w := if off = 0x048 then clrBit v 0 else if off = 0x04C then v % 2 ^ 16 else v
    let s1 := s0.modMgt (fun m => { m with words := (m.words.filter (·.1 != off)) ++ [(off, w)] })
    if off ≠ hi then s1
    else
      let get := fun (o old : Nat) => ((s1.mgt.words.find? (·.1 == o)).map (·.2)).getD old
      let s2 := if lo = 0x048 then
          let d := Config.fuseMac.toNat
          let old := s1.sreg d pMGT 0 0x048
          s1.setSreg d pMGT 0 0x048 (get 0x048 (bits old 0 32) + get 0x04C (bits old 32 16) * 2 ^ 32)
        else (List.range 4).foldl (fun s i =>
          let o := lo + 4 * i
          s.setSreg 0 pMGT 0 o (get o (s.sreg 0 pMGT 0 o))) s1
      s2.modMgt (fun m => { m with words := m.words.filter (fun x => decide (x.1 < lo ∨ hi < x.1)) })

/-- MGT_ADDRESS_WRITE: a 4- or 8-byte write, the lower word first (R544, R558). -/
def mgtAddress (off size v : Nat) (s : State) : State :=
  if !s.ready then s
  else if size = 8 then mgtWord (off + 4) (v / 2 ^ 32) (mgtWord off (v % 2 ^ 32) s)
  else mgtWord off (v % 2 ^ 32) s

def execMgtAddressWrite (off size : Nat) (v : W64) (s : State) : Res := .next (mmio 0 0 (fun s => mgtAddress off size v.toNat s) s)

/-! ## Sending and next hops (R558)

Kinds of `Output.mgt`: 1 ARP reply, 2 Neighbor Advertisement, 3 Echo Reply, 4 UDP datagram, 5 and 6 delay requests,
7 ARP request, 8 Neighbor Solicitation. -/

/-- The next hop of a destination: itself in the configured or link-local prefix, else the gateway, if any. -/
def State.nextHop (s : State) (v6 : Bool) (dst : Nat) : Option Nat :=
  if v6 then
    if samePrefix (min (s.sreg 0 pMGT 0 0x070) 128) dst (s.mgtWide 0x060) || samePrefix 64 dst s.linkLocal then some dst
    else if s.mgtWide 0x080 = 0 then none else some (s.mgtWide 0x080)
  else
    if samePrefix (min (s.sreg 0 pMGT 0 0x054) 32) dst s.mgtIp4 then some dst
    else if s.sreg 0 pMGT 0 0x058 = 0 then none else some (s.sreg 0 pMGT 0 0x058)

/-- A datagram of a kind to a destination: sent, or held while its next hop is resolved. -/
def mgtSend (kind : Nat) (v6 : Bool) (dst : Nat) (data : List Byte) (s : State) : State :=
  if !s.mgtUp then s
  else match s.nextHop v6 dst with
    | none => s
    | some nh =>
      if s.mgt.hops.any (fun h => h.1 == v6 && h.2.1 == nh) then out (.mgt kind dst data) s
      else out (.mgt (if v6 then 8 else 7) nh [])
        (s.modMgt (fun m => { m with waiting := m.waiting ++ [(v6, nh, dst, BitVec.ofNat 8 kind :: data)] }))

/-- A next hop is learnt; of sixteen entries the oldest leaves. What waited for it is sent. -/
def learnHop (v6 : Bool) (ip mac : Nat) (s : State) : State :=
  let go := s.mgt.waiting.filter (fun w => w.1 == v6 && w.2.1 == ip)
  let s1 := s.modMgt (fun m =>
    let l := m.hops.filter (fun h => !(h.1 == v6 && h.2.1 == ip))
    { m with hops := (if l.length ≥ 16 then l.drop 1 else l) ++ [(v6, ip, mac)]
             waiting := m.waiting.filter (fun w => !(w.1 == v6 && w.2.1 == ip)) })
  go.foldl (fun s w => out (.mgt ((w.2.2.2.head?.map (·.toNat)).getD 0) w.2.2.1 (w.2.2.2.drop 1)) s) s1

/-- NEXT_HOP_RESOLUTION_REPLY: an ARP reply or Neighbor Advertisement (R558). -/
def execNextHopResolutionReply (v6 : Bool) (ip mac : Nat) (s : State) : Res :=
  .next (if s.mgtUp && s.familyOn v6 then rxServed (learnHop v6 ip mac s) else rxDropped s)

/-- MGT_NEIGHBOR_EXPIRY: an entry is 60 s old (R558). -/
def execMgtNeighborExpiry (v6 : Bool) (ip : Nat) (s : State) : Res :=
  .next (s.modMgt (fun m => { m with hops := m.hops.filter (fun h => !(h.1 == v6 && h.2.1 == ip)) }))

/-- MGT_ARP_REQUEST for `target` from `src` (R558). -/
def execMgtArpRequest (target src : Nat) (s : State) : Res :=
  .next (if s.mgtUp && s.ownAddr false target then out (.mgt 1 src (toLe 6 s.mgtMac)) (rxServed s) else rxDropped s)

/-- MGT_NEIGHBOR_SOLICITATION for `target` from `src` (R558). -/
def execMgtNeighborSolicitation (target src : Nat) (s : State) : Res :=
  .next (if s.mgtUp && s.ownAddr true target then out (.mgt 2 src (toLe 6 s.mgtMac)) (rxServed s) else rxDropped s)

/-- MGT_ECHO_REQUEST: answered when ECHO is set (R558, R560). -/
def execMgtEchoRequest (v6 : Bool) (dst src : Nat) (data : List Byte) (s : State) : Res :=
  .next (if s.mgtUp && s.ownAddr v6 dst && bit (s.sreg 4 pMGT 0 0x040) 2 then mgtSend 3 v6 src data (rxServed s)
    else rxDropped s)

/-! ## Boundary scan (R587): usable with PERST# low -/

def State.modJtag (s : State) (u : JtagSt → JtagSt) : State := { s with jtag := u s.jtag }

/-- The IDCODE register of revision A (R5, R587). -/
def State.idcode (s : State) : Nat :=
  1 + 0x2B9 * 2 + (if s.tiles = 2 then 0x8802 else if s.tiles = 4 then 0x8804 else 0x8808) * 2 ^ 12 + 2 ^ 28

/-- An instruction takes effect; boundary-scan operation requires the package in reset. -/
def jtagIr (code : Nat) (u : JtagSt → JtagSt) (s : State) : State :=
  if s.pins.perst then s else s.modJtag (fun j => { u j with ir := code })

/-- EXTEST: balls are driven from the boundary register, which takes `v`. -/
def execJtagExtest (v : Nat) (s : State) : Res := .next (jtagIr 0x00 (fun j => { j with boundary := v, drives := 1 }) s)
/-- IDCODE: its register is shifted out. -/
def execJtagIdcode (s : State) : Res :=
  .next (if s.pins.perst then s else out (.scan s.idcode) (jtagIr 0x01 (fun j => { j with drives := 0 }) s))
/-- SAMPLE/PRELOAD: the boundary register takes the balls' values, or the values shifted in. -/
def execJtagSamplePreload (v : Nat) (s : State) : Res :=
  .next (jtagIr 0x02 (fun j => { j with boundary := v, drives := 0 }) s)
/-- CLAMP: outputs hold what the boundary register gives, bypass selected. -/
def execJtagClamp (s : State) : Res := .next (jtagIr 0x04 (fun j => { j with drives := 1 }) s)
/-- HIGHZ: every output at high impedance, bypass selected. -/
def execJtagHighz (s : State) : Res := .next (jtagIr 0x08 (fun j => { j with drives := 2 }) s)
/-- BYPASS, and every other code than the named ones. -/
def execJtagBypass (code : BitVec 8) (s : State) : Res :=
  .next (if code.toNat ∈ [0x00, 0x01, 0x02, 0x04, 0x08] then s else jtagIr code.toNat (fun j => { j with drives := 0 }) s)
/-- TEST_LOGIC_RESET selects IDCODE. -/
def execTestLogicReset (s : State) : Res := .next (s.modJtag (fun j => { j with ir := 1, drives := 0 }))

end Sys2Proof.Machine
end

