-- ==== Sys2Proof/Machine/Firmware.lean ====
section
/-!
DEFINITION. Firmware: download, verification, activation, trial and rollback of a Hiale package, the settings store
and the node tables (spec/15_firmware_settings.md, R475-R513).
-/
namespace Sys2Proof.Machine

/-! ## Boot records and slots (R477, R489, R490) -/

/-- The winning boot record (R490). -/
def FwSt.winner (x : FwSt) : Option BootRec :=
  match x.boot0, x.boot1 with
  | some a, some b => some (if a.gen ≥ b.gen then a else b)
  | some a, none => some a
  | none, b => b

/-- A change is written to the other record with GEN one above the winner's. -/
def writeBoot (r : BootRec) (s : State) : State :=
  let w := s.fw.winner
  let r1 : BootRec := { r with gen := (w.map (·.gen)).getD 0 + 1 }
  let second := w.isSome && w == s.fw.boot0
  out (.store 2 (b2n second) r1.gen)
    (s.modFw (fun x => if second then { x with boot1 := some r1 } else { x with boot0 := some r1 }))

/-- The Flacon: slot B while the winning record names slot A, else slot A (R477). -/
def FwSt.flacon (x : FwSt) : Nat := if x.winner.map (·.slot) = some 1 then 2 else 1
/-- The image is on trial (R497). -/
def FwSt.onTrial (x : FwSt) : Bool := (x.winner.map (·.trial)).getD false
/-- The settings bank that the winning record names; X without one (R491). -/
def FwSt.setBank (x : FwSt) : Nat := (x.winner.map (·.setBank)).getD 0
/-- The strap GOLDEN (R555). -/
def State.golden (s : State) : Bool := bit s.pins.straps 3

/-- The bytes of a chunk in a slot; what no chunk has programmed reads as nothing. -/
def FwSt.chunk (x : FwSt) (slot i : Nat) : List Byte :=
  if slot = 0 then Config.goldenChunk i else nget [] x.chunks (slot * 8192 + i)

/-! ## Manifest (R479-R481) -/

def manFormat (c0 : List Byte) : Nat := byteField c0 0 2
def manChunks (c0 : List Byte) : Nat := byteField c0 2 2
def manImage (c0 : List Byte) : Nat := byteField c0 4 2
def manSetfmt (c0 : List Byte) : Nat := byteField c0 6 2
def manSize (c0 : List Byte) : Nat := byteField c0 8 4
def manFwver (c0 : List Byte) : Nat := byteField c0 12 4
def manSvn (c0 : List Byte) : Nat := byteField c0 16 8
def manParts (c0 : List Byte) : Nat := bits (byteField c0 24 1) 0 3
def manKey (c0 : List Byte) : Nat := bits (byteField c0 25 1) 0 2
def manRevoke (c0 : List Byte) : Nat := bits (byteField c0 26 1) 0 4

/-- The manifest of a slot, all its chunks together. -/
def FwSt.manifest (x : FwSt) (slot : Nat) : List Byte :=
  (List.range (min 64 (manChunks (x.chunk slot 0)))).flatMap (x.chunk slot)

/-- HASH of image chunk `j` (R479). -/
def manHash (m : List Byte) (j : Nat) : List Byte := (m.drop (256 + 32 * j)).take 32

/-- The fused security version (R481). -/
def FwSt.fusedSvn (x : FwSt) : Nat := (x.svnFuses.getLast?).getD 0

/-- PARTS includes this part. -/
def State.partOk (s : State) (parts : Nat) : Bool := bit parts (if s.tiles = 2 then 0 else if s.tiles = 4 then 1 else 2)

/-- The manifest's fields meet R479. -/
def manFields (m : List Byte) (count : Nat) : Bool :=
  let ic := manImage m
  let sz := 256 + 32 * ic
  manFormat m == 1 && decide (1 ≤ ic ∧ ic ≤ 6144) && manChunks m == (sz + 96 + 4095) / 4096 &&
    decide (4096 * (ic - 1) < manSize m ∧ manSize m ≤ 25165824) && manChunks m + ic == count &&
    byteField m 27 5 == 0 && byteField m 128 128 == 0 && leNat (m.drop (sz + 96)) == 0

/-- The signature holds under the fused key (R480). -/
def manSigned (m : List Byte) : Bool :=
  let sz := 256 + 32 * manImage m
  let pub := (m.drop 32).take 96
  Config.p384Verify pub ((m.drop sz).take 96) (Config.sha384 (m.take sz))

/-- A good manifest (R480), and the state with CRY's count of the verification it took. -/
def manifestGood (m : List Byte) (count : Nat) (s : State) : Bool × State :=
  let k := manKey m
  if !(manFields m count && s.partOk (manParts m) && !bit s.fw.revoked k &&
      Config.sha384 ((m.drop 32).take 96) == Config.fuseKey k) then (false, s)
  else
    let good := manSigned m
    (good, countReg pCRY 0 0x040 (if good then 0 else 16) 16 1 s)

/-- Image chunks of a slot that do not match their HASH. -/
def FwSt.badChunks (x : FwSt) (slot : Nat) : List Nat :=
  let m := x.manifest slot
  (List.range (manImage m)).filterMap (fun j =>
    let i := manChunks m + j
    if Config.sha256 (x.chunk slot i) = manHash m j then none else some i)

/-! ## Session (R482, R484) -/

/-- The session record in force, if it stores a session. -/
def FwSt.sessRec (x : FwSt) : Option Session :=
  match x.sess0, x.sess1 with
  | some a, some b => some (if a.gen ≥ b.gen then a else b)
  | some a, none => some a
  | none, b => b
def FwSt.session (x : FwSt) : Option Session :=
  match x.sessRec with
  | some r => if r.stored then some r else none
  | none => none

/-- A change of the record writes the copy that does not hold the higher generation. -/
def writeSession (r : Session) (s : State) : State :=
  let w := s.fw.sessRec
  let r1 : Session := { r with gen := (w.map (·.gen)).getD 0 + 1 }
  let second := w.isSome && w == s.fw.sess0
  out (.store 3 (b2n second) r1.gen) (s.modFw (fun x =>
    let x := { x with sessTick := some s.time.tick, verified := false }
    if second then { x with sess1 := some r1 } else { x with sess0 := some r1 }))

/-- The record was written less than 60 s ago (R482 case 2). -/
def State.sessRecent (s : State) : Bool :=
  match s.fw.sessTick with
  | some t => decide (s.time.tick < t + s.ticksOf 60000000)
  | none => false

/-- FW_VERIFY, FW_ACTIVATE or a rollback is pending: the low bits of its handle's sequence, 0 for a rollback. -/
def State.fwBusy (s : State) : Option Nat :=
  match s.mgrOp (fun o => o == .fwVerify || o == .fwActivate) with
  | some h => some (h.seq % 256)
  | none =>
    if s.fw.rollWait.isSome then some 0
    else match s.fw.switch with
      | some w => if w.rollback then some 0 else none
      | none => none

/-- A new session opens with a tag of random bits; without them the command waits (R482 case 5, R561). -/
def openSession (x : Entry) (pkgid : List Byte) (count : Nat) (recs : List ListRec) (s : State) : State :=
  if !s.rngOk then s.modFw (fun y => { y with rngWait := (y.rngWait.filter (· != x.id)) ++ [x.id] })
  else
    let pos := ((s.fw.sessRec.map (·.pos)).getD 7 + 1) % 8
    let tag := s.freeVal % 2 ^ 64
    finish 0 x false 0 0 0 recs ((writeSession
      { gen := 0, stored := true, pkgid, count, tag, slot := s.fw.flacon, pos } s.draw).modFw (fun y =>
        { y with marked := [], rngWait := y.rngWait.filter (· != x.id) }))

/-- FW_SESSION (R475, R482, R508 case 2). -/
def fwSession (f : Nat) (x : Entry) (s : State) : State :=
  let count := if x.count < 2 then 2 else min x.count 8192
  let recs := if count = x.count then [] else [clampRec 128 x.count count]
  let pkgid := toLe 8 x.p1 ++ toLe 8 x.p2
  if !s.fw.flashOk then finish f x false 0 0x88 0 [] (setErr pFWU 0 0 s)
  else if s.fw.onTrial then finish f x false 0 0x87 0 [] s
  else match s.fwBusy with
    | some q => finish f x false 0 0x08 q [] s
    | none =>
      if s.fw.prog.isSome then s.modFw (fun y => { y with sessWait := (y.sessWait.filter (· != x.id)) ++ [x.id] })
      else if bit x.p0 0 then
        match s.fw.session with
        | none => finish f x false 0 0 0 recs s
        | some r =>
          if s.sessRecent then finish f x false 0 0x08 0 [] s
          else finish f x false 0 0 0 recs (writeSession { r with stored := false } s)
      else if s.fw.session.any (fun r => r.pkgid == pkgid && r.count == count) then
        finish f x false s.fw.marked.length 0 0 recs s
      else if s.sessRecent then finish f x false 0 0x08 0 [] s
      else openSession x pkgid count recs s

def execFwSession (f e : Nat) (s : State) : Res := .next (cmd f e 0x40 (fwSession f) s)

/-- FW_SESSION commands that waited run again. -/
def rerunSessions (ids : List Nat) (s : State) : State := ids.foldl (fun s id => cmd 0 id 0x40 (fwSession 0) s) s

/-! ## Chunks (R483, R485-R487) -/

/-- A CHUNKACK (R487): 0 marked, 1 already marked, 2 check failed, 3 flash failure. -/
def chunkAck (src result index tag : Nat) (s : State) : State :=
  mgtSend 4 (src % 2 == 1) (src / 2) ([0x81#8] ++ toLe 1 result ++ toLe 2 0 ++ toLe 4 index ++ toLe 8 tag) s

/-- A chunk ends: the command completes, or the sender hears of it (R485, R487). -/
def chunkEnds (q : ChunkReq) (status detail : Nat) (already : Bool) (s : State) : State :=
  match q.origin with
  | .command id => endCommand 0 id status detail s
  | .udp src =>
    let r := if status = 0 then b2n already else if status = 0x88 then 3 else 2
    chunkAck src r q.index ((s.fw.session.map (·.tag)).getD 0)
      (s.modFw (fun x => { x with bufs := x.bufs.filter (·.chunk != q.index) }))

/-- Steps 1 to 4 of R483: how the chunk ends before it is programmed, if it does. -/
def State.chunkCheck (s : State) (q : ChunkReq) : Option (Nat × Nat × Bool) :=
  match s.fw.session with
  | none => some (0x82, 0, false)
  | some r =>
    let c0 := s.fw.chunk r.slot 0
    let mc := manChunks c0
    let hashAt := 256 + 32 * (q.index - mc)
    if q.index ≥ r.count then some (0x82, 0, false)
    else if s.fw.marked.contains q.index then some (0, 0, true)
    else if q.index = 0 then
      if (Config.sha256 q.data).take 16 = r.pkgid ∧ manChunks q.data + manImage q.data = r.count then none
      else some (0x80, 2, false)
    else if s.fw.marked.contains 0 && decide (mc ≤ q.index) && s.fw.marked.contains (hashAt / 4096) then
      if Config.sha256 q.data = ((s.fw.chunk r.slot (hashAt / 4096)).drop (hashAt % 4096)).take 32 then none
      else some (0x80, 2, false)
    else none

/-- Chunks are handled one at a time in order of arrival, up to one that is being programmed; they wait while
FW_VERIFY or FW_ACTIVATE is pending (R483, R508 case 3). -/
def pumpChunks : Nat → State → State
  | 0, s => s
  | k + 1, s =>
    if s.fw.prog.isSome || (s.mgrOp (fun o => o == .fwVerify || o == .fwActivate)).isSome then s
    else match s.fw.queue with
      | [] => s
      | q :: rest =>
        match s.chunkCheck q with
        | some (st, d, al) => pumpChunks k (chunkEnds q st d al (s.modFw (fun x => { x with queue := rest })))
        | none =>
          out (.store 4 (s.fw.flacon * 8192 + q.index) 0) (s.modFw (fun x => { x with prog := some false }))

def pumpAll (s : State) : State := pumpChunks s.fw.queue.length s

/-- FW_CHUNK reads its 4,096 bytes (R485). -/
def execFwChunk (f e : Nat) (s : State) : Res := .next (cmd f e 0x41 (fun x s => readStruct f x 4096 s) s)

/-- A chunk has arrived whole. -/
def chunkArrives (o : ChunkFrom) (index : Nat) (d : List Byte) (s : State) : State :=
  pumpAll (s.modFw (fun x => { x with queue := x.queue ++ [{ origin := o, index, data := d }] }))

/-- CHUNK_PROGRAMMED: the sector reads back as written, or not; steps 5 and 6 of R483. -/
def chunkProgrammed (ok : Bool) (s : State) : State :=
  match s.fw.prog, s.fw.queue, s.fw.session with
  | some again, q :: rest, some r =>
    let key := r.slot * 8192 + q.index
    if ok then
      let s1 := s.modFw (fun x => { x with prog := none, queue := rest, verified := false
                                           chunks := nput [] x.chunks key q.data, marked := insertAsc q.index x.marked })
      let s2 := out (.store 5 q.index r.pos) (chunkEnds q 0 0 false s1)
      let s3 := if s2.fw.marked.length = r.count then
          emitMgr 0x0D 1 [(16, 2, r.count), (20, 8, leNat (r.pkgid.take 8))] s2 else s2
      pumpAll (rerunSessions s3.fw.sessWait (s3.modFw (fun x => { x with sessWait := [] })))
    else if !again then
      out (.store 4 key 1) (s.modFw (fun x => { x with prog := some true }))
    else
      let s1 := s.modFw (fun x => { x with prog := none, queue := rest, chunks := nput [] x.chunks key [] })
      let s2 := emit 0 { cls := 0x0D, kind := 8, status := 0x88, detail := r.slot
                         recs := [recData [(20, 4, r.slot * 0x2000000 + 4096 * q.index)]] }
        (setErr pFWU 0 0 (chunkEnds q 0x88 r.slot false s1))
      pumpAll (rerunSessions s2.fw.sessWait (s2.modFw (fun x => { x with sessWait := [] })))
  | _, _, _ => s

def execChunkProgrammed (ok : Bool) (s : State) : Res := .next (chunkProgrammed ok s)

def State.udpcfg (s : State) : Nat := s.sreg 0xC6C1 pFWU 0 0x06C
/-- Datagrams of the chunk protocol are served: UDPEN, the port up, the family enabled (R486, R558). -/
def State.udpOn (s : State) (src : Nat) : Bool := s.mgtUp && bit s.udpcfg 16 && s.familyOn (src % 2 == 1)

def udpDrop (s : State) : State := countReg pFWU 0 0x078 0 32 1 s

/-- The datagram carries the tag of an open session. -/
def State.tagOk (s : State) (d : List Byte) : Bool := s.fw.session.any (fun r => r.tag == byteField d 8 8)

/-- A segment fills its assembly buffer; the fourth completes the chunk (R486). -/
def udpSegment (src : Nat) (d : List Byte) (s : State) : State :=
  if !s.udpOn src then rxDropped s
  else if !(d.length == 1040 && byteField d 0 1 == 1 && s.tagOk d) then udpDrop (rxServed s)
  else
    let s := rxServed s
    let c := byteField d 4 4
    let seg := byteField d 1 1 % 4
    let data := d.drop 16
    match s.fw.bufs.find? (·.chunk == c) with
    | some b =>
      if s.fw.queue.any (fun q => q.index == c && (match q.origin with | .udp _ => true | _ => false)) then s
      else
        let b1 : AsmBuf := { b with src, segs := (b.segs.filter (·.1 != seg)) ++ [(seg, data)] }
        let s1 := s.modFw (fun x => { x with bufs := x.bufs.map (fun y => if y.chunk = c then b1 else y) })
        if b1.segs.length = 4 then chunkArrives (.udp src) c ((sortBy (·.1) b1.segs).flatMap (·.2)) s1 else s1
    | none =>
      if s.fw.bufs.length ≥ 64 then s
      else s.modFw (fun x => { x with bufs := x.bufs ++ [{ chunk := c, src, segs := [(seg, data)] }] })

/-- FW_UDP_SEGMENT: a datagram of 1,040 bytes or what claims to be one; `src` is twice the sender's address and port,
plus 1 over IPv6. -/
def execFwUdpSegment (src : Nat) (d : List Byte) (s : State) : Res := .next (udpSegment src d s)

/-- The STATUS reply (R487). -/
def State.statusBytes (s : State) (r : Session) : List Byte :=
  [0x82#8] ++ toLe 7 0 ++ toLe 8 r.tag ++ toLe 2 r.count ++ toLe 2 s.fw.marked.length ++ toLe 1 (b2n s.fw.verified) ++
    toLe 11 0 ++ toLe 1024 (s.fw.marked.foldl (fun a i => a + 2 ^ i) 0)

/-- A QUERY is answered with a STATUS (R486, R487). -/
def udpQuery (src : Nat) (d : List Byte) (s : State) : State :=
  if !s.udpOn src then rxDropped s
  else match s.fw.session with
    | some r =>
      if d.length = 16 ∧ byteField d 0 1 = 2 ∧ s.tagOk d then
        mgtSend 4 (src % 2 == 1) (src / 2) (s.statusBytes r) (rxServed s)
      else udpDrop (rxServed s)
    | none => udpDrop (rxServed s)

def execFwUdpQuery (src : Nat) (d : List Byte) (s : State) : Res := .next (udpQuery src d s)

/-- ASSEMBLY_BUFFER_TIMEOUT: 1 s after its first segment; a complete chunk that still waits is dropped with it
(R486, R508 case 3). -/
def bufferTimeout (c : Nat) (s : State) : State :=
  let mine := fun (q : ChunkReq) => q.index == c && (match q.origin with | .udp _ => true | _ => false)
  let busy := s.fw.prog.isSome && (s.fw.queue.head?.any mine)
  if busy then s
  else s.modFw (fun x => { x with bufs := x.bufs.filter (·.chunk != c), queue := x.queue.filter (fun q => !mine q) })

def execAssemblyBufferTimeout (c : Nat) (s : State) : Res := .next (bufferTimeout c s)

/-! ## Verification (R488) -/

/-- FW_VERIFY. -/
def fwVerify (f : Nat) (x : Entry) (s : State) : State :=
  match s.fwBusy with
  | some q => finish f x false 0 0x08 q [] s
  | none =>
    if s.fw.session.isNone then finish f x false 0 0x82 0 [] s
    else startLong f x .fwVerify true [] (fun _ s => s.modFw (fun y => { y with verified := false })) s

def execFwVerify (f e : Nat) (s : State) : Res := .next (cmd f e 0x42 (fwVerify f) s)

/-- VERIFY_DONE: the checks of R488 in their order. -/
def verifyDone (s : State) : State :=
  match s.mgrOp (· == .fwVerify), s.fw.session with
  | some h, some r =>
    let gaps := (List.range r.count).filter (fun i => !s.fw.marked.contains i)
    let m := s.fw.manifest r.slot
    let drop := fun (l : List Nat) (s : State) => failHandle 0 h.seq 0x80 2 (listMore 0 h.seq (l.map (fun i => leftOut i 0x80 2)) s)
    if gaps ≠ [] then pumpAll (drop gaps s)
    else
      let g := manifestGood m r.count s
      if !g.1 then pumpAll (failHandle 0 h.seq 0x80 1 g.2)
      else if manSvn m < s.fw.fusedSvn then pumpAll (failHandle 0 h.seq 0x81 0 g.2)
      else
        let bad := s.fw.badChunks r.slot
        if bad ≠ [] then
          pumpAll (drop bad (g.2.modFw (fun x => { x with marked := x.marked.filter (fun i => !bad.contains i) })))
        else pumpAll (commitHandle 0 h.seq (g.2.modFw (fun x => { x with verified := true })))
  | _, _ => s

def execVerifyDone (s : State) : Res := .next (verifyDone s)

/-! ## Settings banks (R501-R505) -/

/-- A copy of a bank, 0 to 2, or its snapshot, 3; none fails its CRC. -/
def FwSt.copyOf (x : FwSt) (bank i : Nat) : Option SetCopy := nget none x.copies (bank * 4 + i)
def FwSt.putCopy (x : FwSt) (bank i : Nat) (c : Option SetCopy) : FwSt :=
  { x with copies := nput none x.copies (bank * 4 + i) c }
/-- The highest generation among a bank's copies. -/
def FwSt.bankGen (x : FwSt) (bank : Nat) : Nat :=
  [0, 1, 2].foldl (fun a i => max a ((x.copyOf bank i).map (·.gen) |>.getD 0)) 0
/-- The content of a bank at its highest generation. -/
def FwSt.bankContent (x : FwSt) (bank : Nat) : Option SetCopy :=
  ([0, 1, 2].filterMap (x.copyOf bank)).find? (fun c => c.gen == x.bankGen bank)

/-- The registers of the settings record and their defaults (R501): type, page, offset, default, mask of the stored
fields. -/
def State.settingsWords (s : State) : List (Nat × Nat × Nat × Nat × Nat) :=
  (List.range s.tiles).flatMap (fun t =>
    [(pPIM, t, 0x044, 0xFFFFFFFF, 2 ^ 32 - 1), (pPMT, t, 0x040, 0x11, 3), (pPMT, t, 0x048, 0x10400, 2 ^ 32 - 1)]) ++
  (List.range s.portCount).flatMap (fun g =>
    [(pTPT, g, 0x080, 0x01100804, 2 ^ 32 - 1 - 8), (pTPT, g, 0x084, 0x2040, 2 ^ 32 - 1)]) ++
  [(pFWU, 0, 0x064, 0x00480603, 2 ^ 32 - 1), (pFWU, 0, 0x068, 0, 2 ^ 32 - 1), (pFWU, 0, 0x06C, 0xC6C1, 2 ^ 32 - 1),
   (pFWU, 0, 0x070, 0, 2 ^ 32 - 1), (pMGT, 0, 0x040, 4, 2 ^ 32 - 1), (pMGT, 0, 0x048, Config.fuseMac.toNat, 2 ^ 48 - 1),
   (pMGT, 0, 0x050, 0, 2 ^ 32 - 1), (pMGT, 0, 0x054, 0, 2 ^ 32 - 1), (pMGT, 0, 0x058, 0, 2 ^ 32 - 1),
   (pMGT, 0, 0x070, 0, 2 ^ 32 - 1), (pPWR, 0, 0x040, 0x03E80000, 4)] ++
  ([0x060, 0x080].flatMap (fun o => (List.range 4).map (fun i => (pMGT, 0, o + 4 * i, 0, 2 ^ 32 - 1))))

/-- The settings in force (R501): what differs from the defaults, TICKLEN and FLLOG2 among them. -/
def State.settingsNow (s : State) : NMap W64 :=
  let a : NMap W64 := nput (BitVec.ofNat 64 0xA0) [] (regKey pTIM 0 0x040)
    (BitVec.ofNat 64 (s.time.ticklenW + s.time.fllog2W * 16))
  s.settingsWords.foldl (fun m x =>
    let d := x.2.2.2.1
    let mask := x.2.2.2.2
    let v := (d &&& (2 ^ 64 - 1 - mask)) ||| (s.sreg d x.1 x.2.1 x.2.2.1 &&& mask)
    nput (BitVec.ofNat 64 d) m (regKey x.1 x.2.1 x.2.2.1) (BitVec.ofNat 64 v)) a

/-- A new generation starts in a bank: the snapshot takes the content in force, then copy 0 is being written (R503). -/
def startSave (bank : Nat) (format : Nat) (body : Option (NMap W64)) (gen : Nat) (seq : Option Nat) (forAct : Bool)
    (s : State) : State :=
  let old := s.fw.bankContent bank
  s.modFw (fun x =>
    let x := match old with
      | some c => if x.copyOf bank 3 = some c then x else x.putCopy bank 3 (some c)
      | none => x
    { x with save := some { bank, content := { format, gen, body }, copy := 0, seq, forAct }
             genTick := nput none x.genTick bank (some s.time.tick) })

/-- The bank may take a generation now (R503). -/
def State.bankFree (s : State) (bank : Nat) : Bool :=
  match nget none s.fw.genTick bank with
  | some t => decide (t + s.ticksOf 10000000 ≤ s.time.tick)
  | none => true

/-- Step 2 of an activation: bank Y is written (R495). -/
def actWriteBank (s : State) : State :=
  let x := s.fw.setBank
  let y := 1 - x
  let fmt := manSetfmt (s.fw.chunk s.fw.flacon 0)
  let body := if fmt = s.fw.setfmt then (s.fw.bankContent x).bind (·.body) else none
  startSave y fmt body (s.fw.bankGen x + 1) none true
    (s.modFw (fun z => { z with act := z.act.map (fun (a : Activation) => { a with stage := 2 }) }))

/-- What waits for the bank starts: a SETTINGS_SAVE, or step 2 of an activation once no save is pending
(R495, R503, R508 case 10). -/
def startWaiting (s : State) : State :=
  if s.fw.save.isSome then s
  else match s.fw.act with
    | some a =>
      if a.stage = 0 ∧ s.fw.saveWait.isSome then
        if s.bankFree s.fw.setBank then
          startSave s.fw.setBank s.fw.setfmt (some s.settingsNow) (s.fw.bankGen s.fw.setBank + 1) s.fw.saveWait false
            (s.modFw (fun x => { x with saveWait := none }))
        else s
      else if a.stage ≤ 1 then
        let s1 := s.modFw (fun x => { x with act := some { a with stage := 1 } })
        if s.bankFree (1 - s.fw.setBank) then actWriteBank s1 else s1
      else s
    | none =>
      match s.fw.saveWait with
      | some q =>
        if s.bankFree s.fw.setBank && (s.fw.switch.all (·.rollback)) then
          startSave s.fw.setBank s.fw.setfmt (some s.settingsNow) (s.fw.bankGen s.fw.setBank + 1) (some q) false
            (s.modFw (fun x => { x with saveWait := none }))
        else s
      | none => s

/-- SETTINGS_SAVE (R503, R555). During an activation it waits until the activation's handle completes (R508). -/
def settingsSave (f : Nat) (x : Entry) (s : State) : State :=
  if s.golden then finish f x false 0 0x86 0 [] s
  else match s.mgrOp (· == .settingsSave) with
    | some h => finish f x false 0 0x08 (h.seq % 256) [] s
    | none => startLong f x .settingsSave true [] (fun seq s =>
        let s1 := s.modFw (fun y => { y with saveWait := some seq })
        if s1.fw.act.isSome then s1 else startWaiting s1) s

def execSettingsSave (f e : Nat) (s : State) : Res := .next (cmd f e 0x48 (settingsSave f) s)

/-- SETTINGS_GENERATION_WAIT_END: 10 s after a bank's last generation (R503). -/
def execSettingsGenerationWaitEnd (s : State) : Res := .next (startWaiting s)

/-- SETTINGS_COPY_WRITTEN: the copy in progress is whole; copy 0 commits the save, copy 2 completes it (R503). -/
def copyWritten (s : State) : State :=
  match s.fw.save with
  | none => s
  | some v =>
    let s1 := out (.store 6 (v.bank * 4 + v.copy) v.content.gen) (s.modFw (fun x => x.putCopy v.bank v.copy (some v.content)))
    let s2 := if v.copy = 0 then
        let s2 := countReg pSET 0 0x050 0 32 1 (match v.seq with
          | some q => s1.modHandle 0 q (fun h => { h with word := .committed, commitTick := s.time.tick })
          | none => s1)
        if v.bank = s2.fw.bank then s2.modFw (fun x => { x with gen := v.content.gen }) else s2
      else s1
    if v.copy < 2 then s2.modFw (fun x => { x with save := some { v with copy := v.copy + 1 } })
    else
      let s3 := s2.modFw (fun x => { x with save := none })
      let s4 := match v.seq with
        | some q => endHandle 0 q .committed 0 0 ((s3.handle? 0 q).map (·.commitTick) |>.getD 0) s3
        | none => s3
      if v.forAct then s4.modFw (fun x => { x with act := x.act.map (fun (a : Activation) => { a with stage := 3 }) })
      else startWaiting s4

def execSettingsCopyWritten (s : State) : Res := .next (copyWritten s)

/-! ## Activation (R492-R496) -/

/-- A pin passes when all eight of its samples are high (R580). -/
def pinHigh (p : BitVec 8) : Bool := p == 0xFF#8

/-- READ_VIN in LINEAR11 reaches `mv` millivolts (R494). -/
def vinAtLeast (w : BitVec 16) (mv : Nat) : Bool :=
  let y := toSigned 11 w.toNat
  let n := toSigned 5 (w.toNat / 2 ^ 11)
  if n ≥ 0 then decide (y * 2 ^ n.toNat * 1000 ≥ (mv : Int)) else decide (y * 1000 ≥ (mv : Int) * 2 ^ (-n).toNat)

/-- Check 5 of R492: the HOLDUP_OK samples, and what READ_VIN answered, none for a failed read. -/
def State.holdupFails (s : State) (pin : BitVec 8) (vin : Option (BitVec 16)) : Option (Nat × Nat) :=
  let h := s.sreg 0 pFWU 0 0x070
  if !pinHigh pin then some (0x85, 0)
  else if bits h 0 7 = 0 then none
  else match vin with
    | some w => if vinAtLeast w (bits h 16 16) then none else some (0x85, 1)
    | none => some (0x85, 1)

/-- Checks 3 to 5 of R492. -/
def State.actFails (s : State) (motion holdup : BitVec 8) (vin : Option (BitVec 16)) : Option (Nat × Nat) :=
  if bit (s.sreg 0 pFWU 0 0x068) 0 then some (0x86, 0)
  else if !pinHigh motion then some (0x84, 0)
  else if s.fns.any (fun x => x.2.motionDeclared) then some (0x84, 1)
  else s.holdupFails holdup vin

/-- FW_ACTIVATE with the samples of MOTION_N and HOLDUP_OK and the monitor's answer (R492, R494, R555, R580). -/
def fwActivate (motion holdup : BitVec 8) (vin : Option (BitVec 16)) (f : Nat) (x : Entry) (s : State) : State :=
  let busy := match s.mgrOp (fun o => o == .fwActivate || (match o with | .powerSet _ _ => true | _ => false)) with
    | some h => some (h.seq % 256)
    | none => if s.fw.rollWait.isSome || s.fw.switch.isSome then some 0 else none
  if s.golden then finish f x false 0 0x86 0 [] s
  else if !s.fw.verified then finish f x false 0 0x83 0 [] s
  else if s.fw.onTrial then finish f x false 0 0x87 0 [] s
  else match s.actFails motion holdup vin, busy with
    | some e, _ => finish f x false 0 e.1 e.2 [] s
    | none, some q => finish f x false 0 0x08 q [] s
    | none, none => startLong f x .fwActivate true [] (fun seq s =>
        startWaiting (s.modFw (fun y => { y with act := some { seq, stage := if y.saveWait.isSome || y.save.isSome then 0 else 1 } }))) s

def execFwActivate (f e : Nat) (motion holdup : BitVec 8) (vin : Option (BitVec 16)) (s : State) : Res :=
  .next (cmd f e 0x43 (fwActivate motion holdup vin f) s)

/-- The switches of every tile start: tiles 1 to T - 1 in ascending order, then tile 0 (R495 step 5, R499). -/
def startSwitches (rollback : Bool) (seq : Option Nat) (s : State) : State :=
  let w : Switching := { rollback, seq, tile := s.tiles, todo := (List.range s.tiles).drop 1 ++ [0] }
  nextSwitch (s.modFw (fun x => { x with lastPause := 0, switch := some w }))

/-- ACTIVATION_STAGED: the standby stores are written; the checks again, then the boot record, the commit point
(R492, R495 steps 3 and 4). -/
def activationStaged (motion holdup : BitVec 8) (vin : Option (BitVec 16)) (s : State) : State :=
  match s.fw.act with
  | none => s
  | some a =>
    if a.stage ≠ 3 then s
    else
      let s1 := s.modFw (fun x => { x with act := none })
      match s.actFails motion holdup vin with
      | some e => pumpAll (startWaiting (failHandle 0 a.seq e.1 e.2 s1))
      | none =>
        let m := s.fw.chunk s.fw.flacon 0
        let w := s.fw.winner
        let pol := s.sreg 0x00480603 pFWU 0 0x064
        let s2 := writeBoot
          { gen := 0, slot := s.fw.flacon, prevSlot := (w.map (·.slot)).getD 0, trial := true, setBank := 1 - s.fw.setBank
            prevBank := s.fw.setBank, fwver := manFwver m, svn := manSvn m, prevFwver := (w.map (·.fwver)).getD s.fw.runVer
            bootMax := bits pol 0 4, autoConf := bit pol 4, acHours := bits pol 6 10, hourMax := bits pol 16 10 } s1
        let s3 := match s2.fw.session with
          | some r => writeSession { r with stored := false } s2
          | none => s2
        startSwitches false (some a.seq)
          ((s3.modHandle 0 a.seq (fun h => { h with word := .committed, commitTick := s.time.tick })).modFw (fun x =>
            { x with verified := false, trialBad := false, runVer := manFwver m, setfmt := manSetfmt m, slot := s.fw.flacon }))

def execActivationStaged (motion holdup : BitVec 8) (vin : Option (BitVec 16)) (s : State) : Res :=
  .next (activationStaged motion holdup vin s)

/-- The tile-activated event and the registers of a switch (R496, R510, R513). -/
def switched (t : Nat) (w : Switching) (pause : Nat) (s : State) : State :=
  emitMgr 0x0D 3 [(16, 1, t), (17, 1, if w.rollback then 2 else 1), (20, 4, pause)]
    (s.modFw (fun x => { x with lastPause := min pause 65535, switch := some { w with done := w.done + 1 } }))

/-- TILE_SWITCH_DONE: the tile's new code takes its first step after a pause of `pause` us (R496). -/
def switchDone (t pause : Nat) (s : State) : State :=
  match s.fw.switch with
  | none => s
  | some w =>
    if w.tile = t ∧ (s.tl t).resetAt.isNone then takeTasks t 12 (startWaiting (nextSwitch (switched t w pause s))) else s

def execTileSwitchDone (t pause : Nat) (s : State) : Res := .next (switchDone t pause s)

/-! ## Trial, confirmation and rollback (R497-R499) -/

/-- A run-time rollback is due; it waits for hold-up. With GOLDEN none runs (R499, R555). -/
def rollbackDue (reason : Nat) (s : State) : State :=
  if s.golden || s.fw.rollWait.isSome then s else s.modFw (fun x => { x with rollWait := some reason })

/-- TILE_SWITCH_TIMEOUT: the tile resumes its old code and a rollback follows (R496); a tile in reset causes none (R532). -/
def switchTimeout (t : Nat) (s : State) : State :=
  match s.fw.switch with
  | none => s
  | some w =>
    if w.tile ≠ t ∨ (s.tl t).resetAt.isSome then s
    else if w.rollback then nextSwitch (s.modFw (fun x => { x with trialBad := true }))
    else
      let s1 := s.modFw (fun x => { x with trialBad := true, switch := none })
      let s2 := match w.seq with
        | some q => endHandle 0 q .committed 0 0 ((s1.handle? 0 q).map (·.commitTick) |>.getD 0) s1
        | none => s1
      takeTasks t 12 (rollbackDue 5 s2)

def execTileSwitchTimeout (t : Nat) (s : State) : Res := .next (switchTimeout t s)

/-- The record of a rollback from the winner (R499), its SVN read from the old slot's manifest. -/
def FwSt.rollbackRec (x : FwSt) (w : BootRec) : BootRec :=
  { gen := 0, slot := w.prevSlot, setBank := w.prevBank, fwver := w.prevFwver, svn := manSvn (x.chunk w.prevSlot 0) }

/-- The rollback event (R513). -/
def rollbackEvent (reason fwver : Nat) : Event := mkEvent 0x0D 5 [(16, 1, reason), (20, 4, fwver)]

/-- A run-time rollback's record and event. -/
def writeRollback (reason : Nat) (s : State) : State :=
  match s.fw.winner with
  | none => s
  | some w => emit 0 (rollbackEvent reason w.prevFwver) (writeBoot (s.fw.rollbackRec w) s)

/-- The FW_CONFIRM commands that asked for a rollback complete (R498). -/
def endRejects (s : State) : State :=
  s.fw.rejectCmd.foldl (fun s id => endCommand 0 id 0 0 s) (s.modFw (fun x => { x with rejectCmd := [] }))

/-- ROLLBACK_HOLDUP_CHECK: every 100 ms; hold-up passes, the record is written, every tile switches back (R499). -/
def rollbackCheck (holdup : BitVec 8) (vin : Option (BitVec 16)) (s : State) : State :=
  match s.fw.rollWait with
  | none => s
  | some reason =>
    if (s.holdupFails holdup vin).isSome || s.fw.switch.isSome then s
    else
      let s2 := endRejects (writeRollback reason (s.modFw (fun x => { x with rollWait := none })))
      let slot := (s2.fw.winner.map (·.slot)).getD 0
      startSwitches true none (s2.modFw (fun x =>
        { x with slot, runVer := manFwver (x.chunk slot 0), setfmt := manSetfmt (x.chunk slot 0) }))

def execRollbackHoldupCheck (holdup : BitVec 8) (vin : Option (BitVec 16)) (s : State) : Res :=
  .next (rollbackCheck holdup vin s)

/-- The fused version rises to an SVN while records remain (R481, R491, R498). -/
def raiseSvn (svn : Nat) (s : State) : State :=
  if svn ≤ s.fw.fusedSvn then s
  else if s.fw.svnFuses.length ≥ 32 then setErr pFWU 0 1 s
  else
    let s1 := out (.store 7 s.fw.svnFuses.length svn) (s.modFw (fun x => { x with svnFuses := x.svnFuses ++ [svn] }))
    if s1.fw.svnFuses.length = 32 then setErr pFWU 0 1 s1 else s1

/-- A confirmation: by 1 command or 2 itself (R497, R498). -/
def confirm (by_ : Nat) (s : State) : State :=
  match s.fw.winner with
  | none => s
  | some w =>
    let m := s.fw.chunk w.slot 0
    let s1 := raiseSvn w.svn (writeBoot { w with trial := false } s)
    let rv := [0, 1, 2, 3].foldl (fun a i => if bit (manRevoke m) i && i != manKey m then setBit a i else a) s1.fw.revoked
    let s2 := s1.modFw (fun x => { x with revoked := rv })
    emitMgr 0x0D 4 [(16, 1, by_), (20, 8, s2.fw.fusedSvn)] s2

/-- FW_CONFIRM (R498, R508, R555). -/
def fwConfirm (f : Nat) (x : Entry) (s : State) : State :=
  if s.golden then finish f x false 0 0x86 0 [] s
  else if !s.fw.onTrial then finish f x false 0 0 0 [] s
  else if bit x.p0 0 then
    rollbackDue 3 (s.modFw (fun y => { y with rejectCmd := y.rejectCmd ++ [x.id] }))
  -- a confirmation that stands ends a rollback that waits, and the commands that asked for it (R508 case 6)
  else endRejects (finish f x false 0 0 0 [] (confirm 1 (s.modFw (fun y => { y with rollWait := none }))))

def execFwConfirm (f e : Nat) (s : State) : Res := .next (cmd f e 0x44 (fwConfirm f) s)

/-- TRIAL_QUARTER_HOUR (R497). -/
def trialQuarter (s : State) : State :=
  match s.fw.winner with
  | none => s
  | some w =>
    if !w.trial || s.golden || !s.ready then s
    else
      let q := w.qh + 1
      let s1 := writeBoot { w with qh := q } s
      let served := match s.fw.adminFetch with
        | some t => decide (s.time.tick ≤ t + s.ticksOf 900000000)
        | none => false
      if q = 4 * w.hourMax then rollbackDue 2 s1
      else if w.autoConf && decide (4 * w.acHours ≤ q) && !s.fw.trialBad && served && s.fw.rollWait.isNone then confirm 2 s1
      else s1

def execTrialQuarterHour (s : State) : Res := .next (trialQuarter s)

/-- TNH_MOTION_WRITE (R493, R512). -/
def motionWrite (f v : Nat) (s : State) : State :=
  if f = 0 || !s.pagesOpen f then s
  else if (s.fn f).share.motion then s.modFn f (fun x => { x with motionDeclared := bit v 0 })
  else setErr pTNH f 0 s

def execTnhMotionWrite (f : Nat) (v : W32) (s : State) : Res := .next (mmio f 0 (fun s => motionWrite f v.toNat s) s)

/-! ## Node tables (R506) -/

def State.ntHalf (s : State) (h : Nat) : NtHalf := if h = 0 then s.half0 else s.half1
def State.putHalf (s : State) (h : Nat) (x : NtHalf) : State := if h = 0 then { s with half0 := x } else { s with half1 := x }

/-- The bound nodes as a base holds them. -/
def State.boundNodes (s : State) : List (Nat × Nat × Nat) :=
  (s.nodes.filter (·.2.bound)).map (fun x => (x.1, x.2.path, x.2.depth))

/-- NODE_TABLE_JOURNAL_WRITE: the oldest change reaches the journal; a full half, or one without a base, is
compacted into the other half. `whole` is false for a write that power failure cuts (R506). -/
def journalWrite (whole : Bool) (s : State) : State :=
  match s.journal with
  | [] => s
  | r :: rest =>
    let h := s.ntHalf s.half
    match h.base with
    | some b =>
      if h.records.length < Config.journalRoom then
        out (.store 8 s.half h.records.length) ({ s with journal := rest }.putHalf s.half
          { h with records := h.records ++ [if whole then r else (0, 0, 0, [])] })
      else
        let o := 1 - s.half
        let s1 := { s with journal := [] }.putHalf o
          { base := if whole then some { seq := b.seq + 1, nodes := s.boundNodes, quar := s.quar } else none }
        out (.store 9 o 0) (if whole then { s1 with half := o } else s1)
    | none =>
      out (.store 9 0 0) ({ s with journal := [], half := 0 }.putHalf 0
        { base := if whole then some { seq := 1, nodes := s.boundNodes, quar := s.quar } else none })

def execNodeTableJournalWrite (whole : Bool) (s : State) : Res := .next (journalWrite whole s)

/-- RNG_HEALTH_TEST: the outcome of a health test; nonces and sessions that waited go on when it passes (R561). -/
def rngTest (good : Bool) (s : State) : State :=
  let w := s.reg 0 pCRY 0 0x044
  if good then
    let s1 := s.setReg 0 pCRY 0 0x044 (setBit w 0)
    let s2 := (s1.nodes.filter (·.2.waitNonce)).foldl (fun s x => sendNonce (x.1 / 4096) (x.1 % 4096) s) s1
    rerunSessions s2.fw.rngWait s2
  else
    setErr pCRY 0 0 (s.setReg 0 pCRY 0 0x044 (clrBit (setBits w 16 16 (satAdd 65535 (bits w 16 16) 1)) 0))

def execRngHealthTest (good : Bool) (s : State) : Res := .next (rngTest good s)

end Sys2Proof.Machine
end

