-- ==== Sys2Proof/Machine/Save.lean ====
section
/-!
DEFINITION. Save: freeze drains, saved states, aborts of long operations, and the reads of commands' host structures
(spec/08_rings_commands_handles.md, R313-R315; spec/11_tenants_isolation_migration.md, R384-R391).
-/
namespace Sys2Proof.Machine

/-- What a saved state holds (R389). -/
structure Saved where
  share : Share := {}
  /-- Leased nodes: global port, node, identity hash. -/
  nodes : List (Nat × Nat × List Byte) := []
  granules : List Nat := []
  /-- Point, KIND, FSMODE, PRESET, VALUE, QUALITY. -/
  points : List (Nat × Nat × Bool × Nat × Nat × Nat) := []
  grants : List ShareGrant := []
  rules : List (Nat × Nat × Rule) := []
  binds : List (Nat × Nat) := []
  allow : Option Nat := none
  lists : List (Nat × SList) := []
  /-- Placed transfers: port, node, XID, phase, first block. -/
  placed : List (Nat × Nat × Nat × Nat × Nat) := []
  image : Option ImageDesc := none
  latest : Nat := 3
  /-- FRAME of LATEST (R264). -/
  imgframe : Nat := 0
  sq : NMap Ring := []
  cq : NMap Ring := []
  eq : NMap Ring := []
  eqmap : Nat := 0
  eqovf : NMap Nat := []
  eqlost : NMap Nat := []
  entries : List Entry := []
  nextEntry : Nat := 0
  hold : List Completion := []
  finished : List Completion := []
  handles : List Handle := []
  waiting : List Nat := []
  nextSeq : Nat := 1
  /-- Bulk views: view, tile, next set, armed. -/
  views : List (Nat × Nat × JobSet × Bool) := []
  bcq : Ring := {}
  recs : List (Nat × Bool × List Byte) := []
  winbase : Nat := 0
  fast : IntClass := {}
  norm : IntClass := {}
  vecmap : NMap Nat := []
  miscvec : Nat := 0
  latches : NMap Latch := []
deriving DecidableEq, Repr

/-- The body of a save buffer, the device's own coding of a saved state (R388). -/
opaque Config.saveBody : Saved → List Byte
/-- The saved state that a body codes, none if it is no body of a known coding (R388, R390). -/
opaque Config.savedOf : List Byte → Option Saved
/-- The state format that firmware version `v` wrote is known to running version `w` (R390). -/
opaque Config.formatKnown : Nat → Nat → Bool

/-! ## The drain of a freeze (R384) -/

/-- The drain of R384 is complete. -/
def State.freezeDrained (s : State) (t : Nat) : Bool :=
  let x := s.fn t
  x.entries == [] && x.fetching == [] && !(s.bridge.any (fun a => a.fn == t && !a.load)) &&
    (s.chansOf t).all (fun k => (s.chan k).st != .run) && x.handles.all (fun h => h.done || h.word != .pending)

/-- State FROZEN is written: the freeze commits, a save goes on (R384, R388). -/
def freezeCommit (t : Nat) (s : State) : State :=
  let s1 := s.modFn t (fun x => { x with st := .frozen, frozeTick := s.time.tick, frozePt := s.time.plant })
  let s2 := match s1.mgrOp (· == .tenantFreeze t) with
    | some h => commitHandle 0 h.seq s1
    | none => s1
  match s2.mgrOp (fun o => match o with | .tenantSave u _ => u == t | _ => false) with
  | some h => wakeTask (.command 0 h.eid) s2
  | none => s2

/-- FREEZE_DRAIN_COMPLETE. -/
def execFreezeDrainComplete (t : Nat) (s : State) : Res :=
  .next (if (s.fn t).st = .freezing ∧ s.freezeDrained t then freezeCommit t s else s)

/-! ## Undoing long operations (R313) -/

/-- The freeze of a function is given up: it is ACTIVE again and its interrupts are released (R394 case 4, R432). -/
def unfreeze (t : Nat) (s : State) : State :=
  if (s.fn t).st = .freezing then
    s.modFn t (fun x => { x with st := .active, fast := x.fast.release, norm := x.norm.release })
  else s

/-- A settings generation that no copy has committed is dropped: the copy it was writing fails its CRC (R503). -/
def dropSave (p : SaveSt → Bool) (s : State) : State :=
  match s.fw.save with
  | some v => if p v && v.copy == 0 then s.modFw (fun x => { x.putCopy v.bank 0 none with save := none }) else s
  | none => s

/-- What a long operation of function `f` had done is undone; it is before its commit point (R313). -/
def undoOp (f : Nat) (h : Handle) (s : State) : State :=
  match h.op with
  | .idle | .pointFree _ | .pointShare .. | .imageSet _ | .ruleSet .. | .nodePromote .. | .leaseSet .. | .nodeAdmit ..
  | .tenantThaw _ | .tenantDestroy _ => s
  | .generation g _ => abortGeneration f h.seq g s
  | .tenantCreate t _ => s.modFn t Fn.gone
  | .tenantShare t _ => s.modFn t (fun x => { x with shareNew := none })
  | .tenantFreeze t => unfreeze t s
  | .tenantSave t _ => unfreeze t s
  | .tenantRestore t _ => s.modFn t Fn.gone
  | .fwVerify => pumpAll (s.modFw (fun x => { x with verified := false }))
  | .fwActivate => pumpAll (startWaiting (dropSave (·.forAct) (s.modFw (fun x => { x with act := none }))))
  | .settingsSave => startWaiting (dropSave (fun v => v.seq == some h.seq)
      (s.modFw (fun x => { x with saveWait := if x.saveWait = some h.seq then none else x.saveWait })))
  | .powerSet t op => if op = 1 then abortDrying t s else s

/-- An abort that updates the state word first (R313 case 1). -/
def abortOp (f : Nat) (h : Handle) (s : State) : State :=
  let s1 := endHandle f h.seq .aborted 0x02 0 0 s
  undoOp f h s1

/-- FREEZE_TIMEOUT: FREEZEMS after acceptance the drain is forced (R384). -/
def freezeTimeout (t : Nat) (s : State) : State :=
  if (s.fn t).st ≠ .freezing then s
  else
    let s1 := bulkForce t s
    let l := (s1.fn t).handles.filter (fun h => !h.done && h.word == .pending)
    freezeCommit t (l.foldl (fun s h => abortOp t h s) s1)

def execFreezeTimeout (t : Nat) (s : State) : Res := .next (freezeTimeout t s)

/-- A handle that its owner has been given: a generation's is assigned at acceptance (R311, R312). -/
def Handle.assigned (h : Handle) : Bool :=
  match h.op with
  | .generation _ _ => h.ready || h.done
  | _ => true

/-- The sequence is among the 2^21 before the next one to be assigned (R314). -/
def recentSeq (next seq : Nat) : Bool :=
  let d := (next + 0x3FFFFF - seq) % 0x3FFFFF
  decide (1 ≤ seq ∧ 1 ≤ d ∧ d ≤ 2 ^ 21)

/-- ABORT (R313, R314). -/
def abort (f : Nat) (x : Entry) (s : State) : State :=
  let hf := x.target / 2 ^ 22
  let seq := x.target % 2 ^ 22
  match (if f = 0 ∨ hf = f then (s.handle? hf seq).filter Handle.assigned else none) with
  | some h =>
    if h.word = .pending then finish f x false 0 0 0 [] (abortOp hf h s)
    else if h.word = .committed then finish f x false 0 0x03 0 [] s
    else finish f x false 0 0x03 1 [] s
  | none =>
    if hf = f ∧ recentSeq (s.fn f).nextSeq seq then finish f x false 0 0x03 2 [] s
    else finish f x false 0 0x04 0 [] s

def execAbort (f e : Nat) (s : State) : Res := .next (cmd f e 0x1F (abort f) s)

/-! ## TENANT_SAVE (R388, R389) -/

/-- Device ID that a function reports: of the physical function the part's, of every virtual function 0x88F0
(R5, R367). -/
def State.devId (s : State) (f : Nat) : Nat :=
  if f ≠ 0 then 0x88F0 else if s.tiles = 2 then 0x8802 else if s.tiles = 4 then 0x8804 else 0x8808

/-- The state of function `t` as a save holds it (R389, R434). -/
def State.savedState (s : State) (t : Nat) : Saved :=
  let x := s.fn t
  { share := x.share
    nodes := (s.nodes.filter (fun y => y.2.lessee == t)).map (fun y => (y.1 / 4096, y.1 % 4096, y.2.hash))
    granules := (s.owners.filter (fun y => y.2 == t + 1)).map (·.1)
    points := ((s.pointsOf t).filter (fun p => s.point p != {} || (s.point p).kind != 0)).map (fun p =>
      (p, (s.point p).kind, (s.point p).fsmode, (s.point p).preset, recVal (s.record p), recQ (s.record p)))
    grants := s.grants.filter (·.owner == t)
    rules := (s.rules.filter (fun y => ruleFn y.1 == t)).map (fun y => (ruleTile y.1, ruleLocal y.1, y.2))
    binds := x.binds
    allow := x.allowAddr
    lists := (s.lists.filter (fun y => y.1 / 128 == t)).map (fun y => (y.1 % 128, y.2))
    placed := s.plans.flatMap (fun p => (p.2.run.entries.filter (fun e => e.func == t && !e.mute)).map
      (fun e => (p.1, e.node, e.xid, e.phase, e.first)))
    image := x.image.desc
    latest := x.image.latest, imgframe := x.image.imgframe
    sq := x.sq, cq := x.cq, eq := x.eq, eqmap := x.eqmap, eqovf := x.eqovf, eqlost := x.eqlost
    entries := x.entries, nextEntry := x.nextEntry, hold := x.hold, finished := x.finished
    handles := x.handles.filter (·.done), waiting := x.waiting, nextSeq := x.nextSeq
    views := x.bulk.views.map (fun v => (v.1, v.2 / 32, (s.chan v.2).nxt, (s.chan v.2).arm))
    bcq := x.bulk.ring, recs := x.bulk.recs, winbase := x.bridge.winbase
    fast := x.fast, norm := x.norm, vecmap := x.vecmap, miscvec := s.miscvec t, latches := x.latches }

/-- The header of a save buffer with a CRC (R388). -/
def saveHeader (dev size f froze pt fwver crc : Nat) : List Byte :=
  toLe 2 1 ++ toLe 2 dev ++ toLe 4 size ++ toLe 4 f ++ toLe 4 crc ++ toLe 8 froze ++ toLe 8 pt ++ toLe 4 fwver ++ toLe 28 0

/-- The save of a FROZEN function: the body, then the header, the commit point. The manager's own writes are never
refused (R381). -/
def writeSave (seq t addr : Nat) (s : State) : State :=
  let body := Config.saveBody (s.savedState t)
  let head := saveHeader (s.devId 0) (64 + body.length) t (s.fn t).frozeTick (s.fn t).frozePt s.fw.runVer
  commitHandle 0 seq (out (.dmaWrite 0 addr (head (crc32c (head 0 ++ body)))) (out (.dmaWrite 0 (addr + 64) body) s))

/-- TENANT_SAVE: an ACTIVE tenant is frozen first (R372, R388). -/
def tenantSave (f : Nat) (x : Entry) (s : State) : State :=
  onTenant x false (fun t s =>
    let st := (s.fn t).st
    if st = .frozen then startLong f x (.tenantSave t x.addr) false [] (fun _ s => s) s
    else if st = .active then startLong f x (.tenantSave t x.addr) false [] (fun _ s => freezeFn t s) s
    else finish f x false 0 0x0B 3 [] s) s

def execTenantSave (f e : Nat) (s : State) : Res := .next (cmd f e 0x34 (tenantSave f) s)

/-- The pending saves that a task's command started, of functions that are FROZEN, are written. -/
def runSaves (eid : Nat) (s : State) : State :=
  ((s.fn 0).handles.filter (fun h => h.eid == eid && !h.done && h.word == .pending)).foldl (fun s h =>
    match h.op with
    | .tenantSave t a => if (s.fn t).st = .frozen then writeSave h.seq t a s else s
    | _ => s) s

/-! ## TENANT_RESTORE (R390, R391) -/

/-- TENANT_RESTORE: state RESTORING, the buffer is read. -/
def tenantRestore (f : Nat) (x : Entry) (s : State) : State :=
  onTenant x true (fun t s =>
    startLong f x (.tenantRestore t x.addr) false [] (fun seq s =>
      readFor f seq x.addr 4194304 (s.modFn t (fun y => { y with st := .restoring }))) s) s

def execTenantRestore (f e : Nat) (s : State) : Res := .next (cmd f e 0x35 (tenantRestore f) s)

/-- The first pool that cannot supply a share in full. -/
def State.shortPool (s : State) (sh : Share) : Option Nat :=
  [1, 2, 3, 4, 5, 6, 7, 8].find? (fun p => allCells.any (fun c => c.pool == p && decide (s.poolFree c < sh.get c)))

/-- Saved nodes that fail the check of R390. -/
def State.otherNodes (s : State) (t : Nat) (v : Saved) : List (Nat × Nat × List Byte) :=
  v.nodes.filter (fun n =>
    let x := s.node n.1 n.2.1
    !(x.present && x.hash == n.2.2 && x.lessee == t))

/-- Every tile and port that a saved state names is populated. -/
def State.placesOk (s : State) (v : Saved) : Bool :=
  v.nodes.all (fun n => s.hasPort n.1) && v.granules.all (fun g => s.hasTile (g / 16384)) &&
  v.lists.all (fun l => s.hasPort l.1) && v.placed.all (fun p => s.hasPort p.1) &&
  v.rules.all (fun r => s.hasTile r.1) && v.views.all (fun w => s.hasTile w.2.1) &&
  allCells.all (fun c => v.share.get c == 0 || s.hasCell c)

/-- The checks of R390 on the bytes of a buffer: the state it holds, or STATUS and DETAIL, with the mismatched nodes. -/
def State.restoreCheck (s : State) (t : Nat) (d : List Byte) : Sum Saved (Nat × Nat × List ListRec) :=
  let size := byteField d 4 4 % 2 ^ 23
  if byteField d 0 2 ≠ 1 then .inr (0x09, 1, [])
  else if size > 4194304 then .inr (0x09, 2, [])
  else if crc32c ((d.take 12 ++ toLe 4 0 ++ d.drop 16).take size) ≠ byteField d 12 4 then .inr (0x09, 3, [])
  else match Config.savedOf ((d.take size).drop 64) with
    | none => .inr (0x09, 5, [])
    | some v =>
      if !s.placesOk v then .inr (0x09, 4, [])
      else if !Config.formatKnown (byteField d 32 4) s.fw.runVer then .inr (0x09, 5, [])
      else match s.shortPool v.share with
        | some p => .inr (0x67, p, [])
        | none =>
          let bad := s.otherNodes t v
          if bad = [] then .inl v
          else .inr (0x68, 0, bad.map (fun n => leftOut (n.1 * 4096 + n.2.1) 0x68 0))

/-- One saved point: attributes, the record of an output, stale inputs (R391). -/
def restorePoint (s : State) (p : Nat × Nat × Bool × Nat × Nat × Nat) : State :=
  let s1 := s.modPoint p.1 (fun x => { x with kind := p.2.1, fsmode := p.2.2.1, preset := p.2.2.2.1 })
  if p.2.1 = 2 then writePoint p.1 p.2.2.2.2.1 0 p.2.2.2.2.2 s1
  else if p.2.1 = 1 then setStale p.1 6 s1 else s1

/-- Sources that were CAUGHT become PENDING and the class is HELD (R434). -/
def IntClass.restored (c : IntClass) : IntClass :=
  { c with pend := c.pend ||| c.cause, cause := 0, st := .held, waitFast := false }

/-- A saved bulk view takes the lowest free channel of its tile (R391). -/
def restoreView (t : Nat) (s : State) (w : Nat × Nat × JobSet × Bool) : State :=
  match s.freeChan w.2.1 with
  | none => s
  | some c =>
    (s.modFn t (fun x => { x with bulk := { x.bulk with views := x.bulk.views ++ [(w.1, c)] } })).modChan c
      (fun y => { y with nxt := w.2.2.1, arm := w.2.2.2 })

/-- A saved list as it goes on: no read in progress, no deadline. -/
def SList.resumed (l : SList) : SList :=
  { l with deadline := none
           st := if l.st = .header ∨ l.st = .fetching then .idle else l.st }

/-- A saved rule is stored with cleared state (R391), within the limits of a tile's engine: 4,096 remote inputs (R269)
and 65,536 rules (R288). One past a limit is left out as RULE_SET leaves it out (DESIGN CHOICE, log entry 68). -/
def restoreRule (f : Nat) (a : State × List ListRec) (r : (Nat × Nat × Rule) × Nat) : State × List ListRec :=
  let s := a.1
  let t := r.1.1
  let e := r.1.2.2.e
  if (s.rulesOn t).length ≥ 65536 then (s, a.2 ++ [leftOut r.2 0x64 2])
  else if (remoteInputs t (e :: (s.rulesOn t).map (·.2.e))).length > 4096 then (s, a.2 ++ [leftOut r.2 0x64 8])
  else ({ s with rules := nput { e := {} } s.rules (ruleKey t f r.1.2.1) { e } }, a.2)

/-- The commit of a restore: every saved item takes effect and state FROZEN is written (R391, R434). -/
def restoreCommit (seq t : Nat) (v : Saved) (s : State) : State :=
  let s1 := s.modFn t (fun x => { x.gone with
    st := .frozen, share := v.share, restored := true, binds := v.binds, sq := v.sq, cq := v.cq, eq := v.eq
    eqmap := v.eqmap, eqovf := v.eqovf, eqlost := v.eqlost, entries := v.entries, nextEntry := v.nextEntry, hold := v.hold
    finished := v.finished, handles := v.handles, waiting := v.waiting, nextSeq := v.nextSeq
    image := { desc := v.image, latest := v.latest, imgframe := v.imgframe }, bulk := { ring := v.bcq, recs := v.recs }
    bridge := { winbase := v.winbase }, fast := v.fast.restored, norm := v.norm.restored, vecmap := v.vecmap
    latches := v.latches })
  let s2 := (v.granules.filter (fun g => nget 0 s.owners g == 0)).foldl (fun s g => claimGranule t g s) s1
  let s3 := (v.points.filter (fun p => s2.owns t p.1)).foldl restorePoint s2
  let s4 : State := { s3 with
    grants := s3.grants ++ v.grants.map (fun g => { g with owner := t })
    lists := v.lists.foldl (fun m l => nput {} m (listKey t l.1) l.2.resumed) s3.lists }
  let r := v.rules.zipIdx.foldl (restoreRule t) (s4, [])
  let s5 := v.placed.foldl (fun s p => s.modPlan p.1 (fun y => { y with saved := y.saved ++ [(t, p.2)] }))
    (listMore 0 seq r.2 r.1)
  let s6 := (v.views.foldl (restoreView t) s5).setReg 0 pNIB t 0x050 v.miscvec
  commitHandle 0 seq (match v.allow with | some a => allowSet t (some a) s6 | none => s6)

/-- The buffer of a TENANT_RESTORE has been read. -/
def restoreDone (seq t : Nat) (d : List Byte) (s : State) : State :=
  match s.restoreCheck t d with
  | .inl v => restoreCommit seq t v s
  | .inr (st, dt, recs) => failHandle 0 seq st dt (listMore 0 seq recs (s.modFn t Fn.gone))

/-! ## Reads of command structures (R315) -/

/-- The read of a long operation's structure fails: the operation ends and is undone. -/
def longReadFails (f : Nat) (h : Handle) (status detail : Nat) (s : State) : State :=
  undoOp f h (failHandle f h.seq status detail s)

/-- The structure of a long operation has arrived. -/
def longReadDone (f : Nat) (h : Handle) (d : List Byte) (s : State) : State :=
  match h.op with
  | .imageSet _ => imageDone f h.seq d s
  | .ruleSet t first count _ => ruleDone f h.seq t first count d s
  | .tenantCreate t _ => createDone h.seq t d s
  | .tenantShare t _ => shareDone h.seq t d s
  | .tenantRestore t _ => restoreDone h.seq t d s
  | _ => s

/-- The structure of a command without a handle has arrived. -/
def shortReadDone (f : Nat) (e : Entry) (d : List Byte) (s : State) : State :=
  if e.opc = 0x0A then configDone f e d s
  else if e.opc = 0x18 then allowlistDone f e d s
  else if e.opc = 0x20 then policyDone f e d s
  else if e.opc = 0x41 then chunkArrives (.command e.id) e.p0 d s
  else s

/-- The long operation of handle `seq` awaits the read of its structure. -/
def State.awaitsRead (s : State) (f seq : Nat) : Option Handle :=
  (s.handle? f seq).filter (fun h => !h.done && !h.ready && h.word == .pending && (match h.op with
    | .imageSet _ => true
    | .ruleSet .. => true
    | .tenantCreate .. => true
    | .tenantShare .. => true
    | .tenantRestore .. => true
    | _ => false))

/-- The command of entry `id` awaits the read of its structure. -/
def State.readingEntry (s : State) (f id : Nat) : Option Entry :=
  (s.fn f).entries.find? (fun e => e.id == id && e.reading && !e.ended)

/-- A read of a command's structure ends: `long` of handle `id`, else of entry `id`; `status` 0 with its bytes. -/
def structRead (f : Nat) (long : Bool) (id status detail : Nat) (d : List Byte) (s : State) : State :=
  if long then
    match s.awaitsRead f id with
    | some h => wakeTask (.command f h.eid) (if status = 0 then longReadDone f h d s else longReadFails f h status detail s)
    | none => s
  else
    match s.readingEntry f id with
    | some e => wakeTask (.command f id) (if status = 0 then shortReadDone f e d s else finish f e false 0 status detail [] s)
    | none => s

/-- COMMAND_STRUCTURE_READ_DONE: `err` 1 UR, 2 CA, 3 poisoned (R315). -/
def execCommandStructureReadDone (f : Nat) (long : Bool) (id err : Nat) (data : List Byte) (s : State) : Res :=
  .next (structRead f long id (if err = 0 then 0 else 0x20) err data s)

/-- DMA_READ_TIMEOUT: a device read had no completion within 10 ms (R185, R254, R299, R315, R362, R157, R161). `what`:
0 the entry fetch of SQ `b` of function `a`; 1 the list of function `a` on port `b`, at segment `seg` and descriptor `idx`; 2 the output image of function `a`; 3 the
structure of entry `b` of function `a`; 4 that of handle `b`; 5 the host read of channel `a`; 6 the allowlist lookup,
7 the lease-policy read, of node `a`/`b`. -/
def dmaReadTimeout (what a b seg idx : Nat) (s : State) : State :=
  match what with
  | 0 => sqEntryTimeout a b s
  | 1 => listReadTimeout a b seg idx s
  | 2 => outputReadTimeout a s
  | 3 => structRead a false b 0x21 0 [] s
  | 4 => structRead a true b 0x21 0 [] s
  | 5 => hostReadTimeout a s
  | 6 => allowlistReadDone a b 4 [] s
  | 7 => leaseReadDone a b 4 [] s
  | _ => s

def execDmaReadTimeout (what a b seg idx : Nat) (s : State) : Res := .next (dmaReadTimeout what a b seg idx s)

/-! ## Doorbell and swap -/

/-- SQ_TAIL_DOORBELL: a doorbell also cancels a Standby entry (R296, R466). -/
def execSqTailDoorbell (f q : Nat) (v : BitVec 16) (s : State) : Res := .next (mmio f 0 (fun s => doorbell f (sqTail f q v.toNat s)) s)

/-- ACCORD_SWAP: the swap, then the resets it completes (R207, R382, R393). -/
def execAccordSwap (g : Nat) (s : State) : Res := .next (settleResets (accordSwap g s))

end Sys2Proof.Machine
end

