-- ==== Sys2Proof/Machine/Engine.lean ====
section
/-!
DEFINITION. Engine: steps of the frame engines, overruns, engine faults, the mesh between the tiles, and the
configuration of the tick (spec/12_engines_scheduler_blocking.md, R398-R418; spec/01_architecture.md, R33-R38;
spec/02_tick_frame_time.md, R59, R60, R81, R82).
-/
namespace Sys2Proof.Machine

/-! ## Steps (R400-R411) -/

/-- The task that runs on engine `e` of tile `t`. -/
def State.runningOn (s : State) (t e : Nat) : Option Task := (s.tl t).tasks.find? (fun k => k.st == .running e)

/-- The task has no work left: its command has finished and no long operation of it waits; its compile is over. -/
def State.workOver (s : State) (k : Task) : Bool :=
  match k.work with
  | .command f id => !(s.fn f).entries.any (fun e => e.id == id && !e.ended) && s.openHandles f id == []
  | .compile g => (s.plan g).idleSt != .compiling

/-- The task awaits a host structure, or the drain of a freeze (R400, R401). -/
def State.workWaits (s : State) (k : Task) : Bool :=
  match k.work with
  | .command f id => (s.fn f).entries.any (fun e => e.id == id && e.reading && !e.ended) || s.openHandles f id != []
  | .compile _ => false

/-- A task that is stopped: its command and the long operation it served end, and what the operation had begun is undone
(R411, R456, R518). -/
def stopTask (t : Nat) (k : Task) (status detail : Nat) (s : State) : State :=
  let hs := match k.work with
    | .command f id => (s.openHandles f id).map (fun h => (f, h))
    | .compile _ => []
  hs.foldl (fun s (x : Nat × Handle) => undoOp x.1 x.2 s) (endTask t k status detail s)

/-- A maximum held in a word, cleared by its read. -/
def raiseMax (ty inst off n v : Nat) (s : State) : State :=
  s.setReg 0 ty inst off (max (s.reg 0 ty inst off) (min v (2 ^ n - 1)))

/-- Page offset under which TSK keeps WAITMAX of a level; the page shows it at 0x050 (R418). -/
def waitOff (l : Nat) : Nat := 0x900 + 4 * l

/-- What becomes of a task at the end of its step (R400, R403, R405, R417 case 3, R456). -/
def stepOutcome (t : Nat) (k : Task) (wake : Option Nat) (s : State) : State :=
  if (s.tl t).pwr.forced then stopTask t k 0x0B 1 s
  else if s.workOver k || !s.alive k.fn then freeTask t k.ctx s
  else match wake with
    | some w => putTask t k (.delayed w) s
    | none => putTask t k (if s.workWaits k then .waiting else .ready) s

/-- TASK_STEP_END: engine `e` of tile `t` ends a step that ran `dur`, in 10 ns units; a task that asked for a delay
names its wake tick. What the step was for is done: undefined opcodes complete, saves of frozen functions are written.
The engine then takes the head of the highest ready list, which has waited `wait` (R400, R406). -/
def taskStepEnd (t e : Nat) (wake : Option Nat) (dur wait : Nat) (s : State) : State :=
  match s.runningOn t e with
  | none => s
  | some k =>
    let s1 := raiseMax pTSK t 0x054 16 dur (countReg pTSK t 0x060 0 64 1 s)
    let s2 := match k.work with
      | .command f i => if f = 0 then runSaves i (rejectBad f s1) else rejectBad f s1
      | .compile _ => s1
    let s3 := stepOutcome t k wake s2
    let s4 := match (s3.tl t).nextTask with
      | some n => raiseMax pTSK t (waitOff n.level) 32 wait s3
      | none => s3
    takeTasks t 12 s4

def execTaskStepEnd (t e : Nat) (wake : Option Nat) (dur wait : Nat) (s : State) : Res :=
  .next (taskStepEnd t e wake dur wait s)

/-- STEP_OVERRUN: the step on engine `e` has run `dur` 10 ns units, more than 6 us (R410). -/
def stepOverrun (t e dur : Nat) (s : State) : State :=
  if (s.runningOn t e).isSome ∧ 600 < dur then
    raiseMax pTSK t 0x054 16 dur (countReg pTSK t 0x068 0 16 1 (setErr pTSK t 0 s))
  else s

def execStepOverrun (t e dur : Nat) (s : State) : Res := .next (stepOverrun t e dur s)

/-- ENGINE_FAULT: a step still running after 1 ms, `us` when it was stopped. The engine reloads, its task ends; three
within 1 s fail the tile (R411, R412). -/
def engineFault (t e us : Nat) (s : State) : State :=
  match s.runningOn t e with
  | none => s
  | some k =>
    let recent := ((s.tl t).faults.filter (fun n => decide (s.time.tick < n + s.ticksOf 1000000))) ++ [s.time.tick]
    let s1 := s.modTile t (fun x => { x with reload := insertAsc e x.reload, faults := recent })
    let s2 := countReg pTSK t 0x068 16 16 1 (setErr pTSK t 1 (stopTask t k 0x0B 1 s1))
    let s3 := emitMgr 8 4 [(16, 1, t), (17, 1, e), (18, 1, k.level), (20, 4, k.fn), (24, 4, us)]
      (s2.modFw (fun x => { x with trialBad := true }))
    if recent.length ≥ 3 then tileOut t s3 else s3

def execEngineFault (t e us : Nat) (s : State) : Res := .next (engineFault t e us s)

/-- ENGINE_RELOAD_DONE: the engine takes tasks again (R411). -/
def execEngineReloadDone (t e : Nat) (s : State) : Res :=
  .next (if (s.tl t).reload.contains e then
    takeTasks t 12 (s.modTile t (fun x => { x with reload := x.reload.filter (· != e) })) else s)

/-! ## The mesh (R33-R38) -/

/-- A mesh link goes up or down. -/
def setMesh (b : Nat) (up : Bool) (s : State) : State :=
  { s with mesh := BitVec.ofNat 64 (if up then setBit s.mesh.toNat b else clrBit s.mesh.toNat b),
           meshFails := nput 0 s.meshFails b 0 }

/-- The mesh-link event. -/
def meshEvent (x : Nat × Nat × Nat) (up : Bool) (s : State) : State :=
  emitMgr 8 2 [(16, 1, x.1), (17, 1, x.2.1), (18, 1, x.2.2), (19, 1, b2n up)] s

/-- MESH_TRANSFER_RECEIVED on the link of bit `b`: a transfer that fails its CRC is replayed; after eight consecutive
failed replays the link is taken down (R35). -/
def meshTransfer (b : Nat) (good : Bool) (s : State) : State :=
  match s.meshEnds b with
  | none => s
  | some x =>
    if !bit s.mesh.toNat b then s
    else if good then { s with meshFails := nput 0 s.meshFails b 0 }
    else
      let n := nget 0 s.meshFails b + 1
      if n ≤ 8 then out (.mesh b 0) { s with meshFails := nput 0 s.meshFails b n }
      else failLost 8 (meshEvent x false (setErr pGLB 0 0 (out (.mesh b 1) (setMesh b false s))))

def execMeshTransferReceived (b : Nat) (good : Bool) (s : State) : Res := .next (meshTransfer b good s)

/-- MESH_LINK_RETRAIN: a link that is down trains again (R35). -/
def meshRetrain (b : Nat) (trains : Bool) (s : State) : State :=
  match s.meshEnds b with
  | none => s
  | some x =>
    if trains && s.ready && !bit s.mesh.toNat b && s.meshOn x.1 && s.meshOn x.2.1 then meshEvent x true (setMesh b true s) else s

def execMeshLinkRetrain (b : Nat) (trains : Bool) (s : State) : Res := .next (meshRetrain b trains s)

/-! ## The configuration of the tick comes into force (R59, R60) -/

/-- The change is due at the next tick boundary. -/
def State.timecfgDue (s : State) : Bool := s.time.pending && (s.time.tick + 1) % 65536 == 0

/-- TIMECFG_TAKES_EFFECT: at the boundary of a tick that is a multiple of 65,536, ahead of that tick's marker; a
TICK_BOUNDARY that finds it still due does it first. -/
def execTimecfgTakesEffect (s : State) : Res := .next (if s.ready && s.timecfgDue then takeTimecfg s else s)

end Sys2Proof.Machine
end

