-- ==== Sys2Proof/Machine/Tick.lean ====
section
/-!
DEFINITION. Tick: the work of a tick boundary and of a frame boundary (spec/02_tick_frame_time.md, R54-R82;
spec/05_schedule_lists_and_plans.md, R186, R204, R208; spec/06_process_image.md, R224, R238, R250).
-/
namespace Sys2Proof.Machine

/-! ## What both boundaries share -/

/-- Entries whose mute is due at this boundary: upstream ones at once, downstream ones after one instance with
fail-safe values (R208, R382 item 7). -/
def muteDue (s : State) (g : Nat) : State :=
  let up := s.hopUp g
  let due := (s.plan g).run.entries.filter (fun e => e.muteAfter && (e.up || e.sentSince || !up))
  muteEntries g (fun e => e.muteAfter && due.any e.isOf) s

/-- What holds from the first block of a frame: the sample offset written last, and the mutes that are due
(R65, R208). -/
def frameStart (s : State) : State :=
  let s1 := s.modTime (fun t => { t with sampleOff := t.sampleOffW })
  let s2 := if s.time.sampleOff = s.time.sampleOffW then s1
    else (s1.plans.filter (fun x => x.2.run.entries ≠ [] ∨ x.2.idle.entries ≠ [] ∨ x.2.idleSt = .compiling)).foldl
      (fun s x => needCompile x.1 s) s1
  (s2.plans.map (·.1)).foldl muteDue s2

/-- The clocks run: TIM is READY and the anchor is not asleep (R71, R84). -/
def State.clockRuns (s : State) : Bool := s.ready && !s.time.sleeping

/-! ## TICK_BOUNDARY (R70) -/

/-- The anchor's time token to each field tile whose mesh endpoint is powered, over the links of its path (R34, R36,
R67, R83). -/
def timeTokens (s : State) : State :=
  ((List.range s.tiles).filter (fun t => t != 0 && s.meshOn t && s.pathTo 0 t)).foldl
    (fun s t => out (.timeToken t s.time.tick (s.route 0 t)) s) s

/-- The events found by a package reset are written once the admin queue's ring for them runs (R522 step 6). -/
def bootRelease (s : State) : State :=
  if s.fw.bootEvents ≠ [] ∧ (s.eqR 0 (s.eqOf 0 0x0D)).running ∧ !s.paused then
    s.fw.bootEvents.foldl (fun s e => emit 0 e s) (s.modFw (fun x => { x with bootEvents := [] }))
  else s

/-- A reset of the FWU page acts once no FW_VERIFY, FW_ACTIVATE or rollback is pending (R521). -/
def fwuSettle (s : State) : State :=
  if s.fw.resetWait && s.fwBusy.isNone && s.fw.switch.isNone then
    clearPage pFWU 0 (s.modFw (fun x => { x with resetWait := false })) else s

/-- The registers of the admin page reset once its SQ has drained (R521). -/
def admWipe (s : State) : State :=
  if (s.sqR 0 0).wipe && !(s.sqR 0 0).draining then
    clearPage pADM 0 (s.modFn 0 (fun x => { x with sq := [], cq := [], eq := [], eqmap := 0, eqovf := [] }))
  else s

/-- The records of the tick boundary: AGE and output images (R224, R253). -/
def tickRecords (s : State) : State := applyOutputs (ageAll s)

/-- The ports' and the anchor's work of the tick. The downstream data is built before the fail-safes and stale codes of
the causes of the tick before, on `due`, are applied (R235, R237, R238, R382). -/
def tickWork (due : List Nat) (s : State) : State :=
  let s1 := ((List.range s.tiles).filter (fun t => (s.tl t).ready)).foldl (fun s t => delaysDue t s) s
  let ports := s1.ports.map (·.1)
  let s2 := bridgeTick (applyDeferred due (ports.foldl portTick s1))
  let s3 := (List.range s.tiles).foldl dozeTick (bulkTick (ports.foldl portMgmt s2))
  admWipe (fwuSettle (bootRelease (releaseEvents (standbyTick s3))))

/-- A tick boundary: a due change of TIM_TIMECFG first, the counter, plant time, and every port's tick
(R59, R70, R72, R98). -/
def tickBoundary (s : State) : State :=
  if !s.clockRuns then s
  else
    let s1 := if s.timecfgDue then takeTimecfg s else s
    let s2 := plantTick (s1.modTime (fun t => { t with tick := (t.tick + 1) % 2 ^ 64 }))
    tickWork s.deferred { tickRecords (timeTokens (if s2.isFrame then frameStart s2 else s2)) with unseen := [] }

def execTickBoundary (s : State) : Res := .next (tickBoundary s)

/-! ## FRAME_BOUNDARY (R54) -/

/-- Long operations whose commit point is a frame boundary (R316, R317). -/
def LongOp.atFrame : LongOp → Bool
  | .pointFree _ | .pointShare .. | .imageSet _ | .ruleSet .. | .nodePromote .. | .leaseSet .. | .nodeAdmit ..
  | .tenantCreate .. | .tenantShare .. | .tenantThaw _ => true
  | _ => false

/-- The RULE_SETs of a function on one tile commit in the order of their start (R302). -/
def Handle.waitsFor (h y : Handle) : Bool :=
  decide (y.order < h.order) && !y.done && !y.ready && (match h.op, y.op with
    | .ruleSet t .., .ruleSet u .. => t == u
    | _, _ => false)

/-- Operations due at the boundary, as (function, sequence): revokes first, then the rest in the order of their acceptance,
the RULE_SETs last, which are checked by the rights in force at the boundary (R242, R261 case 6, R274, R302; DEDUCED, log
entry 25). -/
def State.frameOps (s : State) : List (Nat × Nat) :=
  let due : List (Nat × Handle) := s.fnList.flatMap (fun f =>
    ((s.fn f).handles.filter (fun h => h.op.atFrame && h.ready && !h.done && h.word == .pending &&
      !(s.fn f).handles.any h.waitsFor)).map (fun h => (f, h)))
  let late := fun (h : Handle) => match h.op with | .pointShare _ _ _ true => 0 | .ruleSet _ _ _ _ => 2 | _ => 1
  (sortBy (fun (x : Nat × Handle) => late x.2 * 2 ^ 64 + x.2.order) due).map (fun x => (x.1, x.2.seq))

/-- One operation reaches its commit point at the boundary. -/
def commitOp (s : State) (x : Nat × Nat) : State :=
  let f := x.1
  match s.handle? f x.2 with
  | none => s
  | some h =>
    if h.done then s
    else match h.op with
      | .pointFree l =>
        let r := commitFree f l s
        commitHandle f h.seq (listMore f h.seq r.2 r.1)
      | .pointShare first count reader revoke =>
        if revoke then commitHandle f h.seq (commitRevoke f first count reader s)
        else match commitGrant f first count reader s with
          | some s1 => commitHandle f h.seq s1
          | none => failHandle f h.seq 0x65 (ptTile first) s
      | .imageSet d => commitHandle f h.seq (s.modImage f (ImageSt.attach d))
      | .ruleSet t first _ rules => commitRules f h.seq t first rules s
      | .tenantCreate t _ => commitHandle f h.seq (fitViews t (s.modFn t (fun y => { y with st := .active })))
      | .tenantShare t sh =>
        commitHandle f h.seq (match sh with
          | some v => applyShare t v s
          | none => s)
      | .tenantThaw t => commitHandle f h.seq (thawFn t s)
      | _ => commitNodeOp f h s

/-- Nodes without a bank of the running Accord are loaded again once per frame (R166, R206). -/
def retryLoads (g : Nat) (s : State) : State :=
  let p := s.plan g
  let has := fun (a b : Option Nat) (id : Nat) => a == some id || b == some id
  let idleId := if p.idleSt = .loading ∨ p.idleSt = .ready then some p.idle.planid else none
  let busy := fun (s : State) (n : Nat) => (s.port g).mgmtOpen.any (fun r => r.node == n)
  let want := fun (s : State) (n : Nat) (a b : Option Nat) =>
    (s.node g n).present && !busy s n && !has a b p.run.planid && !(idleId.any (fun i => has a b i))
  if !s.hopUp g then s
  else
    let s1 := (planNodes p.run.entries).foldl (fun s n =>
      if want s n (s.node g n).xfer0 (s.node g n).xfer1 then loadNode g n p.run.planid p.run.entries s else s) s
    ((s1.nodesOf g).filter (fun h => (s1.node g h).isHub && s1.gateRows g h p.run.entries != [])).foldl (fun s h =>
      if want s h (s.node g h).gate0 (s.node g h).gate1 then loadHub g h p.run.planid p.run.entries s else s) s1

/-- A port's plan at the boundary: causes that waited for it, loads, the Atomizer's proposal (R200, R201, R204, R206). -/
def planFrame (s : State) (g : Nat) : State :=
  let s1 := if (s.plan g).causeNext then s.modPlan g (fun p => { p with cause := true, causeNext := false }) else s
  if (s1.tl (g / 16)).ready then atomizerCause g (renewProposal g (retryLoads g s1)) else s1

/-- Stopped ports of a tile in service whose alignment is LOCKED resume and train (R83, R455, R461, R518). -/
def resumePorts (s : State) (t : Nat) : State :=
  let x := s.tl t
  if x.pwr.stopped && s.tileRuns t && (t == 0 || x.align == .locked) then
    (tilePorts t).foldl (fun s g =>
      tryTrain g (if (s.port g).hop = .wakeDetect then s.modPort g (fun p => { p with hop := .down }) else s))
      (unlockDry t (s.modPwr t (fun p => { p with stopped := false, rearm := [] })))
  else s

/-- Reads of a function at the boundary: its share of the fetch budget, the headers of its lists (R186, R187). -/
def fnFrame (s : State) (f : Nat) : State := readHeaders f (s.modFn f (fun x => { x with fetchLeft := 65536 }))

/-- A frame boundary, once per boundary: the capture of TIM, commits, leases, captures of the images, list headers,
compiles, entries into Drydown and Standby, and ports that resume (R54, R81, R204, R250, R261 case 6). -/
def frameBoundary (s : State) : State :=
  if !s.clockRuns || !s.isFrame || s.time.frameDone == some s.time.tick then s
  else
    let s0 := (frameStart s).modTime (fun t => { t with frameDone := some t.tick, ptTick := t.tick, ptAt := t.plant })
    let s1 := settleResets (treeFrame (s0.frameOps.foldl commitOp s0))
    let s2 := s1.fnList.foldl (fun s f => capture f s) s1
    let s3 := s2.fnList.foldl fnFrame s2
    let s4 := (s3.plans.map (·.1)).foldl planFrame s3
    let s5 := ((List.range s4.tiles).filter (· != 0)).foldl dryBoundary s4
    (List.range s5.tiles).foldl resumePorts (standbyBoundary s5)

def execFrameBoundary (s : State) : Res := .next (frameBoundary s)

end Sys2Proof.Machine
end

