-- ==== Sys2Proof/Machine/Reset.lean ====
section
/-!
DEFINITION. Reset: package reset and boot, tile, port and block resets
(spec/16_reset_init_reconfiguration.md, R514-R535; spec/15_firmware_settings.md, R475-R506; spec/18_signals_package_electrical.md,
R579, R590, R592).
-/
namespace Sys2Proof.Machine

/-! ## Package reset (R516, R517) -/

/-- What flash, MRAM and fuses keep of the firmware's state; a settings copy that was being written fails its CRC
(R500, R503, R517). -/
def FwSt.kept (x : FwSt) : FwSt :=
  let y : FwSt := {
    flashOk := x.flashOk, chunks := x.chunks, sess0 := x.sess0, sess1 := x.sess1, marked := x.marked, boot0 := x.boot0
    boot1 := x.boot1, svnFuses := x.svnFuses, revoked := x.revoked, copies := x.copies }
  match x.save with
  | some v => y.putCopy v.bank v.copy none
  | none => y

/-- A tile after package reset: its MRAM keeps its stored trims (R517). -/
def Tile.kept (x : Tile) : Tile := { pwr := { trims := x.pwr.trims } }

/-- CAUSE: a trigger during a package reset leaves it, but power-on ranks above all (R534). -/
def State.causeOf (s : State) (cause : Nat) : Nat := if cause = 1 ∨ s.ready then cause else s.boot.cause

/-- A package reset is triggered: everything returns to reset but what R517 keeps, and the outputs go to high impedance
(R469). The commands that wait, and what has left the package, are not of the package. -/
def packageReset (cause : Nat) (s : State) : State :=
  { State.reset with
    pending := s.pending
    tiles := s.tiles
    half0 := s.half0
    half1 := s.half1
    half := s.half
    fw := s.fw.kept
    jtag := s.jtag
    pins := { perst := s.pins.perst, supply := s.pins.supply, straps := s.pins.straps }
    boot := { cause := s.causeOf cause }
    tile := nmapAll {} (fun (_ : Nat) (x : Tile) => x.kept) s.tile
    free := s.free
    wire := s.wire }

/-! ## The choice of the image (R488, R491, R555) -/

/-- A slot passes the checks of R488 at boot, and the state with CRY's count of it. -/
def slotGood (slot : Nat) (s : State) : Bool × State :=
  let c0 := s.fw.chunk slot 0
  let m := s.fw.manifest slot
  let g := manifestGood m (manChunks c0 + manImage c0) s
  (g.1 && decide (s.fw.fusedSvn ≤ manSvn m) && s.fw.badChunks slot == [], g.2)

/-- An event of the boot waits for the admin queue. -/
def bootEvent (e : Event) (s : State) : State := s.modFw (fun x => { x with bootEvents := x.bootEvents ++ [e.arise s] })

/-- The slot that boots, and the boot event with its reason. -/
def booted (slot why : Nat) (recovery : Bool) (s : State) : State :=
  let c0 := s.fw.chunk slot 0
  let w := s.fw.winner
  let s1 := s.modFw (fun x => { x with slot, runVer := manFwver c0, setfmt := manSetfmt c0, recovery
                                       bank := if recovery then 0 else x.setBank })
  bootEvent (mkEvent 0x0D 2 [(16, 1, slot), (17, 1, why), (18, 1, (w.map (·.boots)).getD 0), (20, 4, manFwver c0),
    (24, 4, (w.map (·.prevFwver)).getD 0)]) (if recovery then setErr pFWU 0 2 s1 else s1)

/-- The golden slot boots with RECOVERY; if it fails its checks the package does not start. -/
def bootGolden (why : Nat) (s : State) : State :=
  let g := slotGood 0 s
  if g.1 then booted 0 why true g.2 else packageFault g.2

/-- A confirmed slot is checked and boots; one that fails is left for the golden slot (R491 step 3). -/
def bootConfirmed (why : Nat) (s : State) : State :=
  let slot := (s.fw.winner.map (·.slot)).getD 0
  let g := slotGood slot s
  if g.1 then booted slot why false g.2 else if slot = 0 then packageFault g.2 else bootGolden 5 g.2

/-- A rollback at boot: its record, its event, and the restored slot (R491, R499). -/
def bootRollback (reason why : Nat) (w : BootRec) (s : State) : State :=
  bootConfirmed why (bootEvent (rollbackEvent reason w.prevFwver) (writeBoot (s.fw.rollbackRec w) s))

/-- The fused version rises for a confirmed image (R491 step 4). -/
def bootSvn (s : State) : State :=
  match s.fw.winner with
  | some w => if w.trial || s.fw.recovery then s else raiseSvn w.svn s
  | none => s

/-- BOOT_RECORD_SELECT. -/
def bootSelect (s : State) : State :=
  if s.golden then bootGolden 4 s
  else match s.fw.winner with
    | none => bootGolden 4 s
    | some w =>
      if !w.trial then bootSvn (bootConfirmed 0 s)
      else if w.bootMax < w.boots + 1 then bootSvn (bootRollback 1 2 w s)
      else
        let s1 := writeBoot { w with boots := w.boots + 1 } s
        let g := slotGood w.slot s1
        if g.1 then booted w.slot 1 false g.2 else bootSvn (bootRollback 4 3 w g.2)

/-! ## Settings (R501, R504, R505) -/

/-- The content of a bank, whether copies were healed, the recovery code, and the generation to write: none where every
copy already holds it. -/
def FwSt.selectCopies (x : FwSt) (bank : Nat) : SetCopy × Bool × Nat × Bool :=
  let cs := [0, 1, 2].map (x.copyOf bank)
  let good := cs.filterMap id
  let h := good.foldl (fun a c => max a c.gen) 0
  let top := good.filter (·.gen == h)
  let dflt : SetCopy := { format := x.setfmt, gen := if good = [] then 1 else h + 1, body := none }
  match top with
  | [] => (dflt, false, 3, true)
  | c :: r =>
    if r.all (· == c) then
      let whole := cs.all (· == some c)
      (c, !whole, 0, !whole)
    else
      let twice := top.find? (fun d => decide ((top.filter (· == d)).length ≥ 2))
      match twice with
      | some d => (d, true, 1, true)
      | none =>
        match x.copyOf bank 3 with
        | some v => ({ v with gen := h + 1 }, false, 2, true)
        | none => (dflt, false, 3, true)

/-- SETTINGS_SELECT: the bank's content, healed or recovered, and the registers that take their stored values. A golden
boot writes nothing (R491 step 1). -/
def settingsSelect (s : State) : State :=
  let b := s.fw.bank
  let (c, healed, rec0, write) := s.fw.selectCopies b
  let body : NMap W64 := if c.format = s.fw.setfmt then c.body.getD [] else []
  let put := fun (i : Nat) (s : State) => out (.store 6 (b * 4 + i) c.gen) (s.modFw (fun x => x.putCopy b i (some c)))
  let s1 := if write && !s.fw.recovery then put 2 (put 1 (put 0 s)) else s
  let s2 := s1.modFw (fun x => { x with gen := c.gen, setRecovery := rec0, healed })
  let tc := (nget 0xA0#64 body (regKey pTIM 0 0x040)).toNat
  let s3 : State := { s2 with
    stored := body
    xogate := bit (nget 0x03E80000#64 body (regKey pPWR 0 0x040)).toNat 2
    time := { s2.time with ticklen := bits tc 0 2, ticklenW := bits tc 0 2, fllog2 := bits tc 4 5, fllog2W := bits tc 4 5 } }
  if rec0 = 0 then s3
  else bootEvent { cls := 0x0D, kind := 6, status := 0x89, detail := rec0, recs := [recData [(16, 1, b), (20, 8, c.gen)]] }
    (setErr pSET 0 0 s3)

/-! ## Node tables (R506) -/

/-- One journal record replayed. -/
def replayOne (s : State) (r : Nat × Nat × Nat × List Byte) : State :=
  let (type, g, n, d) := r
  match type with
  | 1 => s.modNode g n (fun x => { x with st := .absent, bound := true, earlier := true, path := byteField d 0 6, depth := byteField d 6 1 })
  | 2 => s.modNode g n (fun _ => {})
  | 3 => { s with quar := if s.quar.contains d then s.quar else s.quar ++ [d] }
  | _ => { s with quar := s.quar.filter (· != d) }

/-- The half with the valid base of higher SEQ, replayed up to the first failed record. -/
def replayTables (s : State) : State :=
  let pick := match s.half0.base, s.half1.base with
    | some a, some b => some (if b.seq > a.seq then 1 else 0, if b.seq > a.seq then b else a)
    | some a, none => some (0, a)
    | none, some b => some (1, b)
    | none, none => none
  let lost := fun (why n : Nat) (s : State) =>
    bootEvent (mkEvent 0x0D 7 [(16, 1, why), (20, 4, n)]) (setErr pSET 0 1 s)
  match pick with
  | none => lost 1 0 { s with half := 0, half0 := {}, half1 := {} }
  | some (h, b) =>
    let rs := (s.ntHalf h).records
    let ok := rs.takeWhile (fun r => r.1 != 0)
    let s1 : State := b.nodes.foldl (fun s (x : Nat × Nat × Nat) =>
      s.modNode (x.1 / 4096) (x.1 % 4096) (fun y => { y with st := .absent, bound := true, earlier := true, path := x.2.1, depth := x.2.2 }))
      { s with half := h, quar := b.quar }
    let s2 := (ok.foldl replayOne s1).putHalf h { base := some b, records := ok }
    if ok.length < rs.length then lost 2 ok.length s2 else s2

/-! ## The boot (R522, R523, R554, R579, R590) -/

/-- The trigger has ended: the straps are sampled, the outputs are driven, steps 1 to 3 of R522. `flash` is what SFDP
says of the flash (R475). -/
def bootStart (straps : Nat) (flash : Bool) (s : State) : State :=
  let s1 := (s.modPins (fun p => { p with
    straps := straps % 16, faultN := 2, xoEn := 2, tileOk := (List.range s.tiles).foldl (fun m t => nput 0 m t 1) [] })).modFw
    (fun x => { x with flashOk := flash })
  let s2 := bootSelect { s1 with boot := { s1.boot with running := true } }
  if s2.boot.dead then s2 else replayTables (settingsSelect s2)

/-- PERST# is high and the supplies are in limits, so that the host link is there to be reset. -/
def State.powered (s : State) : Bool := s.pins.perst && s.pins.supply && !s.boot.dead

/-- POWER_ON: VAON and VDD_IO rise with PERST# low (R515, R534). -/
def execPowerOn (s : State) : Res :=
  .next { packageReset 1 (s.modPins (fun p => { p with perst := false })) with jtag := {} }

/-- SUPPLY_DROP (R590). -/
def execSupplyDrop (s : State) : Res :=
  .next { packageReset 1 (s.modPins (fun p => { p with supply := false })) with jtag := {} }

/-- RESET_HOLD_END: the supplies have been back for 10 ms; with PERST# high the boot starts (R590). -/
def execResetHoldEnd (straps : BitVec 4) (flash : Bool) (s : State) : Res :=
  .next (if s.pins.supply then s
    else
      let s1 := s.modPins (fun p => { p with supply := true })
      if s1.pins.perst then bootStart straps.toNat flash s1 else s1)

/-- PERST_ASSERT (R516). -/
def execPerstAssert (s : State) : Res :=
  .next (if s.pins.perst then packageReset 2 (s.modPins (fun p => { p with perst := false })) else s)

/-- PERST_RELEASE (R522). -/
def execPerstRelease (straps : BitVec 4) (flash : Bool) (s : State) : Res :=
  .next (if s.pins.perst then s
    else
      let s1 := s.modPins (fun p => { p with perst := true })
      if s1.pins.supply then bootStart straps.toNat flash s1 else s1)

/-- HOT_RESET, DL_DOWN and RESET in GLB_CTL: the trigger ends with the event, and the boot starts again (R516, R533). -/
def execHotReset (straps : BitVec 4) (flash : Bool) (s : State) : Res :=
  .next (if s.powered then bootStart straps.toNat flash (packageReset 3 s) else s)
def execDlDown (straps : BitVec 4) (flash : Bool) (s : State) : Res :=
  .next (if s.powered then bootStart straps.toNat flash (packageReset 4 s) else s)
/-- RESET written to GLB_CTL. -/
def glbReset (straps : Nat) (flash : Bool) (s : State) : State :=
  if s.powered then bootStart straps flash (packageReset 5 s) else s

def execGlbCtlReset (straps : BitVec 4) (flash : Bool) (s : State) : Res :=
  .next (mmio 0 0 (fun s => glbReset straps.toNat flash s) s)

/-- PACKAGE_READY: `ms` after the trigger's end, with the mesh links that have trained. Every tile starts at its stored
level with a trim of +60 mV, TIM's tick counter is 0 and every field tile is LOCKED; one without a path to the anchor
fails (R37, R38, R71, R449, R522, R579). -/
def packageReady (ms links : Nat) (s : State) : State :=
  if s.ready || !s.boot.running || s.boot.dead then s
  else
    let mesh := (List.range 56).foldl (fun w b => if bit links b && (s.meshEnds b).isSome then setBit w b else w) 0
    let s1 : State := { s with ready := true, mesh := BitVec.ofNat 64 mesh, boot := { s.boot with ms := min ms 65535 } }
    let s2 := (List.range s.tiles).foldl (fun s t =>
      setTileOk t 2 ((s.modTile t (fun x => { x with ready := true, align := if t = 0 then .notStarted else .locked })).modPwr t
        (fun p => { p with level := min (bits (s.sreg 0x11 pPMT t 0x040) 0 2) 2, trim := 12 }))) s1
    let s3 := failLost 8 s2
    (List.range s.portCount).foldl (fun s g => tryTrain g s) s3

def execPackageReady (ms links : Nat) (s : State) : Res := .next (packageReady ms links s)

/-! ## Tile reset (R518, R532, R533) -/

/-- Page types of a tile and of a port. -/
def tilePages : List Nat := [pTIL, pTSK, pPMT, pPIM, pRFX, pBRG, pBMV]
def portPages : List Nat := [pTPT, pSEQ, pATZ, pPLN]

/-- The counters of TPT_NODEMISS of a port's nodes. -/
def clearNodeCounts (g : Nat) (s : State) : State :=
  (s.nodesOf g).foldl (fun s n => s.modNode g n (fun x => { x with misses := 0, recovered := 0 })) s

/-- Every page of a port returns to reset. -/
def clearPortPages (g : Nat) (s : State) : State :=
  clearNodeCounts g ((portPages.foldl (fun s ty => clearPage ty g s) s).modPlan g
    (fun p => { p with proposal := [], movesOpt := 0, movesForced := 0, swaps := 0 }))

/-- The tile's pages of its blocks and ports return to reset. -/
def clearTilePages (t : Nat) (s : State) : State :=
  (tilePorts t).foldl (fun s g => clearPortPages g s) (tilePages.foldl (fun s ty => clearPage ty t s) s)

/-- A channel whose logic is reset: its armed set goes; a record not yet written stays owed. -/
def Chan.cleared (c : Chan) : Chan :=
  if c.st = .idle then {} else { c with nxt := {}, arm := false, cancelled := false }

/-- A first hop's registers and state as after package reset. -/
def Port.cleared (p : Port) : Port :=
  { hop := p.hop, sigdet := p.sigdet, rseq := p.rseq, mseq := p.mseq, mreqs := p.mreqs, bulkLast := p.bulkLast }

/-- A tile reset: steps 1 to 3 of R518. -/
def tileReset (t : Nat) (s : State) : State :=
  let ks := (s.tl t).tasks
  let s1 := ks.foldl (fun s k => stopTask t k 0x0B 1 s) s
  let s2 := endTileWork t 0x0B 1 s1
  -- a Drydown entry is abandoned (R533 case 2)
  let s3 := match (s2.tl t).pow, (s2.tl t).pwr.dryHandle with
    | .drying, some q => abortDrying t (failHandle 0 q 0x0B 1 s2)
    | .drying, none => { abortDrying t s2 with stopping := if t = 0 then false else s2.stopping }
    | _, _ => s2
  let s4 := (tilePorts t).foldl (fun s g => dropIdle g s) (stopPorts t 0xA0 false s3)
  let s5 := clearTilePages t (loseCopies t (clearRules (fun k => ruleTile k == t) s4))
  let s6 := (tilePorts t).foldl (fun s g => s.modPort g Port.cleared)
    ((List.range 32).foldl (fun s c => s.modChan (t * 32 + c) Chan.cleared) s5)
  (s6.modTile t (fun x =>
    { x with ready := false, pow := if x.pow = .doze then .run else x.pow, align := .notStarted, within := 0, outside := 0, offset := 0, tasks := [], ctxq := [],
             reload := [], cuts := [], rfxTick := none, scanLast := 0, resetAt := some s.time.tick
             resetTasks := ks.length })).modPwr t (fun p => { p with change := none, idle := 0, stepdown := false, lowRun := 0 })

/-- RESET written to TIL_CTL: discarded in OFF, held as a wake source for a sleeping tile (R464, R518). -/
def tileCtlReset (t : Nat) (s : State) : State :=
  if !(s.ready && s.hasTile t) || (s.tl t).pow == .off then s
  else if s.asleep t then holdAcc t (regAcc pTIL t 0x00C 4) s
  else tileReset t s

def execTileReset (t : Nat) (s : State) : Res :=
  .next (mmio 0 0 (fun s => tileCtlReset t s) s)

/-- Work that waited for a tile starts. -/
def startHeld (t : Nat) (s : State) : State :=
  s.fnList.foldl (fun s f =>
    ((s.fn f).entries.filter (fun e => !e.ended && !e.reading && s.workTile e == t && badOpcode f e == none &&
      (s.taskOf (.command f e.id)).isNone)).foldl (fun s e => startTask f e s) s) s

/-- A tile reset that falls after an activation's commit counts as the tile's switch; its pause is `pause` us (R532). -/
def switchByReset (t pause : Nat) (s : State) : State :=
  match s.fw.switch with
  | none => s
  | some w =>
    if w.tile = t then nextSwitch (switched t w pause s)
    else if w.todo.contains t then switched t { w with todo := w.todo.filter (· != t) } pause s
    else emitMgr 0x0D 3 [(16, 1, t), (17, 1, if w.rollback then 2 else 1), (20, 4, pause)] s

/-- TILE_RESET_READY: `us` after the write (R518 steps 4 and 5, R535). -/
def tileResetReady (t us pause : Nat) (s : State) : State :=
  match (s.tl t).resetAt with
  | none => s
  | some _ =>
    let n := (s.tl t).resetTasks
    let s1 := s.modTile t (fun x => { x with ready := true, resetAt := none, resetTasks := 0 })
    let s2 := switchByReset t pause (emitMgr 8 5 [(16, 1, t), (20, 4, us), (24, 2, n)] s1)
    startWaiting (startLevel t (startHeld t s2))

/-! ## Port reset (R519, R533 case 3) -/

/-- Nodes of a port that a reset makes absent. -/
def State.leaving (s : State) (g : Nat) : Nat := ((s.nodesOf g).filter (fun n => (s.node g n).leaves)).length

def portReset (g : Nat) (s : State) : State :=
  if !(s.hasPort g && s.tileOpen (g / 16)) || (s.tl (g / 16)).resetAt.isSome then s
  else
    let n := s.leaving g
    let s1 := releaseTree g (hopDown g false 0x44 s)
    let s2 := (clearNodeCounts g (clearPage pTPT g s1)).modPort g (fun p => { p.cleared with hop := .down })
    tryTrain g (emitMgr 8 6 [(16, 1, g), (18, 2, n)] s2)

/-- RESET written to TPT_CTL: held for a sleeping tile; during a reset of the port's tile it is absorbed (R459, R533). -/
def portCtlReset (g : Nat) (s : State) : State :=
  if s.ready && s.hasPort g && s.asleep (g / 16) then holdAcc (g / 16) (regAcc pTPT g 0x00C 4) s else portReset g s

def execPortReset (g : Nat) (s : State) : Res := .next (mmio 0 0 (fun s => portCtlReset g s) s)

/-! ## Block reset (R521) -/

/-- Pages whose CTL.RESET is this command's: neither a package, tile or port reset, nor discarded. -/
def blockPage (ty : Nat) : Bool :=
  [pTIM, pPWR, pFWU, pSET, pICG, pADM, pTPL, pMGT, pCRY, pTSK, pPMT, pPIM, pRFX, pBRG, pBMV, pSEQ, pATZ, pPLN].contains ty

/-- The page of this number exists. -/
def State.hasPage (s : State) (ty inst : Nat) : Bool :=
  if ty < 0x10 then inst == 0 else if ty < 0x20 then s.hasTile inst else if ty < 0x30 then s.hasPort inst else inst ≤ 512

/-- The tile of a page, if it is a tile's or a port's. -/
def pageTile (ty inst : Nat) : Option Nat :=
  if ty < 0x10 then none else if ty < 0x20 then some inst else if ty < 0x30 then some (inst / 16) else none

/-- The further effect of R521. -/
def blockEffect (ty inst : Nat) (s : State) : State :=
  if ty = pATZ then s.modPlan inst (fun p => { p with proposal := [], movesOpt := 0, movesForced := 0 })
  else if ty = pSEQ then s.modPlan inst (fun p => { p with swaps := 0 })
  else if ty = pTPL then s.fnList.foldl (fun s f => s.modFn f (fun x => { x with dmaBlock := false, freezeMs := 100, dmaEventSent := false })) s
  else if ty = pPMT then startLevel inst (avsCleared inst (s.modPwr inst (fun p => { p with stepdown := false })))
  else if ty = pTIM then s.modTime (fun t => { t with modeW := 0, sampleOffW := 0, rateW := some 0 })
  else if ty = pMGT then
    { s.modFw (fun x => { x with
        bufs := [], queue := match x.prog, x.queue with
          | some _, q :: r => q :: r.filter (fun q => match q.origin with | .udp _ => false | .command _ => true)
          | _, l => l.filter (fun q => match q.origin with | .udp _ => false | .command _ => true) }) with mgt := {} }
  else if ty = pADM then
    admWipe ([(0, 0), (1, 0), (2, 0), (2, 1)].foldl (fun s (k : Nat × Nat) => ringOff 0 k.1 k.2 s)
      (s.modSq 0 0 (fun r => { r with wipe := true })))
  else s

/-- CTL.RESET of a page (R521). -/
def blockReset (ty inst : Nat) (s : State) : State :=
  if !(s.ready && blockPage ty && s.hasPage ty inst) then s
  else if (match pageTile ty inst with | some t => !s.tileOpen t || (s.tl t).resetAt.isSome | none => false) then s
  else if ty = pFWU then fwuSettle (s.modFw (fun x => { x with resetWait := true }))
  else if ty = pADM then blockEffect ty 0 s
  else if ty = pPWR then
    clearPage pPWR 0 (if bit s.stbyCtl 0 then cancelStandby 4 s else s)
  else blockEffect ty inst (clearPage ty inst s)

def execBlockReset (ty inst : Nat) (s : State) : Res := .next (match pageTile ty inst with
    | some t => tileMmio t (regAcc ty inst 0x00C 4) (fun s => blockReset ty inst s) s
    | none => mmio 0 0 (fun s => blockReset ty inst s) s)

end Sys2Proof.Machine
end

