-- ==== Sys2Proof/Machine/Regs.lean ====
section
/-!
DEFINITION. Regs: the address map of BAR0, the names of every page's registers and the value each register reads as
(spec/17_register_map.md, R536-R561; the register tables of the other chapters).
-/
namespace Sys2Proof.Machine

/-! ## The map (R549-R552) -/

/-- A place in a BAR0: a register of a page, the MSI-X table, the PBA, a plan aperture, or nothing. -/
inductive Loc where
  | page (ty inst off : Nat)
  | msix (off : Nat)
  | pba (off : Nat)
  | aper (g off : Nat)
  | hole
deriving DecidableEq, Repr

/-- Place of byte `a` of a tile's region (R551). -/
def tilePlace (t r : Nat) : Loc :=
  if r < 0x7000 then .page (0x10 + r / 0x1000) t (r % 0x1000)
  else if r < 0x100000 ∨ r ≥ 0x200000 then .hole
  else
    let g := 16 * t + (r - 0x100000) / 0x10000
    let q := r % 0x10000
    if q < 0x3000 then .page (0x20 + q / 0x1000) g (q % 0x1000)
    else if q < 0x8000 then .hole
    else if q < 0x9000 then .page pPLN g (q % 0x1000)
    else .aper g (q - 0x9000)

/-- The tile in whose region of manager BAR0 the byte lies (R549). -/
def barTile (a : Nat) : Option Nat :=
  if a < 0x1000000 then none
  else if (a - 0x1000000) / 0xE00000 < 8 then some ((a - 0x1000000) / 0xE00000) else none

/-- Place of byte `a` of the BAR0 of `f`. -/
def place (f a : Nat) : Loc :=
  if f = 0 then
    match barTile a with
    | some t => tilePlace t ((a - 0x1000000) % 0xE00000)
    | none =>
      if a < 0xA000 then .page (1 + a / 0x1000) 0 (a % 0x1000)
      else if a / 0x1000 = 0xF02 then .page pFIB 0 (a % 0x1000)
      else if a / 0x1000 = 0xF03 then .page pNIB 0 (a % 0x1000)
      else if a / 0x1000 = 0xF08 ∧ a % 0x1000 < 256 then .msix (a % 0x1000)
      else if a / 0x1000 = 0xF09 ∧ a % 0x1000 < 8 then .pba (a % 0x1000)
      else .hole
  else if a < 0x6000 then .page (0x30 + a / 0x1000) f (a % 0x1000)
  else if a / 0x1000 = 8 ∧ a % 0x1000 < 256 then .msix (a % 0x1000)
  else if a / 0x1000 = 9 ∧ a % 0x1000 < 8 then .pba (a % 0x1000)
  else .hole

/-! ## Names of registers -/

/-- Ranges of page offsets, first and last word, that the page's tables name after the header. -/
def namedRanges (ty : Nat) : List (Nat × Nat) :=
  if ty = pGLB then [(0x40, 0x50), (0x58, 0x5C)]
  else if ty = pTIM then [(0x40, 0x40), (0x48, 0x50), (0x58, 0x88), (0x90, 0xA0)]
  else if ty = pPWR then [(0x40, 0x6C)]
  else if ty = pFWU then [(0x40, 0x40), (0x48, 0x78)]
  else if ty = pSET then [(0x40, 0x50)]
  else if ty = pICG then [(0x40, 0x40), (0x48, 0x64), (0x70, 0x78)]
  else if ty = pADM then
    [(0x40, 0x40), (0x60, 0x60), (0x80, 0x84), (0x100, 0x10C), (0x180, 0x18C), (0x200, 0x21C), (0x240, 0x268),
     (0x800, 0x808), (0x810, 0x824)]
  else if ty = pTPL then [(0x40, 0x5C)]
  else if ty = pMGT then [(0x40, 0x58), (0x60, 0x70), (0x80, 0x98)]
  else if ty = pCRY then [(0x40, 0x44)]
  else if ty = pTIL then [(0x40, 0x48)]
  else if ty = pTSK then [(0x40, 0x58), (0x60, 0x68)]
  else if ty = pPMT then [(0x40, 0x58), (0x60, 0x64)]
  else if ty = pPIM then [(0x40, 0x58)]
  else if ty = pRFX then [(0x40, 0x4C)]
  else if ty = pBRG then [(0x40, 0x4C)]
  else if ty = pBMV then [(0x40, 0x50)]
  else if ty = pTPT then [(0x40, 0x48), (0x50, 0x54), (0x60, 0x8C), (0x90, 0x98)]
  else if ty = pSEQ then [(0x40, 0x60), (0x68, 0x6C)]
  else if ty = pATZ then [(0x40, 0x58)]
  else if ty = pPLN then [(0x40, 0x40)]
  else if ty = pTNH then
    [(0x40, 0x5C), (0x80, 0x80), (0x88, 0xA0), (0xB0, 0xB4), (0x100, 0x108), (0x110, 0x120), (0x140, 0x17C)]
  else if ty = pDBL then
    [(0x40, 0x84), (0x100, 0x21C), (0x240, 0x268), (0x800, 0x808), (0x810, 0x824)]
  else if ty = pFIB then [(0x40, 0x58), (0x60, 0x80), (0x400, 0x800)]
  else if ty = pNIB then [(0x40, 0x58)]
  else if ty = pBWV then [(0x40, 0x64)]
  else if ty = pBMC then [(0x40, 0x48), (0x50, 0x64), (0x80, 0xBC)]
  else []

/-- The word at a page offset belongs to a named register (R16, R536, R546). -/
def named (ty off : Nat) : Bool :=
  let w := off / 4 * 4
  decide (w < 0x20) || (namedRanges ty).any (fun r => decide (r.1 ≤ w ∧ w ≤ r.2)) ||
    (ty == pBMC && decide (0x100 ≤ w ∧ w < 0x900) && decide (w % 0x80 ≤ 0x3C))

/-- Bases of the 64-bit registers of a page. -/
def wideBases (ty : Nat) : List Nat :=
  if ty = pGLB then [0x40, 0x58]
  else if ty = pTIM then [0x48, 0x58, 0x68, 0x78, 0x80, 0x90, 0x98]
  else if ty = pFWU then [0x48, 0x58]
  else if ty = pSET then [0x40]
  else if ty = pICG then [0x70]
  else if ty = pADM then [0x100, 0x180, 0x200, 0x210, 0x810]
  else if ty = pMGT then [0x48, 0x90]
  else if ty = pTIL then [0x40]
  else if ty = pTSK then [0x60]
  else if ty = pPMT then [0x60]
  else if ty = pBMV then [0x48]
  else if ty = pTPT then [0x60, 0x68, 0x70, 0x78]
  else if ty = pSEQ then [0x48, 0x68]
  else if ty = pTNH then [0x40, 0x48, 0x50, 0x88, 0x110, 0x118]
  else if ty = pDBL then (List.range 8).flatMap (fun q => [0x100 + 16 * q, 0x180 + 16 * q]) ++ [0x200, 0x210, 0x810]
  else if ty = pFIB then [0x40, 0x48, 0x50] ++ (List.range 128).map (fun i => 0x400 + 8 * i)
  else if ty = pBMC then [0x50, 0x60] ++ (List.range 16).flatMap (fun v => [0x100 + 0x80 * v, 0x120 + 0x80 * v])
  else []

/-- A 64-bit register begins at the offset. -/
def wide (ty off : Nat) : Bool := (wideBases ty).contains off

/-- ERR bits that a page's chapter defines, with PARTWR and LOCKWR (R543). -/
def errBits (ty : Nat) : Nat :=
  (if ty = pTIL then 2
   else if ty = pPIM then 0x1F
   else if ty = pTPT then 0xFF
   else if [pTIM, pPWR, pFWU, pTSK, pBMC].contains ty then 7
   else if [pGLB, pSET, pADM, pTPL, pMGT, pPMT, pRFX, pDBL, pBWV].contains ty then 3
   else if [pICG, pCRY, pBMV, pTNH, pFIB, pNIB].contains ty then 1
   else 0) + 2 ^ 30 + 2 ^ 31

/-! ## The page header (R536-R542) -/

def pageId (ty inst : Nat) : Nat :=
  ty + (if ty < 0x10 then 0 else if ty < 0x20 then inst * 2 ^ 12
    else if ty < 0x30 then inst % 16 * 2 ^ 8 + inst / 16 * 2 ^ 12 else inst * 2 ^ 16)

def glbCap (s : State) : Nat := s.tiles + s.portCount * 2 ^ 4 + 512 * 2 ^ 16
/-- CAP of a TIL page (R24). -/
def tilCap (t : Nat) : Nat := t + b2n (t == 0) * 8 + 0xC * 2 ^ 8 + 0x10 * 2 ^ 12 + 0x1F * 2 ^ 17 + 0x1F * 2 ^ 22

/-- QUIESCE is 1 and its condition holds (R541, R542). -/
def State.quiesced (s : State) (ty inst : Nat) : Bool :=
  bit (s.reg 1 ty inst 0x00C) 1 &&
  (if ty = pBRG then !s.bridge.any (fun a => a.g / 16 == inst && !a.unsent)
   else if ty = pBMV then (List.range 32).all (fun c => (s.chan (inst * 32 + c)).out == [])
   else ty == pADM && (s.fn 0).entries == [] && (s.fn 0).fetching == [])

/-- STAT of a page (R542). -/
def pageStat (ty inst : Nat) (s : State) : Nat :=
  let t := (pageTile ty inst).getD 0
  b2n (s.ready && (match pageTile ty inst with | some t => (s.tl t).ready | none => true)) +
  2 * b2n (s.quiesced ty inst) + 4 * b2n ((s.tl t).pow == .doze)

/-- A header word. -/
def headVal (ty inst off : Nat) (s : State) : Nat :=
  match off with
  | 0x00 => pageId ty inst
  | 0x04 => 0x100
  | 0x08 => if ty = pGLB ∨ ty = pTNH then glbCap s else if ty = pTIL then tilCap inst else 0
  | 0x0C =>
    let w := s.reg 1 ty inst 0x00C
    if ty = pMGT then (if s.mgtEnabled then setBit w 0 else clrBit w 0) else w
  | 0x10 => pageStat ty inst s
  | 0x14 => s.reg 0 ty inst 0x014
  | 0x18 => s.reg 0 ty inst 0x018
  | 0x1C => s.reg 0 ty inst 0x01C
  | _ => 0

/-! ## Codes -/

def PowSt.code : PowSt → Nat
  | .run => 0 | .doze => 1 | .drying => 2 | .drydown => 3 | .waking => 4 | .off => 5

def HopSt.code : HopSt → Nat
  | .down => 0 | .lock => 1 | .eq => 2 | .ident => 3 | .up => 4 | .wakeDetect => 7

def TenSt.code : TenSt → Nat
  | .none => 0 | .active => 1 | .freezing => 2 | .frozen => 3 | .resetting => 4 | .restoring => 5 | .destroying => 6
  | .creating => 7

/-- Number of list members that meet a condition. -/
def countIf {α : Type} (p : α → Bool) (l : List α) : Nat := (l.filter p).length

/-- An ERR bit of the page is set and unmasked (R436). -/
def State.errUp (s : State) (ty inst : Nat) : Bool :=
  (List.range 32).any (fun b => bit (s.reg 0 ty inst 0x014) b && !bit (s.reg 0 ty inst 0x018) b)

/-! ## Package pages -/

/-- Words of the GLB page (R534, R553, R554). -/
def glbVal (off : Nat) (s : State) : Nat :=
  if off = 0x48 then s.boot.cause + s.boot.ms * 2 ^ 16
  else if off = 0x4C then s.pins.straps
  else if off = 0x50 then maskOf s.tiles (fun t => nget 0 s.pins.tileOk t == 2 && (s.tl t).pow != .off)
  else 0
def glbWide (off : Nat) (s : State) : Nat := if off = 0x40 then s.mesh.toNat else Config.fuseUid.toNat

/-- TIM_PTSTAT (R90). -/
def ptStat (s : State) : Nat :=
  s.time.mode + 4 * b2n s.time.sync + 8 * b2n s.time.holdover + 16 * b2n s.time.wakeUnsync

/-- Words of the TIM page (R87-R90). -/
def timVal (off : Nat) (s : State) : Nat :=
  let t := s.time
  if off = 0x40 then t.ticklenW + t.fllog2W * 16 + b2n t.pending * 2 ^ 16 + b2n t.locked * 2 ^ 17
  else if off = 0x50 then t.sampleOffW
  else if off = 0x60 then ptStat s
  else if off = 0x64 then s.reg 0 pTIM 0 0x064
  else if off = 0x70 then ofSigned 32 t.rate
  else if off = 0x74 then s.reg 0 pTIM 0 0x074
  else if off = 0x88 then ofSigned 32 (clampInt (-2147483647) 2147483647 t.ptOffset)
  else if off = 0xA0 then t.wakeSource + 4 * b2n t.wakeSat
  else 0
def timWide (off : Nat) (s : State) : Nat :=
  let t := s.time
  if off = 0x48 then t.tick
  else if off = 0x58 then t.plant
  else if off = 0x78 then t.ptTick
  else if off = 0x80 then t.ptAt
  else if off = 0x90 then t.wakeDelta
  else if off = 0x98 then t.wakeBound
  else 0

/-- PWR_TILESTAT of a tile: a sleeping tile shows the level of its next wake (R473). -/
def tileStat (t : Nat) (s : State) : Nat :=
  if !s.hasTile t then 0
  else
    let x := s.tl t
    x.pow.code + (if s.asleep t || x.pow == .off then min (s.levelSet t) 2 else x.pwr.level) * 8 + x.pwr.fails * 2 ^ 8

/-- Words of the PWR page (R473). -/
def pwrVal (off : Nat) (s : State) : Nat :=
  if off = 0x40 then s.stbyCtl + 2 * b2n s.xogate
  else if off = 0x44 then s.stage + s.lastCancel * 16
  else if off = 0x48 then s.reg 0 pPWR 0 0x048
  else if off = 0x4C then s.reg 0xFF pPWR 0 0x04C % 2 ^ s.tiles
  else if 0x50 ≤ off ∧ off < 0x70 then tileStat ((off - 0x50) / 4) s
  else 0

/-- Words of the FWU page (R509, R510). -/
def fwuVal (off : Nat) (s : State) : Nat :=
  let x := s.fw
  let w := x.winner
  if off = 0x40 then
    (match x.session with
      | some r => x.marked.length + (if x.marked.length = r.count then 2 else 1) * 2 ^ 14 + r.count * 2 ^ 16
      | none => 0) + b2n x.verified * 2 ^ 30 + b2n (x.flacon == 2) * 2 ^ 31
  else if off = 0x50 then
    x.slot + ((w.map (·.prevSlot)).getD 0) * 4 + b2n x.onTrial * 16 + b2n x.recovery * 32 + x.bank * 64 +
      min 255 ((w.map (·.boots)).getD 0) * 2 ^ 8 + min 1023 ((w.map (·.qh)).getD 0) * 2 ^ 16
  else if off = 0x54 then x.runVer
  else if off = 0x60 then x.svnFuses.length + x.revoked * 2 ^ 8
  else if off = 0x64 then s.sreg 0x00480603 pFWU 0 0x064
  else if off = 0x68 then s.sreg 0 pFWU 0 0x068
  else if off = 0x6C then s.udpcfg
  else if off = 0x70 then s.sreg 0 pFWU 0 0x070
  else if off = 0x74 then
    (match x.switch with
      | some w => 1 + 2 * b2n w.rollback + w.tile * 4 + w.done * 2 ^ 8
      | none => 0) + min 65535 x.lastPause * 2 ^ 16
  else if off = 0x78 then s.reg 0 pFWU 0 0x078
  else 0
def fwuWide (off : Nat) (s : State) : Nat :=
  if off = 0x48 then (s.fw.session.map (·.tag)).getD 0 else s.fw.fusedSvn

/-- Words of the SET page (R511). -/
def setVal (off : Nat) (s : State) : Nat :=
  let x := s.fw
  if off = 0x48 then
    x.setRecovery + x.bank * 4 + b2n (x.save.isSome || x.saveWait.isSome) * 8 + b2n x.healed * 16 + x.setfmt * 2 ^ 16
  else if off = 0x4C then s.half + min (2 ^ 24 - 1) (s.ntHalf s.half).records.length * 2 ^ 8
  else if off = 0x50 then s.reg 0 pSET 0 0x050
  else 0

/-- ICG_ERRTILE of a tile (R443). -/
def errTile (t : Nat) (s : State) : Nat :=
  if !s.hasTile t then 0
  else maskOf 7 (fun i => s.errUp (0x10 + i) t) +
    maskOf 16 (fun p => portPages.any (fun ty => s.errUp ty (16 * t + p))) * 2 ^ 16

/-- Words of the ICG page (R443). -/
def icgVal (off : Nat) (s : State) : Nat :=
  if off = 0x40 then
    maskOf 10 (fun i => s.errUp (1 + i) 0 || (1 + i == pICG && (s.errUp pFIB 0 || s.errUp pNIB 0))) +
      maskOf 8 (fun t => errTile t s != 0) * 2 ^ 16
  else if 0x48 ≤ off ∧ off < 0x68 then errTile ((off - 0x48) / 4) s
  else if off = 0x78 then s.reg 0 pICG 0 0x078
  else 0

/-- The function, and the share, that the TPL page's selectors name (R395). -/
def tplFn (s : State) : Nat := s.reg 1 pTPL 0 0x040
def tplCell (s : State) : Cell :=
  let w := s.reg 1 pTPL 0 0x04C
  let i := bits w 4 7
  match w % 16 with
  | 1 => .budUp i
  | 2 => .budDn i
  | 3 => .granules i
  | 4 => .rules i
  | 5 => .channels i
  | 6 => .nodes
  | 7 => .credits
  | _ => .vectors

/-- Words of the TPL page (R395). -/
def tplVal (off : Nat) (s : State) : Nat :=
  let x := s.fn (tplFn s)
  let made := s.fns.filter (fun y => y.1 != 0 && y.2.st != .none)
  if off = 0x40 then tplFn s
  else if off = 0x44 then
    if x.st = .none then 0
    else x.st.code + x.share.prio * 8 + x.share.vectors * 2 ^ 7 + b2n x.restored * 2 ^ 12 + b2n x.purging * 2 ^ 13
  else if off = 0x48 then b2n x.dmaBlock + x.freezeMs * 2 ^ 16
  else if off = 0x4C then s.reg 1 pTPL 0 0x04C
  else if off = 0x50 then s.poolFree (tplCell s)
  else if off = 0x54 then s.poolSize (tplCell s)
  else if off = 0x58 then (if x.st = .none then 0 else x.share.saveSize)
  else if off = 0x5C then made.length + countIf (fun y => y.2.st == .frozen) made * 2 ^ 16
  else 0

/-- Words of the MGT page (R559, R560). -/
def mgtVal (off : Nat) (s : State) : Nat :=
  if off = 0x40 then s.sreg 4 pMGT 0 0x040
  else if off = 0x44 then
    b2n s.mgt.served + s.mgt.speed * 2 + b2n s.mgt.duplex * 8 + b2n (s.mgt.up && !s.mgt.served) * 16
  else if off = 0x98 then s.reg 0 pMGT 0 0x098
  else s.sreg 0 pMGT 0 off

/-! ## Queues of a function, DBL and ADM (R215, R216, R290-R293, R556) -/

/-- STAT of a ring; a stopped ring shows the index it latched and that index's phase (R293). -/
def Ring.statWord (r : Ring) : Nat :=
  (if r.stopped then r.latched % 2 ^ 16 else r.head) + b2n r.running * 2 ^ 16 + b2n r.stopped * 2 ^ 17 +
    b2n (if r.stopped then r.latchPhase else r.phase) * 2 ^ 18 + r.reason * 2 ^ 19 + b2n r.draining * 2 ^ 23

/-- STATE of a list: frozen, compiling and loading are read off the function and the port's plan; a list stopped while its
function is frozen shows stopped (R216; DESIGN CHOICE, log entry 89). -/
def listState (f g : Nat) (s : State) : Nat :=
  let l := s.list f g
  let p := s.plan g
  if l.st = .detached then 0
  else if l.st = .stopped then 5
  else if s.listsFrozen f then 6
  else if l.st = .header ∨ l.st = .fetching then 2
  else if p.pendingGens.any (·.1 == f) || p.taken.any (·.1 == f) then 3
  else if p.idleSt != .empty && p.idle.covers.any (·.func == f) then 4
  else 1

/-- LISTSTAT (R216). -/
def listStat (f g : Nat) (s : State) : Nat :=
  let l := s.list f g
  listState f g s + b2n l.deadline.isSome * 8 + l.reason * 2 ^ 4 + l.seg * 2 ^ 8 + l.idx * 2 ^ 12

/-- A ring's kind, number and word (0 and 1 BASE, 2 CFG, 3 STAT) from its page offset. -/
def ringAt (f off : Nat) : Option (Nat × Nat × Nat) :=
  let w := off % 16 / 4
  let r := if 0x100 ≤ off ∧ off < 0x180 then some (0, (off - 0x100) / 16, w)
    else if 0x180 ≤ off ∧ off < 0x200 then some (1, (off - 0x180) / 16, w)
    else if 0x200 ≤ off ∧ off < 0x220 then some (2, (off - 0x200) / 16, w)
    else none
  match r with
  | some (k, q, w) => if hasQueue f k q then some (k, q, w) else none
  | none => none

/-- A budget as the function's page shows it (R215, R556). -/
def budgetWord (f g : Nat) (up : Bool) (s : State) : Nat := (s.budget f g up).getD 0x7FFFFF

/-- Words of the DBL page of a tenant, or of ADM. -/
def dblVal (f off : Nat) (s : State) : Nat :=
  let x := s.fn f
  let g := s.reg 0 (qPage f) f 0x804
  if off = 0x240 then s.credits f + x.entries.length * 2 ^ 16
  else if off = 0x244 then x.handles.length + handleLimit f * 2 ^ 16
  else if off = 0x248 then x.hold.length + b2n x.fetchPause * 2 ^ 8
  else if off = 0x24C then x.eqmap
  else if 0x250 ≤ off ∧ off < 0x26C then
    let c := (off - 0x250) / 4 * 2
    nget 0 x.eqovf c + nget 0 x.eqovf (c + 1) * 2 ^ 16
  else if off = 0x804 then g
  else if off = 0x808 then listStat f g s
  else if off = 0x818 then budgetWord f g true s
  else if off = 0x81C then budgetWord f g false s
  else if off = 0x820 then s.placedCost f g true
  else if off = 0x824 then s.placedCost f g false
  else match ringAt f off with
    | some (k, q, 2) => (s.ring f k q).cfgWord k
    | some (k, q, 3) => (s.ring f k q).statWord
    | _ => 0
def dblWide (f off : Nat) (s : State) : Nat :=
  if off = 0x810 then ((s.list f (s.reg 0 (qPage f) f 0x804)).gen).getD 0
  else match ringAt f off with
    | some (k, q, _) => (s.ring f k q).base.toNat
    | none => 0

/-! ## Tile pages -/

/-- TIL_TIMEOFF (R91). -/
def timeOff (t : Nat) (s : State) : Nat := ofSigned 24 (clampInt (-8388607) 8388607 (s.tl t).offset) + (s.tl t).align.code * 2 ^ 24

/-- TSK_ENGSTAT of engine `e` (R418). -/
def engStat (t e : Nat) (s : State) : Nat :=
  let x := s.tl t
  if x.pow = .doze then 3
  else if x.reload.contains e then 2
  else match x.tasks.find? (fun k => k.st == .running e) with
    | some k => 1 + k.level * 16 + k.fn * 2 ^ 8 + k.ctx * 2 ^ 18
    | none => 0

/-- Words of the TSK page (R418). -/
def tskVal (t off : Nat) (s : State) : Nat :=
  let x := s.tl t
  let l := s.reg 0 pTSK t 0x048
  if off = 0x44 then engStat t (s.reg 0 pTSK t 0x040) s
  else if off = 0x4C then
    countIf (fun k => k.level == l && k.st == .ready) x.tasks +
      countIf (fun k => k.level == l && (match k.st with | .delayed _ => true | _ => false)) x.tasks * 2 ^ 16
  else if off = 0x50 then s.reg 0 pTSK t (waitOff l)
  else if off = 0x58 then x.freeCount 12 + x.freeCount 4 * 2 ^ 10 + x.freeCount 0 * 2 ^ 22
  else s.reg 0 pTSK t off

/-- Words of the PMT page (R471, R472). -/
def pmtVal (t off : Nat) (s : State) : Nat :=
  let x := s.tl t
  let p := x.pwr
  if off = 0x40 then s.pmtCtl t
  else if off = 0x44 then x.pow.code + p.level * 8 + b2n p.change.isSome * 32 + b2n p.stepdown * 64
  else if off = 0x48 then s.pmtDoze t
  else if off = 0x4C then s.reg 0x5028 pPMT t 0x04C
  else if off = 0x54 then p.cause + p.port * 8 + min 65535 p.duration * 2 ^ 16
  else s.reg 0 pPMT t off

/-- Words of the PIM page (R262, R263). -/
def pimVal (t off : Nat) (s : State) : Nat :=
  if off = 0x40 then s.pimCtl t
  else if off = 0x44 then s.sreg 0xFFFFFFFF pPIM t 0x044
  else if off = 0x48 then (s.owners.filter (fun x => x.1 / 16384 == t)).length + s.presets t * 2 ^ 15
  else if off = 0x58 then countIf (fun (x : ShareGrant) => ptTile x.first == t) s.grants
  else s.reg 0 pPIM t off

/-- Words of the RFX page (R287, R288). -/
def rfxVal (t off : Nat) (s : State) : Nat :=
  if off = 0x40 then s.rfxUsed t
  else if off = 0x44 then (s.tl t).scanLast % 2 ^ 10 + (s.tl t).scanPeak % 2 ^ 10 * 2 ^ 16
  else s.reg 0 pRFX t off

/-- Words of the BRG page (R343). -/
def brgVal (t off : Nat) (s : State) : Nat :=
  if off = 0x4C then s.reg 0 pBRG t 0x04C + b2n (s.mgrBusy t) * 2 ^ 8 else s.reg 0 pBRG t off

/-- Words of the BMV page (R365). -/
def bmvVal (t off : Nat) (s : State) : Nat :=
  if off = 0x44 then
    let k := t * 32 + s.reg 0 pBMV t 0x040
    let c := s.chan k
    match s.chanOwner k with
    | some (f, v) => f + v * 2 ^ 10 + c.st.code * 2 ^ 14 + c.cur.prio * 2 ^ 17 + c.cur.nodeNo * 2 ^ 20
    | none => 0
  else s.reg 0 pBMV t off

/-! ## Port pages -/

/-- TPT_LINKSTAT (R140). -/
def linkStat (g : Nat) (s : State) : Nat :=
  let p := s.port g
  p.hop.code + b2n p.blockLock * 8 + b2n p.sigdet * 16 + (s.rx g 0).preset * 2 ^ 8 +
    countIf (fun n => (s.node g n).delayValid) (s.nodesOf g) * 2 ^ 16

/-- TPT_RANGEVAL of a node (R141). -/
def rangeVal (g n : Nat) (s : State) : Nat :=
  let x := s.node g n
  x.delay % 2 ^ 20 + x.depth * 2 ^ 20 + b2n x.delayValid * 2 ^ 24 + b2n x.stepWait.isSome * 2 ^ 25 + min 63 x.missedEcho * 2 ^ 26

/-- The number being assigned, while steps 1 to 5 of R152 are in progress; step 5 ends as ASSIGN goes out (R152, R178). -/
def enumerating (g : Nat) (s : State) : Option Nat :=
  match (s.port g).enumNow with
  | some e => some e.2.2
  | none => ((s.port g).mwait.find? (fun r => r.purpose == .assign)).map (·.node)

/-- TPT_NODESTAT (R178). -/
def nodeStat (g n : Nat) (s : State) : Nat :=
  let x := s.node g n
  x.st.code + x.lessee * 2 ^ 4 + b2n (x.readers != []) * 2 ^ 14 + b2n x.replaced * 2 ^ 15 + x.run * 2 ^ 16 + x.reason * 2 ^ 24

/-- Words of the TPT page; the equaliser peaking of TPT_EYE is a free value while the hop is not DOWN. Its margins show what
was read last, after the hop has fallen too (R138-R141, R177, R178; DESIGN CHOICE, log entry 49). -/
def tptVal (g off : Nat) (s : State) : Nat :=
  let p := s.port g
  let n := s.reg 0 pTPT g 0x090
  if off = 0x40 then s.linkcfg g
  else if off = 0x44 then linkStat g s
  else if off = 0x48 then p.marginH % 64 + p.marginV % 256 * 2 ^ 8 + (if p.hop = .down then 0 else s.freeVal % 16) * 2 ^ 16
  else if off = 0x54 then rangeVal g (s.reg 0 pTPT g 0x050) s
  else if off = 0x80 then s.treecfg g
  else if off = 0x84 then s.misswin g
  else if off = 0x88 then
    countIf (fun n => (s.node g n).present) (s.nodesOf g) +
      countIf (fun n => (s.node g n).st == .quarantined) (s.nodesOf g) * 2 ^ 16
  else if off = 0x8C then
    (enumerating g s).getD 0 + b2n (enumerating g s).isSome * 2 ^ 12 + p.held.length * 2 ^ 16
  else if off = 0x94 then nodeStat g n s
  else if off = 0x98 then (s.node g n).misses + (s.node g n).recovered * 2 ^ 16
  else s.reg 0 pTPT g off

/-- SEQ_PLANSEL; IDLEPLANID is 0 until the idle buffer's Accord is written (R218; DESIGN CHOICE, log entry 89). -/
def planSel (g : Nat) (s : State) : Nat :=
  let p := s.plan g
  let st := match p.idleSt with
    | .empty => 0
    | .compiling => 1
    | .loading => 2
    | .ready => if p.fixed.isNone && (s.holdSwap g || s.time.pending) then 4 else 3
  p.runBuf + st * 2 + b2n p.fixed.isSome * 16 + p.run.planid * 2 ^ 8 + p.idle.planid * 2 ^ 16

/-- Words of the SEQ page (R217, R218). -/
def seqVal (g off : Nat) (s : State) : Nat :=
  let l := (s.plan g).run.entries
  if off = 0x40 then planSel g s
  else if off = 0x50 then s.ceilUp
  else if off = 0x54 then s.ceilDn
  else if off = 0x58 then s.costOf l true (fun _ => true)
  else if off = 0x5C then s.costOf l false (fun _ => true)
  else if off = 0x60 then l.length + countIf (·.mute) l * 2 ^ 16
  else s.reg 0 pSEQ g off

/-- Words of the ATZ page (R219). -/
def atzVal (g off : Nat) (s : State) : Nat :=
  let p := s.plan g
  let l := p.run.entries
  if off = 0x40 then s.atzCtl g
  else if off = 0x44 then peakOf l true + peakOf l false * 2 ^ 10
  else if off = 0x48 then
    if p.proposal = [] then 0
    else
      let m := p.proposal.foldl applyMove l
      peakOf m true + peakOf m false * 2 ^ 10 + p.proposal.length * 2 ^ 20
  else if off = 0x50 then
    match l[s.reg 0 pATZ g 0x04C]? with
    | some e =>
      (if e.up then e.first - s.bmin g e.node else 0) % 2 ^ 10 + ofSigned 11 e.shift * 2 ^ 10 + min 255 e.moved * 2 ^ 21 +
        b2n (s.late g e) * 2 ^ 29
    | none => 0
  else if off = 0x54 then countIf (fun e => s.late g e) l
  else if off = 0x58 then p.movesOpt + p.movesForced * 2 ^ 16
  else s.reg 0 pATZ g off

/-- An Accord's header (R221). -/
def planHeader (p : Plan) : List Byte :=
  toLe 1 p.planid ++ toLe 1 (b2n (p.entries != [])) ++ toLe 2 p.entries.length ++ toLe 1 p.ticklen ++ toLe 1 p.fllog2 ++
  toLe 2 p.sampleOff ++ toLe 8 p.swapTick ++ toLe 4 (costSum (2 ^ p.fllog2) p.entries true (fun _ => true)) ++
  toLe 4 (costSum (2 ^ p.fllog2) p.entries false (fun _ => true)) ++ toLe 2 (peakOf p.entries true) ++ toLe 2 (peakOf p.entries false) ++
  List.replicate 36 0#8

/-- An Accord entry (R222). -/
def planEntry (e : AEntry) : List Byte :=
  toLe 2 (e.node % 2 ^ 12 + b2n e.up * 2 ^ 12 + b2n e.retry * 2 ^ 13 + b2n e.mute * 2 ^ 14) ++ toLe 2 e.xid ++ toLe 1 e.len ++
  toLe 1 (e.k + e.prio * 32) ++ toLe 2 e.phase ++ toLe 2 e.first ++ toLe 2 e.func ++ toLe 4 (e.pmref + e.pm.length * 2 ^ 20)

/-- Bytes of a plan buffer; an EMPTY one reads as zero (R220), and so does one whose Accord is not written yet
(DESIGN CHOICE, log entry 89). -/
def planBytes (g : Nat) (idle : Bool) (s : State) : List Byte :=
  let p := s.plan g
  if idle then (if p.idleSt = .empty ∨ p.idleSt = .compiling then [] else planHeader p.idle ++ p.idle.entries.flatMap planEntry)
  else if p.run.planid = 0 then [] else planHeader p.run ++ p.run.entries.flatMap planEntry

/-- Word of the aperture at byte `off`, as PLN_VIEW selects (R220). -/
def aperVal (g off : Nat) (s : State) : Nat :=
  let v := s.reg 0 pPLN g 0x040
  let a := bits v 1 4 * 4096 + off
  if a ≥ 65536 then 0 else byteField (planBytes g (bit v 0) s) a 4

/-! ## Function pages -/

/-- Words of a TNH page (R82, R264, R289, R396, R512, R557). -/
def tnhVal (f off : Nat) (s : State) : Nat :=
  let x := s.fn f
  let m := x.image
  if off = 0x58 then ofSigned 32 s.time.rate
  else if off = 0x5C then ptStat s
  else if off = 0x80 then m.latest
  else if off = 0x90 then m.held
  else if off = 0x94 then m.outsel
  else if off = 0x98 then m.skipIn + m.skipOut * 2 ^ 16
  else if off = 0x9C then m.lost
  else if off = 0xA0 then b2n m.desc.isSome + 2 * b2n (m.desc.isSome && !s.imageRuns f) + 4 * b2n m.error
  else if off = 0xB0 then s.reg 0 pTNH f 0x0B0
  else if off = 0xB4 then s.noRights f
  else if off = 0x100 then
    x.st.code + b2n x.restored * 8 + x.share.prio * 16 + x.share.vectors * 2 ^ 8 + b2n x.share.motion * 2 ^ 13
  else if off = 0x104 then x.share.nodes
  else if off = 0x108 then s.leased f
  else if off = 0x120 then b2n x.motionDeclared
  else if 0x140 ≤ off ∧ off < 0x160 then
    let t := (off - 0x140) / 4
    nget 0 x.share.granules t + s.granulesOwned f t * 2 ^ 16
  else if 0x160 ≤ off ∧ off < 0x180 then nget 0 x.share.rules ((off - 0x160) / 4)
  else 0
def tnhWide (f off : Nat) (s : State) : Nat :=
  let x := s.fn f
  if off = 0x40 then s.time.tick
  else if off = 0x48 then s.time.ptTick
  else if off = 0x50 then s.time.ptAt
  else if off = 0x88 then x.image.imgframe
  else if off = 0x110 then x.frozeTick
  else x.thawTick

/-- The 16 bytes of an alert latch (R282). -/
def Latch.bytes (l : Latch) : List Byte :=
  toLe 2 l.origin ++ toLe 1 (l.wher + 128 * b2n l.isRule) ++ toLe 1 l.code ++ toLe 1 (l.aprio + 4 * l.aseq) ++ toLe 1 l.merged ++
  toLe 2 l.firstData ++ toLe 2 l.lastData ++ toLe 2 0 ++ toLe 4 l.tick

/-- Words of a FIB page (R282, R289, R440, R442). -/
def fibVal (f off : Nat) (s : State) : Nat :=
  if off = 0x58 then s.clsWord f true
  else if 0x60 ≤ off ∧ off < 0x80 then nget 0 (s.fn f).vecmap ((off - 0x60) / 4)
  else if off = 0x80 then (s.fn f).fast.entries
  else if off = 0x800 then s.reg 0 pFIB f 0x800
  else 0
def fibWide (f off : Nat) (s : State) : Nat :=
  if off = 0x40 then (s.fn f).fast.pend.toNat
  else if off = 0x48 then (s.fn f).fast.cause.toNat
  else if 0x400 ≤ off then byteField (nget ({} : Latch) (s.fn f).latches ((off - 0x400) / 16)).bytes (off % 16) 8
  else 0

/-- Words of a NIB page (R441, R442). -/
def nibVal (f off : Nat) (s : State) : Nat :=
  if off = 0x40 then (s.fn f).norm.pend.toNat
  else if off = 0x44 then (s.fn f).norm.cause.toNat
  else if off = 0x4C then s.clsWord f false
  else if off = 0x50 then s.miscvec f
  else if off = 0x54 then (if f = 0 then 0 else maskOf 6 (fun i => s.errUp (0x30 + i) f))
  else if off = 0x58 then (s.fn f).norm.entries
  else 0

/-- Words of a BWV page but BWV_LOCK (R322, R323). -/
def bwvVal (f off : Nat) (s : State) : Nat :=
  let b := (s.fn f).bridge
  if off = 0x40 then b.winbase
  else if off = 0x44 then s.winstat f
  else if off = 0x48 then s.reg 0xC8 pBWV f 0x048
  else if off = 0x4C then s.reg 0x0A pBWV f 0x04C
  else if off = 0x54 then b.wseq
  else if off = 0x58 then b.lseq
  else if off = 0x60 ∨ off = 0x64 then s.reg 0 pBWV f off
  else 0

/-- Registers of view `v` (R348, R349). -/
def viewVal (f v off : Nat) (s : State) : Nat :=
  match s.viewChan f v with
  | none => 0
  | some k =>
    let c := s.chan k
    if off = 0x08 then c.nxt.naddr
    else if off = 0x0C then c.nxt.len
    else if off = 0x10 then c.nxt.node
    else if off = 0x14 then c.nxt.ctl % 64 + b2n c.arm * 2 ^ 31
    else if off = 0x18 then c.nxt.tag
    else if off = 0x28 then c.cur.naddr
    else if off = 0x2C then c.cur.len
    else if off = 0x30 then c.cur.node
    else if off = 0x34 then c.cur.ctl
    else if off = 0x38 then c.cur.tag
    else if off = 0x3C then c.stat
    else 0

/-- Words of a BMC page (R346, R347). -/
def bmcVal (f off : Nat) (s : State) : Nat :=
  let x := (s.fn f).bulk
  if off = 0x40 then x.views.length
  else if off = 0x44 then s.bmcWait f
  else if off = 0x58 then x.ring.cfgWord 3
  else if off = 0x5C then x.ring.statWord
  else if 0x80 ≤ off ∧ off < 0xC0 then
    match s.viewChan f ((off - 0x80) / 4) with
    | some k => k / 32 + k % 32 * 16 + 2 ^ 31
    | none => 0
  else if 0x100 ≤ off ∧ off < 0x900 then viewVal f ((off - 0x100) / 0x80) (off % 0x80) s
  else 0
def bmcWide (f off : Nat) (s : State) : Nat :=
  if off = 0x50 then (s.fn f).bulk.ring.base.toNat
  else if off = 0x60 then s.reg 0 pBMC f 0x060
  else match s.viewChan f ((off - 0x100) / 0x80) with
    | none => 0
    | some k => if off % 0x80 = 0 then (s.chan k).nxt.host else (s.chan k).cur.host

/-! ## Any register -/

/-- The 64-bit register that begins at a page offset. -/
def wideVal (ty inst off : Nat) (s : State) : Nat :=
  if ty = pGLB then glbWide off s
  else if ty = pTIM then timWide off s
  else if ty = pFWU then fwuWide off s
  else if ty = pSET then s.fw.gen
  else if ty = pADM ∨ ty = pDBL then dblWide inst off s
  else if ty = pMGT ∧ off = 0x48 then s.mgtMac
  else if ty = pTIL then s.time.tick
  else if ty = pSEQ then (if off = 0x48 then (s.plan inst).lastSwap else (s.plan inst).swaps)
  else if ty = pTNH then tnhWide inst off s
  else if ty = pFIB then fibWide inst off s
  else if ty = pBMC then bmcWide inst off s
  else s.reg 0 ty inst off

/-- The 32-bit register at a page offset, 0 where none is named (R546). -/
def narrowVal (ty inst off : Nat) (s : State) : Nat :=
  if off < 0x20 then headVal ty inst off s
  else if !named ty off then 0
  else if ty = pGLB then glbVal off s
  else if ty = pTIM then timVal off s
  else if ty = pPWR then pwrVal off s
  else if ty = pFWU then fwuVal off s
  else if ty = pSET then setVal off s
  else if ty = pICG then icgVal off s
  else if ty = pADM ∨ ty = pDBL then dblVal inst off s
  else if ty = pTPL then tplVal off s
  else if ty = pMGT then mgtVal off s
  else if ty = pTIL then timeOff inst s
  else if ty = pTSK then tskVal inst off s
  else if ty = pPMT then pmtVal inst off s
  else if ty = pPIM then pimVal inst off s
  else if ty = pRFX then rfxVal inst off s
  else if ty = pBRG then brgVal inst off s
  else if ty = pBMV then bmvVal inst off s
  else if ty = pTPT then tptVal inst off s
  else if ty = pSEQ then seqVal inst off s
  else if ty = pATZ then atzVal inst off s
  else if ty = pTNH then tnhVal inst off s
  else if ty = pFIB then fibVal inst off s
  else if ty = pNIB then nibVal inst off s
  else if ty = pBWV then bwvVal inst off s
  else if ty = pBMC then bmcVal inst off s
  else s.reg 0 ty inst off

/-- The word at a page offset as it stands, of a 64-bit register its half. -/
def wordVal (ty inst off : Nat) (s : State) : Nat :=
  if wide ty off then wideVal ty inst off s % 2 ^ 32
  else if off % 8 == 4 && wide ty (off - 4) then wideVal ty inst (off - 4) s / 2 ^ 32 % 2 ^ 32
  else narrowVal ty inst off s % 2 ^ 32

/-- A word of a function's MSI-X table (R420). -/
def msixVal (f off : Nat) (s : State) : Nat :=
  let e := nget ({} : MsixEntry) (s.fn f).msix (off / 16)
  if off % 16 = 0 then e.addr.toNat % 2 ^ 32
  else if off % 16 = 4 then e.addr.toNat / 2 ^ 32
  else if off % 16 = 8 then e.data.toNat
  else b2n e.masked

/-- The PBA of a function, one 64-bit word (R420). -/
def pbaVal (f : Nat) (s : State) : Nat := maskOf 16 (fun v => s.pbaBit f v)

end Sys2Proof.Machine
end

