-- ==== Sys2Proof/Machine/Access.lean ====
section
/-!
DEFINITION. Access: reads and writes of registers through BAR0 and of records through BAR2, with their side effects,
clamps and snapshots (spec/00_scope.md, R14-R19; spec/17_register_map.md, R536-R562), and configuration writes.
-/
namespace Sys2Proof.Machine

/-! ## Reads (R15, R18, R81, R82) -/

/-- Read-clear registers, by page and base offset (R18). -/
def rcBases (ty : Nat) : List Nat :=
  if ty = pPWR then [0x48]
  else if ty = pFWU then [0x78]
  else if ty = pSET then [0x50]
  else if ty = pICG then [0x70, 0x78]
  else if ty = pMGT then [0x90, 0x98]
  else if ty = pCRY then [0x40]
  else if ty = pTSK then [0x50, 0x54, 0x60, 0x68]
  else if ty = pPMT then [0x58, 0x60]
  else if ty = pPIM then [0x4C]
  else if ty = pRFX then [0x48, 0x4C]
  else if ty = pBMV then [0x48, 0x50]
  else if ty = pTPT then [0x60, 0x68, 0x70, 0x78, 0x98]
  else if ty = pSEQ then [0x68]
  else if ty = pATZ then [0x58]
  else if ty = pTNH then [0x98, 0x9C, 0xB0]
  else if ty = pDBL ∨ ty = pADM then (List.range 7).map (fun w => 0x250 + 4 * w)
  else if ty = pFIB then [0x80, 0x800]
  else if ty = pNIB then [0x58]
  else if ty = pBWV then [0x60, 0x64]
  else if ty = pBMC then [0x60]
  else []

/-- A read-clear register is cleared by its read. -/
def clearRc (ty inst off : Nat) (s : State) : State :=
  if !(rcBases ty).contains off then s
  else if ty = pTSK ∧ off = 0x50 then s.setReg 0 pTSK inst (waitOff (s.reg 0 pTSK inst 0x048)) 0
  else if ty = pTPT ∧ off = 0x98 then
    s.modNode inst (s.reg 0 pTPT inst 0x090) (fun x => { x with misses := 0, recovered := 0 })
  else if ty = pSEQ then s.modPlan inst (fun p => { p with swaps := 0 })
  else if ty = pATZ then s.modPlan inst (fun p => { p with movesOpt := 0, movesForced := 0 })
  else if ty = pTNH ∧ off = 0x98 then s.modImage inst (fun m => { m with skipIn := 0, skipOut := 0 })
  else if ty = pTNH ∧ off = 0x9C then s.modImage inst (fun m => { m with lost := 0 })
  else if ty = pDBL ∨ ty = pADM then
    let c := (off - 0x250) / 4 * 2
    s.modFn inst (fun x => { x with eqovf := nput 0 (nput 0 x.eqovf c 0) (c + 1) 0 })
  else if ty = pFIB ∧ off = 0x80 then s.modFn inst (fun x => { x with fast := { x.fast with entries := 0 } })
  else if ty = pNIB then s.modFn inst (fun x => { x with norm := { x.norm with entries := 0 } })
  else
    let s1 := s.setReg 0 ty inst off 0
    if ty = pBWV ∧ off = 0x60 then s1.modBridge inst (fun b => { b with dropEvent := false }) else s1

/-- Further effects of the read of a 32-bit register. -/
def narrowEffect (ty inst off : Nat) (s : State) : State :=
  let s1 := clearRc ty inst off s
  if ty = pTPT ∧ off = 0x48 ∧ (s.port inst).hop ≠ .down then s1.draw else s1

/-- Plant-time snapshots: PTTICK takes one for the reading function, the next read of PTAT returns it (R81, R82). -/
def ptAtOf (ty inst off : Nat) (s : State) : Option Nat :=
  if ty = pTIM ∧ off = 0x80 then (s.fn 0).ptSnap
  else if ty = pTNH ∧ off = 0x50 then (s.fn inst).tnhSnap
  else none

/-- Effects of the read of a 64-bit register, whole or by its low word. -/
def wideEffect (ty inst off : Nat) (s : State) : State :=
  if ty = pTIM ∧ off = 0x78 then s.modFn 0 (fun x => { x with ptSnap := some s.time.ptAt })
  else if ty = pTIM ∧ off = 0x80 then s.modFn 0 (fun x => { x with ptSnap := none })
  else if ty = pTNH ∧ off = 0x48 then s.modFn inst (fun x => { x with tnhSnap := some s.time.ptAt })
  else if ty = pTNH ∧ off = 0x50 then s.modFn inst (fun x => { x with tnhSnap := none })
  else clearRc ty inst off s

/-- What a read of a 64-bit register returns, and the state after it. -/
def readWide (ty inst off : Nat) (s : State) : Nat × State :=
  ((ptAtOf ty inst off s).getD (wideVal ty inst off s) % 2 ^ 64, wideEffect ty inst off s)

/-- A 32-bit read at address `a` of the BAR0 of `f`; `old` is the snapshot the function held (R15). -/
def readWord (f a : Nat) (old : Option Snapshot) (s : State) : Nat × State :=
  match place f a with
  | .page ty inst off =>
    if wide ty off then
      let r := readWide ty inst off s
      (r.1 % 2 ^ 32, r.2.modFn f (fun x => { x with snap0 := some (a + 4, BitVec.ofNat 32 (r.1 / 2 ^ 32)) }))
    else if off % 8 == 4 && wide ty (off - 4) then
      match old with
      | some (b, v) => if b = a then (v.toNat, s) else (wordVal ty inst off s, s)
      | none => (wordVal ty inst off s, s)
    else if ty = pBWV ∧ off = 0x50 then takeLock f s
    else (wordVal ty inst off s, narrowEffect ty inst off s)
  | .msix off => (msixVal f (off / 4 * 4) s, s)
  | .pba off =>
    if off = 0 then
      (pbaVal f s % 2 ^ 32, s.modFn f (fun x => { x with snap0 := some (a + 4, BitVec.ofNat 32 (pbaVal f s / 2 ^ 32)) }))
    else match old with
      | some (b, v) => if b = a then (v.toNat, s) else (pbaVal f s / 2 ^ 32, s)
      | none => (pbaVal f s / 2 ^ 32, s)
  | .aper g off => (aperVal g off s, s)
  | .hole => (0, s)

/-- A 64-bit read: of a 64-bit register at once, otherwise its two words, the lower first (R15, R544). -/
def readLong (f a : Nat) (s : State) : Nat × State :=
  let two := fun (_ : Unit) =>
    let l := readWord f a none s
    let h := readWord f (a + 4) none (dropSnap f 0 l.2)
    (l.1 + h.1 * 2 ^ 32, dropSnap f 0 h.2)
  match place f a with
  | .page ty inst off => if wide ty off then readWide ty inst off s else two ()
  | .pba _ => (pbaVal f s, s)
  | _ => two ()

/-- DOZE ends with an access to a TSK or ATZ page (R454). -/
def endsDoze (f a : Nat) (s : State) : State :=
  match place f a with
  | .page ty inst _ => if ty = pTSK then leaveDoze inst s else if ty = pATZ then leaveDoze (inst / 16) s else s
  | _ => s

/-- A naturally aligned access of 4 or 8 bytes (R14, R545). -/
def aligned (a size : Nat) : Bool := (size == 4 || size == 8) && a % size == 0

/-- The tile whose region of manager BAR0 or whose records of BAR2 an access of `f` reaches. -/
def accTile (f bar a : Nat) : Option Nat :=
  if f ≠ 0 then none else if bar = 2 then some (a / 0x800000) else barTile a

/-- How a function's pages answer: 0 Unsupported Request, 1 zeros, 2 as the map gives (R369, R382, R467, R523). -/
def State.answers (s : State) (f : Nat) : Nat :=
  if !s.reach f || (s.fn f).dstate != 0 then 0
  else if f = 0 then 2
  else match (s.fn f).st with
    | .resetting | .destroying => 0
    | .none | .creating | .restoring => 1
    | .active | .freezing | .frozen => if s.ready then 2 else 1

/-- The place answers while the package is not READY: the GLB page alone (R523). -/
def State.placeOpen (s : State) (f bar a : Nat) : Bool :=
  s.ready || (f == 0 && bar == 0 && a < 0x1000)

/-- A region that reads zero and discards writes: of an unpopulated tile, or one in OFF (R4, R464). -/
def State.deadTile (s : State) : Option Nat → Bool
  | some t => !s.hasTile t || (s.tl t).pow == .off
  | none => false

/-- What a read of a record through manager BAR2 returns (R15, R259). -/
def pimRead (a size : Nat) (old : Option Snapshot) (s : State) : Nat × State :=
  let w := s.record (a / 8)
  if size = 8 then (w, s)
  else if a % 8 = 0 then
    (w % 2 ^ 32, s.modFn 0 (fun x => { x with snap2 := some (a + 4, BitVec.ofNat 32 (w / 2 ^ 32)) }))
  else match old with
    | some (b, v) => if b = a then (v.toNat, s) else (w / 2 ^ 32, s)
    | none => (w / 2 ^ 32, s)

/-- A read that reaches the registers: its data leaves in a completion. -/
def barRead (f bar a size : Nat) (s : State) : State :=
  let x := s.fn f
  let s1 := dropSnap f bar s
  let r : Nat × State :=
    if s.answers f = 1 || !s.placeOpen f bar a || s.deadTile (accTile f bar a) then (0, s1)
    else if bar = 2 then pimRead a size x.snap2 s1
    else
      let s2 := endsDoze f a s1
      if size = 8 then readLong f a s2 else readWord f a x.snap0 s2
  out (.readData f bar a size r.1) r.2

/-! ## Writes of the header (R436, R541, R543) -/

/-- CTL.RESET of a page (R516, R518, R519, R521). -/
def ctlReset (ty inst : Nat) (s : State) : State :=
  if ty = pGLB then glbReset s.pins.straps s.fw.flashOk s
  else if ty = pTIL then tileCtlReset inst s
  else if ty = pTPT then portReset inst s
  else blockReset ty inst s

/-- A job armed while its tile was quiesced starts when QUIESCE clears. -/
def promoteTile (t : Nat) (s : State) : State := (List.range 32).foldl (fun s c => promote (t * 32 + c) s) s

/-- ENABLE of a page's CTL (R541). -/
def ctlEnable (ty inst : Nat) (en : Bool) (s : State) : State :=
  let was := bit (s.reg 1 ty inst 0x00C) 0
  if ty = pMGT ∨ ty = pATZ then
    let s1 := s.setReg 1 ty inst 0x00C (setBits (s.reg 1 ty inst 0x00C) 0 1 (b2n en))
    if en || !was then s1
    else if ty = pATZ then s1.modPlan inst (fun p => { p with proposal := [] })
    else if s1.time.mode == 1 && s1.time.master.isSome then masterLost s1 else s1
  else if en then s else logClamp ty inst 0x00C 0 s

/-- QUIESCE of a page's CTL (R541). -/
def ctlQuiesce (ty inst : Nat) (q : Bool) (s : State) : State :=
  if ty = pBRG ∨ ty = pBMV ∨ ty = pADM then
    let s1 := s.setReg 1 ty inst 0x00C (setBits (s.reg 1 ty inst 0x00C) 1 1 (b2n q))
    if !q && ty == pBMV then promoteTile inst s1 else s1
  else if q then logClamp ty inst 0x00C 1 s else s

/-- A write of CTL: RESET wins over the other fields, which are checked in ascending order (R527, R541, R562). -/
def ctlWrite (ty inst v : Nat) (s : State) : State :=
  if bit v 2 then ctlReset ty inst s else ctlQuiesce ty inst (bit v 1) (ctlEnable ty inst (bit v 0) s)

/-- A write of ERR: each 1 clears its bit (R18, R381, R447). -/
def errWrite (ty inst v : Nat) (s : State) : State :=
  let w := s.reg 0 ty inst 0x014
  let s1 := s.setReg 0 ty inst 0x014 (maskOf 32 (fun b => bit w b && !bit v b))
  if ty == pPMT && bit w 1 && bit v 1 then avsCleared inst s1
  else if ty == pTPL && bit v 0 then s1.fnList.foldl (fun s f => s.modFn f (fun x => { x with dmaEventSent := false })) s1
  else s1

/-- A write of ERRMASK: a set ERR bit that becomes unmasked raises ERRSUM (R436). -/
def errmaskWrite (ty inst v : Nat) (s : State) : State :=
  let old := s.reg 0 ty inst 0x018
  let new := maskOf 32 (fun b => bit (errBits ty) b && bit v b)
  let s1 := s.setReg 0 ty inst 0x018 new
  if (List.range 32).any (fun b => bit (s.reg 0 ty inst 0x014) b && bit old b && !bit new b) then
    raiseNorm (errFn ty inst) 12 s1 else s1

/-! ## Writes of the blocks' registers -/

/-- A field clamped, with the clamp logged (R526, R528). -/
def clampLog (ty inst off b v stored : Nat) (s : State) : State := if v = stored then s else logClamp ty inst off b s

/-- PWR (R473). -/
def pwrWrite (off v : Nat) (s : State) : State :=
  if off = 0x40 then stbyctlWrite v s
  else if off = 0x4C then s.setReg 0xFF pPWR 0 0x04C (v % 256)
  else s

/-- FWU (R510); ACHOURS is checked against the stored HOURMAX (R527). -/
def fwuWrite (off v : Nat) (s : State) : State :=
  if off = 0x64 then
    let b := max 1 (bits v 0 4)
    let h := max 2 (min 720 (bits v 16 10))
    let a := max 1 (min (h - 1) (bits v 6 10))
    let s1 := clampLog pFWU 0 0x064 6 (bits v 6 10) a (clampLog pFWU 0 0x064 16 (bits v 16 10) h
      (clampLog pFWU 0 0x064 0 (bits v 0 4) b s))
    s1.setSreg 0x00480603 pFWU 0 0x064 (b + b2n (bit v 4) * 16 + a * 2 ^ 6 + h * 2 ^ 16)
  else if off = 0x68 then s.setSreg 0 pFWU 0 0x068 (v % 2)
  else if off = 0x6C then
    let p := if v % 2 ^ 16 = 0 then 50881 else v % 2 ^ 16
    (clampLog pFWU 0 0x06C 0 (v % 2 ^ 16) p s).setSreg 0xC6C1 pFWU 0 0x06C (p + b2n (bit v 16) * 2 ^ 16)
  else if off = 0x70 then s.setSreg 0 pFWU 0 0x070 (bits v 0 7 + bits v 16 16 * 2 ^ 16)
  else s

/-- TPL (R395). -/
def tplWrite (off v : Nat) (s : State) : State :=
  if off = 0x40 then
    let f := max 1 (min 512 (bits v 0 10))
    (clampLog pTPL 0 0x040 0 (bits v 0 10) f s).setReg 1 pTPL 0 0x040 f
  else if off = 0x48 then
    let f := tplFn s
    let ms := max 1 (min 60000 (bits v 16 16))
    (((clampLog pTPL 0 0x048 16 (bits v 16 16) ms s).modFn f
      (fun x => { x with dmaBlock := bit v 0, freezeMs := ms })).joinEntry f true).joinEntry f false
  else if off = 0x4C then
    let p0 := bits v 0 4
    let p := if 1 ≤ p0 ∧ p0 ≤ 8 then p0 else 1
    let i := min (bits v 4 7) (if p ≤ 2 then s.portCount - 1 else if p ≤ 5 then s.tiles - 1 else 0)
    (clampLog pTPL 0 0x04C 4 (bits v 4 7) i (clampLog pTPL 0 0x04C 0 p0 p s)).setReg 1 pTPL 0 0x04C (p + i * 16)
  else s

/-- MGT (R558-R560). -/
def mgtWrite (off v : Nat) (s : State) : State :=
  if off = 0x40 then s.setSreg 4 pMGT 0 0x040 (v % 8)
  else if (addrReg off).isSome then mgtWord off v s
  else if off = 0x50 ∨ off = 0x58 then s.setSreg 0 pMGT 0 off v
  else if off = 0x54 then (clampLog pMGT 0 0x054 0 (v % 64) (min 32 (v % 64)) s).setSreg 0 pMGT 0 0x054 (min 32 (v % 64))
  else if off = 0x70 then (clampLog pMGT 0 0x070 0 (v % 256) (min 128 (v % 256)) s).setSreg 0 pMGT 0 0x070 (min 128 (v % 256))
  else s

/-- TIM (R87-R89); PTSTEP takes 64-bit writes only (R75). -/
def timWrite (off v : Nat) (s : State) : State :=
  if off = 0x40 then timecfgWrite v s
  else if off = 0x50 then sampleoffWrite v s
  else if off = 0x64 then ptctlWrite v s
  else if off = 0x68 ∨ off = 0x6C then ptstepWrite 0 false s
  else if off = 0x70 then ptrateWrite v s
  else if off = 0x74 then s.setReg 0 pTIM 0 0x074 (bits v 0 12 + bits v 16 12 * 2 ^ 16)
  else s

/-- The queue and list registers of ADM or DBL (R215, R291-R298). -/
def dblWrite (f off v : Nat) (s : State) : State :=
  if 0x40 ≤ off ∧ off < 0x60 then doorbell f (sqTail f ((off - 0x40) / 4) (v % 2 ^ 16) s)
  else if 0x60 ≤ off ∧ off < 0x80 then doorbell f (ringHead f 1 ((off - 0x60) / 4) (v % 2 ^ 16) s)
  else if off = 0x80 ∨ off = 0x84 then doorbell f (ringHead f 2 ((off - 0x80) / 4) (v % 2 ^ 16) s)
  else if off = 0x24C then s.modFn f (fun x => { x with eqmap := bits v 3 11 * 8 })
  else if off = 0x800 then doorbell f (dblSched f v s)
  else if off = 0x804 then
    let g := min (v % 128) (s.portCount - 1)
    (clampLog (qPage f) f 0x804 0 (v % 128) g s).setReg 0 (qPage f) f 0x804 g
  else match ringAt f off with
    | some (k, q, 0) => ringBase f k q (setBits (s.ring f k q).base.toNat 0 32 v) s
    | some (k, q, 1) => ringBase f k q (setBits (s.ring f k q).base.toNat 32 32 v) s
    | some (k, q, 2) => ringCfg f k q v s
    | _ => s

/-- TSK (R418). -/
def tskWrite (t off v : Nat) (s : State) : State :=
  if off = 0x40 then (clampLog pTSK t 0x040 0 (v % 16) (min 11 (v % 16)) s).setReg 0 pTSK t 0x040 (min 11 (v % 16))
  else if off = 0x48 then s.setReg 0 pTSK t 0x048 (v % 16)
  else s

/-- PMT (R472); MHIGH is checked against the stored MLOW (R527). -/
def pmtWrite (t off v : Nat) (s : State) : State :=
  if off = 0x40 then pmtCtlWrite t v s
  else if off = 0x48 then
    let i := max 1 (v % 2 ^ 16)
    (clampLog pPMT t 0x048 0 (v % 2 ^ 16) i s).setSreg 0x10400 pPMT t 0x048 (i + b2n (bit v 16) * 2 ^ 16)
  else if off = 0x4C then
    let l := max 10 (min 200 (bits v 0 8))
    let h := max (l + 10) (bits v 8 8)
    (clampLog pPMT t 0x04C 8 (bits v 8 8) h (clampLog pPMT t 0x04C 0 (bits v 0 8) l s)).setReg 0x5028 pPMT t 0x04C (l + h * 256)
  else s

/-- PIM (R262, R263). -/
def pimWrite (t off v : Nat) (s : State) : State :=
  if off = 0x40 then s.setReg 2 pPIM t 0x040 (v % 4)
  else if off = 0x44 then s.setSreg 0xFFFFFFFF pPIM t 0x044 v
  else s

/-- BRG (R343). -/
def brgWrite (t off v : Nat) (s : State) : State :=
  if off = 0x40 then s.setReg 0 pBRG t 0x040 (v % 2 ^ 16)
  else if off = 0x44 then
    let a := min (v / 4 * 4) 0xFEFFFFFC
    (clampLog pBRG t 0x044 2 (v / 4 * 4) a s).setReg 0 pBRG t 0x044 a
  else if off = 0x48 then s.setReg 0 pBRG t 0x048 v
  else if off = 0x4C then mctlWrite t v s
  else s

/-- TPT (R138, R139, R177, R178). -/
def tptWrite (g off v : Nat) (s : State) : State :=
  if off = 0x40 then linkcfgWrite g v s
  else if off = 0x50 ∨ off = 0x90 then s.setReg 0 pTPT g off (v % 2 ^ 12)
  else if off = 0x80 then
    let a := min 2 (v % 4)
    let m := max 1 (bits v 8 8)
    let h := max 1 (bits v 16 8)
    let s1 := clampLog pTPT g 0x080 16 (bits v 16 8) h (clampLog pTPT g 0x080 8 (bits v 8 8) m (clampLog pTPT g 0x080 0 (v % 4) a s))
    let s2 := s1.setSreg 0x01100804 pTPT g 0x080
      (a + b2n (bit v 2) * 4 + b2n (s.port g).quarPort * 8 + m * 2 ^ 8 + h * 2 ^ 16 + bits v 24 2 * 2 ^ 24)
    if bit v 3 then s2 else quarportClear g s2
  else if off = 0x84 then
    let w := max 1 (bits v 0 8)
    let a := max 1 (bits v 8 8)
    (clampLog pTPT g 0x084 8 (bits v 8 8) a (clampLog pTPT g 0x084 0 (bits v 0 8) w s)).setSreg 0x00002040 pTPT g 0x084 (w + a * 256)
  else s

/-- ATZ (R219). -/
def atzWrite (g off v : Nat) (s : State) : State :=
  if off = 0x40 then
    let a := max 1 (bits v 4 8)
    let m := max 1 (bits v 16 8)
    (clampLog pATZ g 0x040 16 (bits v 16 8) m (clampLog pATZ g 0x040 4 (bits v 4 8) a s)).setReg 0x100042 pATZ g 0x040
      (bits v 0 2 + a * 16 + m * 2 ^ 16)
  else if off = 0x4C then
    (clampLog pATZ g 0x04C 0 (v % 2 ^ 12) (min 4091 (v % 2 ^ 12)) s).setReg 0 pATZ g 0x04C (min 4091 (v % 2 ^ 12))
  else s

/-- TNH (R264, R512). -/
def tnhWrite (f off v : Nat) (s : State) : State :=
  if off = 0x90 then imgHold f (bit v 0) s
  else if off = 0x94 then s.modImage f (fun m => { m with outsel := v % 2 })
  else if off = 0x120 then motionWrite f v s
  else s

/-- A vector of FIB_VECMAP clamped under R435. -/
def vecClamp (n v : Nat) : Nat := if v < n then v else n - 1

/-- FIB_VECMAP `w`: eight vectors, each clamped (R435, R440). -/
def vecmapWrite (f w v : Nat) (s : State) : State :=
  let n := s.vectors f
  let stored := sumTo 8 (fun k => vecClamp n (bits v (4 * k) 4) * 2 ^ (4 * k))
  let s1 := (List.range 8).foldl (fun s k =>
    clampLog pFIB f (0x060 + 4 * w) (4 * k) (bits v (4 * k) 4) (vecClamp n (bits v (4 * k) 4)) s) s
  (s1.modFn f (fun x => { x with vecmap := nput 0 x.vecmap w stored })).joinEntry f true

/-- FIB (R428, R440). -/
def fibWrite (f off v : Nat) (s : State) : State :=
  if off = 0x50 ∨ off = 0x54 then setErr pFIB f 30 s
  else if 0x60 ≤ off ∧ off < 0x80 then vecmapWrite f ((off - 0x60) / 4) v s
  else s

/-- NIB_MISCVEC: a vector at or above the count clears its enable (R441). -/
def miscvecWrite (f v : Nat) (s : State) : State :=
  let n := s.vectors f
  let e := bit v 4 && decide (bits v 0 4 < n)
  let wv := if f = 0 then bits v 8 4 else 0
  let we := f == 0 && bit v 12 && decide (bits v 8 4 < n)
  let s1 := clampLog pNIB f 0x050 0 (b2n (bit v 4)) (b2n e) s
  let s2 := if f = 0 then clampLog pNIB f 0x050 8 (b2n (bit v 12)) (b2n we) s1 else s1
  (s2.setReg 0 pNIB f 0x050 (bits v 0 4 + b2n e * 16 + wv * 2 ^ 8 + b2n we * 2 ^ 12)).joinEntry f false

/-- NIB (R428, R441). -/
def nibWrite (f off v : Nat) (s : State) : State :=
  if off = 0x48 then ackWrite f false (BitVec.ofNat 64 v) s else if off = 0x50 then miscvecWrite f v s else s

/-- BWV (R322, R323, R336). -/
def bwvWrite (f off v : Nat) (s : State) : State :=
  if off = 0x40 then winbaseWrite f v s
  else if off = 0x48 then
    let h := max 1 (min 5000 (bits v 0 13))
    (clampLog pBWV f 0x048 0 (bits v 0 13) h s).setReg 0xC8 pBWV f 0x048 h
  else if off = 0x4C then
    let k := max 4 (min 16 (bits v 0 5))
    (clampLog pBWV f 0x04C 0 (bits v 0 5) k s).setReg 0x0A pBWV f 0x04C k
  else if off = 0x50 then
    if bits v 16 2 = 1 then lockRenew f (v % 2 ^ 16) s
    else if bits v 16 2 = 2 then lockRelease f (v % 2 ^ 16) s
    else setErr pBWV f 0 s
  else if off = 0x5C then wfclr f v s
  else s

/-- A register of view `v` (R348-R351). -/
def viewWrite (f v off w : Nat) (s : State) : State :=
  let host := match s.viewChan f v with | some k => (s.chan k).nxt.host | none => 0
  if off = 0x00 then nxtWrite f v 0x00 (setBits host 0 32 w) s
  else if off = 0x04 then nxtWrite f v 0x00 (setBits host 32 32 w) s
  else if off = 0x14 then (if bit w 31 then nxtArm f v w s else nxtWrite f v 0x14 w s)
  else if off = 0x08 ∨ off = 0x0C ∨ off = 0x10 ∨ off = 0x18 then nxtWrite f v off w s
  else if off = 0x1C then
    let s1 := if bit w 0 then bulkStop f v s else s
    if bit w 1 then bulkCancel f v s1 else s1
  else s

/-- BMC (R346, R347). -/
def bmcWrite (f off v : Nat) (s : State) : State :=
  if off = 0x44 then
    let l := min 5000 (bits v 0 13)
    let k := max 4 (min 16 (bits v 16 5))
    (clampLog pBMC f 0x044 16 (bits v 16 5) k (clampLog pBMC f 0x044 0 (bits v 0 13) l s)).setReg 0x00080064 pBMC f 0x044
      (l + k * 2 ^ 16)
  else if off = 0x48 then doorbell f (bcqHead f (v % 2 ^ 16) s)
  else if off = 0x50 then ringBase f 3 0 (setBits (s.ring f 3 0).base.toNat 0 32 v) s
  else if off = 0x54 then ringBase f 3 0 (setBits (s.ring f 3 0).base.toNat 32 32 v) s
  else if off = 0x58 then ringCfg f 3 0 v s
  else if 0x100 ≤ off ∧ off < 0x900 then viewWrite f ((off - 0x100) / 0x80) (off % 0x80) v s
  else s

/-! ## Any write -/

/-- A whole 32-bit write to a word of a page. -/
def pageWrite (ty inst off v : Nat) (s : State) : State :=
  if off = 0x00C then ctlWrite ty inst v s
  else if off = 0x014 then errWrite ty inst v s
  else if off = 0x018 then errmaskWrite ty inst v s
  else if !named ty off then s
  else if ty = pTIM then timWrite off v s
  else if ty = pPWR then pwrWrite off v s
  else if ty = pFWU then fwuWrite off v s
  else if ty = pADM ∨ ty = pDBL then dblWrite inst off v s
  else if ty = pTPL then tplWrite off v s
  else if ty = pMGT then mgtWrite off v s
  else if ty = pTSK then tskWrite inst off v s
  else if ty = pPMT then pmtWrite inst off v s
  else if ty = pPIM then pimWrite inst off v s
  else if ty = pBRG then brgWrite inst off v s
  else if ty = pBMV ∧ off = 0x40 then s.setReg 0 pBMV inst 0x040 (v % 32)
  else if ty = pTPT then tptWrite inst off v s
  else if ty = pSEQ ∧ off = 0x44 then s.setReg 0 pSEQ inst 0x044 (v % 2)
  else if ty = pATZ then atzWrite inst off v s
  else if ty = pPLN ∧ off = 0x40 then s.setReg 0 pPLN inst 0x040 (v % 32)
  else if ty = pTNH then tnhWrite inst off v s
  else if ty = pFIB then fibWrite inst off v s
  else if ty = pNIB then nibWrite inst off v s
  else if ty = pBWV then bwvWrite inst off v s
  else if ty = pBMC then bmcWrite inst off v s
  else s

/-- A whole 32-bit write at address `a` of the BAR0 of `f`. -/
def writeWord (f a v : Nat) (s : State) : State :=
  match place f a with
  | .page ty inst off => pageWrite ty inst off v s
  | .msix off => msixTableWrite f (off / 16) (off % 16) 4 (BitVec.ofNat 64 v) s
  | _ => s

/-- A whole 64-bit write: PTSTEP, FIB_ACK and an MSI-X address at once, otherwise two words, the lower first (R544). -/
def writeLong (f a v : Nat) (s : State) : State :=
  match place f a with
  | .page ty inst off =>
    if ty = pTIM ∧ off = 0x68 then ptstepWrite v true s
    else if ty = pFIB ∧ off = 0x50 then ackWrite inst true (BitVec.ofNat 64 v) s
    else writeWord f (a + 4) (v / 2 ^ 32) (writeWord f a (v % 2 ^ 32) s)
  | .msix off => msixTableWrite f (off / 16) (off % 16) 8 (BitVec.ofNat 64 v) s
  | _ => s

/-- A write that is discarded for its byte enables, size or alignment sets PARTWR where it names a register (R16,
R545, R546). -/
def partWrite (f a : Nat) (s : State) : State :=
  match place f a with
  | .page ty inst off => if named ty off then setErr ty inst 30 s else s
  | _ => s

/-- A write that reaches the registers. -/
def barWrite (f bar a size v : Nat) (part : Bool) (s : State) : State :=
  let s1 := dropSnap f bar s
  if s.answers f ≠ 2 || !s.placeOpen f bar a || s.deadTile (accTile f bar a) then s1
  else if bar = 2 then
    if aligned a size then pimWindowWrite a size v part s1 else setErr pPIM (a / 0x800000) 30 s1
  else
    let s2 := endsDoze f a s1
    if part || !aligned a size then partWrite f a s2
    else if size = 8 then writeLong f a v s2
    else writeWord f a (v % 2 ^ 32) s2

/-! ## Accesses as they arrive (R459, R545, R562) -/

/-- The device has the BAR: BAR0 of every function and BAR2 of the manager; a tenant's BAR2 is the bridge window. -/
def hasBar (f bar : Nat) : Bool := f ≤ 512 && (bar == 0 || (bar == 2 && f == 0))

/-- An access of manager BAR0 to the TIL page of a resetting tile is served or discarded at once (R562 case 3). -/
def tilAtOnce (bar a : Nat) (s : State) : Bool :=
  bar == 0 && (match place 0 a with
    | .page ty t _ => ty == pTIL && (s.tl t).resetAt.isSome && !s.asleep t
    | _ => false)

/-- A write of RESET to TPT_CTL of a port whose tile is in a reset: it is absorbed (R533 case 3). -/
def resetAbsorbed (bar a size v : Nat) (part : Bool) (s : State) : Bool :=
  bar == 0 && !part && aligned a size && (match place 0 a with
    | .page ty g off => ty == pTPT && (s.tl (g / 16)).resetAt.isSome && !s.asleep (g / 16) &&
        ((off == 0x00C && bit v 2) || (off == 0x008 && size == 8 && bit v 34))
    | _ => false)

/-- The tile that an access has to wait for. -/
def State.waitsFor (s : State) (f bar a : Nat) : Option Nat :=
  match accTile f bar a with
  | some t => if s.accWaits t && !tilAtOnce bar a s then some t else none
  | none => none

/-- The snapshot that a 32-bit read at `a` through the BAR would return (R15). -/
def State.snapAt (s : State) (f bar a size : Nat) : Option Snapshot :=
  if size = 4 then (if bar = 2 then (s.fn f).snap2 else (s.fn f).snap0).filter (fun x => x.1 == a) else none

/-- A read arrives: refused, held for a tile with the snapshot it is to return, or served. -/
def busRead (f bar a size : Nat) (s : State) : State :=
  if !hasBar f bar then s
  else if s.answers f = 0 || !aligned a size then out (.readUR f bar a) (dropSnap f bar s)
  else match s.waitsFor f bar a with
    | some t => holdAcc t { bar, off := a, size, write := false, value := 0, part := false, snap := s.snapAt f bar a size }
        (dropSnap f bar s)
    | none => barRead f bar a size s

/-- A write arrives: discarded, held for a tile, or made. -/
def busWrite (f bar a size v : Nat) (part : Bool) (s : State) : State :=
  if !hasBar f bar then s
  else if s.answers f = 0 then dropSnap f bar s
  else match s.waitsFor f bar a with
    | some t =>
      if resetAbsorbed bar a size v part s then dropSnap f bar s
      else holdAcc t { bar, off := a, size, write := true, value := v, part } (dropSnap f bar s)
    | none =>
      if tilAtOnce bar a s && !(a % 0x1000 == 0x00C && bit v 2) then dropSnap f bar s
      else barWrite f bar a size v part s

/-- A snapshot put back where an access of the manager finds it. -/
def putSnap (bar : Nat) (x : Option Snapshot) (s : State) : State :=
  if x.isNone then s
  else s.modFn 0 (fun y => if bar = 2 then { y with snap2 := x } else { y with snap0 := x })

/-- A held access is made; a read of a high word finds the snapshot that stood when it arrived (R15). -/
def heldAccess (s : State) (a : HeldAcc) : State :=
  let s1 := putSnap a.bar a.snap s
  if a.write then busWrite 0 a.bar a.off a.size a.value a.part s1 else busRead 0 a.bar a.off a.size s1

/-- The accesses held for a tile are made, in the order of their arrival (R40, R461 step 6, R562). A snapshot that a
later access has taken meanwhile stands after them (R15). -/
def replayHeld (t : Nat) (s : State) : State :=
  let x := s.fn 0
  let s0 := (s.modPwr t (fun p => { p with held := [] })).modFn 0 (fun y => { y with snap0 := none, snap2 := none })
  putSnap 2 x.snap2 (putSnap 0 x.snap0 ((s.tl t).pwr.held.foldl heldAccess s0))

/-! ## Commands: reads -/

/-- RC_COUNTER_READ (R18). -/
def execRcCounterRead (f a size : Nat) (s : State) : Res :=
  .next (match place f a with
    | .page ty _ off =>
      if (rcBases ty).contains off || (size == 8 && (rcBases ty).contains (off + 4)) then busRead f 0 a size s else s
    | _ => s)

/-- SPLIT_READ_SNAPSHOT: any read of BAR0, or of a record through manager BAR2; a 32-bit read of a low word takes the
snapshot, the next 32-bit read of its high word returns it, every other access discards it (R15). -/
def execSplitReadSnapshot (f bar a size : Nat) (s : State) : Res := .next (busRead f bar a size s)

/-- PTTICK_READ (R81); `size` is 4 or 8. -/
def execPttickRead (size : Nat) (s : State) : Res := .next (busRead 0 0 0x1078 size s)

/-- TNH_PTTICK_READ (R82). -/
def execTnhPttickRead (f size : Nat) (s : State) : Res := .next (if f = 0 then s else busRead f 0 0x0048 size s)

/-- TSK_ATZ_PAGE_ACCESS: a manager access to a TSK or ATZ page (R454). -/
def execTskAtzPageAccess (a size : Nat) (write : Bool) (v : W64) (s : State) : Res :=
  .next (match place 0 a with
    | .page ty _ _ =>
      if ty = pTSK ∨ ty = pATZ then (if write then busWrite 0 0 a size v.toNat false s else busRead 0 0 a size s) else s
    | _ => s)

/-- MANAGER_ACCESS_SLEEPING_TILE: the access waits and is a wake source (R459). -/
def execManagerAccessSleepingTile (bar a size : Nat) (write : Bool) (v : W64) (part : Bool) (s : State) : Res :=
  .next (match accTile 0 bar a with
    | some t =>
      if s.asleep t then (if write then busWrite 0 bar a size v.toNat part s else busRead 0 bar a size s) else s
    | none => s)

/-! ## Commands: writes -/

/-- Address of a page's word in the BAR0 of the function that has the page. -/
def pageFn (ty inst : Nat) : Nat := if ty < 0x30 then 0 else inst
def pageAddr (ty inst off : Nat) : Nat :=
  if ty ≥ 0x30 ∧ inst ≠ 0 then (ty - 0x30) * 0x1000 + off else pageBase ty inst + off

/-- A page of the map: its type is one of R538 and the function, tile or port has it. -/
def State.mapped (s : State) (ty inst : Nat) : Bool :=
  s.hasPage ty inst && (match place (pageFn ty inst) (pageAddr ty inst 0) with
    | .page ty' inst' _ => ty' == ty && inst' == inst
    | _ => false)

/-- A 32-bit write to a word of a page. -/
def pageBusWrite (ty inst off v : Nat) (s : State) : State :=
  if s.mapped ty inst then busWrite (pageFn ty inst) 0 (pageAddr ty inst off) 4 v false s else s

/-- ERRMASK_WRITE (R436). -/
def execErrmaskWrite (ty inst : Nat) (v : W32) (s : State) : Res := .next (pageBusWrite ty inst 0x018 v.toNat s)

/-- CTL_ENABLE_WRITE: CTL written with ENABLE `en` and QUIESCE as it stands (R541). -/
def execCtlEnableWrite (ty inst : Nat) (en : Bool) (s : State) : Res :=
  .next (pageBusWrite ty inst 0x00C (b2n en + 2 * bits (s.reg 1 ty inst 0x00C) 1 1) s)

/-- CTL_QUIESCE_WRITE: CTL written with QUIESCE `q` and ENABLE as it stands (R541). -/
def execCtlQuiesceWrite (ty inst : Nat) (q : Bool) (s : State) : Res :=
  .next (pageBusWrite ty inst 0x00C (2 * b2n q + bits (s.reg 1 ty inst 0x00C) 0 1) s)

/-- REGISTER_WRITE: any write to a BAR0, or to records through manager BAR2; the registers with a row of their own act
as that row does. -/
def execRegisterWrite (f bar a size : Nat) (v : W64) (part : Bool) (s : State) : Res :=
  .next (busWrite f bar a size v.toNat part s)

/-- MALFORMED_REGISTER_ACCESS (R545). -/
def execMalformedRegisterAccess (f bar a size : Nat) (write : Bool) (s : State) : Res :=
  .next (if aligned a size then s else if write then busWrite f bar a size 0 false s else busRead f bar a size s)

/-- A configuration write: 0 Bus Master Enable, 1 power state, 2 VF MSE, 3 NumVFs, 4 ARI Capable Hierarchy (R367, R368,
R381, R467, R548). -/
def configWrite (f what v : Nat) (s : State) : State :=
  if !s.reach f then s
  else match what with
    | 0 => ((s.modFn f (fun x => { x with bme := bit v 0 })).joinEntry f true).joinEntry f false
    | 1 => if v = 0 ∨ v = 3 then s.modFn f (fun x => { x with dstate := v }) else s
    | 2 => if f = 0 then { s with vfMse := bit v 0 } else s
    | 3 => if f = 0 ∧ !s.vfEnable then { s with numVfs := min v 512 } else s
    | 4 => if f = 0 then { s with ari := bit v 0 } else s
    | _ => s

def execConfigSpaceWrite (f what v : Nat) (s : State) : Res := .next (configWrite f what v s)

end Sys2Proof.Machine
end

