-- ==== Sys2Proof/Machine/Ready.lean ====
section
/-!
DEFINITION. Ready: a waking tile or a reset tile reaches READY (spec/14_power_performance.md, R461;
spec/16_reset_init_reconfiguration.md, R518).
-/
namespace Sys2Proof.Machine

/-! ## TILE_READY (R47, R83, R258, R437, R455, R461) -/

/-- Mesh links of the tile that trained, toward tiles whose endpoint is powered (R35, R461 step 4). -/
def trainedMesh (t links : Nat) (s : State) : Nat :=
  (List.range 56).foldl (fun w b =>
    if bit links b && (match s.meshEnds b with
      | some x => (x.1 == t && s.meshOn x.2.1) || (x.2.1 == t && s.meshOn x.1)
      | none => false) then setBit w b else w) s.mesh.toNat

/-- The function owns or may read a point of the tile's lost banks (R258). -/
def State.losesBanks (s : State) (t lost f : Nat) : Bool :=
  s.allocatedPoints.any (fun p => ptTile p == t && bit lost (ptLocal p / 32768) && s.mayRead f p)

/-- The lost banks are reported, and published in full next (R250, R258). -/
def reportLoss (t lost : Nat) (s : State) : State :=
  let banks := (List.range 32).filter (bit lost)
  s.fnList.foldl (fun s f =>
    let s1 := if (s.fn f).image.desc.isSome then
        s.modImage f (fun m => { m with lostFull := m.lostFull ++ banks.map (fun k => t * 32 + k) })
      else s
    if s.losesBanks t lost f then emit f (mkEvent 4 2 [(16, 1, t), (20, 4, lost)]) s1 else s1) s

/-- The tile that woke has the image the boot record names: a switch in progress passes it by (R508 case 8). -/
def wokeSwitched (t : Nat) (s : State) : State :=
  match s.fw.switch with
  | none => s
  | some w =>
    if w.tile = t then nextSwitch s
    else s.modFw (fun x => { x with switch := some { w with todo := w.todo.filter (· != t) } })

/-- Handles of POWER_SET OP 2 that waited for RUN complete; an OP 1 accepted meanwhile starts its entry (R455). -/
def wakeDone (t : Nat) (s : State) : State :=
  let p := (s.tl t).pwr
  let s1 := p.wakeHandles.foldl (fun s q =>
    endHandle 0 q .committed 0 0 (((s.handle? 0 q).map (·.commitTick)).getD 0) s) (s.modPwr t (fun p => { p with wakeHandles := [] }))
  match p.dryHandle with
  | some q => startDrying t q s1
  | none => s1

/-- TILE_READY: step 6 of R461, `us` after the wake source, with the mesh links that trained. -/
def tileReady (t us links : Nat) (s : State) : State :=
  let p := (s.tl t).pwr
  let mesh := trainedMesh t links (s.modTile t (fun x => { x with pow := .run }))
  let s1 : State := { s with mesh := BitVec.ofNat 64 mesh }
  if !(s.hasTile t && s.attempting t && p.pgood && !p.xoWait && (t == 0 || s1.pathTo 0 t)) then s
  else
    let s2 := (s1.modTile t (fun x =>
      { x with pow := .run, ready := true, align := .notStarted, within := 0, outside := 0, offset := 0 })).modPwr t (fun p =>
        { p with duration := min us 65535, attempt := 0, pgood := false, lost := 0, idle := 0, change := none, lowRun := 0 })
    let s3 := setTileOk t 2 (loseCopies t (clearRules (fun k => ruleTile k == t) (countReg pPMT t 0x058 0 16 1 s2)))
    let s4 := tileState t 0 p.cause p.port us (if p.lost = 0 then s3 else reportLoss t p.lost s3)
    let s5 := if t ≠ 0 ∧ (p.cause = 1 ∨ p.cause = 2) then
        raiseNorm 0 13 (s4.setReg 0 pPWR 0 0x048 (p.cause + p.port * 8 + t * 2 ^ 12)) else s4
    let s6 := startLevel t (startHeld t (replayHeld t (wokeSwitched t (unlockDry t s5))))
    let s7 := wakeDone t s6
    if t = 0 then (List.range s.tiles).foldl (fun s u => lateWake u s) s7 else s7

def execTileReady (t us links : Nat) (s : State) : Res := .next (tileReady t us links s)

/-! ## TILE_RESET_READY (R518) -/

/-- The reset tile is READY, and the accesses that waited for it are made (R562 case 3). -/
def execTileResetReady (t us pause : Nat) (s : State) : Res :=
  .next (if (s.tl t).resetAt.isSome then replayHeld t (tileResetReady t us pause s) else s)

end Sys2Proof.Machine
end

