-- ==== Sys2Proof/Machine/Dispatch.lean ====
section
/-!
DEFINITION. Dispatch: one arm per row of the opcode table, each one call of that row's meaning.
-/
namespace Sys2Proof.Machine

def exec (i : Instr) (s : State) : Host.Outcome State Fault Refusal :=
  match i with
  | .tickBoundary => Sys2Proof.Machine.execTickBoundary s
  | .frameBoundary => Sys2Proof.Machine.execFrameBoundary s
  | .timecfgWrite v => Sys2Proof.Machine.execTimecfgWrite v s
  | .timecfgTakesEffect => Sys2Proof.Machine.execTimecfgTakesEffect s
  | .sampleoffWrite v => Sys2Proof.Machine.execSampleoffWrite v s
  | .ptctlWrite v => Sys2Proof.Machine.execPtctlWrite v s
  | .ptrateWrite v => Sys2Proof.Machine.execPtrateWrite v s
  | .ptstepWrite v whole => Sys2Proof.Machine.execPtstepWrite v whole s
  | .pttickRead size => Sys2Proof.Machine.execPttickRead size s
  | .tnhPttickRead f size => Sys2Proof.Machine.execTnhPttickRead f size s
  | .alignMeasurement t ps => Sys2Proof.Machine.execAlignMeasurement t ps s
  | .timeTokenLoss t => Sys2Proof.Machine.execTimeTokenLoss t s
  | .ptpSync domain source twoStep origin rx corr => Sys2Proof.Machine.execPtpSync domain source twoStep origin rx corr s
  | .ptpAnnounce domain source ds => Sys2Proof.Machine.execPtpAnnounce domain source ds s
  | .ptpDelayResponse domain source twoStep ts arrival => Sys2Proof.Machine.execPtpDelayResponse domain source twoStep ts arrival s
  | .announceReceiptTimeout => Sys2Proof.Machine.execAnnounceReceiptTimeout s
  | .meshTransferReceived b good => Sys2Proof.Machine.execMeshTransferReceived b good s
  | .meshLinkRetrain b trains => Sys2Proof.Machine.execMeshLinkRetrain b trains s
  | .remoteInputCopy t p => Sys2Proof.Machine.execRemoteInputCopy t p s
  | .signalDetect g => Sys2Proof.Machine.execSignalDetect g s
  | .trainBlockReceived g w h v good rtt => Sys2Proof.Machine.execTrainBlockReceived g w h v good rtt s
  | .trainStateTimeout g => Sys2Proof.Machine.execTrainStateTimeout g s
  | .blockLockAcquired g => Sys2Proof.Machine.execBlockLockAcquired g s
  | .blockLockLost g => Sys2Proof.Machine.execBlockLockLost g s
  | .eqLoopPeriod g h v => Sys2Proof.Machine.execEqLoopPeriod g h v s
  | .presetApply g key => Sys2Proof.Machine.execPresetApply g key s
  | .tptLinkcfgWrite g v => Sys2Proof.Machine.execTptLinkcfgWrite g v s
  | .trunkWakeDetect g => Sys2Proof.Machine.execTrunkWakeDetect g s
  | .periodicTransferReceived g slot mis blocks => Sys2Proof.Machine.execPeriodicTransferReceived g slot mis blocks s
  | .upstreamSlotRunEnd g what a b => Sys2Proof.Machine.execUpstreamSlotRunEnd g what a b s
  | .retryReceived g n xid mis blocks => Sys2Proof.Machine.execRetryReceived g n xid mis blocks s
  | .alertReceived g blk mis w => Sys2Proof.Machine.execAlertReceived g blk mis w s
  | .echoReceived g span mis b => Sys2Proof.Machine.execEchoReceived g span mis b s
  | .hubPoll g => Sys2Proof.Machine.execHubPoll g s
  | .pollAnswer g n mis blocks => Sys2Proof.Machine.execPollAnswer g n mis blocks s
  | .managementAnswer g m mis blocks => Sys2Proof.Machine.execManagementAnswer g m mis blocks s
  | .enumUpCheck g => Sys2Proof.Machine.execEnumUpCheck g s
  | .branchTrainTimeout g => Sys2Proof.Machine.execBranchTrainTimeout g s
  | .allowlistReadDone g n err d => Sys2Proof.Machine.execAllowlistReadDone g n err d s
  | .allowlistTimeout g n => Sys2Proof.Machine.execAllowlistTimeout g n s
  | .authstatPoll g n => Sys2Proof.Machine.execAuthstatPoll g n s
  | .challengeTimeout g n => Sys2Proof.Machine.execChallengeTimeout g n s
  | .signatureVerified g n => Sys2Proof.Machine.execSignatureVerified g n s
  | .leasepolicyReadDone g n err d => Sys2Proof.Machine.execLeasepolicyReadDone g n err d s
  | .leaseResolveTimeout g n => Sys2Proof.Machine.execLeaseResolveTimeout g n s
  | .quarportClear g => Sys2Proof.Machine.execQuarportClear g s
  | .listHeaderReadDone f g err d => Sys2Proof.Machine.execListHeaderReadDone f g err d s
  | .listFetchDone f g err seg idx heads bodies pmap gen2 => Sys2Proof.Machine.execListFetchDone f g err seg idx heads bodies pmap gen2 s
  | .dmaReadTimeout what a b seg idx => Sys2Proof.Machine.execDmaReadTimeout what a b seg idx s
  | .dblSchedWrite f v => Sys2Proof.Machine.execDblSchedWrite f v s
  | .compileStart g => Sys2Proof.Machine.execCompileStart g s
  | .compileDone g => Sys2Proof.Machine.execCompileDone g s
  | .accordReady g => Sys2Proof.Machine.execAccordReady g s
  | .swapTickFixed g => Sys2Proof.Machine.execSwapTickFixed g s
  | .accordSwap g => Sys2Proof.Machine.execAccordSwap g s
  | .shrinkDeadline f g => Sys2Proof.Machine.execShrinkDeadline f g s
  | .pimScrub p errs scrub => Sys2Proof.Machine.execPimScrub p errs scrub s
  | .publicationComplete f => Sys2Proof.Machine.execPublicationComplete f s
  | .imgHoldTake f => Sys2Proof.Machine.execImgHoldTake f s
  | .imgHoldRelease f => Sys2Proof.Machine.execImgHoldRelease f s
  | .outputImageReadStart f => Sys2Proof.Machine.execOutputImageReadStart f s
  | .outputImageReadDone f err data => Sys2Proof.Machine.execOutputImageReadDone f err data s
  | .pimWindowWrite off size v part => Sys2Proof.Machine.execPimWindowWrite off size v part s
  | .reflexWindow t => Sys2Proof.Machine.execReflexWindow t s
  | .sqTailDoorbell f q v => Sys2Proof.Machine.execSqTailDoorbell f q v s
  | .cqHeadDoorbell f q v => Sys2Proof.Machine.execCqHeadDoorbell f q v s
  | .eqHeadDoorbell f e v => Sys2Proof.Machine.execEqHeadDoorbell f e v s
  | .ringEnable f kind q v => Sys2Proof.Machine.execRingEnable f kind q v s
  | .ringDisable f kind q v => Sys2Proof.Machine.execRingDisable f kind q v s
  | .sqFetch f => Sys2Proof.Machine.execSqFetch f s
  | .heldCompletionRelease f q => Sys2Proof.Machine.execHeldCompletionRelease f q s
  | .waitingEventRelease f q => Sys2Proof.Machine.execWaitingEventRelease f q s
  | .handleCompletion f seq => Sys2Proof.Machine.execHandleCompletion f seq s
  | .nop f e => Sys2Proof.Machine.execNop f e s
  | .listAttach f e => Sys2Proof.Machine.execListAttach f e s
  | .listDetach f e => Sys2Proof.Machine.execListDetach f e s
  | .pointAlloc f e => Sys2Proof.Machine.execPointAlloc f e s
  | .pointFree f e => Sys2Proof.Machine.execPointFree f e s
  | .pointConfig f e => Sys2Proof.Machine.execPointConfig f e s
  | .pointShare f e => Sys2Proof.Machine.execPointShare f e s
  | .imageSet f e => Sys2Proof.Machine.execImageSet f e s
  | .ruleSet f e => Sys2Proof.Machine.execRuleSet f e s
  | .alertBind f e => Sys2Proof.Machine.execAlertBind f e s
  | .allowlistSet f e => Sys2Proof.Machine.execAllowlistSet f e s
  | .nodePromote f e => Sys2Proof.Machine.execNodePromote f e s
  | .abort f e => Sys2Proof.Machine.execAbort f e s
  | .leasepolicySet f e => Sys2Proof.Machine.execLeasepolicySet f e s
  | .leaseSet f e => Sys2Proof.Machine.execLeaseSet f e s
  | .nodeAdmit f e => Sys2Proof.Machine.execNodeAdmit f e s
  | .nodeUnbind f e => Sys2Proof.Machine.execNodeUnbind f e s
  | .nodeRelease f e => Sys2Proof.Machine.execNodeRelease f e s
  | .tenantCreate f e => Sys2Proof.Machine.execTenantCreate f e s
  | .tenantShare f e => Sys2Proof.Machine.execTenantShare f e s
  | .tenantFreeze f e => Sys2Proof.Machine.execTenantFreeze f e s
  | .tenantThaw f e => Sys2Proof.Machine.execTenantThaw f e s
  | .tenantSave f e => Sys2Proof.Machine.execTenantSave f e s
  | .tenantRestore f e => Sys2Proof.Machine.execTenantRestore f e s
  | .tenantDestroy f e => Sys2Proof.Machine.execTenantDestroy f e s
  | .fwSession f e => Sys2Proof.Machine.execFwSession f e s
  | .fwChunk f e => Sys2Proof.Machine.execFwChunk f e s
  | .fwVerify f e => Sys2Proof.Machine.execFwVerify f e s
  | .fwActivate f e motion holdup vin => Sys2Proof.Machine.execFwActivate f e motion holdup vin s
  | .fwConfirm f e => Sys2Proof.Machine.execFwConfirm f e s
  | .settingsSave f e => Sys2Proof.Machine.execSettingsSave f e s
  | .powerSet f e => Sys2Proof.Machine.execPowerSet f e s
  | .commandStructureReadDone f long id err data => Sys2Proof.Machine.execCommandStructureReadDone f long id err data s
  | .bridgeLoad f off size => Sys2Proof.Machine.execBridgeLoad f off size s
  | .bridgeStore f off size v part => Sys2Proof.Machine.execBridgeStore f off size v part s
  | .bwvWinbaseWrite f v => Sys2Proof.Machine.execBwvWinbaseWrite f v s
  | .bwvLockAcquire f => Sys2Proof.Machine.execBwvLockAcquire f s
  | .bwvLockRenew f tok => Sys2Proof.Machine.execBwvLockRenew f tok s
  | .bwvLockRelease f tok => Sys2Proof.Machine.execBwvLockRelease f tok s
  | .bwvWfclrWrite f v => Sys2Proof.Machine.execBwvWfclrWrite f v s
  | .bridgeReply g k mis blocks => Sys2Proof.Machine.execBridgeReply g k mis blocks s
  | .bridgeHoldLimit f tag => Sys2Proof.Machine.execBridgeHoldLimit f tag s
  | .bridgeAnswerLimit g k => Sys2Proof.Machine.execBridgeAnswerLimit g k s
  | .lockLeaseExpiry g n => Sys2Proof.Machine.execLockLeaseExpiry g n s
  | .attentionPoll g n => Sys2Proof.Machine.execAttentionPoll g n s
  | .attentionPollReply g n mis blocks => Sys2Proof.Machine.execAttentionPollReply g n mis blocks s
  | .brgMctlLoad t => Sys2Proof.Machine.execBrgMctlLoad t s
  | .brgMctlStore t => Sys2Proof.Machine.execBrgMctlStore t s
  | .nxtArm f v ctl => Sys2Proof.Machine.execNxtArm f v ctl s
  | .bulkStop f v => Sys2Proof.Machine.execBulkStop f v s
  | .bulkCancel f v => Sys2Proof.Machine.execBulkCancel f v s
  | .bulkBurstReply t c bseq mis blocks => Sys2Proof.Machine.execBulkBurstReply t c bseq mis blocks s
  | .bulkRequestAnswer t c bseq mis blocks => Sys2Proof.Machine.execBulkRequestAnswer t c bseq mis blocks s
  | .bulkProbeDue t c => Sys2Proof.Machine.execBulkProbeDue t c s
  | .bulkWaitLimit t c => Sys2Proof.Machine.execBulkWaitLimit t c s
  | .bulkHostReadDone t c err data => Sys2Proof.Machine.execBulkHostReadDone t c err data s
  | .bulkRecordRelease f => Sys2Proof.Machine.execBulkRecordRelease f s
  | .bcqHeadDoorbell f v => Sys2Proof.Machine.execBcqHeadDoorbell f v s
  | .vfEnableSet => Sys2Proof.Machine.execVfEnableSet s
  | .vfEnableClear => Sys2Proof.Machine.execVfEnableClear s
  | .flrInitiate f => Sys2Proof.Machine.execFlrInitiate f s
  | .tenantServicePoint t => Sys2Proof.Machine.execTenantServicePoint t s
  | .freezeDrainComplete t => Sys2Proof.Machine.execFreezeDrainComplete t s
  | .freezeTimeout t => Sys2Proof.Machine.execFreezeTimeout t s
  | .taskStepEnd t e wake dur wait => Sys2Proof.Machine.execTaskStepEnd t e wake dur wait s
  | .stepOverrun t e dur => Sys2Proof.Machine.execStepOverrun t e dur s
  | .engineFault t e us => Sys2Proof.Machine.execEngineFault t e us s
  | .interruptEntry f fast => Sys2Proof.Machine.execInterruptEntry f fast s
  | .interruptCommit f fast => Sys2Proof.Machine.execInterruptCommit f fast s
  | .fibAckWrite f v whole => Sys2Proof.Machine.execFibAckWrite f v whole s
  | .nibAckWrite f v => Sys2Proof.Machine.execNibAckWrite f v s
  | .msixTableWrite f k off size v => Sys2Proof.Machine.execMsixTableWrite f k off size v s
  | .msixControlWrite f en mask => Sys2Proof.Machine.execMsixControlWrite f en mask s
  | .errmaskWrite ty inst v => Sys2Proof.Machine.execErrmaskWrite ty inst v s
  | .levelWrite t v => Sys2Proof.Machine.execLevelWrite t v s
  | .levelStepDone t => Sys2Proof.Machine.execLevelStepDone t s
  | .avsLoopPeriod t m => Sys2Proof.Machine.execAvsLoopPeriod t m s
  | .trimStore t => Sys2Proof.Machine.execTrimStore t s
  | .busTransactionComplete t k ok => Sys2Proof.Machine.execBusTransactionComplete t k ok s
  | .busStuckTimeout t k => Sys2Proof.Machine.execBusStuckTimeout t k s
  | .dozeEntry t => Sys2Proof.Machine.execDozeEntry t s
  | .tskAtzPageAccess a size write v => Sys2Proof.Machine.execTskAtzPageAccess a size write v s
  | .managerAccessSleepingTile bar a size write v part => Sys2Proof.Machine.execManagerAccessSleepingTile bar a size write v part s
  | .drydownDrained t => Sys2Proof.Machine.execDrydownDrained t s
  | .drydownDrainTimeout t => Sys2Proof.Machine.execDrydownDrainTimeout t s
  | .wakeNLow => Sys2Proof.Machine.execWakeNLow s
  | .l12Exit => Sys2Proof.Machine.execL12Exit s
  | .wakePowerGood t => Sys2Proof.Machine.execWakePowerGood t s
  | .tileReady t us links => Sys2Proof.Machine.execTileReady t us links s
  | .wakeAttemptTimeout t item => Sys2Proof.Machine.execWakeAttemptTimeout t item s
  | .wakeRetry t => Sys2Proof.Machine.execWakeRetry t s
  | .pgoodLost t rail => Sys2Proof.Machine.execPgoodLost t rail s
  | .thermalTrip t => Sys2Proof.Machine.execThermalTrip t s
  | .standbyArm v => Sys2Proof.Machine.execStandbyArm v s
  | .standbyDisarm v => Sys2Proof.Machine.execStandbyDisarm v s
  | .standbyStopDone calib => Sys2Proof.Machine.execStandbyStopDone calib s
  | .l12Entry => Sys2Proof.Machine.execL12Entry s
  | .standbyWaitTimeout => Sys2Proof.Machine.execStandbyWaitTimeout s
  | .standbyWake count => Sys2Proof.Machine.execStandbyWake count s
  | .fwUdpSegment src d => Sys2Proof.Machine.execFwUdpSegment src d s
  | .fwUdpQuery src d => Sys2Proof.Machine.execFwUdpQuery src d s
  | .assemblyBufferTimeout c => Sys2Proof.Machine.execAssemblyBufferTimeout c s
  | .chunkProgrammed ok => Sys2Proof.Machine.execChunkProgrammed ok s
  | .verifyDone => Sys2Proof.Machine.execVerifyDone s
  | .activationStaged motion holdup vin => Sys2Proof.Machine.execActivationStaged motion holdup vin s
  | .tileSwitchDone t pause => Sys2Proof.Machine.execTileSwitchDone t pause s
  | .tileSwitchTimeout t => Sys2Proof.Machine.execTileSwitchTimeout t s
  | .trialQuarterHour => Sys2Proof.Machine.execTrialQuarterHour s
  | .rollbackHoldupCheck holdup vin => Sys2Proof.Machine.execRollbackHoldupCheck holdup vin s
  | .settingsCopyWritten => Sys2Proof.Machine.execSettingsCopyWritten s
  | .nodeTableJournalWrite whole => Sys2Proof.Machine.execNodeTableJournalWrite whole s
  | .tnhMotionWrite f v => Sys2Proof.Machine.execTnhMotionWrite f v s
  | .rngHealthTest good => Sys2Proof.Machine.execRngHealthTest good s
  | .powerOn => Sys2Proof.Machine.execPowerOn s
  | .supplyDrop => Sys2Proof.Machine.execSupplyDrop s
  | .perstAssert => Sys2Proof.Machine.execPerstAssert s
  | .perstRelease straps flash => Sys2Proof.Machine.execPerstRelease straps flash s
  | .hotReset straps flash => Sys2Proof.Machine.execHotReset straps flash s
  | .dlDown straps flash => Sys2Proof.Machine.execDlDown straps flash s
  | .packageReady ms links => Sys2Proof.Machine.execPackageReady ms links s
  | .glbCtlReset straps flash => Sys2Proof.Machine.execGlbCtlReset straps flash s
  | .tileReset t => Sys2Proof.Machine.execTileReset t s
  | .tileResetReady t us pause => Sys2Proof.Machine.execTileResetReady t us pause s
  | .portReset g => Sys2Proof.Machine.execPortReset g s
  | .blockReset ty inst => Sys2Proof.Machine.execBlockReset ty inst s
  | .ctlEnableWrite ty inst en => Sys2Proof.Machine.execCtlEnableWrite ty inst en s
  | .ctlQuiesceWrite ty inst q => Sys2Proof.Machine.execCtlQuiesceWrite ty inst q s
  | .mgtLinkStatus up speed duplex => Sys2Proof.Machine.execMgtLinkStatus up speed duplex s
  | .mgtArpRequest target src => Sys2Proof.Machine.execMgtArpRequest target src s
  | .mgtNeighborSolicitation target src => Sys2Proof.Machine.execMgtNeighborSolicitation target src s
  | .mgtEchoRequest v6 dst src data => Sys2Proof.Machine.execMgtEchoRequest v6 dst src data s
  | .mgtUnwantedFrame bad => Sys2Proof.Machine.execMgtUnwantedFrame bad s
  | .mgtNeighborExpiry v6 ip => Sys2Proof.Machine.execMgtNeighborExpiry v6 ip s
  | .mgtAddressWrite off size v => Sys2Proof.Machine.execMgtAddressWrite off size v s
  | .jtagExtest v => Sys2Proof.Machine.execJtagExtest v s
  | .jtagIdcode => Sys2Proof.Machine.execJtagIdcode s
  | .jtagSamplePreload v => Sys2Proof.Machine.execJtagSamplePreload v s
  | .jtagClamp => Sys2Proof.Machine.execJtagClamp s
  | .jtagHighz => Sys2Proof.Machine.execJtagHighz s
  | .jtagBypass code => Sys2Proof.Machine.execJtagBypass code s
  | .configSpaceWrite f what v => Sys2Proof.Machine.execConfigSpaceWrite f what v s
  | .registerWrite f bar a size v part => Sys2Proof.Machine.execRegisterWrite f bar a size v part s
  | .rcCounterRead f a size => Sys2Proof.Machine.execRcCounterRead f a size s
  | .splitReadSnapshot f bar a size => Sys2Proof.Machine.execSplitReadSnapshot f bar a size s
  | .malformedRegisterAccess f bar a size write => Sys2Proof.Machine.execMalformedRegisterAccess f bar a size write s
  | .sqEntryReadDone f q err d => Sys2Proof.Machine.execSqEntryReadDone f q err d s
  | .ptpFollowUp domain source peer ts => Sys2Proof.Machine.execPtpFollowUp domain source peer ts s
  | .ptpDelayRequestDue tx => Sys2Proof.Machine.execPtpDelayRequestDue tx s
  | .nextHopResolutionReply v6 ip mac => Sys2Proof.Machine.execNextHopResolutionReply v6 ip mac s
  | .hostLinkReachesL0 => Sys2Proof.Machine.execHostLinkReachesL0 s
  | .oscillatorReady => Sys2Proof.Machine.execOscillatorReady s
  | .engineReloadDone t e => Sys2Proof.Machine.execEngineReloadDone t e s
  | .settingsGenerationWaitEnd => Sys2Proof.Machine.execSettingsGenerationWaitEnd s
  | .wakeDetectorRearm g => Sys2Proof.Machine.execWakeDetectorRearm g s
  | .testLogicReset => Sys2Proof.Machine.execTestLogicReset s
  | .resetHoldEnd straps flash => Sys2Proof.Machine.execResetHoldEnd straps flash s

end Sys2Proof.Machine
end

