-- ==== Sys2Proof/WellFormed.lean ====
section
/-!
DEFINITION. WellFormed: the commands that the outside can form, by the range of each operand. The machine is total
and does not ask: a command that names what the part does not have changes nothing (log entry 2).
-/
namespace Sys2Proof

/-- Functions 0 to 512 (R3, R9). -/
def isFn (f : Nat) : Bool := decide (f ≤ 512)
/-- Tenants 1 to 512 (R9). -/
def isTenant (f : Nat) : Bool := decide (0 < f ∧ f ≤ 512)
/-- Tiles 0 to 7 (R6). -/
def isTile (t : Nat) : Bool := decide (t < 8)
/-- Global ports 0 to 127 (R6). -/
def isPort (g : Nat) : Bool := decide (g < 128)
/-- Nodes 0 to 4,095 of a port (R7). -/
def isNode (n : Nat) : Bool := decide (n < 4096)
/-- Point IDs are 23 bits wide (R8). -/
def isPoint (p : Nat) : Bool := decide (p < 2 ^ 23)
/-- SQ and CQ 0 to 7 of a tenant; the admin queue of the manager (R10, R290). -/
def isQueue (f q : Nat) : Bool := if f = 0 then q == 0 else decide (q < 8)
/-- Rings by kind: 0 SQ, 1 CQ, 2 EQ, 3 the BCQ of a tenant (R290, R347). -/
def isRing (f kind q : Nat) : Bool :=
  match kind with
  | 0 => isQueue f q
  | 1 => isQueue f q
  | 2 => decide (q < 2)
  | 3 => isTenant f && q == 0
  | _ => false
/-- Engines 0 to 11 of a tile (R401). -/
def isEngine (e : Nat) : Bool := decide (e < 12)
/-- Bulk channels 0 to 31 of a tile (R345). -/
def isChan (c : Nat) : Bool := decide (c < 32)
/-- Views 0 to 15 of a tenant (R346). -/
def isView (v : Nat) : Bool := decide (v < 16)
/-- Mesh links are bits 0 to 55 of GLB_MESHSTAT (R38). -/
def isMesh (b : Nat) : Bool := decide (b < 56)
/-- BAR0 and BAR2 (R3). -/
def isBar (b : Nat) : Bool := b == 0 || b == 2
/-- Register accesses of 4 or 8 bytes (R14). -/
def isSize (n : Nat) : Bool := n == 4 || n == 8
/-- Outcome of a device read: data, UR, CA, poisoned (R315). -/
def isErr (e : Nat) : Bool := decide (e < 4)
/-- A 48-bit MAC address. -/
def isMac (m : Nat) : Bool := decide (m < 2 ^ 48)
/-- Pages: type and instance (R538). -/
def isPage (ty inst : Nat) : Bool :=
  if decide (1 ≤ ty ∧ ty ≤ 0x0A) then inst == 0
  else if decide (0x10 ≤ ty ∧ ty ≤ 0x16) then isTile inst
  else if decide (0x20 ≤ ty ∧ ty ≤ 0x23) then isPort inst
  else decide (0x30 ≤ ty ∧ ty ≤ 0x35) && isTenant inst

/-- The operands of a command are in their ranges. -/
def wellFormed (i : Instr) : Bool :=
  match i with
  | .tickBoundary => true
  | .frameBoundary => true
  | .timecfgWrite _ => true
  | .timecfgTakesEffect => true
  | .sampleoffWrite _ => true
  | .ptctlWrite _ => true
  | .ptrateWrite _ => true
  | .ptstepWrite _ _ => true
  | .pttickRead size => isSize size
  | .tnhPttickRead f size => isTenant f && isSize size
  | .alignMeasurement t _ => isTile t
  | .timeTokenLoss t => isTile t
  | .ptpSync _ _ _ _ _ _ => true
  | .ptpAnnounce _ _ _ => true
  | .ptpDelayResponse _ _ _ _ _ => true
  | .announceReceiptTimeout => true
  | .meshTransferReceived b _ => isMesh b
  | .meshLinkRetrain b _ => isMesh b
  | .remoteInputCopy t p => isTile t && isPoint p
  | .signalDetect g => isPort g
  | .trainBlockReceived g _ _ _ _ _ => isPort g
  | .trainStateTimeout g => isPort g
  | .blockLockAcquired g => isPort g
  | .blockLockLost g => isPort g
  | .eqLoopPeriod g _ _ => isPort g
  | .presetApply g _ => isPort g
  | .tptLinkcfgWrite g _ => isPort g
  | .trunkWakeDetect g => isPort g
  | .periodicTransferReceived g _ _ _ => isPort g
  | .upstreamSlotRunEnd g what _ _ => isPort g && decide (what < 6)
  | .retryReceived g n _ _ _ => isPort g && isNode n
  | .alertReceived g _ _ _ => isPort g
  | .echoReceived g _ _ _ => isPort g
  | .hubPoll g => isPort g
  | .pollAnswer g n _ _ => isPort g && isNode n
  | .managementAnswer g m _ _ => isPort g && decide (0 < m ∧ m < 256)
  | .enumUpCheck g => isPort g
  | .branchTrainTimeout g => isPort g
  | .allowlistReadDone g n err _ => (isPort g || g == 128) && isNode n && isErr err
  | .allowlistTimeout g n => isPort g && isNode n
  | .authstatPoll g n => isPort g && isNode n
  | .challengeTimeout g n => isPort g && isNode n
  | .signatureVerified g n => isPort g && isNode n
  | .leasepolicyReadDone g n err _ => isPort g && isNode n && isErr err
  | .leaseResolveTimeout g n => isPort g && isNode n
  | .quarportClear g => isPort g
  | .listHeaderReadDone f g err _ => isFn f && isPort g && isErr err
  | .listFetchDone f g err _ _ _ _ _ _ => isFn f && isPort g && (isErr err || err == 8)
  | .dmaReadTimeout what _ _ _ _ => decide (what < 8)
  | .dblSchedWrite f _ => isFn f
  | .compileStart g => isPort g
  | .compileDone g => isPort g
  | .accordReady g => isPort g
  | .swapTickFixed g => isPort g
  | .accordSwap g => isPort g
  | .shrinkDeadline f g => isFn f && isPort g
  | .pimScrub p _ _ => isPoint p
  | .publicationComplete f => isFn f
  | .imgHoldTake f => isTenant f
  | .imgHoldRelease f => isTenant f
  | .outputImageReadStart f => isFn f
  | .outputImageReadDone f err _ => isFn f && isErr err
  | .pimWindowWrite off size _ _ => decide (off < 2 ^ 26) && isSize size
  | .reflexWindow t => isTile t
  | .sqTailDoorbell f q _ => isFn f && isQueue f q
  | .cqHeadDoorbell f q _ => isFn f && isQueue f q
  | .eqHeadDoorbell f e _ => isFn f && decide (e < 2)
  | .ringEnable f kind q v => isFn f && isRing f kind q && v.msb
  | .ringDisable f kind q v => isFn f && isRing f kind q && !v.msb
  | .sqFetch f => isFn f
  | .heldCompletionRelease f q => isFn f && isQueue f q
  | .waitingEventRelease f q => isFn f && decide (q < 2)
  | .handleCompletion f _ => isFn f
  | .nop f _ => isFn f
  | .listAttach f _ => isFn f
  | .listDetach f _ => isFn f
  | .pointAlloc f _ => isFn f
  | .pointFree f _ => isFn f
  | .pointConfig f _ => isFn f
  | .pointShare f _ => isFn f
  | .imageSet f _ => isFn f
  | .ruleSet f _ => isFn f
  | .alertBind f _ => isFn f
  | .allowlistSet f _ => isFn f
  | .nodePromote f _ => isFn f
  | .abort f _ => isFn f
  | .leasepolicySet f _ => isFn f
  | .leaseSet f _ => isFn f
  | .nodeAdmit f _ => isFn f
  | .nodeUnbind f _ => isFn f
  | .nodeRelease f _ => isFn f
  | .tenantCreate f _ => isFn f
  | .tenantShare f _ => isFn f
  | .tenantFreeze f _ => isFn f
  | .tenantThaw f _ => isFn f
  | .tenantSave f _ => isFn f
  | .tenantRestore f _ => isFn f
  | .tenantDestroy f _ => isFn f
  | .fwSession f _ => isFn f
  | .fwChunk f _ => isFn f
  | .fwVerify f _ => isFn f
  | .fwActivate f _ _ _ _ => isFn f
  | .fwConfirm f _ => isFn f
  | .settingsSave f _ => isFn f
  | .powerSet f _ => isFn f
  | .commandStructureReadDone f _ _ err _ => isFn f && isErr err
  | .bridgeLoad f off size => isTenant f && decide (off < 2 ^ 24) && isSize size
  | .bridgeStore f off size _ _ => isTenant f && decide (off < 2 ^ 24) && isSize size
  | .bwvWinbaseWrite f _ => isTenant f
  | .bwvLockAcquire f => isTenant f
  | .bwvLockRenew f _ => isTenant f
  | .bwvLockRelease f _ => isTenant f
  | .bwvWfclrWrite f _ => isTenant f
  | .bridgeReply g _ _ _ => isPort g
  | .bridgeHoldLimit f _ => isTenant f
  | .bridgeAnswerLimit g _ => isPort g
  | .lockLeaseExpiry g n => isPort g && isNode n
  | .attentionPoll g n => isPort g && isNode n
  | .attentionPollReply g n _ _ => isPort g && isNode n
  | .brgMctlLoad t => isTile t
  | .brgMctlStore t => isTile t
  | .nxtArm f v ctl => isTenant f && isView v && ctl.msb
  | .bulkStop f v => isTenant f && isView v
  | .bulkCancel f v => isTenant f && isView v
  | .bulkBurstReply t c bseq _ _ => isTile t && isChan c && decide (bseq < 8)
  | .bulkRequestAnswer t c bseq _ _ => isTile t && isChan c && decide (bseq < 8)
  | .bulkProbeDue t c => isTile t && isChan c
  | .bulkWaitLimit t c => isTile t && isChan c
  | .bulkHostReadDone t c err _ => isTile t && isChan c && isErr err
  | .bulkRecordRelease f => isTenant f
  | .bcqHeadDoorbell f _ => isTenant f
  | .vfEnableSet => true
  | .vfEnableClear => true
  | .flrInitiate f => isFn f
  | .tenantServicePoint t => isTile t
  | .freezeDrainComplete t => isTile t
  | .freezeTimeout t => isTile t
  | .taskStepEnd t e _ _ _ => isTile t && isEngine e
  | .stepOverrun t e dur => isTile t && isEngine e && decide (600 < dur)
  | .engineFault t e us => isTile t && isEngine e && decide (1000 ≤ us)
  | .interruptEntry f _ => isFn f
  | .interruptCommit f _ => isFn f
  | .fibAckWrite f _ _ => isFn f
  | .nibAckWrite f _ => isFn f
  | .msixTableWrite f k _ size _ => isFn f && decide (k < 16) && isSize size
  | .msixControlWrite f _ _ => isFn f
  | .errmaskWrite ty inst _ => isPage ty inst
  | .levelWrite t _ => isTile t
  | .levelStepDone t => isTile t
  | .avsLoopPeriod t _ => isTile t
  | .trimStore t => isTile t
  | .busTransactionComplete t _ _ => isTile t
  | .busStuckTimeout t _ => isTile t
  | .dozeEntry t => isTile t
  | .tskAtzPageAccess _ size _ _ => isSize size
  | .managerAccessSleepingTile bar _ size _ _ _ => isBar bar && isSize size
  | .drydownDrained t => isTile t
  | .drydownDrainTimeout t => isTile t
  | .wakeNLow => true
  | .l12Exit => true
  | .wakePowerGood t => isTile t
  | .tileReady t _ links => isTile t && decide (links < 2 ^ 56)
  | .wakeAttemptTimeout t _ => isTile t
  | .wakeRetry t => isTile t
  | .pgoodLost t rail => isTile t && decide (rail < 2)
  | .thermalTrip t => isTile t
  | .standbyArm v => v.getLsbD 0
  | .standbyDisarm v => !v.getLsbD 0
  | .standbyStopDone _ => true
  | .l12Entry => true
  | .standbyWaitTimeout => true
  | .standbyWake _ => true
  | .fwUdpSegment _ _ => true
  | .fwUdpQuery _ _ => true
  | .assemblyBufferTimeout _ => true
  | .chunkProgrammed _ => true
  | .verifyDone => true
  | .activationStaged _ _ _ => true
  | .tileSwitchDone t _ => isTile t
  | .tileSwitchTimeout t => isTile t
  | .trialQuarterHour => true
  | .rollbackHoldupCheck _ _ => true
  | .settingsCopyWritten => true
  | .nodeTableJournalWrite _ => true
  | .tnhMotionWrite f _ => isTenant f
  | .rngHealthTest _ => true
  | .powerOn => true
  | .supplyDrop => true
  | .perstAssert => true
  | .perstRelease _ _ => true
  | .hotReset _ _ => true
  | .dlDown _ _ => true
  | .packageReady _ links => decide (links < 2 ^ 56)
  | .glbCtlReset _ _ => true
  | .tileReset t => isTile t
  | .tileResetReady t _ _ => isTile t
  | .portReset g => isPort g
  | .blockReset ty inst => isPage ty inst
  | .ctlEnableWrite ty inst _ => isPage ty inst
  | .ctlQuiesceWrite ty inst _ => isPage ty inst
  | .mgtLinkStatus _ _ _ => true
  | .mgtArpRequest target src => decide (target < 2 ^ 32) && isMac src
  | .mgtNeighborSolicitation target src => decide (target < 2 ^ 128) && isMac src
  | .mgtEchoRequest _ _ src _ => isMac src
  | .mgtUnwantedFrame _ => true
  | .mgtNeighborExpiry _ _ => true
  | .mgtAddressWrite _ size _ => isSize size
  | .jtagExtest _ => true
  | .jtagIdcode => true
  | .jtagSamplePreload _ => true
  | .jtagClamp => true
  | .jtagHighz => true
  | .jtagBypass _ => true
  | .configSpaceWrite f what _ => isFn f && decide (what < 5)
  | .registerWrite f bar _ size _ _ => isFn f && isBar bar && isSize size
  | .rcCounterRead f _ size => isFn f && isSize size
  | .splitReadSnapshot f bar _ size => isFn f && isBar bar && isSize size
  | .malformedRegisterAccess f bar _ size _ => isFn f && isBar bar && decide (size ≤ 8)
  | .sqEntryReadDone f q err _ => isFn f && isQueue f q && isErr err
  | .ptpFollowUp _ _ _ _ => true
  | .ptpDelayRequestDue _ => true
  | .nextHopResolutionReply _ _ mac => isMac mac
  | .hostLinkReachesL0 => true
  | .oscillatorReady => true
  | .engineReloadDone t e => isTile t && isEngine e
  | .settingsGenerationWaitEnd => true
  | .wakeDetectorRearm g => isPort g
  | .testLogicReset => true
  | .resetHoldEnd _ _ => true

end Sys2Proof
end

