-- ==== Sys2Proof/Safety.lean ====
section
/-!
DEFINITION. Safety: the terms in which claims about the block are stated: the parts of the state, what a command may
touch, the invariant of every step, and a run that never stops.
-/
namespace Sys2Proof.Machine

/-! ## Parts of the state and frames -/

/-- The fields of `State` that commands change: all but the queue and the number of tiles. -/
inductive Part where
  | time | regs | stored | fns | ports | nodes | plans | lists | pim | owners
  | points | grants | rules | remote | copies | unseen | bridge | chans | nonces | quar
  | policy | journal | half0 | half1 | half | fw | mgt | jtag | pins | boot
  | chg | tile | mesh | meshFails | ready | link | vfEnable | vfMse | numVfs | ari
  | stamp | stage | lastCancel | stopping | xogate | evHeld | accepts | free | tlpHeld | wire
deriving DecidableEq, Repr

/-- Both states agree on a part. -/
def Part.same (p : Part) (s t : State) : Prop :=
  match p with
  | .time => t.time = s.time
  | .regs => t.regs = s.regs
  | .stored => t.stored = s.stored
  | .fns => t.fns = s.fns
  | .ports => t.ports = s.ports
  | .nodes => t.nodes = s.nodes
  | .plans => t.plans = s.plans
  | .lists => t.lists = s.lists
  | .pim => t.pim = s.pim
  | .owners => t.owners = s.owners
  | .points => t.points = s.points
  | .grants => t.grants = s.grants
  | .rules => t.rules = s.rules
  | .remote => t.remote = s.remote
  | .copies => t.copies = s.copies
  | .unseen => t.unseen = s.unseen
  | .bridge => t.bridge = s.bridge
  | .chans => t.chans = s.chans
  | .nonces => t.nonces = s.nonces
  | .quar => t.quar = s.quar
  | .policy => t.policy = s.policy
  | .journal => t.journal = s.journal
  | .half0 => t.half0 = s.half0
  | .half1 => t.half1 = s.half1
  | .half => t.half = s.half
  | .fw => t.fw = s.fw
  | .mgt => t.mgt = s.mgt
  | .jtag => t.jtag = s.jtag
  | .pins => t.pins = s.pins
  | .boot => t.boot = s.boot
  | .chg => t.chg = s.chg
  | .tile => t.tile = s.tile
  | .mesh => t.mesh = s.mesh
  | .meshFails => t.meshFails = s.meshFails
  | .ready => t.ready = s.ready
  | .link => t.link = s.link
  | .vfEnable => t.vfEnable = s.vfEnable
  | .vfMse => t.vfMse = s.vfMse
  | .numVfs => t.numVfs = s.numVfs
  | .ari => t.ari = s.ari
  | .stamp => t.stamp = s.stamp
  | .stage => t.stage = s.stage
  | .lastCancel => t.lastCancel = s.lastCancel
  | .stopping => t.stopping = s.stopping
  | .xogate => t.xogate = s.xogate
  | .evHeld => t.evHeld = s.evHeld
  | .accepts => t.accepts = s.accepts
  | .free => t.free = s.free
  | .tlpHeld => t.tlpHeld = s.tlpHeld
  | .wire => t.wire = s.wire

/-- `t` is `s` but for the parts listed; the queue and the number of tiles are as in `s`. -/
def sameExcept (l : List Part) (s t : State) : Prop :=
  t.pending = s.pending ∧ t.tiles = s.tiles ∧ ∀ p : Part, p ∉ l → p.same s t

/-- Every part. -/
def Part.all : List Part :=
  [.time, .regs, .stored, .fns, .ports, .nodes, .plans, .lists, .pim, .owners, .points, .grants, .rules, .remote,
    .copies, .unseen, .bridge, .chans, .nonces, .quar, .policy, .journal, .half0, .half1, .half, .fw, .mgt, .jtag,
    .pins, .boot, .chg, .tile, .mesh, .meshFails, .ready, .link, .vfEnable, .vfMse, .numVfs, .ari, .stamp, .stage,
    .lastCancel, .stopping, .xogate, .evHeld, .accepts, .free, .tlpHeld, .wire]

/-- The parts a command may touch; all others it leaves as they are. Every rule of the spec that reports an event, an
error or a completion touches `fns` (rings, interrupt sources), `regs` (error bits, counters), `evHeld`, `tlpHeld` and
`wire` (what leaves the package) beside what the command is about. -/
def touches (i : Instr) : List Part :=
  match i with
  | .tickBoundary =>
    [.time, .regs, .fns, .ports, .nodes, .plans, .pim, .points, .unseen, .bridge, .chans, .journal, .fw, .chg,
     .tile, .stage, .evHeld, .free, .tlpHeld, .wire]
  | .frameBoundary =>
    [.time, .regs, .fns, .ports, .nodes, .plans, .lists, .pim, .owners, .points, .grants, .rules, .remote, .copies,
     .bridge, .chans, .quar, .journal, .chg, .tile, .stopping, .evHeld, .free, .tlpHeld, .wire]
  | .timecfgWrite _ => [.time, .regs, .fns]
  | .timecfgTakesEffect => [.time, .regs, .fns]
  | .sampleoffWrite _ => [.time, .regs, .fns]
  | .ptctlWrite _ => [.time, .regs, .fns]
  | .ptrateWrite _ => [.time, .regs, .fns]
  | .ptstepWrite _ _ => [.time, .regs, .fns]
  | .pttickRead _ =>
    [.regs, .fns, .nodes, .plans, .pins, .tile, .stage, .lastCancel, .stopping, .evHeld, .free, .tlpHeld, .wire]
  | .tnhPttickRead _ _ =>
    [.regs, .fns, .nodes, .plans, .pins, .tile, .stage, .lastCancel, .stopping, .evHeld, .free, .tlpHeld, .wire]
  | .alignMeasurement _ _ => [.regs, .fns, .tile, .evHeld, .tlpHeld, .wire]
  | .timeTokenLoss _ =>
    [.regs, .fns, .ports, .nodes, .plans, .pim, .points, .bridge, .chans, .fw, .pins, .boot, .chg, .tile, .mesh,
     .meshFails, .link, .evHeld, .free, .tlpHeld, .wire]
  | .ptpSync _ _ _ _ _ _ => [.time, .free]
  | .ptpAnnounce _ _ _ => [.time, .regs, .fns, .tile, .evHeld, .tlpHeld, .wire]
  | .ptpDelayResponse _ _ _ _ _ => [.time]
  | .announceReceiptTimeout => [.time, .regs, .fns, .tile, .evHeld, .tlpHeld, .wire]
  | .meshTransferReceived _ _ =>
    [.regs, .fns, .ports, .nodes, .plans, .pim, .points, .bridge, .chans, .fw, .pins, .boot, .chg, .tile, .mesh,
     .meshFails, .link, .evHeld, .free, .tlpHeld, .wire]
  | .meshLinkRetrain _ _ => [.regs, .fns, .tile, .mesh, .meshFails, .evHeld, .tlpHeld, .wire]
  | .remoteInputCopy _ _ => [.regs, .fns, .remote, .copies]
  | .signalDetect _ => [.regs, .fns, .ports, .nodes, .journal, .tile, .evHeld, .free, .tlpHeld, .wire]
  | .trainBlockReceived _ _ _ _ _ _ => [.regs, .fns, .ports, .nodes, .tile, .free, .tlpHeld, .wire]
  | .trainStateTimeout _ => [.ports, .free, .tlpHeld, .wire]
  | .blockLockAcquired _ => [.ports, .tlpHeld, .wire]
  | .blockLockLost _ =>
    [.regs, .fns, .ports, .nodes, .pim, .points, .bridge, .chans, .chg, .tile, .evHeld, .free, .tlpHeld, .wire]
  | .eqLoopPeriod _ _ _ => [.regs, .fns, .ports, .tile, .evHeld, .free, .tlpHeld, .wire]
  | .presetApply _ _ => [.ports]
  | .tptLinkcfgWrite _ _ =>
    [.regs, .fns, .ports, .nodes, .pim, .points, .bridge, .chans, .journal, .pins, .chg, .tile, .stage,
     .lastCancel, .stopping, .evHeld, .free, .tlpHeld, .wire]
  | .trunkWakeDetect _ => [.regs, .fns, .pins, .tile, .stage, .lastCancel, .stopping, .evHeld, .tlpHeld, .wire]
  | .periodicTransferReceived _ _ _ _ =>
    [.regs, .fns, .ports, .nodes, .pim, .points, .unseen, .bridge, .chans, .quar, .journal, .chg, .tile, .evHeld,
     .free, .tlpHeld, .wire]
  | .upstreamSlotRunEnd _ _ _ _ =>
    [.regs, .fns, .ports, .nodes, .pim, .points, .unseen, .bridge, .chans, .quar, .journal, .chg, .tile, .evHeld,
     .free, .tlpHeld, .wire]
  | .retryReceived _ _ _ _ _ =>
    [.regs, .fns, .ports, .nodes, .pim, .points, .unseen, .bridge, .chans, .quar, .journal, .chg, .tile, .evHeld,
     .free, .tlpHeld, .wire]
  | .alertReceived _ _ _ _ =>
    [.regs, .fns, .ports, .nodes, .pim, .points, .bridge, .chans, .quar, .journal, .chg, .tile, .evHeld, .free,
     .tlpHeld, .wire]
  | .echoReceived _ _ _ _ =>
    [.regs, .fns, .ports, .nodes, .pim, .points, .bridge, .chans, .chg, .tile, .evHeld, .free, .tlpHeld, .wire]
  | .hubPoll _ => [.ports, .tile, .free, .tlpHeld, .wire]
  | .pollAnswer _ _ _ _ =>
    [.regs, .fns, .ports, .nodes, .pim, .points, .bridge, .chans, .quar, .journal, .chg, .tile, .evHeld, .free,
     .tlpHeld, .wire]
  | .managementAnswer _ _ _ _ =>
    [.regs, .fns, .ports, .nodes, .pim, .points, .bridge, .chans, .quar, .journal, .chg, .tile, .evHeld, .free,
     .tlpHeld, .wire]
  | .enumUpCheck _ => [.ports, .tile, .free, .tlpHeld, .wire]
  | .branchTrainTimeout _ =>
    [.regs, .fns, .ports, .nodes, .pim, .points, .bridge, .chans, .journal, .chg, .tile, .evHeld, .free, .tlpHeld,
     .wire]
  | .allowlistReadDone _ _ _ _ =>
    [.regs, .fns, .ports, .nodes, .pim, .points, .bridge, .chans, .nonces, .journal, .chg, .tile, .evHeld, .free,
     .tlpHeld, .wire]
  | .allowlistTimeout _ _ =>
    [.regs, .fns, .ports, .nodes, .pim, .points, .bridge, .chans, .chg, .tile, .evHeld, .free, .tlpHeld, .wire]
  | .authstatPoll _ _ => [.ports, .tile, .free, .tlpHeld, .wire]
  | .challengeTimeout _ _ =>
    [.regs, .fns, .ports, .nodes, .pim, .points, .bridge, .chans, .nonces, .chg, .tile, .evHeld, .free, .tlpHeld,
     .wire]
  | .signatureVerified _ _ =>
    [.regs, .fns, .ports, .nodes, .pim, .points, .bridge, .chans, .quar, .journal, .chg, .tile, .evHeld, .free,
     .tlpHeld, .wire]
  | .leasepolicyReadDone _ _ _ _ =>
    [.regs, .fns, .ports, .nodes, .pim, .points, .bridge, .chans, .chg, .tile, .evHeld, .free, .tlpHeld, .wire]
  | .leaseResolveTimeout _ _ =>
    [.regs, .fns, .ports, .nodes, .pim, .points, .bridge, .chans, .chg, .tile, .evHeld, .free, .tlpHeld, .wire]
  | .quarportClear _ =>
    [.regs, .fns, .ports, .nodes, .quar, .journal, .pins, .tile, .stage, .lastCancel, .stopping, .evHeld, .free,
     .tlpHeld, .wire]
  | .listHeaderReadDone _ _ _ _ => [.regs, .fns, .plans, .lists, .tile, .evHeld, .accepts, .tlpHeld, .wire]
  | .listFetchDone _ _ _ _ _ _ _ _ _ => [.regs, .fns, .plans, .lists, .tile, .evHeld, .tlpHeld, .wire]
  | .dmaReadTimeout _ _ _ _ _ =>
    [.regs, .fns, .ports, .nodes, .plans, .lists, .pim, .owners, .points, .grants, .rules, .bridge, .chans,
     .nonces, .policy, .journal, .fw, .mgt, .chg, .tile, .evHeld, .free, .tlpHeld, .wire]
  | .dblSchedWrite _ _ => [.regs, .fns, .lists, .tile, .stage, .lastCancel, .stopping, .evHeld, .tlpHeld, .wire]
  | .compileStart _ => [.regs, .fns, .plans, .tile]
  | .compileDone _ => [.regs, .fns, .ports, .nodes, .plans, .lists, .tile, .evHeld, .free, .tlpHeld, .wire]
  | .accordReady _ => [.plans]
  | .swapTickFixed _ => [.plans]
  | .accordSwap _ =>
    [.time, .regs, .fns, .nodes, .plans, .lists, .pim, .owners, .points, .grants, .bridge, .chans, .chg, .tile,
     .evHeld, .tlpHeld, .wire]
  | .shrinkDeadline _ _ => [.regs, .fns, .plans, .lists, .pim, .points, .chg, .tile, .evHeld, .tlpHeld, .wire]
  | .pimScrub _ _ _ => [.regs, .fns, .pim, .points, .chg, .tile, .evHeld, .tlpHeld, .wire]
  | .publicationComplete _ => [.regs, .fns, .tile, .evHeld, .tlpHeld, .wire]
  | .imgHoldTake _ => [.fns]
  | .imgHoldRelease _ => [.fns]
  | .outputImageReadStart _ => [.regs, .fns, .tile, .evHeld, .tlpHeld, .wire]
  | .outputImageReadDone _ _ _ => [.regs, .fns, .tile, .evHeld, .tlpHeld, .wire]
  | .pimWindowWrite _ _ _ _ =>
    [.regs, .fns, .pim, .points, .pins, .chg, .tile, .stage, .lastCancel, .stopping, .evHeld, .tlpHeld, .wire]
  | .reflexWindow _ => [.regs, .fns, .pim, .points, .rules, .copies, .chg, .tile, .evHeld, .free, .tlpHeld, .wire]
  | .sqTailDoorbell _ _ _ => [.regs, .fns, .tile, .stage, .lastCancel, .stopping, .evHeld, .tlpHeld, .wire]
  | .cqHeadDoorbell _ _ _ => [.regs, .fns, .tile, .stage, .lastCancel, .stopping, .evHeld, .tlpHeld, .wire]
  | .eqHeadDoorbell _ _ _ => [.regs, .fns, .tile, .stage, .lastCancel, .stopping, .evHeld, .tlpHeld, .wire]
  | .ringEnable _ _ _ _ => [.regs, .fns]
  | .ringDisable _ _ _ _ => [.regs, .fns]
  | .sqFetch _ => [.regs, .fns, .tile, .evHeld, .tlpHeld, .wire]
  | .heldCompletionRelease _ _ => [.regs, .fns, .tile, .evHeld, .tlpHeld, .wire]
  | .waitingEventRelease _ _ => [.regs, .fns, .tile, .evHeld, .tlpHeld, .wire]
  | .handleCompletion _ _ => [.regs, .fns, .tile, .evHeld, .tlpHeld, .wire]
  | .nop _ _ => [.regs, .fns, .tile, .evHeld, .tlpHeld, .wire]
  | .listAttach _ _ => [.regs, .fns, .lists, .tile, .evHeld, .tlpHeld, .wire]
  | .listDetach _ _ => [.regs, .fns, .plans, .lists, .tile, .evHeld, .tlpHeld, .wire]
  | .pointAlloc _ _ => [.regs, .fns, .pim, .owners, .points, .chg, .tile, .evHeld, .tlpHeld, .wire]
  | .pointFree _ _ => [.regs, .fns, .tile, .evHeld, .accepts, .tlpHeld, .wire]
  | .pointConfig _ _ => [.regs, .fns, .tile, .evHeld, .tlpHeld, .wire]
  | .pointShare _ _ => [.regs, .fns, .tile, .evHeld, .accepts, .tlpHeld, .wire]
  | .imageSet _ _ => [.regs, .fns, .tile, .evHeld, .accepts, .tlpHeld, .wire]
  | .ruleSet _ _ => [.regs, .fns, .tile, .evHeld, .accepts, .tlpHeld, .wire]
  | .alertBind _ _ => [.regs, .fns, .tile, .evHeld, .tlpHeld, .wire]
  | .allowlistSet _ _ => [.regs, .fns, .ports, .nodes, .journal, .tile, .evHeld, .free, .tlpHeld, .wire]
  | .nodePromote _ _ => [.regs, .fns, .tile, .evHeld, .accepts, .tlpHeld, .wire]
  | .abort _ _ => [.regs, .fns, .plans, .lists, .fw, .mgt, .tile, .evHeld, .tlpHeld, .wire]
  | .leasepolicySet _ _ => [.regs, .fns, .tile, .evHeld, .tlpHeld, .wire]
  | .leaseSet _ _ => [.regs, .fns, .tile, .evHeld, .accepts, .tlpHeld, .wire]
  | .nodeAdmit _ _ => [.regs, .fns, .tile, .evHeld, .accepts, .tlpHeld, .wire]
  | .nodeUnbind _ _ => [.regs, .fns, .ports, .nodes, .journal, .tile, .evHeld, .free, .tlpHeld, .wire]
  | .nodeRelease _ _ => [.regs, .fns, .ports, .nodes, .quar, .journal, .tile, .evHeld, .free, .tlpHeld, .wire]
  | .tenantCreate _ _ => [.regs, .fns, .tile, .evHeld, .accepts, .tlpHeld, .wire]
  | .tenantShare _ _ => [.regs, .fns, .tile, .evHeld, .accepts, .tlpHeld, .wire]
  | .tenantFreeze _ _ => [.regs, .fns, .chans, .tile, .evHeld, .accepts, .tlpHeld, .wire]
  | .tenantThaw _ _ => [.regs, .fns, .tile, .evHeld, .accepts, .tlpHeld, .wire]
  | .tenantSave _ _ => [.regs, .fns, .chans, .tile, .evHeld, .accepts, .tlpHeld, .wire]
  | .tenantRestore _ _ => [.regs, .fns, .tile, .evHeld, .accepts, .tlpHeld, .wire]
  | .tenantDestroy _ _ =>
    [.regs, .fns, .nodes, .plans, .lists, .pim, .owners, .points, .grants, .rules, .remote, .copies, .bridge,
     .chans, .pins, .chg, .tile, .stage, .lastCancel, .stopping, .evHeld, .accepts, .tlpHeld, .wire]
  | .fwSession _ _ => [.regs, .fns, .fw, .tile, .evHeld, .free, .tlpHeld, .wire]
  | .fwChunk _ _ => [.regs, .fns, .tile, .evHeld, .tlpHeld, .wire]
  | .fwVerify _ _ => [.regs, .fns, .fw, .tile, .evHeld, .accepts, .tlpHeld, .wire]
  | .fwActivate _ _ _ _ _ => [.regs, .fns, .fw, .tile, .evHeld, .accepts, .tlpHeld, .wire]
  | .fwConfirm _ _ => [.regs, .fns, .fw, .tile, .evHeld, .tlpHeld, .wire]
  | .settingsSave _ _ => [.regs, .fns, .fw, .tile, .evHeld, .accepts, .tlpHeld, .wire]
  | .powerSet _ _ => [.regs, .fns, .pins, .tile, .stage, .lastCancel, .stopping, .evHeld, .accepts, .tlpHeld, .wire]
  | .commandStructureReadDone _ _ _ _ _ =>
    [.regs, .fns, .ports, .nodes, .plans, .lists, .pim, .owners, .points, .grants, .rules, .chans, .policy,
     .journal, .fw, .mgt, .chg, .tile, .evHeld, .free, .tlpHeld, .wire]
  | .bridgeLoad _ _ _ => [.regs, .fns, .bridge, .tile, .evHeld, .tlpHeld, .wire]
  | .bridgeStore _ _ _ _ _ => [.regs, .fns, .bridge, .tile, .evHeld, .free, .tlpHeld, .wire]
  | .bwvWinbaseWrite _ _ => [.regs, .fns, .bridge, .tile, .evHeld, .tlpHeld, .wire]
  | .bwvLockAcquire _ => [.fns, .nodes, .free, .tlpHeld, .wire]
  | .bwvLockRenew _ _ => [.regs, .fns]
  | .bwvLockRelease _ _ => [.regs, .fns, .nodes]
  | .bwvWfclrWrite _ _ => [.fns]
  | .bridgeReply _ _ _ _ =>
    [.regs, .fns, .ports, .nodes, .pim, .points, .bridge, .chans, .quar, .journal, .chg, .tile, .evHeld, .free,
     .tlpHeld, .wire]
  | .bridgeHoldLimit _ _ => [.regs, .fns, .bridge, .tile, .evHeld, .tlpHeld, .wire]
  | .bridgeAnswerLimit _ _ => [.regs, .fns, .bridge, .tile, .evHeld, .tlpHeld, .wire]
  | .lockLeaseExpiry _ _ => [.regs, .fns, .nodes, .tile, .evHeld, .tlpHeld, .wire]
  | .attentionPoll _ _ => [.ports, .tile, .free, .tlpHeld, .wire]
  | .attentionPollReply _ _ _ _ =>
    [.regs, .fns, .ports, .nodes, .pim, .points, .bridge, .chans, .quar, .journal, .chg, .tile, .evHeld, .free,
     .tlpHeld, .wire]
  | .brgMctlLoad _ => [.regs, .fns, .bridge, .pins, .tile, .stage, .lastCancel, .stopping, .evHeld, .tlpHeld, .wire]
  | .brgMctlStore _ => [.regs, .fns, .bridge, .pins, .tile, .stage, .lastCancel, .stopping, .evHeld, .tlpHeld, .wire]
  | .nxtArm _ _ _ => [.regs, .fns, .chans, .tile, .evHeld, .tlpHeld, .wire]
  | .bulkStop _ _ => [.regs, .fns, .chans, .tile, .evHeld, .tlpHeld, .wire]
  | .bulkCancel _ _ => [.fns, .chans]
  | .bulkBurstReply _ _ _ _ _ =>
    [.regs, .fns, .ports, .nodes, .pim, .points, .bridge, .chans, .quar, .journal, .chg, .tile, .evHeld, .free,
     .tlpHeld, .wire]
  | .bulkRequestAnswer _ _ _ _ _ =>
    [.regs, .fns, .ports, .nodes, .pim, .points, .bridge, .chans, .quar, .journal, .chg, .tile, .evHeld, .free,
     .tlpHeld, .wire]
  | .bulkProbeDue _ _ => [.regs, .ports, .chans, .free, .tlpHeld, .wire]
  | .bulkWaitLimit _ _ => [.regs, .fns, .chans, .tile, .evHeld, .tlpHeld, .wire]
  | .bulkHostReadDone _ _ _ _ => [.regs, .fns, .chans, .tile, .evHeld, .tlpHeld, .wire]
  | .bulkRecordRelease _ => [.regs, .fns, .chans, .tile, .evHeld, .tlpHeld, .wire]
  | .bcqHeadDoorbell _ _ => [.regs, .fns, .tile, .stage, .lastCancel, .stopping, .evHeld, .tlpHeld, .wire]
  | .vfEnableSet => [.regs, .fns, .vfEnable]
  | .vfEnableClear =>
    [.regs, .fns, .nodes, .plans, .lists, .pim, .owners, .points, .grants, .rules, .remote, .copies, .bridge,
     .chans, .pins, .chg, .tile, .vfEnable, .stage, .lastCancel, .stopping, .evHeld, .tlpHeld, .wire]
  | .flrInitiate _ =>
    [.regs, .fns, .nodes, .plans, .lists, .pim, .owners, .points, .grants, .rules, .remote, .copies, .bridge,
     .chans, .pins, .chg, .tile, .stage, .lastCancel, .stopping, .evHeld, .tlpHeld, .wire]
  | .tenantServicePoint _ => [.regs, .fns]
  | .freezeDrainComplete _ => [.fns, .tile]
  | .freezeTimeout _ => [.regs, .fns, .plans, .lists, .chans, .fw, .mgt, .tile, .evHeld, .tlpHeld, .wire]
  | .taskStepEnd _ _ _ _ _ => [.regs, .fns, .plans, .lists, .fw, .mgt, .tile, .evHeld, .tlpHeld, .wire]
  | .stepOverrun _ _ _ => [.regs, .fns]
  | .engineFault _ _ _ =>
    [.regs, .fns, .ports, .nodes, .plans, .lists, .pim, .points, .bridge, .chans, .fw, .mgt, .pins, .boot, .chg,
     .tile, .mesh, .meshFails, .link, .evHeld, .free, .tlpHeld, .wire]
  | .interruptEntry _ _ => [.regs, .fns, .stamp]
  | .interruptCommit _ _ => [.regs, .fns, .tlpHeld, .wire]
  | .fibAckWrite _ _ _ => [.regs, .fns]
  | .nibAckWrite _ _ => [.regs, .fns]
  | .msixTableWrite _ _ _ _ _ => [.fns]
  | .msixControlWrite _ _ _ => [.fns]
  | .errmaskWrite _ _ _ => Part.all
  | .levelWrite _ _ => [.regs, .fns, .pins, .tile, .stage, .lastCancel, .stopping, .evHeld, .tlpHeld, .wire]
  | .levelStepDone _ => [.regs, .tile, .tlpHeld, .wire]
  | .avsLoopPeriod _ _ => [.regs, .fns, .tile, .evHeld, .tlpHeld, .wire]
  | .trimStore _ => [.tile, .tlpHeld, .wire]
  | .busTransactionComplete _ _ _ =>
    [.regs, .fns, .ports, .nodes, .plans, .pim, .points, .bridge, .chans, .fw, .pins, .boot, .chg, .tile, .mesh,
     .meshFails, .link, .stage, .lastCancel, .stopping, .evHeld, .free, .tlpHeld, .wire]
  | .busStuckTimeout _ _ =>
    [.regs, .fns, .ports, .nodes, .plans, .pim, .points, .bridge, .chans, .fw, .pins, .boot, .chg, .tile, .mesh,
     .meshFails, .link, .stage, .lastCancel, .stopping, .evHeld, .free, .tlpHeld, .wire]
  | .dozeEntry _ => [.regs, .tile]
  | .tskAtzPageAccess _ _ _ _ => Part.all
  | .managerAccessSleepingTile _ _ _ _ _ _ => Part.all
  | .drydownDrained _ =>
    [.regs, .fns, .ports, .nodes, .plans, .pim, .points, .bridge, .chans, .fw, .pins, .boot, .chg, .tile, .mesh,
     .meshFails, .link, .evHeld, .free, .tlpHeld, .wire]
  | .drydownDrainTimeout _ => [.regs, .fns, .plans, .tile, .evHeld, .tlpHeld, .wire]
  | .wakeNLow => [.regs, .fns, .pins, .tile, .stage, .lastCancel, .stopping, .evHeld, .tlpHeld, .wire]
  | .l12Exit => [.regs, .fns, .pins, .tile, .link, .stage, .lastCancel, .stopping, .evHeld, .tlpHeld, .wire]
  | .wakePowerGood _ => [.regs, .pim, .points, .chg, .tile]
  | .tileReady _ _ _ => Part.all
  | .wakeAttemptTimeout _ _ =>
    [.regs, .fns, .ports, .nodes, .plans, .pim, .points, .bridge, .chans, .fw, .pins, .boot, .chg, .tile, .mesh,
     .meshFails, .link, .evHeld, .free, .tlpHeld, .wire]
  | .wakeRetry _ => [.regs, .tile, .tlpHeld, .wire]
  | .pgoodLost _ _ =>
    [.regs, .fns, .ports, .nodes, .plans, .pim, .points, .bridge, .chans, .fw, .pins, .boot, .chg, .tile, .mesh,
     .meshFails, .link, .evHeld, .free, .tlpHeld, .wire]
  | .thermalTrip _ =>
    [.regs, .fns, .ports, .nodes, .plans, .pim, .points, .bridge, .chans, .fw, .pins, .boot, .chg, .tile, .mesh,
     .meshFails, .link, .evHeld, .free, .tlpHeld, .wire]
  | .standbyArm _ => [.regs, .fns, .tile, .stage, .lastCancel, .stopping, .evHeld, .tlpHeld, .wire]
  | .standbyDisarm _ => [.regs, .fns, .tile, .stage, .lastCancel, .stopping, .evHeld, .tlpHeld, .wire]
  | .standbyStopDone _ => [.time, .stage, .tlpHeld, .wire]
  | .l12Entry => [.time, .pins, .tile, .mesh, .meshFails, .link, .tlpHeld, .wire]
  | .standbyWaitTimeout => [.regs, .fns, .tile, .stage, .lastCancel, .stopping, .evHeld, .tlpHeld, .wire]
  | .standbyWake _ =>
    [.time, .regs, .fns, .pim, .points, .chg, .tile, .link, .stage, .stopping, .evHeld, .tlpHeld, .wire]
  | .fwUdpSegment _ _ => [.regs, .fns, .fw, .mgt, .tile, .evHeld, .tlpHeld, .wire]
  | .fwUdpQuery _ _ => [.regs, .mgt, .tlpHeld, .wire]
  | .assemblyBufferTimeout _ => [.fw]
  | .chunkProgrammed _ => [.regs, .fns, .fw, .mgt, .tile, .evHeld, .free, .tlpHeld, .wire]
  | .verifyDone => [.regs, .fns, .fw, .mgt, .tile, .evHeld, .tlpHeld, .wire]
  | .activationStaged _ _ _ => [.regs, .fns, .fw, .mgt, .tile, .evHeld, .tlpHeld, .wire]
  | .tileSwitchDone _ _ => [.regs, .fns, .fw, .tile, .evHeld, .tlpHeld, .wire]
  | .tileSwitchTimeout _ => [.fns, .fw, .tile]
  | .trialQuarterHour => [.regs, .fns, .fw, .tile, .evHeld, .tlpHeld, .wire]
  | .rollbackHoldupCheck _ _ => [.regs, .fns, .fw, .tile, .evHeld, .tlpHeld, .wire]
  | .settingsCopyWritten => [.regs, .fns, .fw, .tlpHeld, .wire]
  | .nodeTableJournalWrite _ => [.journal, .half0, .half1, .half, .tlpHeld, .wire]
  | .tnhMotionWrite _ _ => [.regs, .fns]
  | .rngHealthTest _ => [.regs, .fns, .ports, .nodes, .nonces, .fw, .tile, .evHeld, .free, .tlpHeld, .wire]
  | .powerOn => Part.all
  | .supplyDrop => Part.all
  | .perstAssert => Part.all
  | .perstRelease _ _ =>
    [.time, .regs, .stored, .fns, .nodes, .quar, .half0, .half1, .half, .fw, .pins, .boot, .link, .xogate,
     .tlpHeld, .wire]
  | .hotReset _ _ => Part.all
  | .dlDown _ _ => Part.all
  | .packageReady _ _ =>
    [.regs, .fns, .ports, .nodes, .plans, .pim, .points, .bridge, .chans, .journal, .fw, .pins, .boot, .chg, .tile,
     .mesh, .meshFails, .ready, .link, .evHeld, .free, .tlpHeld, .wire]
  | .glbCtlReset _ _ => Part.all
  | .tileReset _ =>
    [.regs, .fns, .ports, .nodes, .plans, .lists, .pim, .points, .rules, .remote, .copies, .bridge, .chans, .fw,
     .mgt, .pins, .chg, .tile, .stage, .lastCancel, .stopping, .evHeld, .free, .tlpHeld, .wire]
  | .tileResetReady _ _ _ => Part.all
  | .portReset _ =>
    [.regs, .fns, .ports, .nodes, .pim, .points, .bridge, .chans, .journal, .pins, .chg, .tile, .stage,
     .lastCancel, .stopping, .evHeld, .free, .tlpHeld, .wire]
  | .blockReset _ _ =>
    [.time, .regs, .fns, .plans, .fw, .mgt, .pins, .tile, .stage, .lastCancel, .stopping, .evHeld, .tlpHeld, .wire]
  | .ctlEnableWrite _ _ _ => Part.all
  | .ctlQuiesceWrite _ _ _ => Part.all
  | .mgtLinkStatus _ _ _ => [.regs, .fns, .mgt]
  | .mgtArpRequest _ _ => [.regs, .tlpHeld, .wire]
  | .mgtNeighborSolicitation _ _ => [.regs, .tlpHeld, .wire]
  | .mgtEchoRequest _ _ _ _ => [.regs, .mgt, .tlpHeld, .wire]
  | .mgtUnwantedFrame _ => [.regs]
  | .mgtNeighborExpiry _ _ => [.mgt]
  | .mgtAddressWrite _ _ _ => [.regs, .fns, .mgt]
  | .jtagExtest _ => [.jtag]
  | .jtagIdcode => [.jtag, .tlpHeld, .wire]
  | .jtagSamplePreload _ => [.jtag]
  | .jtagClamp => [.jtag]
  | .jtagHighz => [.jtag]
  | .jtagBypass _ => [.jtag]
  | .configSpaceWrite _ _ _ => [.fns, .vfMse, .numVfs, .ari]
  | .registerWrite _ _ _ _ _ _ => Part.all
  | .rcCounterRead _ _ _ =>
    [.regs, .fns, .nodes, .plans, .pins, .tile, .stage, .lastCancel, .stopping, .evHeld, .free, .tlpHeld, .wire]
  | .splitReadSnapshot _ _ _ _ =>
    [.regs, .fns, .nodes, .plans, .pins, .tile, .stage, .lastCancel, .stopping, .evHeld, .free, .tlpHeld, .wire]
  | .malformedRegisterAccess _ _ _ _ _ => Part.all
  | .sqEntryReadDone _ _ _ _ =>
    [.regs, .fns, .fw, .pins, .tile, .stage, .lastCancel, .stopping, .evHeld, .tlpHeld, .wire]
  | .ptpFollowUp _ _ _ _ => [.time, .free]
  | .ptpDelayRequestDue _ => [.time, .tlpHeld, .wire]
  | .nextHopResolutionReply _ _ _ => [.regs, .mgt, .tlpHeld, .wire]
  | .hostLinkReachesL0 => [.regs, .fns, .tile, .link, .stage, .lastCancel, .stopping, .evHeld, .tlpHeld, .wire]
  | .oscillatorReady => [.tile]
  | .engineReloadDone _ _ => [.tile]
  | .settingsGenerationWaitEnd => [.fw]
  | .wakeDetectorRearm _ => [.tile]
  | .testLogicReset => [.jtag]
  | .resetHoldEnd _ _ =>
    [.time, .regs, .stored, .fns, .nodes, .quar, .half0, .half1, .half, .fw, .pins, .boot, .link, .xogate,
     .tlpHeld, .wire]

/-! ## The invariant of every step -/

/-- The keys of a sparse map rise strictly. -/
def ascKeys {α : Type} : NMap α → Bool
  | [] => true
  | [_] => true
  | (k, _) :: (k', v') :: r => decide (k < k') && ascKeys ((k', v') :: r)

/-- The part has 2, 4 or 8 tiles (R1, R2), and every sparse map of the state, the process image among them, is in its
canonical form: keys strictly rising, nothing listed that reads as an unlisted key does. -/
structure State.Inv (s : State) : Prop where
  part : s.tiles = 2 ∨ s.tiles = 4 ∨ s.tiles = 8
  pim : Memory.wf s.pim
  regs : ascKeys s.regs = true
  fns : nwf {} s.fns = true
  ports : nwf {} s.ports = true
  nodes : nwf {} s.nodes = true
  plans : nwf {} s.plans = true
  lists : nwf {} s.lists = true
  owners : nwf 0 s.owners = true
  points : nwf {} s.points = true
  rules : nwf { e := {} } s.rules = true
  remote : nwf 0 s.remote = true
  chans : nwf {} s.chans = true
  tile : nwf {} s.tile = true
  meshFails : nwf 0 s.meshFails = true

/-! ## Safe runs -/

/-- The command answers a next state, and `P` holds of it. -/
def completes (c : Instr) (s : State) (P : State → Prop) : Prop := ∃ t, exec c s = .next t ∧ P t

/-- A command completes with exactly this state. -/
def answers (c : Instr) (s t : State) : Prop := exec c s = .next t

/-- A bit of a page's ERR register (R436). -/
def State.errBit (s : State) (ty inst b : Nat) : Bool := bit (s.reg 0 ty inst 0x014) b

/-- The package is READY and takes register writes of the manager: its function is in D0 (R467, R523). -/
def State.mgrOpen (s : State) : Prop := s.ready = true ∧ (s.fn 0).dstate = 0

/-- What the device has given to the wire or to the host link. -/
def State.sent (s : State) : List Output := s.tlpHeld ++ s.wire

/-- The entry `x` runs under opcode `opc` as command `e` of function `f` now: the package is READY, the function in
service, the anchor's engines not paused, and the work is not held for a tile (R302, R456, R464, R518). -/
structure State.runs (s : State) (f e opc : Nat) (x : Entry) : Prop where
  ready : s.ready = true
  alive : s.alive f = true
  going : s.paused = false
  entry : s.entry? f e opc = some x
  awake : s.heldWork f x = false
  powered : s.onDeadTile x = none

/-- The completion queue of entry `x` takes a completion now (R305, R308). -/
structure State.cqTakes (s : State) (f : Nat) (x : Entry) : Prop where
  alive : s.alive f = true
  going : s.paused = false
  runs : (s.cqR f (s.sqR f x.sq).cq).running = true
  room : (s.cqR f (s.sqR f x.sq).cq).room ≠ 0
  first : (s.fn f).hold.any (·.cq == (s.sqR f x.sq).cq) = false
  dma : s.dmaOk f = true

/-- The completion entry of `x` was written at the tail of its CQ, and `x` is outstanding no more (R305, R307):
`s` is the state before the command, `t` the one after. -/
def told (f : Nat) (x : Entry) (long : Bool) (result status detail nlist : Nat) (s t : State) : Prop :=
  let q := (s.sqR f x.sq).cq
  let r := s.cqR f q
  Output.dmaWrite f (r.base.toNat + 16 * r.head)
    (completionBytes
      { id := x.id, sq := x.sq, cq := q, cid := x.cid, long, result, status, detail,
        listed := decide (nlist ≠ 0 ∧ x.listAddr ≠ 0 ∧ x.listMax ≠ 0), ovf := decide (nlist > x.listMax),
        adj := decide (x.listAddr % 16 ≠ 0), nlist }
      (s.sqR f x.sq).head r.phase) ∈ t.sent ∧
  ∀ y ∈ (t.fn f).entries, y.id ≠ x.id

/-- Function `f` may be given another handle (R311). -/
def State.handleRoom (s : State) (f : Nat) : Prop := (s.fn f).handles.length < handleLimit f

/-- The long command `x` was accepted: its completion entry names the next handle, which holds the operation and is not
done (R312); `ready` is whether nothing is still to be read for it. -/
def accepted (f : Nat) (x : Entry) (op : LongOp) (ready : Bool) (nlist : Nat) (s t : State) : Prop :=
  told f x true (handleOf f (s.fn f).nextSeq) 0 0 nlist s t ∧
  ∃ h ∈ (t.fn f).handles, h.seq = (s.fn f).nextSeq ∧ h.op = op ∧ h.ready = ready ∧ h.done = false

/-- The command `x` has its host structure of `len` bytes read: the read is sent and the entry waits (R315). -/
def reads (f : Nat) (x : Entry) (len : Nat) (t : State) : Prop :=
  Output.dmaRead f x.addr len ∈ t.sent ∧ ∃ y ∈ (t.fn f).entries, y.id = x.id ∧ y.reading = true

/-- The bulk completion queue of `f` takes a record now: none waits before it (R359, R360). -/
structure State.bcqTakes (s : State) (f : Nat) : Prop where
  alive : s.alive f = true
  going : s.paused = false
  runs : (s.fn f).bulk.ring.running = true
  room : (s.fn f).bulk.ring.room ≠ 0
  first : (s.fn f).bulk.recs = []
  dma : s.dmaOk f = true

/-- The record of the job on channel `k`, view `v` of `f`, was written to the BCQ with this status and detail, the channel
standing as `c`, and the channel is IDLE (R359, R360, R362). -/
def bulkTold (f v k : Nat) (c : Chan) (status detail : Nat) (s t : State) : Prop :=
  let r := (s.fn f).bulk.ring
  Output.dmaWrite f (r.base.toNat + 32 * r.head)
    (recordBytes c v status detail s.time.tick ++ [BitVec.ofNat 8 (b2n r.phase)]) ∈ t.sent ∧
  (t.chan k).out = [] ∧
  ((s.chan k).arm = false → (t.chan k).st = .idle) ∧
  ((s.chan k).arm = true → (s.fn f).st = .active → s.bmvQuiet (k / 32) = false → s.jobFails f k (s.chan k).nxt = none →
    (t.chan k).st = .run ∧ (t.chan k).arm = false ∧ (t.chan k).jobseq = (c.jobseq + 1) % 256 ∧ (t.chan k).bytes = 0)

/-- The port has the management request open: sent, or waiting for room in a tick (R100, R146, R147). -/
def asks (g node op : Nat) (words : List Nat) (p : Purpose) (attempt : Nat) (t : State) : Prop :=
  ∃ r ∈ (t.port g).mgmtOpen, r.node = node ∧ r.op = op ∧ r.words = words ∧ r.purpose = p ∧ r.attempt = attempt

/-- The port has granted the node a poll of two slots in the class, or waits for the first tick with room to (R113, R148). -/
def polls (g node cls : Nat) (t : State) : Prop :=
  (∃ x ∈ (t.port g).grants, x.node = node ∧ x.cls = cls ∧ x.len = 2 ∧ x.gseq = 0) ∨
  (∃ w ∈ (t.port g).wishes, w.node = node ∧ w.cls = cls ∧ w.len = 2 ∧ w.gseq = 0)

/-- The port has granted the node a run of slots under a GSEQ, or waits for the first tick with room to (R113, R147). -/
def grantsRun (g node cls len gseq : Nat) (t : State) : Prop :=
  (∃ x ∈ (t.port g).grants, x.node = node ∧ x.cls = cls ∧ x.len = len ∧ x.gseq = gseq) ∨
  (∃ w ∈ (t.port g).wishes, w.node = node ∧ w.cls = cls ∧ w.len = len ∧ w.gseq = gseq)

/-- The run is a whole transfer of a node: a valid HEADER with that node, class, XID and LEN, and its body (R101, R103). -/
structure comes (hb : RxBlock) (body : List RxBlock) (node cls xid len : Nat) : Prop where
  header : hb.isHeader = true
  valid : hOk hb.bytes = true
  node : hNode hb.bytes = node
  cls : hClass hb.bytes = cls
  xid : hXid hb.bytes = xid
  len : hLen hb.bytes = len
  body : bodyOk hb.bytes body = true

/-- An access of `f` at byte `a` of its BAR is served now: the function has the BAR and answers as its map says, nothing is
off, and the access has to wait for no tile (R4, R17, R369, R459, R467, R523, R562). -/
structure State.serves (s : State) (f bar a : Nat) : Prop where
  has : hasBar f bar = true
  answering : s.answers f = 2
  opened : s.placeOpen f bar a = true
  alive : s.deadTile (accTile f bar a) = false
  now : s.waitsFor f bar a = none

/-- The word at byte `a` of the BAR0 of `f` is this page's at this offset, and an access to it is served now. -/
structure State.reaches (s : State) (f a ty inst off : Nat) : Prop where
  serves : s.serves f 0 a
  here : place f a = .page ty inst off
  whole : a % 4 = 0

/-- No run from `s` ends in a fault or a refusal. -/
def State.safe (s : State) : Prop := ∀ n, ∃ t, Sys2Proof.core.run n s = .next t

end Sys2Proof.Machine
end

