-- ==== Sys2Proof/Certificates/Slice0/Obligations.lean ====
section
/-!
DEFINITION. Obligations: statements about the block for the provers. A statement says that a command completes with what
the rule gives it; `sameExcept (touches c)` (FrameOfEveryCommand) says for every command what it leaves alone.
-/
open Sys2Proof Sys2Proof.Machine

/-- A step runs the command at the front of its queue with the queue's rest (the block's form of "a step runs the
decoded instruction"; spec/00_scope.md says that commands come one at a time). -/
def Obligations.StepRunsFrontCommand : Prop :=
  ∀ (c : Instr) (rest : List Instr) (s : State),
    step { s with pending := c :: rest } = exec c { s with pending := rest }

/-- The block idles on an empty queue: the model's choice, log entry 1. -/
def Obligations.IdleOnEmptyQueue : Prop := ∀ s : State, s.pending = [] → step s = .next s

/-- Only the step takes commands from the queue, and no command changes the part. -/
def Obligations.CommandsKeepQueueAndPart : Prop :=
  ∀ (c : Instr) (s t : State), exec c s = .next t → t.pending = s.pending ∧ t.tiles = s.tiles

/-- The frame of every command. `touches` lists for each command the fields that its rules let it change. -/
def Obligations.FrameOfEveryCommand : Prop :=
  ∀ (c : Instr) (s t : State), exec c s = .next t → sameExcept (touches c) s t

/-- No rule of the spec halts the block, and no command of the model does. -/
def Obligations.EveryCommandAnswers : Prop := ∀ (c : Instr) (s : State), ∃ t, exec c s = .next t

/-- The invariant holds after every step from every state in which it holds. -/
def Obligations.StepKeepsInvariant : Prop := ∀ s t : State, s.Inv → step s = .next t → t.Inv

/-- The reset state meets the invariant of `StepKeepsInvariant`. -/
def Obligations.ResetMeetsInvariant : Prop := State.reset.Inv

/-- No run ends in a fault or a refusal. -/
def Obligations.EveryRunIsSafe : Prop := ∀ s : State, s.safe

/-- The five register writes of TIM (R59, R65, R75, R77, R87, R88). -/
def Obligations.TimeRegisterWrites : Prop :=
  ∀ s : State, s.mgrOpen →
    (∀ v : W32, s.time.locked = false → completes (.timecfgWrite v) s (fun t => t.time =
      { s.time with ticklenW := bits v.toNat 0 2, fllog2W := min 16 (max 4 (bits v.toNat 4 5)), pending := true })) ∧
    (∀ v : W32, s.time.locked = true → completes (.timecfgWrite v) s (fun t => t.time = s.time ∧ t.errBit pTIM 0 31 = true)) ∧
    (∀ v : W32, completes (.sampleoffWrite v) s (fun t => t.time =
      { s.time with sampleOffW := min (bits v.toNat 0 13) (2 ^ s.time.ticklen * 1000 - 1) })) ∧
    (∀ v : W32, completes (.ptctlWrite v) s (fun t => t.time =
      { s.time with modeW := if bits v.toNat 0 2 = 3 then 0 else bits v.toNat 0 2 })) ∧
    (∀ v : W32, s.time.mode = 2 → completes (.ptrateWrite v) s (fun t => t.time =
      { s.time with rateW := some (clampInt (-500000000) 500000000 (toSigned 32 v.toNat)) })) ∧
    (∀ v : W32, s.time.mode ≠ 2 → completes (.ptrateWrite v) s (fun t => t.time = s.time ∧ t.errBit pTIM 0 0 = true)) ∧
    (∀ v : W64, s.time.mode = 2 → completes (.ptstepWrite v true) s (fun t => t.time =
      { s.time with
        step := some (clampInt (-(2 ^ 63)) (2 ^ 63 - 1) (s.time.step.getD 0 + toSigned 64 v.toNat))
        sync := true
        wakeUnsync := false })) ∧
    (∀ v : W64, s.time.mode ≠ 2 → completes (.ptstepWrite v true) s (fun t => t.time = s.time ∧ t.errBit pTIM 0 0 = true)) ∧
    (∀ v : W64, completes (.ptstepWrite v false) s (fun t => t.time = s.time ∧ t.errBit pTIM 0 30 = true))

/-- The counter, plant time, the captures and the configuration at the boundaries (R54, R59, R70, R72, R81). -/
def Obligations.BoundariesAdvanceTime : Prop :=
  ∀ s : State,
    (s.clockRuns = true → s.timecfgDue = false → completes .tickBoundary s (fun t =>
      t.time.tick = (s.time.tick + 1) % 2 ^ 64 ∧
      (s.time.modeW = s.time.mode → s.time.rateW = none → s.time.lastLen = none → s.time.step = none →
        t.time.plant = (s.time.plant +
          (((2 ^ s.time.ticklen * 1000 : Nat) * (1000000000000 + s.time.rate) + s.time.plantFrac) / 1000000000000 : Int).toNat)
            % 2 ^ 64))) ∧
    (s.clockRuns = false → completes .tickBoundary s (fun t => t = s)) ∧
    (s.clockRuns = true → s.isFrame = true → s.time.frameDone ≠ some s.time.tick → completes .frameBoundary s (fun t =>
      t.time.tick = s.time.tick ∧ t.time.frameDone = some s.time.tick ∧ t.time.ptTick = s.time.tick ∧
      t.time.ptAt = s.time.plant ∧ t.time.sampleOff = s.time.sampleOffW)) ∧
    (s.clockRuns = false ∨ s.isFrame = false ∨ s.time.frameDone = some s.time.tick → completes .frameBoundary s (fun t => t = s)) ∧
    (s.ready = false ∨ s.timecfgDue = false → completes .timecfgTakesEffect s (fun t => t = s)) ∧
    (s.ready = true → s.timecfgDue = true → completes .timecfgTakesEffect s (fun t =>
      t.time.ticklen = s.time.ticklenW ∧ t.time.fllog2 = s.time.fllog2W ∧ t.time.pending = false ∧
      t.time.sampleOffW = min s.time.sampleOffW (2 ^ s.time.ticklenW * 1000 - 1) ∧ t.time.sampleOff = t.time.sampleOffW ∧
      t.time.tick = s.time.tick))

/-- IEEE 1588 (R78-R80). The rate of the servo is a free value: the statement holds for whatever it is. Which Announce
selects the master is the model's choice, log entry 113. -/
def Obligations.PtpMessages : Prop :=
  ∀ s : State, s.ptpOn = true →
    (∀ (src : BitVec 80) (ds : BitVec 128), ds.toNat % 2 ^ 16 < 255 → s.time.master = none →
      (s.time.foreign.contains src.toNat = false → completes (.ptpAnnounce s.ptpDomain src ds) s (fun t =>
        t.time = { s.time with foreign := insertAsc src.toNat s.time.foreign })) ∧
      (s.time.foreign.contains src.toNat = true → completes (.ptpAnnounce s.ptpDomain src ds) s (fun t =>
        t.time = { s.time with master := some (src.toNat, ds.toNat), holdover := false, syncWait := none, delayReq := none,
                               delayWait := none, syncRun := 0 }))) ∧
    (∀ (dom : Nat) (src : BitVec 80) (ds : BitVec 128) (two peer : Bool) (x y z : Int), dom ≠ s.ptpDomain →
      completes (.ptpAnnounce dom src ds) s (fun t => t = s) ∧ completes (.ptpSync dom src.toNat two x y z) s (fun t => t = s) ∧
      completes (.ptpDelayResponse dom src.toNat two x y) s (fun t => t = s) ∧
      completes (.ptpFollowUp dom src.toNat peer x) s (fun t => t = s)) ∧
    (∀ tx : Int, s.ptpPeer = true ∨ s.time.master.isSome = true → completes (.ptpDelayRequestDue tx) s (fun t =>
      t.time = { s.time with delayReq := some (tx + s.txLat), delayWait := none } ∧
      Output.mgt (if s.ptpPeer then 6 else 5) 0 [] ∈ t.sent)) ∧
    (∀ (src ds : Nat) (origin rx corr : Int), s.time.master = some (src, ds) →
      completes (.ptpSync s.ptpDomain src true origin rx corr) s (fun t =>
        t.time = { s.time with syncWait := some (rx - s.rxLat - corr) }) ∧
      completes (.ptpSync s.ptpDomain src false origin rx corr) s (fun t =>
        let off := rx - s.rxLat - corr - origin - s.time.pathDelay
        t.time.ptOffset = clampInt (-2147483647) 2147483647 off ∧
        (1000000 ≤ off.natAbs → t.time.sync = false ∧
          t.time.step = some (clampInt (-(2 ^ 63)) (2 ^ 63 - 1) (s.time.step.getD 0 - off))) ∧
        (off.natAbs < 1000000 → (∃ r ∈ t.time.rateW, -500000000 ≤ r ∧ r ≤ 500000000) ∧
          (off.natAbs < 1000 → 15 ≤ s.time.syncRun → t.time.sync = true))) ∧
      (∀ r ts : Int, s.time.syncWait = some r → completes (.ptpFollowUp s.ptpDomain src false ts) s (fun t =>
        t.time.syncWait = none ∧ t.time.ptOffset = clampInt (-2147483647) 2147483647 (r - ts - s.time.pathDelay))) ∧
      (∀ sent ts arrival : Int, s.time.delayReq = some sent → s.ptpPeer = false →
        completes (.ptpDelayResponse s.ptpDomain src false ts arrival) s (fun t =>
          t.time = { s.time with delayReq := none, pathDelay := (s.time.msDiff + (ts - sent)) / 2 }))) ∧
    (∀ (src : Nat) (sent ts arrival : Int), s.time.delayReq = some sent → s.ptpPeer = true →
      completes (.ptpDelayResponse s.ptpDomain src false ts arrival) s (fun t =>
        t.time = { s.time with delayReq := none, pathDelay := (arrival - s.rxLat - sent - ts) / 2 }) ∧
      completes (.ptpDelayResponse s.ptpDomain src true ts arrival) s (fun t =>
        t.time = { s.time with delayWait := some (arrival - s.rxLat) })) ∧
    (∀ (src : Nat) (sent arr ts : Int), s.time.delayReq = some sent → s.time.delayWait = some arr →
      completes (.ptpFollowUp s.ptpDomain src true ts) s (fun t =>
        t.time = { s.time with delayReq := none, delayWait := none, pathDelay := (arr - sent - ts) / 2 })) ∧
    completes .announceReceiptTimeout s (fun t =>
      t.time = { s.time with master := none, foreign := [], sync := false, syncRun := 0, holdover := true, syncWait := none,
                             delayReq := none, delayWait := none } ∧ t.errBit pTIM 0 2 = true)

/-- Alignment of a field tile (R66-R68). -/
def Obligations.AlignMeasurements : Prop :=
  ∀ (s : State) (k : Nat) (ps : Int),
    (k ≠ 0 → s.hasTile k = true → (s.tl k).ready = true →
      let within := if ps.natAbs ≤ 2000 then (s.tl k).within + 1 else 0
      let outside := if ps.natAbs ≤ 2000 then 0 else (s.tl k).outside + 1
      completes (.alignMeasurement k ps) s (fun t =>
        t.tl k = { s.tl k with
          offset := clampInt (-8388607) 8388607 ps
          within, outside
          align := if 6000 < ps.natAbs then .fault else if 16 ≤ within then .locked else if 16 ≤ outside then .drift
                   else (s.tl k).align } ∧
        ((t.tl k).align ≠ (s.tl k).align → (t.tl k).align = .drift ∨ (t.tl k).align = .fault →
          t.errBit pTIL k 1 = true ∧ t.errBit pTIM 0 1 = true))) ∧
    (k = 0 ∨ s.hasTile k = false ∨ (s.tl k).ready = false → completes (.alignMeasurement k ps) s (fun t => t = s))

/-- Training of the first hop (R97, R123-R126, R138). Rounding: log entry 110; which of equal presets: log entry 109. -/
def Obligations.FirstHopTrains : Prop :=
  ∀ (s : State) (g : Nat), s.hasPort g = true →
    ((s.port g).hop = .down → s.transmits g = true → (s.port g).roleBad = false → (s.port g).enumNow.isSome = true →
      completes (.signalDetect g) s (fun t => t.port g = { s.port g with sigdet := true, hop := .lock } ∧
        Output.train g (trainBytes 1 (s.rx g 1).preset (s.port g).blockLock false) ∈ t.sent)) ∧
    ((s.port g).sigdet = true → completes (.blockLockAcquired g) s (fun t => t.port g = { s.port g with blockLock := true })) ∧
    ((s.port g).hop = .lock ∨ (s.port g).hop = .ident → completes (.trainStateTimeout g) s (fun t =>
      t.port g = { s.port g with hop := .down, blockLock := false, sigdet := false })) ∧
    ((s.port g).hop = .eq → completes (.trainStateTimeout g) s (fun t => (t.port g).hop = .ident ∧
      (t.rx g 1).preset = bestPreset (s.rx g 1).preset (s.rx g 1).tried)) ∧
    ((s.port g).hop = .lock → (s.port g).blockLock = true → completes (.blockLockLost g) s (fun t =>
      t.port g = { s.port g with blockLock := false })) ∧
    ((s.port g).blockLock = true → (s.port g).hop ≠ .lock → completes (.blockLockLost g) s (fun t =>
      (t.port g).hop = .down ∧ (t.port g).blockLock = false ∧ (t.port g).sigdet = false)) ∧
    ∀ (w : W64) (h v : Nat) (good : Bool) (rtt : Nat),
      let b := toLe 8 w.toNat
      let tried := (s.rx g 1).tried ++ [((s.rx g 1).preset, h % 64)]
      ((s.port g).hop = .lock ∨ (s.port g).hop = .eq ∨ (s.port g).hop = .ident → blockOk 0x78 b = false →
        completes (.trainBlockReceived g w h v good rtt) s (fun t => t.port g = s.port g ∧
          t.reg 0 pTPT g 0x060 = min (2 ^ 64 - 1) (s.reg 0 pTPT g 0x060 + 1))) ∧
      ((s.port g).hop = .lock ∨ (s.port g).hop = .eq ∨ (s.port g).hop = .ident → blockOk 0x78 b = true →
        trainRole b ≠ 2 → trainRole b ≠ 3 → completes (.trainBlockReceived g w h v good rtt) s (fun t =>
          t.port g = { s.port g with hop := .down, blockLock := false, sigdet := false, roleBad := true } ∧
          t.errBit pTPT g 3 = true)) ∧
      (blockOk 0x78 b = true → trainRole b = 2 ∨ trainRole b = 3 →
        ((s.port g).hop = .lock → trainStep b = 1 → trainLocked b = true → (s.port g).blockLock = true →
          completes (.trainBlockReceived g w h v good rtt) s (fun t => (t.port g).hop = .eq ∧ (t.rx g 1).tried = [] ∧
            Output.train g (trainBytes 2 (s.rx g 1).preset true false) ∈ t.sent)) ∧
        ((s.port g).hop = .eq → trainStep b = 2 → trainPreset b = (s.rx g 1).preset →
          (good = true → bits (s.linkcfg g) 8 4 ≤ h % 64 → completes (.trainBlockReceived g w h v good rtt) s (fun t =>
            (t.port g).hop = .ident ∧ (t.port g).marginH = h % 64 ∧ (t.port g).marginV = v % 256 ∧
            (t.rx g 1).preset = (s.rx g 1).preset)) ∧
          (good = false ∨ h % 64 < bits (s.linkcfg g) 8 4 →
            (∀ p : Nat, (List.range 11).find? (fun p => !tried.any (·.1 == p)) = some p →
              completes (.trainBlockReceived g w h v good rtt) s (fun t => (t.port g).hop = .eq ∧ (t.rx g 1).preset = p ∧
                (t.rx g 1).tried = tried ∧ Output.train g (trainBytes 2 p (s.port g).blockLock false) ∈ t.sent)) ∧
            ((List.range 11).find? (fun p => !tried.any (·.1 == p)) = none →
              completes (.trainBlockReceived g w h v good rtt) s (fun t => (t.port g).hop = .ident ∧
                (t.rx g 1).preset = bestPreset (s.rx g 1).preset tried)))) ∧
        ((s.port g).hop = .ident → trainStep b = 3 → trainEcho b = true →
          ((s.port g).enumNow = none → completes (.trainBlockReceived g w h v good rtt) s (fun t =>
            t.port g = { s.port g with hop := .up, hopDelay := (rtt - trainTurn b) / 2 })) ∧
          (∀ br n : Nat, (s.port g).enumNow = some (0, br, n) → completes (.trainBlockReceived g w h v good rtt) s (fun t =>
            (t.port g).hop = .up ∧ (t.port g).hopDelay = (rtt - trainTurn b) / 2 ∧
            asks g n 3 [n + (rtt - trainTurn b) / 2 % 2 ^ 20 * 2 ^ 12] .assign 0 t))))

/-- Equalisation (R127-R129), TPT_LINKCFG (R139) and the wake detector (R458). -/
def Obligations.EqualisationAndWakeDetect : Prop :=
  ∀ (s : State) (g : Nat),
    (∀ h v : Nat, s.hopUp g = true → bit (s.linkcfg g) 2 = true →
      completes (.eqLoopPeriod g h v) s (fun t =>
        (t.rx g 1).margin = some (h % 64) ∧ (t.port g).marginH = h % 64 ∧ (t.port g).marginV = v % 256 ∧
        ((s.rx g 1).stepFrom = none → 16 ≤ h % 64 → (t.rx g 1).pending = (s.rx g 1).pending) ∧
        ((s.rx g 1).stepFrom = none → h % 64 < 16 → (s.rx g 1).preset < 10 →
          (t.rx g 1).pending = some ((s.rx g 1).preset + 1, s.time.tick + 8) ∧
          (t.rx g 1).stepFrom = some (s.rx g 1).preset) ∧
        (∀ old ∈ (s.rx g 1).stepFrom, ∀ m ∈ (s.rx g 1).margin, h % 64 + 2 ≤ m →
          (t.rx g 1).pending = some (old, s.time.tick + 8) ∧ (t.rx g 1).stepFrom = none) ∧
        (t.rx g 1).preset = (s.rx g 1).preset ∧
        ∀ n ∈ s.nodesOf g, (s.node g n).leaves = true → (s.node g n).delayValid = true →
          asks g n 1 [lnkEye, 1] (.margin (if (s.node g n).depth ≤ 1 then 0 else 2 * (n + 1))) 0 t)) ∧
    (∀ h v : Nat, s.hopUp g = false ∨ bit (s.linkcfg g) 2 = false → completes (.eqLoopPeriod g h v) s (fun t => t = s)) ∧
    (∀ key p n : Nat, (s.rx g key).pending = some (p, n) →
      (n ≤ s.time.tick → completes (.presetApply g key) s (fun t =>
        t.rx g key = { s.rx g key with preset := p, pending := none })) ∧
      (s.time.tick < n → completes (.presetApply g key) s (fun t => t = s))) ∧
    (∀ v : W32, s.mgrOpen → s.accWaits (g / 16) = false → s.hasPort g = true → s.tileOpen (g / 16) = true →
      (bit v.toNat 0 = false → completes (.tptLinkcfgWrite g v) s (fun t =>
        (t.port g).hop = .down ∧ (t.port g).roleBad = false)) ∧
      (bit v.toNat 0 = true → completes (.tptLinkcfgWrite g v) s (fun t =>
        t.reg 0x80D pTPT g 0x040 = bits v.toNat 0 4 + max 2 (bits v.toNat 8 4) * 2 ^ 8 ∧
        (s.linken g = true → t.port g = s.port g) ∧
        (s.linken g = false → (s.port g).sigdet = false → t.port g =
          { s.port g with holdDown := false, refusedLocs := [], trainFails := [] })))) ∧
    ((s.port g).hop = .wakeDetect → s.hasPort g = true → g / 16 ≠ 0 → s.stage = 0 → (s.tl (g / 16)).pow = .drydown →
      (s.tl (g / 16)).pwr.off7 = false → s.asleep 0 = false → (s.tl (g / 16)).pwr.rearm.contains g = false →
      completes (.trunkWakeDetect g) s (fun t => (t.tl (g / 16)).pow = .waking ∧ (t.tl (g / 16)).pwr.cause = 1 ∧
        (t.tl (g / 16)).pwr.port = g ∧ (t.tl (g / 16)).pwr.attempt = 1))

/-- Upstream periodic transfers, misses and retries (R103, R135, R169, R170, R225, R234, R600). -/
def Obligations.UpstreamTransfers : Prop :=
  ∀ (s : State) (g : Nat) (e : AEntry), s.hopUp g = true → (s.port g).gates = [] → s.listens g e.node = true → e.mute = false →
    (∀ (slot : Nat) (hb : RxBlock) (body : List RxBlock),
      ((s.planNow g).entries.filter (fun e => e.up && e.due s.time.tick)).find? (fun e => e.first == slot) = some e →
      comes hb body e.node 0 e.xid e.len →
      completes (.periodicTransferReceived g slot false (hb :: body)) s (fun t =>
        (t.node g e.node).run = 0 ∧ (t.node g e.node).tseqs.head? = some (e.xid, hTseq hb.bytes, s.time.tick) ∧
        ∀ m ∈ e.pm, (s.node g e.node).st ≠ .demoted → e.pm.filter (·.enabled) = [m] →
          t.record m.point = mkRec (pmField m (bodyNum hb.bytes body)) 0 (if s.late g e then 2 else 1) (recSeq (s.record m.point) + 1))) ∧
    ((s.node g e.node).run + 1 < bits (s.treecfg g) 8 8 → (s.node g e.node).win + 1 < bits (s.misswin g) 0 8 →
      (∀ slot : Nat,
        ((s.planNow g).entries.filter (fun e => e.up && e.due s.time.tick)).find? (fun e => e.first == slot) = some e →
        completes (.periodicTransferReceived g slot false []) s (fun t => t.node g e.node =
          { s.node g e.node with
            run := (s.node g e.node).run + 1
            win := (s.node g e.node).win + 1
            misses := min 65535 ((s.node g e.node).misses + 1) })) ∧
      (((s.plan g).at s.time.tick).entries.find?
          (fun x => x.up && x.due s.time.tick && x.node == e.node && x.xid == e.xid) = some e →
        completes (.upstreamSlotRunEnd g 0 e.node e.xid) s (fun t => t.node g e.node =
          { s.node g e.node with
            run := (s.node g e.node).run + 1
            win := (s.node g e.node).win + 1
            misses := min 65535 ((s.node g e.node).misses + 1) })) ∧
      (∀ r : Retry, s.retry? g e.node e.xid = some (r, e) → r.left ≤ 1 →
        completes (.retryReceived g e.node e.xid false []) s (fun t =>
          (t.node g e.node).misses = min 65535 ((s.node g e.node).misses + 1) ∧ r ∉ (t.port g).retries))) ∧
    (∀ (r : Retry) (hb : RxBlock) (body : List RxBlock), s.retry? g e.node e.xid = some (r, e) →
      comes hb body e.node 4 e.xid e.len → r.tseq = none ∨ r.tseq = some (hTseq hb.bytes) →
      completes (.retryReceived g e.node e.xid false (hb :: body)) s (fun t =>
        (t.node g e.node).recovered = min 65535 ((s.node g e.node).recovered + 1) ∧
        ∀ m ∈ e.pm, (s.node g e.node).st ≠ .demoted → e.pm.filter (·.enabled) = [m] →
          t.record m.point = mkRec (pmField m (bodyNum hb.bytes body)) (min 65535 (s.time.tick - r.tick)) 0x12
            (recSeq (s.record m.point) + 1))) ∧
    (∀ m k b : Nat, completes (.upstreamSlotRunEnd g 2 m b) s (answers (.managementAnswer g m false []) s) ∧
      completes (.upstreamSlotRunEnd g 3 k b) s (answers (.bridgeReply g k false []) s))

/-- ECHOs (R110, R116-R118), polls (R148) and management answers (R146-R149). -/
def Obligations.EchoesAndAnswers : Prop :=
  ∀ (s : State) (g n : Nat), s.hopUp g = true →
    (∀ (span tk q : Nat) (b : RxBlock), (s.port g).echoes.find? (fun x => x.2.1 == s.time.tick) = some (n, tk, q) →
      let new := (span - byteField b.bytes 3 3 + 1) / 2
      (b.1 = 2#2 → blockOk 0x5A b.bytes = true → byteField b.bytes 1 2 = n + q * 2 ^ 12 →
        completes (.echoReceived g span false b) s (fun t =>
          (t.port g).echoes = (s.port g).echoes.filter (·.1 != n) ∧ (t.node g n).missedEcho = 0 ∧ (t.node g n).run = 0 ∧
          (new < (s.node g n).delay + 4 → (s.node g n).delay < new + 4 → t.node g n =
            { s.node g n with run := 0, missedEcho := 0, stepWait := none, lastBlock := s.time.tick }) ∧
          ((s.node g n).delay + 4 ≤ new ∧ new ≤ (s.node g n).delay + 25 ∨
            new + 4 ≤ (s.node g n).delay ∧ (s.node g n).delay ≤ new + 25 →
            asks g n 2 [lnkDelay, new % 2 ^ 20 + 2 ^ 31] (.delay new) 0 t) ∧
          ((s.node g n).delay + 25 < new ∨ new + 25 < (s.node g n).delay →
            ((s.node g n).stepWait = none → (t.port g).rangeAgain = some n ∧ (t.node g n).stepWait = some new) ∧
            (∀ old : Nat, (s.node g n).stepWait = some old → new ≤ old + 8 → old ≤ new + 8 →
              t.errBit pTPT g 2 = true ∧
              asks g n 2 [lnkDelay, (new + old + 1) / 2 % 2 ^ 20 + 2 ^ 31] (.delay ((new + old + 1) / 2)) 0 t)))) ∧
      (∀ mis : Bool, mis = true ∨ b.1 ≠ 2#2 ∨ blockOk 0x5A b.bytes = false ∨ byteField b.bytes 1 2 ≠ n + q * 2 ^ 12 →
        (s.node g n).missedEcho < 3 →
        completes (.echoReceived g span mis b) s (fun t => (t.node g n).missedEcho = (s.node g n).missedEcho + 1))) ∧
    (∀ (span : Nat) (b : RxBlock), (s.port g).echoes.find? (fun x => x.2.1 == s.time.tick) = none →
      completes (.echoReceived g span true b) s (fun t => t.reg 0 pTPT g 0x070 = min (2 ^ 64 - 1) (s.reg 0 pTPT g 0x070 + 1)) ∧
      (b.isIdle = true → completes (.echoReceived g span false b) s (fun t => t = s))) ∧
    (∀ hubs : List Nat, hubs = (s.nodesOf g).filter (fun n => (s.node g n).isHub && (s.node g n).present) →
      (∀ h : Nat, (hubs.find? (fun h => decide ((s.port g).pollLast < h + 1)) <|> hubs.head?) = some h →
        completes (.hubPoll g) s (fun t => (t.port g).pollLast = h + 1 ∧ polls g h 2 t)) ∧
      (hubs = [] → completes (.hubPoll g) s (fun t => t = s))) ∧
    (∀ (hb : RxBlock) (body : List RxBlock) (st : Nat), (s.node g n).present = true → comes hb body n 2 (st * 256) 1 →
      ((s.node g n).isHub = false → completes (.pollAnswer g n false (hb :: body)) s (fun t =>
        t.node g n = { s.node g n with attn := hAttn hb.bytes, lastHeader := s.time.tick, lastBlock := s.time.tick })) ∧
      ((s.node g n).isHub = true → st = 0x80 → completes (.pollAnswer g n false (hb :: body)) s (fun t =>
        ∀ b : Nat, b < 16 → bit (bodyNum hb.bytes body) b = true ∨ bit (bodyNum hb.bytes body) (16 + b) = true →
          asks g n 1 [lnkBrstat b, 2] (.brstat b) 0 t))) ∧
    completes (.pollAnswer g n false []) s (fun t => t = s) ∧
    (∀ (m : Nat) (r : MReq) (hb : RxBlock) (body : List RxBlock), (s.port g).mreqs.find? (·.mseq == m) = some r →
      (comes hb body r.node 2 m (answerLen r.op r.words - 1) → m < 256 →
        (∀ v : Nat, r.purpose = .delay v → completes (.managementAnswer g m false (hb :: body)) s (fun t =>
          (t.node g r.node).delay = v ∧ (t.node g r.node).delayValid = true ∧ r ∉ (t.port g).mreqs)) ∧
        (r.purpose = .caps → completes (.managementAnswer g m false (hb :: body)) s (fun t =>
          let w := (bodyWords hb.bytes body)[0]?.getD 0
          (t.node g r.node).branches = bits w 0 5 ∧ (t.node g r.node).xfercap = bits w 9 8 ∧
          (t.node g r.node).sendlat = bits w 17 11 ∧ asks g r.node 1 [lnkIdrec, 16] .idrec 0 t))) ∧
      (r.attempt = 0 → completes (.managementAnswer g m false []) s (asks g r.node r.op r.words r.purpose 1)))

/-- Enumeration (R152, R153) and allowlist lookups (R157). -/
def Obligations.EnumerationAndLookups : Prop :=
  ∀ (s : State) (g n : Nat),
    (∀ pk br : Nat, (s.port g).enumNow = some (pk, br, n) → pk ≠ 0 → s.hopUp g = true →
      completes (.enumUpCheck g) s (asks g (pk - 1) 1 [lnkBrstat br, 2] (.enumUp br n) 0)) ∧
    ((∀ e ∈ (s.port g).enumNow, e.1 = 0) → completes (.enumUpCheck g) s (fun t => t = s)) ∧
    (∀ e : Nat × Nat × Nat, (s.port g).enumNow = some e → e.2.2 = n →
      (∀ f : Nat × Nat × Nat,
        (s.port g).trainFails.find? (fun t => t.1 == (s.placeOf g n).1 && t.2.1 == (s.placeOf g n).2) = some f → 2 ≤ f.2.2 →
        completes (.branchTrainTimeout g) s (fun t => (t.node g n).st = .refused ∧ (t.node g n).reason = 9)) ∧
      ((s.port g).trainFails = [] → (s.placeOf g n).1 = 0 → (s.port g).sigdet = false →
        completes (.branchTrainTimeout g) s (fun t => (t.node g n).st = .absent))) ∧
    ((s.port g).enumNow = none → completes (.branchTrainTimeout g) s (fun t => t = s)) ∧
    (∀ (l : Look) (err : Nat) (d : List Byte), g ≠ 128 → (s.node g n).look = some l → l.retry = false →
      (err ≠ 0 → completes (.allowlistReadDone g n err d) s (fun t =>
        t.node g n = { s.node g n with look := some { owner := l.owner, addr := l.addr, retry := true } })) ∧
      (l.hdr = true → 0 < byteField d 8 4 → s.dmaOk l.owner = true → completes (.allowlistReadDone g n 0 d) s (fun t =>
        (t.node g n).look = some { l with hdr := false, lo := 0, hi := min (byteField d 8 4) (allowMax l.owner) } ∧
        Output.dmaRead l.owner (l.addr + 16 + 16 * ((0 + min (byteField d 8 4) (allowMax l.owner)) / 2)) 16 ∈ t.sent)) ∧
      (l.hdr = false → l.loH = [] → l.hiH = [] → d.take 16 = (s.node g n).hash → completes (.allowlistReadDone g n 0 d) s (fun t =>
        (t.node g n).look = none))) ∧
    (∀ d : List Byte, (s.fn n).allowAddr.isSome = true → (s.fn n).allowGen = none →
      completes (.allowlistReadDone 128 n 0 d) s (fun t => (t.fn n).allowGen = some (byteField d 0 8))) ∧
    ((s.node g n).look.isSome = true →
      completes (.allowlistTimeout g n) s (fun t => (t.node g n).st = .refused ∧ (t.node g n).reason = 10)) ∧
    ((s.node g n).look = none → completes (.allowlistTimeout g n) s (fun t => t = s))

/-- Challenges (R158), HELD (R159), leases (R161), QUARPORT (R178). -/
def Obligations.ChallengesAndLeases : Prop :=
  ∀ (s : State) (g n : Nat),
    ((s.node g n).st = .admitting → (s.node g n).waitNonce = false → (s.node g n).waitSig = false → (s.node g n).authTry ≠ 0 →
      s.hopUp g = true →
      completes (.authstatPoll g n) s (asks g n 1 [lnkAuthstat, 1] .authstat 0) ∧
      ((s.node g n).authTry = 1 → s.rngOk = true → s.nonces.length < 2 ^ 256 → completes (.challengeTimeout g n) s (fun t =>
        (t.node g n).authTry = 2 ∧ (t.node g n).nonce ∉ s.nonces ∧ (t.node g n).nonce ∈ t.nonces ∧
        ∃ r ∈ (t.port g).mgmtOpen, r.node = n ∧ r.op = 2 ∧ r.words.head? = some lnkNonce ∧ r.purpose = .nonce ∧ r.attempt = 0)) ∧
      (2 ≤ (s.node g n).authTry → completes (.challengeTimeout g n) s (fun t =>
        (t.node g n).st = .refused ∧ (t.node g n).reason = 3))) ∧
    ((s.node g n).st ≠ .admitting → completes (.authstatPoll g n) s (fun t => t = s) ∧
      completes (.challengeTimeout g n) s (fun t => t = s) ∧ completes (.signatureVerified g n) s (fun t => t = s)) ∧
    ((s.node g n).st = .admitting → (s.node g n).waitSig = true → (s.node g n).sigGood = true →
      bit (s.treecfg g) 2 = true → (s.node g n).earlier = false → completes (.signatureVerified g n) s (fun t =>
        t.node g n = { s.node g n with st := .held, waitSig := false, authTry := 0 })) ∧
    (∀ (err : Nat) (d : List Byte), err ≠ 0 → (s.node g n).leaseLook = 1 ∨ (s.node g n).leaseLook = 2 →
      completes (.leasepolicyReadDone g n err d) s (fun t => t.node g n = { s.node g n with leaseLook := 3 })) ∧
    (∀ d : List Byte, (s.node g n).leaseLook = 1 → 0 < byteField d 8 4 →
      completes (.leasepolicyReadDone g n 0 d) s (fun t =>
        (t.node g n).leaseLook = 2 ∧ (t.node g n).leaseCount = min 4096 (byteField d 8 4) ∧
        Output.dmaRead 0 ((s.node g n).leaseAddr + 16) (32 * min 4096 (byteField d 8 4)) ∈ t.sent)) ∧
    ((s.node g n).leaseLook ≠ 0 → (s.node g n).leaseForList = false →
      ((s.node g n).relet = true → completes (.leaseResolveTimeout g n) s (fun t => t.node g n =
        { s.node g n with leaseLook := 0, relet := false, wantWriter := none, wantReaders := [] })) ∧
      ((s.node g n).relet = false → (s.node g n).lastHash = none → (s.node g n).isHub = false → s.nodeEntries g n = [] →
        completes (.leaseResolveTimeout g n) s (fun t => (t.node g n).leaseLook = 0 ∧ (t.node g n).lessee = 0 ∧
          (t.node g n).readers = [] ∧ (t.node g n).bankLoaded = true))) ∧
    (s.mgrOpen → s.hasPort g = true → s.accWaits (g / 16) = false → s.tileOpen (g / 16) = true → (s.port g).quarPort = true →
      (s.nodesOf g).find? (fun n => (s.node g n).st == .quarantined && (s.node g n).gateAt == some (0, 0)) = none →
      completes (.quarportClear g) s (fun t => (t.port g).quarPort = false))

/-- The life of a bridge access (R321-R330, R335), the attention poll's reply (R338). -/
def Obligations.BridgeAccesses : Prop :=
  ∀ (s : State) (f : Nat), f ≠ 0 →
    (∀ off size : Nat, size = 4 ∨ size = 8 → off % size = 0 → off < 2 ^ 24 → s.pagesOpen f = true → (s.fn f).st = .active →
      (s.unreachable (s.winPort f) (s.winNode f) = none →
        (s.right f (s.winPort f) (s.winNode f) = 2 ∨ s.right f (s.winPort f) (s.winNode f) = 1 ∧
            s.sensAccess (s.winPort f) (s.winNode f) (s.winRegion f * 2 ^ 24 + off) (size == 8) = false →
          s.heldCount f < 8 → completes (.bridgeLoad f off size) s (fun t =>
          t.bridge = s.bridge ++ [{
            fn := f, g := s.winPort f, node := s.winNode f, load := true, wide := (size == 8),
            addr := s.winRegion f * 2 ^ 24 + off, tag := (s.fn f).bridge.lseq,
            sens := s.sensAccess (s.winPort f) (s.winNode f) (s.winRegion f * 2 ^ 24 + off) (size == 8) }] ∧
          (t.fn f).bridge = { (s.fn f).bridge with lseq := ((s.fn f).bridge.lseq + 1) % 65536 })) ∧
        (∀ v : W64, s.right f (s.winPort f) (s.winNode f) = 2 → s.queuedCount f < 64 →
          (s.fn f).bridge.wfault.contains (nodeKey (s.winPort f) (s.winNode f)) = false →
          completes (.bridgeStore f off size v false) s (fun t =>
            t.bridge = s.bridge ++ [{
              fn := f, g := s.winPort f, node := s.winNode f, load := false, wide := (size == 8),
              addr := s.winRegion f * 2 ^ 24 + off, tag := (s.fn f).bridge.wseq, v0 := v.toNat % 2 ^ 32,
              v1 := if size = 8 then v.toNat / 2 ^ 32 else 0 }] ∧
            (t.fn f).bridge = { (s.fn f).bridge with wseq := ((s.fn f).bridge.wseq + 1) % 65536 }))) ∧
      (s.right f (s.winPort f) (s.winNode f) = 0 ∨ (s.unreachable (s.winPort f) (s.winNode f)).isSome = true →
        completes (.bridgeLoad f off size) s (fun t => t.bridge = s.bridge ∧
          Output.readData f 2 off size (ones (size == 8)) ∈ t.sent) ∧
        ∀ (v : W64) (part : Bool), completes (.bridgeStore f off size v part) s (fun t => t.bridge = s.bridge))) ∧
    (∀ (g k : Nat) (a : BAcc), (s.bridgeSent g)[k]? = some a →
      (∀ (hb : RxBlock) (body : List RxBlock), comes hb body a.node 1 a.btag (a.slots - 1) → a.btag ≠ 0 → a.btag < 256 → a.load = true →
        let d0 := (bodyWords hb.bytes body)[0]?.getD 0
        let d1 := (bodyWords hb.bytes body)[1]?.getD 0
        (a.fn = f → a.ended = none → completes (.bridgeReply g k false (hb :: body)) s (fun t =>
          t.bridge = s.bridge.filter (· != a) ∧
          Output.loadData f a.tag (if a.wide then 8 else 4) (d0 % 2 ^ 32 + (if a.wide then d1 % 2 ^ 32 * 2 ^ 32 else 0)) ∈ t.sent)) ∧
        (a.fn = 0 → completes (.bridgeReply g k false (hb :: body)) s (fun t =>
          t.bridge = s.bridge.filter (· != a) ∧ t.reg 0 pBRG (a.g / 16) 0x048 = d0 % 2 ^ 32 ∧
          bits (t.reg 0 pBRG (a.g / 16) 0x04C) 16 8 = 0))) ∧
      (a.fn = 0 → completes (.bridgeAnswerLimit g k) s (fun t =>
        t.bridge = s.bridge.filter (· != a) ∧ bits (t.reg 0 pBRG (a.g / 16) 0x04C) 16 8 = 0x42)) ∧
      (a.fn = f → a.load = false → completes (.bridgeAnswerLimit g k) s (fun t =>
        t.bridge = s.bridge.filter (· != a) ∧ nodeKey a.g a.node ∈ (t.fn f).bridge.wfault)) ∧
      (a.fn = f → a.load = true → a.ended = none → completes (.bridgeAnswerLimit g k) s (fun t =>
        a ∉ t.bridge ∧ Output.loadData f a.tag (if a.wide then 8 else 4) (ones a.wide) ∈ t.sent))) ∧
    (∀ (tag : Nat) (a : BAcc), s.bridge.find? (fun a => a.held f && a.tag == tag) = some a →
      completes (.bridgeHoldLimit f tag) s (fun t => (a.unsent = true → t.bridge = s.bridge.filter (· != a)) ∧
        Output.loadData f tag (if a.wide then 8 else 4) (ones a.wide) ∈ t.sent)) ∧
    (∀ (g n st : Nat) (hb : RxBlock) (body : List RxBlock), (s.node g n).present = true → s.hopUp g = true →
      comes hb body n 1 (st * 256) 1 → completes (.attentionPollReply g n false (hb :: body)) s (fun t =>
        t.node g n = { s.node g n with attn := hAttn hb.bytes, lastHeader := s.time.tick, lastBlock := s.time.tick }))

/-- Window (R323), write faults (R335), semaphores (R336), attention (R338), BRG (R343). -/
def Obligations.BridgeWindowAndSemaphores : Prop :=
  ∀ s : State,
    (∀ f : Nat, f ≠ 0 → s.pagesOpen f = true →
      (∀ v : W32, (s.bridge.filter (BAcc.held f)) = [] → completes (.bwvWinbaseWrite f v) s (fun t =>
        (t.fn f).bridge = { (s.fn f).bridge with
          winbase := bits v.toNat 0 12 + min (bits v.toNat 12 7) (s.portCount - 1) * 2 ^ 12 +
            min (bits v.toNat 24 8) 0xFE * 2 ^ 24 } ∧ t.bridge = s.bridge)) ∧
      (∀ v : W32, completes (.bwvWfclrWrite f v) s (fun t => (t.fn f).bridge =
        { (s.fn f).bridge with
          wfault := (s.fn f).bridge.wfault.filter (· != nodeKey (bits v.toNat 12 7) (bits v.toNat 0 12)) })) ∧
      ((s.node (s.winPort f) (s.winNode f)).lockHolder = none →
        completes (.bwvLockAcquire f) s (fun t =>
          (t.node (s.winPort f) (s.winNode f)).lockHolder = some f ∧
          1 ≤ (t.node (s.winPort f) (s.winNode f)).lockToken ∧
          Output.readData f 0 0x4050 4 ((t.node (s.winPort f) (s.winNode f)).lockToken + 2 ^ 16) ∈ t.sent)) ∧
      ((s.node (s.winPort f) (s.winNode f)).lockHolder ≠ none →
        completes (.bwvLockAcquire f) s (fun t => t.nodes = s.nodes ∧ Output.readData f 0 0x4050 4 0 ∈ t.sent)) ∧
      (∀ tok : BitVec 16,
        ((s.lockOf f tok.toNat).isSome = true → completes (.bwvLockRenew f tok) s (fun t => t.nodes = s.nodes ∧ t.regs = s.regs)) ∧
        (s.lockOf f tok.toNat = none →
          completes (.bwvLockRenew f tok) s (fun t => t.nodes = s.nodes ∧ t.errBit pBWV f 0 = true) ∧
          completes (.bwvLockRelease f tok) s (fun t => t.nodes = s.nodes ∧ t.errBit pBWV f 0 = true)) ∧
        (∀ k : Nat, s.lockOf f tok.toNat = some k → completes (.bwvLockRelease f tok) s (fun t =>
          (t.node (k / 4096) (k % 4096)).lockHolder = none)))) ∧
    (∀ g n : Nat, ((s.node g n).lockHolder ≠ none → completes (.lockLeaseExpiry g n) s (fun t =>
        (t.node g n).lockHolder = none)) ∧
      ((s.node g n).lockHolder = none → completes (.lockLeaseExpiry g n) s (fun t => t = s)) ∧
      ((s.node g n).present = true → s.hopUp g = true → s.brgQuiet (g / 16) = false →
        ((s.node g n).lastHeader + 2 ^ s.pollK g n ≤ s.time.tick → completes (.attentionPoll g n) s (polls g n 1)) ∧
        (s.time.tick < (s.node g n).lastHeader + 2 ^ s.pollK g n → completes (.attentionPoll g n) s (fun t => t = s)))) ∧
    (∀ k : Nat, s.mgrOpen → s.accWaits k = false → s.tileOpen k = true → s.mgrBusy k = false →
      let sel := s.reg 0 pBRG k 0x040
      let g := 16 * k + bits sel 12 4
      (s.unreachable g (bits sel 0 12) = none →
        completes (.brgMctlLoad k) s (fun t => t.bridge = s.bridge ++
          [{ fn := 0, g, node := bits sel 0 12, load := true, wide := false, addr := s.reg 0 pBRG k 0x044, tag := 0 }]) ∧
        completes (.brgMctlStore k) s (fun t => t.bridge = s.bridge ++
          [{ fn := 0, g, node := bits sel 0 12, load := false, wide := false, addr := s.reg 0 pBRG k 0x044, tag := 0
             v0 := s.reg 0 pBRG k 0x048 }])) ∧
      (∀ e : Nat × Nat, s.unreachable g (bits sel 0 12) = some e →
        completes (.brgMctlLoad k) s (fun t => t.bridge = s.bridge ∧ bits (t.reg 0 pBRG k 0x04C) 16 8 = e.1) ∧
        completes (.brgMctlStore k) s (fun t => t.bridge = s.bridge ∧ bits (t.reg 0 pBRG k 0x04C) 16 8 = e.1)))

/-- The choice of BTAGs (R325) and of tokens (R336). -/
def Obligations.FreshNumbersAreFree : Prop :=
  ∀ (k : Nat) (used : List Nat),
    1 ≤ nthFree k used ∧ nthFree k used ∉ used ∧ nthFree k used ≤ k + 1 + used.length

/-- Ring enables (R292-R295), doorbells (R296-R300, R466). -/
def Obligations.RingsAndDoorbells : Prop :=
  (∀ (s : State) (f q kind : Nat) (w : W32) (v : BitVec 16), s.pagesOpen f = false →
    ∀ c ∈ [Instr.ringEnable f kind q w, .ringDisable f kind q w, .sqTailDoorbell f q v, .cqHeadDoorbell f q v,
      .eqHeadDoorbell f q v], completes c s (fun t => ∀ g k i : Nat, t.ring g k i = s.ring g k i)) ∧
  (∀ (s : State) (f q : Nat) (v : BitVec 16), s.pagesOpen f = true → s.stage ≠ 0 → s.asleep 0 = false →
    ∀ c ∈ [Instr.sqTailDoorbell f q v, .cqHeadDoorbell f q v, .eqHeadDoorbell f q v],
      completes c s (fun t => t.stage = 0 ∧ t.lastCancel = 2)) ∧
  ∀ (s : State) (f q : Nat), s.pagesOpen f = true → s.stage = 0 →
    (∀ (kind : Nat) (v : W32), hasRing f kind q = true →
      let pg := if kind = 3 then pBMC else qPage f
      ((s.ring f kind q).enable = false → (s.ring f kind q).draining = false → bit v.toNat 31 = true →
        completes (.ringEnable f kind q v) s (fun t =>
          (t.ring f kind q).enable = true ∧ (t.ring f kind q).head = 0 ∧ (t.ring f kind q).tail = 0 ∧
          (t.ring f kind q).phase = true ∧ (t.ring f kind q).stopped = false ∧
          (t.ring f kind q).log2 = min 16 (max 4 (bits v.toNat 0 5)))) ∧
      ((s.ring f kind q).enable = true ∨ (s.ring f kind q).draining = true → bit v.toNat 31 = true →
        completes (.ringEnable f kind q v) s (fun t => t.ring f kind q = s.ring f kind q ∧ t.errBit pg f 1 = true)) ∧
      ((s.ring f kind q).enable = true → bit v.toNat 31 = false →
        ((s.ring f kind q).clearsAlone kind v.toNat = true →
          (kind = 1 → (List.range 8).any (fun i => (s.sqR f i).enable && (s.sqR f i).cq == q) = false) →
          completes (.ringDisable f kind q v) s (fun t => (t.ring f kind q).enable = false)) ∧
        ((s.ring f kind q).clearsAlone kind v.toNat = false ∨
            kind = 1 ∧ (List.range 8).any (fun i => (s.sqR f i).enable && (s.sqR f i).cq == q) = true →
          completes (.ringDisable f kind q v) s (fun t =>
            t.ring f kind q = s.ring f kind q ∧ t.errBit pg f 1 = true))) ∧
      (bit v.toNat 31 = false → completes (.ringEnable f kind q v) s (fun t => t.ring f kind q = s.ring f kind q)) ∧
      ((s.ring f kind q).enable = false ∨ bit v.toNat 31 = true →
        completes (.ringDisable f kind q v) s (fun t => t.ring f kind q = s.ring f kind q))) ∧
    (∀ (kind : Nat) (v : W32), hasRing f kind q = false →
      ∀ c ∈ [Instr.ringEnable f kind q v, .ringDisable f kind q v],
        completes c s (fun t => ∀ g k i : Nat, t.ring g k i = s.ring g k i)) ∧
    (∀ (kind : Nat) (v : BitVec 16), hasQueue f kind q = false →
      ∀ c : Instr, kind = 0 ∧ c = .sqTailDoorbell f q v ∨ kind = 1 ∧ c = .cqHeadDoorbell f q v ∨
          kind = 2 ∧ c = .eqHeadDoorbell f q v →
        completes c s (fun t => ∀ g k i : Nat, t.ring g k i = s.ring g k i)) ∧
    (hasQueue f 0 q = true → ∀ v : BitVec 16,
      ((s.sqR f q).enable = false → completes (.sqTailDoorbell f q v) s (fun t => t.errBit (qPage f) f 0 = true)) ∧
      ((s.sqR f q).enable = true → (s.sqR f q).stopped = true →
        completes (.sqTailDoorbell f q v) s (fun t => t.sqR f q = s.sqR f q)) ∧
      ((s.sqR f q).enable = true → (s.sqR f q).stopped = false →
        (v.toNat < (s.sqR f q).size →
          (s.sqR f q).span (s.sqR f q).tail v.toNat ≤ (s.sqR f q).size - 1 - (s.sqR f q).span (s.sqR f q).head (s.sqR f q).tail →
          completes (.sqTailDoorbell f q v) s (fun t => t.sqR f q = { s.sqR f q with tail := v.toNat })) ∧
        ((s.sqR f q).size ≤ v.toNat → completes (.sqTailDoorbell f q v) s (fun t =>
          (t.sqR f q).stopped = true ∧ (t.sqR f q).reason = 3 ∧ (t.sqR f q).latched = v.toNat)) ∧
        (v.toNat < (s.sqR f q).size →
          (s.sqR f q).size - 1 - (s.sqR f q).span (s.sqR f q).head (s.sqR f q).tail < (s.sqR f q).span (s.sqR f q).tail v.toNat →
          completes (.sqTailDoorbell f q v) s (fun t =>
            (t.sqR f q).stopped = true ∧ (t.sqR f q).reason = 1 ∧ (t.sqR f q).latched = v.toNat)))) ∧
    (∀ (kind : Nat) (c : Instr) (v : BitVec 16),
      kind = 1 ∧ c = .cqHeadDoorbell f q v ∨ kind = 2 ∧ c = .eqHeadDoorbell f q v → hasQueue f kind q = true →
      let r := s.ring f kind q
      (r.enable = false → completes c s (fun t => t.errBit (qPage f) f 0 = true)) ∧
      (r.enable = true → r.stopped = true → completes c s (fun t => t.ring f kind q = r)) ∧
      (r.enable = true → r.stopped = false →
        (r.size ≤ v.toNat → completes c s (fun t =>
          (t.ring f kind q).stopped = true ∧ (t.ring f kind q).reason = 3 ∧ (t.ring f kind q).latched = v.toNat)) ∧
        (v.toNat < r.size → r.freedBy v.toNat ≤ r.unfreed → completes c s (fun t =>
          t.ring f kind q = { r with tail := v.toNat, unfreed := r.unfreed - r.freedBy v.toNat })) ∧
        (v.toNat < r.size → r.unfreed < r.freedBy v.toNat → completes c s (fun t =>
          (t.ring f kind q).stopped = true ∧ (t.ring f kind q).reason = 4 ∧ (t.ring f kind q).latched = v.toNat))))

/-- Fetch (R301), entries (R303), completions (R305, R308), events (R309, R311). -/
def Obligations.FetchAndCompletions : Prop :=
  ∀ (s : State) (f : Nat),
    (∀ q : Nat, s.mayFetch f = true → s.nextSq f = some q →
      (s.dmaOk f = true → completes (.sqFetch f) s (fun t =>
        (t.fn f).fetch q = some (s.sqR f q).head ∧ (t.fn f).sqLast = q ∧
        Output.dmaRead f ((s.sqR f q).base.toNat + 64 * (s.sqR f q).head) 64 ∈ t.sent)) ∧
      (s.dmaOk f = false → completes (.sqFetch f) s (fun t => (t.fn f).fetch q = none ∧
        (t.sqR f q).stopped = true ∧ (t.sqR f q).reason = 7 ∧ (t.sqR f q).latched = (s.sqR f q).head))) ∧
    (s.mayFetch f = false ∨ s.nextSq f = none → completes (.sqFetch f) s (fun t => t = s)) ∧
    (∀ (q err : Nat) (d : List Byte),
      ((s.fn f).fetch q = none → completes (.sqEntryReadDone f q err d) s (fun t => t = s)) ∧
      (∀ i : Nat, (s.fn f).fetch q = some i →
        (s.alive f = false → completes (.sqEntryReadDone f q err d) s (fun t =>
          (t.fn f).fetch q = none ∧ t.sqR f q = s.sqR f q ∧ (t.fn f).entries = (s.fn f).entries)) ∧
        (s.alive f = true →
          (err ≠ 0 → completes (.sqEntryReadDone f q err d) s (fun t =>
            (t.fn f).fetch q = none ∧ (t.sqR f q).stopped = true ∧ (t.sqR f q).reason = 5)) ∧
          (bit (byteField d 1 1) 0 ≠ (s.sqR f q).phase → completes (.sqEntryReadDone f q 0 d) s (fun t =>
            (t.fn f).fetch q = none ∧ (t.sqR f q).stopped = true ∧ (t.sqR f q).reason = 2)) ∧
          (bit (byteField d 1 1) 0 = (s.sqR f q).phase → badOpcode f (parseEntry (s.fn f).nextEntry q d) = none →
            (∀ y ∈ (s.fn f).entries, badOpcode f y = none) → completes (.sqEntryReadDone f q 0 d) s (fun t =>
              (t.fn f).fetch q = none ∧ t.sqR f q = (s.sqR f q).advance ∧
              (t.fn f).entries = (s.fn f).entries ++ [parseEntry (s.fn f).nextEntry q d]))))) ∧
    (∀ (e : Nat) (x : Entry), s.runs f e 0x00 x → s.cqTakes f x → completes (.nop f e) s (told f x false 0 0 0 0 s)) ∧
    (∀ (q : Nat) (c : Completion), s.alive f = true → s.paused = false → (s.fn f).hold.find? (·.cq == q) = some c →
      (s.cqR f q).running = true → 0 < (s.cqR f q).room → s.dmaOk f = true →
      completes (.heldCompletionRelease f q) s (fun t =>
        Output.dmaWrite f ((s.cqR f q).base.toNat + 16 * (s.cqR f q).head)
          (completionBytes c (s.sqR f c.sq).head (s.cqR f q).phase) ∈ t.sent)) ∧
    (∀ q : Nat, s.alive f = false ∨ s.paused = true → completes (.heldCompletionRelease f q) s (fun t => t = s)) ∧
    (∀ q : Nat, q < 2 → s.alive f = true → s.paused = false → (s.eqR f q).running = true → s.dmaOk f = true →
      nget 0 (s.fn f).eqlost q ≠ 0 → 0 < (s.eqR f q).room → completes (.waitingEventRelease f q) s (fun t =>
        nget 0 (t.fn f).eqlost q = 0)) ∧
    (∀ q : Nat, s.alive f = false ∨ s.paused = true ∨ (s.eqR f q).running = false ∨ s.dmaOk f = false →
      completes (.waitingEventRelease f q) s (fun t => t = s)) ∧
    (∀ seq : Nat,
      (∀ h : Handle, (s.fn f).waiting.head? = some seq → s.handle? f seq = some h → (s.fn f).st ≠ .frozen →
        s.paused = false → s.alive f = true → s.dmaOk f = true → (s.eqR f 0).running = true → 0 < (s.eqR f 0).room →
        nget 0 (s.fn f).eqlost 0 = 0 →
        completes (.handleCompletion f seq) s (fun t =>
          (t.fn f).waiting = (s.fn f).waiting.tail ∧ t.handle? f seq = none) ∧
        completes (.waitingEventRelease f 0) s (fun t => t.handle? f seq = none)) ∧
      ((s.fn f).waiting.head? ≠ some seq ∨ (s.fn f).st = .frozen ∨ s.paused = true ∨ s.alive f = false ∨
          (s.eqR f 0).running = false → completes (.handleCompletion f seq) s (fun t => t = s)))

/-- Interrupt entry, commit and acknowledge (R424-R432), the MSI-X table and its control (R420, R430, R431). -/
def Obligations.InterruptsEnterCommitLeave : Prop :=
  ∀ (s : State) (f : Nat),
    (∀ fast : Bool,
      (((s.fn f).cls fast).st = .idle → s.eligible f fast ≠ [] → completes (.interruptEntry f fast) s (fun t =>
        ((t.fn f).cls fast).st = .entry ∧ ((t.fn f).cls fast).stamp = s.stamp ∧ t.stamp = s.stamp + 1 ∧
        ((t.fn f).cls fast).cause = (catchSrcs (s.eligible f fast) ((s.fn f).cls fast)).cause ∧
        ((t.fn f).cls fast).pend = (catchSrcs (s.eligible f fast) ((s.fn f).cls fast)).pend)) ∧
      (((s.fn f).cls fast).st ≠ .idle ∨ s.eligible f fast = [] →
        completes (.interruptEntry f fast) s (fun t => t = s)) ∧
      (((s.fn f).cls fast).st = .entry → (fast = false → (s.fn f).fast.st ≠ .entry) → s.ahead f fast = false →
        (∀ i : Nat, (commitPick (s.joinEntry f fast) f fast).1 = some i →
          completes (.interruptCommit f fast) s (fun t =>
            ((t.fn f).cls fast).st = .service ∧ ((t.fn f).cls fast).topsrc = i ∧
            ((t.fn f).cls fast).vector = (s.joinEntry f fast).srcVector f fast i ∧
            ((t.fn f).cls fast).entries = min (2 ^ 32 - 1) (((s.fn f).cls fast).entries + 1) ∧
            Output.msix f (nget {} (s.fn f).msix ((s.joinEntry f fast).srcVector f fast i)).addr.toNat
              (nget {} (s.fn f).msix ((s.joinEntry f fast).srcVector f fast i)).data.toNat ∈ t.sent)) ∧
        ((commitPick (s.joinEntry f fast) f fast).1 = none →
          completes (.interruptCommit f fast) s (fun t => ((t.fn f).cls fast).st = .idle))) ∧
      (((s.fn f).cls fast).st = .entry → (fast = false → (s.fn f).fast.st ≠ .entry) → s.ahead f fast = true →
        completes (.interruptCommit f fast) s (fun t => t = s)) ∧
      (((s.fn f).cls fast).st ≠ .entry → completes (.interruptCommit f fast) s (fun t => t = s))) ∧
    ((s.fn f).norm.st = .entry → (s.fn f).fast.st = .entry → completes (.interruptCommit f false) s (fun t =>
      t = s.modFn f (fun x => { x with norm := { x.norm with waitFast := true } }))) ∧
    (s.pagesOpen f = true →
      (∀ v : W64, (s.fn f).fast.st = .service → completes (.fibAckWrite f v true) s (fun t =>
        (t.fn f).fast = { (s.fn f).fast with
          pend := (s.fn f).fast.pend ||| ((s.fn f).fast.cause &&& ~~~v)
          cause := 0
          st := if s.holdsInts f then .held else .idle })) ∧
      (∀ v : W64, (s.fn f).fast.st ≠ .service → completes (.fibAckWrite f v true) s (fun t => t.errBit pFIB f 0 = true)) ∧
      (∀ v : W64, completes (.fibAckWrite f v false) s (fun t => t.errBit pFIB f 30 = true)) ∧
      (∀ v : W32, (s.fn f).norm.st = .service → completes (.nibAckWrite f v) s (fun t =>
        (t.fn f).norm = { (s.fn f).norm with
          pend := (s.fn f).norm.pend ||| ((s.fn f).norm.cause &&& ~~~(v.setWidth 64))
          cause := 0
          st := if s.holdsInts f then .held else .idle })) ∧
      (∀ v : W32, (s.fn f).norm.st ≠ .service → completes (.nibAckWrite f v) s (fun t => t.errBit pNIB f 0 = true)) ∧
      (∀ (k : Nat) (v : W64), k < 16 →
        completes (.msixTableWrite f k 0 8 v) s (fun t =>
          nget {} (t.fn f).msix k = { nget {} (s.fn f).msix k with addr := v }) ∧
        completes (.msixTableWrite f k 8 8 v) s (fun t =>
          nget {} (t.fn f).msix k = { nget {} (s.fn f).msix k with
            data := BitVec.ofNat 32 (v.toNat % 2 ^ 32)
            masked := bit (v.toNat / 2 ^ 32) 0 }) ∧
        completes (.msixTableWrite f k 0 4 v) s (fun t =>
          nget {} (t.fn f).msix k = { nget {} (s.fn f).msix k with
            addr := BitVec.ofNat 64 ((nget {} (s.fn f).msix k).addr.toNat / 2 ^ 32 * 2 ^ 32 + v.toNat % 2 ^ 32) }) ∧
        completes (.msixTableWrite f k 4 4 v) s (fun t =>
          nget {} (t.fn f).msix k = { nget {} (s.fn f).msix k with
            addr := BitVec.ofNat 64 ((nget {} (s.fn f).msix k).addr.toNat % 2 ^ 32 + v.toNat % 2 ^ 32 * 2 ^ 32) }) ∧
        completes (.msixTableWrite f k 8 4 v) s (fun t =>
          nget {} (t.fn f).msix k = { nget {} (s.fn f).msix k with data := BitVec.ofNat 32 (v.toNat % 2 ^ 32) }) ∧
        completes (.msixTableWrite f k 12 4 v) s (fun t =>
          nget {} (t.fn f).msix k = { nget {} (s.fn f).msix k with masked := bit v.toNat 0 }))) ∧
    (s.pagesOpen f = false → ∀ (k off size : Nat) (v : W64) (w : W32) (whole : Bool),
      ∀ c ∈ [Instr.fibAckWrite f v whole, .nibAckWrite f w, .msixTableWrite f k off size v],
        completes c s (fun t => (t.fn f).fast = (s.fn f).fast ∧ (t.fn f).norm = (s.fn f).norm ∧ (t.fn f).msix = (s.fn f).msix)) ∧
    (∀ en mask : Bool,
      (s.reach f = true → completes (.msixControlWrite f en mask) s (fun t =>
        (t.fn f).msixEn = en ∧ (t.fn f).fnMask = mask)) ∧
      (s.reach f = false → completes (.msixControlWrite f en mask) s (fun t => t = s)))

/-- Which entries start (R302), work held for a tile (R456, R459, R518) and a tile that is OFF (R464). -/
def Obligations.CommandsThatCannotRun : Prop :=
  ∀ (s : State) (f e : Nat) (motion holdup : BitVec 8) (vin : Option (BitVec 16)),
    ∀ p ∈ [(0x00, Instr.nop f e), (0x01, .listAttach f e), (0x02, .listDetach f e), (0x08, .pointAlloc f e),
        (0x09, .pointFree f e), (0x0A, .pointConfig f e), (0x0B, .pointShare f e), (0x0C, .imageSet f e),
        (0x10, .ruleSet f e), (0x11, .alertBind f e), (0x18, .allowlistSet f e), (0x19, .nodePromote f e),
        (0x1F, .abort f e), (0x20, .leasepolicySet f e), (0x21, .leaseSet f e), (0x22, .nodeAdmit f e),
        (0x23, .nodeUnbind f e), (0x24, .nodeRelease f e), (0x30, .tenantCreate f e), (0x31, .tenantShare f e),
        (0x32, .tenantFreeze f e), (0x33, .tenantThaw f e), (0x34, .tenantSave f e), (0x35, .tenantRestore f e),
        (0x36, .tenantDestroy f e), (0x40, .fwSession f e), (0x41, .fwChunk f e), (0x42, .fwVerify f e),
        (0x43, .fwActivate f e motion holdup vin), (0x44, .fwConfirm f e), (0x48, .settingsSave f e), (0x50, .powerSet f e)],
      (s.ready = false ∨ s.alive f = false ∨ s.paused = true ∨ s.entry? f e p.1 = none →
        completes p.2 s (fun t => t = s)) ∧
      (∀ x : Entry, s.ready = true → s.alive f = true → s.paused = false → s.entry? f e p.1 = some x →
        (s.onDeadTile x = none → s.heldWork f x = true → completes p.2 s (fun t => t = s)) ∧
        (∀ n : Nat, s.onDeadTile x = some n → s.cqTakes f x → completes p.2 s (told f x false 0 0xA0 n 0 s)))

/-- Schedule lists (R179, R185-R188, R190, R215). -/
def Obligations.ScheduleLists : Prop :=
  ∀ (s : State) (f : Nat),
    (∀ (e : Nat) (x : Entry), s.cqTakes f x →
      let g := bits x.target 0 7
      (s.runs f e 0x01 x →
        (s.hasPort g = true → completes (.listAttach f e) s (fun t => told f x false 0 0 0 0 s t ∧
          (t.list f g).st = .idle ∧ (t.list f g).addr = x.addr ∧ (t.list f g).gen = none)) ∧
        (s.hasPort g = false → completes (.listAttach f e) s (told f x false 0 6 2 0 s))) ∧
      (s.runs f e 0x02 x →
        (s.hasPort g = true → completes (.listDetach f e) s (fun t => told f x false 0 0 0 0 s t ∧
          (t.list f g).st = .detached ∧ (t.list f g).gen = none ∧ (t.list f g).base = {} ∧ (t.plan g).causeNext = true)) ∧
        (s.hasPort g = false → completes (.listDetach f e) s (told f x false 0 6 2 0 s)))) ∧
    (∀ v : W32, s.pagesOpen f = true → s.stage = 0 →
      let g := min (v.toNat % 128) (s.portCount - 1)
      ((s.list f g).st = .stopped → completes (.dblSchedWrite f v) s (fun t =>
        t.list f g = { s.list f g with st := .idle, restart := true })) ∧
      ((s.list f g).st ≠ .stopped → completes (.dblSchedWrite f v) s (fun t => t.lists = s.lists))) ∧
    (∀ (g err : Nat) (d : List Byte),
      ((s.list f g).st ≠ .header → completes (.listHeaderReadDone f g err d) s (fun t => t = s)) ∧
      ((s.list f g).st = .header → s.listsFrozen f = false →
        (err ≠ 0 → completes (.listHeaderReadDone f g err d) s (fun t =>
          (t.list f g).st = .stopped ∧ (t.list f g).reason = 1)) ∧
        ((s.list f g).restart = false → (s.list f g).gen = some (byteField d 8 8) ∨ byteField d 8 8 % 2 = 1 →
          completes (.listHeaderReadDone f g 0 d) s (fun t => t.list f g = { s.list f g with st := .idle })) ∧
        ((s.list f g).restart = false → byteField d 8 8 = 0 → (s.list f g).gen ≠ some 0 → s.handleRoom f →
          completes (.listHeaderReadDone f g 0 d) s (fun t => (t.list f g).st = .idle ∧ (t.list f g).gen = some 0 ∧
            (t.plan g).cause = true ∧ (f, (s.fn f).nextSeq) ∈ (t.plan g).pendingGens)) ∧
        ((s.list f g).restart = true ∨
            byteField d 8 8 ≠ 0 ∧ byteField d 8 8 % 2 = 0 ∧ (s.list f g).gen ≠ some (byteField d 8 8) →
          s.handleRoom f → s.dmaOk f = true → completes (.listHeaderReadDone f g 0 d) s (fun t =>
            (t.list f g).st = .fetching ∧ (t.list f g).fetchGen = byteField d 8 8 ∧
            (t.list f g).fetchSeq = (s.fn f).nextSeq ∧
            (segCount d ≠ 0 → Output.dmaRead f ((s.list f g).addr + 64) (32 * segCount d) ∈ t.sent) ∧
            (mapCount d ≠ 0 → Output.dmaRead f (mapAddr d) (8 * mapCount d) ∈ t.sent))))) ∧
    (∀ (g err seg idx gen2 : Nat) (heads bodies : List (List Byte)) (pmap : List Byte),
      let need := heads.foldl (fun a h => a + segCount h) 0 + (mapCount (heads[0]?.getD []) + 3) / 4
      ((s.list f g).st ≠ .fetching →
        completes (.listFetchDone f g err seg idx heads bodies pmap gen2) s (fun t => t = s)) ∧
      ((s.list f g).st = .fetching →
        (err ≠ 0 → completes (.listFetchDone f g err seg idx heads bodies pmap gen2) s (fun t =>
          (t.list f g).st = .stopped ∧ (t.list f g).reason = (if err = 8 then 8 else 1) ∧ (t.list f g).seg = seg ∧
          (t.list f g).idx = idx)) ∧
        (∀ r i : Nat, chainFails g 0 [] (s.list f g).addr heads = some (r, i) →
          completes (.listFetchDone f g 0 seg idx heads bodies pmap gen2) s (fun t =>
            (t.list f g).st = .stopped ∧ (t.list f g).reason = r ∧ (t.list f g).seg = i ∧ (t.list f g).idx = 0)) ∧
        (chainFails g 0 [] (s.list f g).addr heads = none →
          ((s.list f g).fetchUnits + (s.fn f).fetchLeft < need →
            completes (.listFetchDone f g 0 seg idx heads bodies pmap gen2) s (fun t =>
              t.list f g = { s.list f g with fetchUnits := (s.list f g).fetchUnits + (s.fn f).fetchLeft } ∧
              (t.fn f).fetchLeft = 0)) ∧
          (need ≤ (s.list f g).fetchUnits + (s.fn f).fetchLeft → s.dmaOk f = true →
            (gen2 = (s.list f g).fetchGen → completes (.listFetchDone f g 0 seg idx heads bodies pmap gen2) s (fun t =>
              (t.list f g).st = .idle ∧ (t.list f g).gen = some gen2 ∧ (t.plan g).cause = true ∧
              (f, (s.list f g).fetchSeq) ∈ (t.plan g).pendingGens)) ∧
            (gen2 ≠ (s.list f g).fetchGen → completes (.listFetchDone f g 0 seg idx heads bodies pmap gen2) s (fun t =>
              (t.list f g).st = .idle ∧ (t.list f g).gen = (s.list f g).gen ∧ (t.plan g).pendingGens = (s.plan g).pendingGens ∧
              ∀ h ∈ (t.fn f).handles, h.seq ≠ (s.list f g).fetchSeq))))))

/-- Compiles, loads and swaps (R204-R207, R209), the lock (R58), the shrink deadline (R213). A grant that stands on the new
Accord at SWAP_TICK_FIXED: log entry 104. -/
def Obligations.CompilesAndSwaps : Prop :=
  ∀ (s : State) (g : Nat),
    (s.hasPort g = true → s.ready = true → (s.tl (g / 16)).ready = true → (s.plan g).idleSt = .empty → (s.plan g).cause = true →
      (s.listFns g).any (fun f => (s.list f g).st == .fetching) = false → completes (.compileStart g) s (fun t =>
        (t.plan g).idleSt = .compiling ∧ (t.plan g).cause = false ∧ (t.plan g).taken = (s.plan g).pendingGens ∧
        (t.plan g).pendingGens = [] ∧ (t.plan g).run = (s.plan g).run ∧
        (s.listFns g = [] → (s.plan g).run.entries.all (fun e => !s.listsFrozen e.func && !e.muteAfter) = true →
          (t.plan g).idle.entries = []))) ∧
    ((s.plan g).idleSt ≠ .empty ∨ (s.plan g).cause = false → completes (.compileStart g) s (fun t => t = s)) ∧
    ((s.plan g).idleSt = .compiling →
      (sameEntries (s.plan g).idle.entries (s.plan g).run.entries = true → (s.plan g).idle.sampleOff = (s.plan g).run.sampleOff →
        completes (.compileDone g) s (fun t =>
          (t.plan g).idleSt = .empty ∧ (t.plan g).idle.entries = [] ∧ (t.plan g).run = (s.plan g).run)) ∧
      (sameEntries (s.plan g).idle.entries (s.plan g).run.entries = false ∨
          (s.plan g).idle.entries ≠ [] ∧ (s.plan g).idle.sampleOff ≠ (s.plan g).run.sampleOff →
        completes (.compileDone g) s (fun t => (t.plan g).idleSt = .loading ∧ (t.plan g).run = (s.plan g).run ∧
          (t.plan g).idle.planid = planNext (s.plan g).run.planid ∧
          (t.plan g).idle.entries.length = (s.plan g).idle.entries.length))) ∧
    ((s.plan g).idleSt ≠ .compiling → completes (.compileDone g) s (fun t => t = s)) ∧
    ((s.plan g).idleSt = .loading →
      (s.loading g (s.plan g).idle.planid = false →
        completes (.accordReady g) s (fun t => t.plan g = { s.plan g with idleSt := .ready })) ∧
      (s.loading g (s.plan g).idle.planid = true → completes (.accordReady g) s (fun t => t = s))) ∧
    ((s.plan g).idleSt = .ready → (s.plan g).fixed = none → s.holdSwap g = false → s.time.pending = false →
      (s.tl (g / 16)).ready = true → (s.time.tick + 8) % s.frameLen = 0 →
      (∀ x ∈ (s.port g).grants, x.tick = s.time.tick + 8 →
        ∀ b ∈ upRun x.len x.upslot, b ∉ (s.plan g).idle.busyUp (s.time.tick + 8)) →
      completes (.swapTickFixed g) s (fun t => t.plan g = { s.plan g with fixed := some (s.time.tick + 8) })) ∧
    ((s.plan g).fixed = some s.time.tick → completes (.accordSwap g) s (fun t =>
      (t.plan g).run = { (s.plan g).idle with swapTick := s.time.tick, covers := [] } ∧ (t.plan g).idleSt = .empty ∧
      (t.plan g).fixed = none ∧ (t.plan g).lastSwap = s.time.tick ∧
      (t.plan g).swaps = min (2 ^ 64 - 1) ((s.plan g).swaps + 1) ∧
      ((s.plan g).idle.entries ≠ [] → t.time.locked = true))) ∧
    ((s.plan g).fixed ≠ some s.time.tick → completes (.accordSwap g) s (fun t => t = s)) ∧
    (∀ f dl : Nat, (s.list f g).deadline = some dl →
      (s.time.tick < dl → completes (.shrinkDeadline f g) s (fun t => t = s)) ∧
      (dl ≤ s.time.tick → s.time.tick % s.frameLen = 0 →
        (s.plan g).taken.any (·.1 == f) = false → (s.plan g).idle.covers.any (·.func == f) = false →
        completes (.shrinkDeadline f g) s (fun t => (t.list f g).deadline = none ∧
          (s.exceeds f g true = true ∨ s.exceeds f g false = true →
            ∀ x ∈ s.shrinkOut f g, ∀ e ∈ (t.plan g).run.entries, e.func = f → e.node = x.1 → e.xid = x.2.1 → e.mute = true))))

/-- Point memory (R223-R230, R242, R260, R263). -/
def Obligations.PointsAndRecords : Prop :=
  ∀ (s : State) (f e : Nat) (x : Entry),
    (s.cqTakes f x →
      let p := x.target % 2 ^ 23
      let g := granuleRange x
      (s.hasTile (ptTile p) = true →
        (s.runs f e 0x08 x →
          completes (.pointAlloc f e) s (fun t =>
            (∃ n ∈ List.range (g.2.1 + 1), ∃ l ∈ List.range (g.2.1 + g.2.2.length + 1), told f x false n 0 0 l s t) ∧
            ∀ gr : Nat,
              (s.ownerCode (64 * gr) ≠ 0 ∨ gr < g.1 ∨ g.1 + g.2.1 ≤ gr → t.ownerCode (64 * gr) = s.ownerCode (64 * gr)) ∧
              (t.ownerCode (64 * gr) = s.ownerCode (64 * gr) ∨ t.ownerCode (64 * gr) = f + 1)) ∧
          (g.2.1 = 1 →
            (s.allocated (64 * g.1) = false → s.mayClaim f (ptTile (64 * g.1)) = true → completes (.pointAlloc f e) s (fun t =>
              told f x false 1 0 0 g.2.2.length s t ∧ ∀ i < 64, t.owns f (64 * g.1 + i) = true ∧
                t.record (64 * g.1 + i) = 0x0040FFFF00000000)) ∧
            (s.allocated (64 * g.1) = true ∨ s.mayClaim f (ptTile (64 * g.1)) = false → completes (.pointAlloc f e) s (fun t =>
              told f x false 0 0 0 (g.2.2.length + (if s.owns f (64 * g.1) then 0 else 1)) s t ∧ t.pim = s.pim ∧
              t.owners = s.owners)))) ∧
        (s.runs f e 0x09 x → s.handleRoom f → completes (.pointFree f e) s
          (accepted f x (.pointFree ((List.range g.2.1).map (g.1 + ·))) true g.2.2.length s)) ∧
        (s.runs f e 0x0B x → s.handleRoom f → completes (.pointShare f e) s (fun t => ∃ n ∈ List.range ((count16 x).1 + 3),
          accepted f x (.pointShare p (min (count16 x).1 (2 ^ 20 - ptLocal p)) (min (bits x.p0 0 10) 512) (bit x.p0 31)) true n s t))) ∧
      (s.hasTile (ptTile p) = false →
        (s.runs f e 0x08 x → completes (.pointAlloc f e) s (told f x false 0 6 4 0 s)) ∧
        (s.runs f e 0x09 x → completes (.pointFree f e) s (told f x false 0 6 4 0 s)) ∧
        (s.runs f e 0x0B x → completes (.pointShare f e) s (told f x false 0 6 4 0 s)))) ∧
    (s.runs f e 0x0A x → s.dmaOk f = true → completes (.pointConfig f e) s (reads f x (8 * (count16 x).1))) ∧
    (∀ (off size : Nat) (v : W64), s.mgrOpen → s.hasTile (ptTile (off / 8)) = true → (s.tl (ptTile (off / 8))).ready = true →
      s.accWaits (ptTile (off / 8)) = false → size = 4 ∨ size = 8 → off % size = 0 →
      let k := ptTile (off / 8)
      (∀ part : Bool, bit (s.pimCtl k) 0 = false → completes (.pimWindowWrite off size v part) s (fun t =>
        t.pim = s.pim ∧ t.errBit pPIM k 2 = true)) ∧
      (bit (s.pimCtl k) 0 = true →
        (∀ part : Bool, part = true ∨ off % 8 = 4 → completes (.pimWindowWrite off size v part) s (fun t =>
          t.pim = s.pim ∧ t.errBit pPIM k 30 = true)) ∧
        (off % 8 = 0 →
          (s.allocated (off / 8) = false → completes (.pimWindowWrite off size v false) s (fun t =>
            t.pim = s.pim ∧ t.errBit pPIM k 4 = true)) ∧
          (s.allocated (off / 8) = true →
            ((s.point (off / 8)).locks = [] → completes (.pimWindowWrite off size v false) s (fun t =>
              t.record (off / 8) = mkRec (v.toNat % 2 ^ 32) 0 0x03 (recSeq (s.record (off / 8)) + 1))) ∧
            ((s.point (off / 8)).locks ≠ [] → completes (.pimWindowWrite off size v false) s (fun t =>
              t.pim = s.pim ∧ t.errBit pPIM k 3 = true)))))) ∧
    (∀ (p : Nat) (scrub : Bool), s.allocated p = true → s.hasTile (ptTile p) = true → (s.tl (ptTile p)).ready = true →
      scrub = false ∨ bit (s.pimCtl (ptTile p)) 1 = true →
      completes (.pimScrub p 0 scrub) s (fun t => t = s) ∧
      completes (.pimScrub p 1 scrub) s (fun t => t.pim = s.pim ∧ bits (t.reg 0 pPIM (ptTile p) 0x04C) 0 16 =
        min 65535 (bits (s.reg 0 pPIM (ptTile p) 0x04C) 0 16 + 1)) ∧
      (∀ errs : Nat, 2 ≤ errs → completes (.pimScrub p errs scrub) s (fun t =>
        t.errBit pPIM (ptTile p) 0 = true ∧ t.reg 0 pPIM (ptTile p) 0x050 = ptLocal p ∧
        t.record p = if (s.point p).kind = 2
          then mkRec (if (s.point p).fsmode then (s.point p).preset else 0) 0 0x08 (recSeq (s.record p) + 1)
          else mkRec 0 0xFFFF 0x47 (recSeq (s.record p) + 1))))

/-- Image publishing and output images (R245-R254). -/
def Obligations.ImagesPublishAndApply : Prop :=
  ∀ (s : State) (f : Nat),
    (∀ (e : Nat) (x : Entry), s.runs f e 0x0C x → s.cqTakes f x → s.handleRoom f → completes (.imageSet f e) s (fun t =>
      accepted f x (.imageSet none) false 0 s t ∧ Output.dmaRead f x.addr 320 ∈ t.sent)) ∧
    (∀ (b frame : Nat) (full : Bool) (d : ImageDesc), (s.fn f).image.pub = some (b, frame, full) → (s.fn f).image.desc = some d →
      s.paused = false →
      (s.dmaOk f = true → completes (.publicationComplete f) s (fun t =>
        (t.fn f).image = { (s.fn f).image with
          latest := b
          imgframe := frame
          pub := none
          completed := ((s.fn f).image.completed.filter (· != b)) ++ [b] } ∧
        Output.imageWrite f (d.bufs[b]?.getD 0) (pubHeader (s.fn f).image b frame full) ∈ t.sent)) ∧
      (s.dmaOk f = false → completes (.publicationComplete f) s (fun t =>
        (t.fn f).image.pub = none ∧ (t.fn f).image.latest = (s.fn f).image.latest))) ∧
    (s.paused = true ∨ (s.fn f).image.pub = none → completes (.publicationComplete f) s (fun t => t = s)) ∧
    (s.pagesOpen f = true →
      completes (.imgHoldTake f) s (fun t => (t.fn f).image = { (s.fn f).image with held := (s.fn f).image.latest }) ∧
      completes (.imgHoldRelease f) s (fun t => (t.fn f).image = { (s.fn f).image with held := 3 })) ∧
    (s.pagesOpen f = false →
      completes (.imgHoldTake f) s (fun t => (t.fn f).image = (s.fn f).image) ∧
      completes (.imgHoldRelease f) s (fun t => (t.fn f).image = (s.fn f).image)) ∧
    (∀ d : ImageDesc, (s.fn f).image.desc = some d →
      let a := d.bufs[3 + (s.fn f).image.outsel]?.getD 0
      (s.imageRuns f = true → s.time.tick % s.frameLen = d.outpos → (s.fn f).image.outTick ≠ some s.time.tick →
        (a ≠ 0 → s.dmaOk f = true → completes (.outputImageReadStart f) s (fun t =>
          (t.fn f).image.outTick = some s.time.tick ∧ (t.fn f).image.outRead = some (s.fn f).image.outsel ∧
          (t.fn f).image.skipOut = (if (s.fn f).image.outRead.isSome then min 65535 ((s.fn f).image.skipOut + 1)
            else (s.fn f).image.skipOut) ∧
          ∀ k < s.tiles, s.publishes k = true → win d k 4 ≠ 0 → Output.imageRead f (a + win d k 5) (8 * win d k 4) ∈ t.sent)) ∧
        (a = 0 → completes (.outputImageReadStart f) s (fun t =>
          (t.fn f).image.outTick = some s.time.tick ∧ (t.fn f).image.outRead = none)) ∧
        (a ≠ 0 → s.dmaOk f = false → completes (.outputImageReadStart f) s (fun t => (t.fn f).image.error = true))) ∧
      (s.imageRuns f = false ∨ s.time.tick % s.frameLen ≠ d.outpos →
        completes (.outputImageReadStart f) s (fun t => t = s))) ∧
    (∀ (d : ImageDesc) (b err : Nat) (data : List (List Byte)), (s.fn f).image.desc = some d →
      (s.fn f).image.outRead = some b → s.imageRuns f = true →
      (err ≠ 0 → completes (.outputImageReadDone f err data) s (fun t => (t.fn f).image.outRead = none ∧
        (t.fn f).image.error = true ∧ (t.fn f).image.outWrites = (s.fn f).image.outWrites)) ∧
      completes (.outputImageReadDone f 0 data) s (fun t => (t.fn f).image.outRead = none ∧
        (t.fn f).image.error = false ∧ (t.fn f).image.outWrites = (s.fn f).image.outWrites ++
          ((List.range s.tiles).filter s.publishes).flatMap (fun k =>
            s.outEntries f k (win d k 3) (chunks 8 (win d k 4) (data[k]?.getD []))))) ∧
    ((s.fn f).image.outRead = none → ∀ (err : Nat) (data : List (List Byte)),
      completes (.outputImageReadDone f err data) s (fun t => t = s))

/-- Reflex (R265-R279) and fast alerts (R115, R281-R283). -/
def Obligations.ReflexAndAlerts : Prop :=
  ∀ s : State,
    (∀ k : Nat,
      (s.rfxRuns k = true → (s.tl k).rfxTick ≠ some s.time.tick →
        completes (.reflexWindow k) s (fun t => (t.tl k).rfxTick = some s.time.tick ∧ (t.tl k).cuts = []) ∧
        (∀ (key : Nat) (r : Rule), s.rulesOn k = [(key, r)] → (s.tl k).cuts = [] → s.unseen = [] →
          (∀ p ∈ r.e.inputs, ptTile p = k ∧ s.mayRead (ruleFn key) p = true ∧ goodRec (s.record p) = true) →
          (r.e.writes = true → s.outOk (ruleFn key) k r.e = true) →
          let r1 := r.evalGood (recVal (s.record r.e.ina)) (if r.e.qual = 0 then 0 else recVal (s.record r.e.inb))
          let w := ruleWrite r r1 (Rule.fires r r1)
          (w = none → completes (.reflexWindow k) s (fun t => t.pim = s.pim)) ∧
          (∀ v : Option Nat, w = some v →
            ((s.point r.e.out).locks = [] → completes (.reflexWindow k) s (fun t =>
              t.record r.e.out = mkRec (v.getD (recVal (s.record r.e.out) + 1) % 2 ^ 32) 0 0x21
                (recSeq (s.record r.e.out) + 1))) ∧
            ((s.point r.e.out).locks ≠ [] → completes (.reflexWindow k) s (fun t => t.pim = s.pim))))) ∧
      (s.rfxRuns k = false ∨ (s.tl k).rfxTick = some s.time.tick → completes (.reflexWindow k) s (fun t => t = s))) ∧
    (∀ k p : Nat,
      (s.copies.find? (fun c => c.1 == k && c.2.1 == p) = none → completes (.remoteInputCopy k p) s (fun t => t = s)) ∧
      (∀ c : Nat × Nat × Nat × Nat, s.copies.find? (fun c => c.1 == k && c.2.1 == p) = some c →
        (c.2.2.2 = s.time.tick → (s.tl k).rfxTick ≠ some s.time.tick → completes (.remoteInputCopy k p) s (fun t => t = s)) ∧
        (c.2.2.2 ≠ s.time.tick ∨ (s.tl k).rfxTick = some s.time.tick → completes (.remoteInputCopy k p) s (fun t =>
          nget 0 t.remote (k * 2 ^ 23 + p) = c.2.2.1 + 1 ∧ t.copies = s.copies.erase c ∧
          (c.2.2.2 + 1 < s.time.tick ∨ s.time.tick = c.2.2.2 + 1 ∧ (s.tl k).rfxTick = some s.time.tick →
            t.errBit pRFX k 1 = true))))) ∧
    (∀ (f e : Nat) (x : Entry), s.cqTakes f x →
      (s.runs f e 0x10 x →
        (s.handleRoom f → s.hasTile (bits x.target 16 3) = true → completes (.ruleSet f e) s (fun t =>
          accepted f x (.ruleSet (bits x.target 16 3) (x.target % 2 ^ 16) (count16 x).1 []) false (count16 x).2.length s t ∧
          Output.dmaRead f x.addr (48 * (count16 x).1) ∈ t.sent)) ∧
        (s.hasTile (bits x.target 16 3) = false → completes (.ruleSet f e) s (told f x false 0 6 1 0 s))) ∧
      (s.runs f e 0x11 x → s.hasPort (bits x.target 12 7) = true →
        (s.node (bits x.target 12 7) (bits x.target 0 12)).st ≠ .free →
        let key := nodeKey (bits x.target 12 7) (bits x.target 0 12)
        ((s.node (bits x.target 12 7) (bits x.target 0 12)).lessee = f → completes (.alertBind f e) s (fun t =>
          told f x false 0 0 0 0 s t ∧ (bit x.p0 31 = false → (key, x.p0 % 64) ∈ (t.fn f).binds) ∧
          (bit x.p0 31 = true → ∀ b ∈ (t.fn f).binds, b.1 ≠ key))) ∧
        ((s.node (bits x.target 12 7) (bits x.target 0 12)).lessee ≠ f →
          completes (.alertBind f e) s (told f x false 0 0x61 0 0 s)))) ∧
    (∀ (g blk : Nat) (mis : Bool) (w : W64),
      (s.hopUp g = false ∨ s.hasPort g = false → completes (.alertReceived g blk mis w) s (fun t => t = s)) ∧
      (s.hopUp g = true → s.hasPort g = true → blk % 20 = 0 →
        completes (.alertReceived g blk true w) s (fun t =>
          t.reg 0 pTPT g 0x070 = min (2 ^ 64 - 1) (s.reg 0 pTPT g 0x070 + 1)) ∧
        (blockOk 0x55 (toLe 8 w.toNat) = true →
          let b := toLe 8 w.toNat
          let n := byteField b 1 2 % 2 ^ 12
          let aseq := byteField b 1 2 / 2 ^ 12
          let f := (s.node g n).lessee
          let src := s.alertSrc f g n (byteField b 4 1 % 4)
          ((s.node g n).present = false → completes (.alertReceived g blk false w) s (fun t =>
            bits (t.reg 0 pFIB f 0x800) 16 16 = min 65535 (bits (s.reg 0 pFIB f 0x800) 16 16 + 1))) ∧
          ((s.node g n).present = true →
            ((s.node g n).aseq = some aseq → completes (.alertReceived g blk false w) s (fun t =>
              (t.fn f).latches = (s.fn f).latches ∧ (t.node g n).alertsFrame = (s.node g n).alertsFrame)) ∧
            ((s.node g n).aseq ≠ some aseq →
              (bits (s.misswin g) 8 8 ≤ (s.node g n).alertsFrame → completes (.alertReceived g blk false w) s (fun t =>
                (t.fn f).latches = (s.fn f).latches ∧
                bits (t.reg 0 pFIB f 0x800) 0 16 = min 65535 (bits (s.reg 0 pFIB f 0x800) 0 16 + 1))) ∧
              ((s.node g n).alertsFrame < bits (s.misswin g) 8 8 → completes (.alertReceived g blk false w) s (fun t =>
                (t.node g n).aseq = some aseq ∧ (t.node g n).alertsFrame = (s.node g n).alertsFrame + 1 ∧
                (if bit (s.fn f).fast.pend.toNat src = false ∧ bit (s.fn f).fast.cause.toNat src = false then
                  nget {} (t.fn f).latches src = {
                    origin := n, wher := g, isRule := false, code := byteField b 3 1, aprio := byteField b 4 1 % 4,
                    aseq := aseq, merged := 0, firstData := byteField b 5 2, lastData := byteField b 5 2
                    tick := s.time.tick % 2 ^ 32 }
                else nget {} (t.fn f).latches src = { nget {} (s.fn f).latches src with
                    merged := min 255 ((nget {} (s.fn f).latches src).merged + 1), lastData := byteField b 5 2 }) ∧
                ((s.fn f).fast.st ≠ .entry → src < 64 → bit (t.fn f).fast.pend.toNat src = true))))))))

/-- Next sets, STOP and CANCEL (R349-R351), the BCQ and its doorbell (R359, R360). -/
def Obligations.BulkJobs : Prop :=
  ∀ (s : State) (f v k : Nat), f ≠ 0 → s.pagesOpen f = true → s.viewChan f v = some k → s.chanOwner k = some (f, v) →
    (∀ ctl : W32,
      ((s.chan k).arm = true → completes (.nxtArm f v ctl) s (fun t => t.chan k = s.chan k ∧ t.errBit pBMC f 0 = true)) ∧
      ((s.chan k).arm = false → (s.chan k).st ≠ .idle → completes (.nxtArm f v ctl) s (fun t =>
        t.chan k = { s.chan k with nxt := { (s.chan k).nxt with ctl := ctl.toNat % 64 }, arm := true, cancelled := false })) ∧
      ((s.chan k).arm = false → (s.chan k).st = .idle → (s.fn f).st = .active → s.bmvQuiet (k / 32) = false →
        let j := { (s.chan k).nxt with ctl := ctl.toNat % 64 }
        let excess := !j.fixed && decide (j.naddr + j.len > 0xFF000000)
        (s.jobFails f k j = none → completes (.nxtArm f v ctl) s (fun t =>
          (t.chan k).cur = { j with len := if excess then 0xFF000000 - j.naddr else j.len } ∧ (t.chan k).cut = excess ∧
          (t.chan k).st = .run ∧ (t.chan k).arm = false ∧ (t.chan k).jobseq = ((s.chan k).jobseq + 1) % 256 ∧
          (t.chan k).bytes = 0 ∧ (t.chan k).bursts = 0 ∧ (t.chan k).shorts = 0)) ∧
        (∀ e : Nat × Nat, s.jobFails f k j = some e → s.bcqTakes f → completes (.nxtArm f v ctl) s (fun t =>
          (t.chan k).st = .idle ∧ (t.chan k).arm = false ∧ (t.chan k).jobseq = ((s.chan k).jobseq + 1) % 256 ∧
          bulkTold f v k { s.chan k with
            cur := { j with len := if excess then 0xFF000000 - j.naddr else j.len }, jobseq := ((s.chan k).jobseq + 1) % 256
            bytes := 0, bursts := 0, shorts := 0, doubt := false, cut := excess } e.1 e.2 s t)))) ∧
    ((s.chan k).arm = true → completes (.bulkCancel f v) s (fun t => t.chan k = { s.chan k with arm := false, cancelled := true })) ∧
    ((s.chan k).arm = false → completes (.bulkCancel f v) s (fun t => t.chans = s.chans)) ∧
    ((s.chan k).st = .run ∨ (s.chan k).st = .wait ∨ (s.chan k).st = .probe → (s.chan k).ends = none →
      ((s.chan k).out = [] → s.bcqTakes f → completes (.bulkStop f v) s (bulkTold f v k (s.chan k) 0x47 2 s)) ∧
      ((s.chan k).out ≠ [] → completes (.bulkStop f v) s (fun t =>
        t.chan k = { s.chan k with stopreq := true, st := .ending, ends := some (0x47, 2) }))) ∧
    ((s.chan k).st ≠ .run → (s.chan k).st ≠ .wait → (s.chan k).st ≠ .probe →
      completes (.bulkStop f v) s (fun t => t.chans = s.chans)) ∧
    (∀ h : BitVec 16, s.stage = 0 →
      let r := (s.fn f).bulk.ring
      (r.enable = false → completes (.bcqHeadDoorbell f h) s (fun t => t.errBit pBMC f 2 = true)) ∧
      (r.enable = true → r.stopped = true → completes (.bcqHeadDoorbell f h) s (fun t => (t.fn f).bulk = (s.fn f).bulk)) ∧
      (r.enable = true → r.stopped = false →
        (r.size ≤ h.toNat → completes (.bcqHeadDoorbell f h) s (fun t => (t.fn f).bulk.ring.stopped = true ∧
          (t.fn f).bulk.ring.reason = 3 ∧ (t.fn f).bulk.ring.latched = h.toNat)) ∧
        (h.toNat < r.size → r.freedBy h.toNat ≤ r.unfreed → completes (.bcqHeadDoorbell f h) s (fun t =>
          (t.fn f).bulk.ring = { r with tail := h.toNat, unfreed := r.unfreed - r.freedBy h.toNat })) ∧
        (h.toNat < r.size → r.unfreed < r.freedBy h.toNat → completes (.bcqHeadDoorbell f h) s (fun t =>
          (t.fn f).bulk.ring.stopped = true ∧ (t.fn f).bulk.ring.reason = 4 ∧ (t.fn f).bulk.ring.latched = h.toNat)))) ∧
    (∀ (irq : Bool) (b : List Byte) (rest : List (Nat × Bool × List Byte)), (s.fn f).bulk.recs = (k, irq, b) :: rest →
      (s.fn f).bulk.ring.running = true → 0 < (s.fn f).bulk.ring.room → s.paused = false → s.dmaOk f = true →
      (s.chan k).st = .hold → (s.chan k).arm = false → completes (.bulkRecordRelease f) s (fun t =>
        Output.dmaWrite f ((s.fn f).bulk.ring.base.toNat + 32 * (s.fn f).bulk.ring.head)
          (b ++ [BitVec.ofNat 8 (b2n (s.fn f).bulk.ring.phase)]) ∈ t.sent ∧
        (t.fn f).bulk.recs = rest ∧ t.chan k = { s.chan k with st := .idle })) ∧
    ((s.fn f).bulk.recs = [] → completes (.bulkRecordRelease f) s (fun t => t = s))

/-- Answers (R353, R355, R357, R358), probes and the wait limit (R358), host reads (R357, R366). -/
def Obligations.BulkAnswers : Prop :=
  ∀ (s : State) (n c f v : Nat), c < 32 → s.chanOwner (n * 32 + c) = some (f, v) →
    let k := n * 32 + c
    let g := (s.chan k).cur.port
    let m := (s.chan k).cur.nodeNo
    (∀ (q : Nat) (b : Burst), q < 8 → s.burst? k q = some b →
      (b.probe = false → (s.chan k).cur.up = false →
        (∀ (hb : RxBlock) (body : List RxBlock) (bres : Nat), bres ≤ 3 → comes hb body m 3 (bulkXid c q false false + 1024 * bres) 1 →
          let a := bits (bodyNum hb.bytes body) 0 6
          (bres = 0 → a ≤ b.len - 1 → (s.chan k).arm = false ∨ ((s.chan k).ends = none ∧ 8 * a < (s.chan k).cur.len) → completes (.bulkBurstReply n c q false (hb :: body)) s (fun t =>
            (t.chan k).bytes = (s.chan k).bytes + 8 * a ∧ (t.chan k).cur.len = (s.chan k).cur.len - 8 * a ∧
            (t.chan k).cur.host = (s.chan k).cur.host + 8 * a ∧
            (a < b.len - 1 → (t.chan k).shorts = min 65535 ((s.chan k).shorts + 1)) ∧
            (a < b.len - 1 → 8 * a < (s.chan k).cur.len → (s.chan k).st = .run → (s.chan k).short = false →
              (s.chan k).ends = none → (s.fn f).st = .active → (s.chan k).out = [b] →
              (t.chan k).st = .wait ∧ (t.chan k).probeAt = (if bit (bodyNum hb.bytes body) 8 then s.time.tick
                else s.time.tick + 2 ^ bits (s.bmcWait f) 16 5)))) ∧
          (bres ≠ 0 → (s.chan k).out = [b] → (s.chan k).ends = none → s.bcqTakes f →
            completes (.bulkBurstReply n c q false (hb :: body)) s (bulkTold f v k (s.chan k) 0x43 bres s))) ∧
        (∀ (mis : Bool) (blocks : List RxBlock), mis = true ∨ blocks = [] →
          (b.misses < 2 → completes (.bulkBurstReply n c q mis blocks) s (fun t =>
            t.chan k = { s.chan k with
              out := (s.chan k).out.map (fun x => if x.bseq = b.bseq then { x with misses := x.misses + 1 } else x) } ∧
            grantsRun g m 3 2 (c + 32 * q) t)) ∧
          (2 ≤ b.misses → (s.chan k).out = [b] → (s.chan k).ends = none → s.bcqTakes f →
            completes (.bulkBurstReply n c q mis blocks) s (bulkTold f v k { s.chan k with doubt := true } 0x42 0 s))) ∧
        (∀ (hb : RxBlock) (body : List RxBlock), hb.isHeader = true → hOk hb.bytes = true → hNode hb.bytes ≠ m →
          answers (.bulkBurstReply n c q false (hb :: body)) s (hostile g m 1 s))) ∧
      (b.probe = true → ∀ (hb : RxBlock) (body : List RxBlock),
        comes hb body m 3 (bulkXid c q (s.chan k).cur.up true) 1 → bits (bodyNum hb.bytes body) 0 6 = 0 → (s.chan k).ends = none →
        completes (.bulkBurstReply n c q false (hb :: body)) s (fun t =>
          (t.chan k).st = if bit (bodyNum hb.bytes body) 8 then .run else .wait)) ∧
      (b.probe = false → (s.chan k).cur.up = true →
        (∀ (l : Nat) (hb : RxBlock) (body : List RxBlock), l ≤ b.len → comes hb body m 3 (bulkXid c q true false) l →
          let p := bodyBytes hb.bytes body
          let w := min (8 * (l - 1)) (s.chan k).cur.len
          byteField p 0 4 = b.naddr → s.dmaOk f = true → (s.chan k).arm = false ∨ ((s.chan k).ends = none ∧ w < (s.chan k).cur.len) → completes (.bulkRequestAnswer n c q false (hb :: body)) s (fun t =>
            (w ≠ 0 → Output.bulkWrite f (s.chan k).cur.host ((p.drop 4).take w) ∈ t.sent) ∧
            (t.chan k).bytes = (s.chan k).bytes + w ∧ (t.chan k).cur.len = (s.chan k).cur.len - w ∧
            (l < b.len → (t.chan k).shorts = min 65535 ((s.chan k).shorts + 1)))) ∧
        (∀ (mis : Bool) (blocks : List RxBlock), mis = true ∨ blocks = [] → b.misses < 2 →
          completes (.bulkRequestAnswer n c q mis blocks) s (fun t =>
            t.chan k = { s.chan k with
              out := (s.chan k).out.map (fun x => if x.bseq = b.bseq then { x with misses := x.misses + 1 } else x) } ∧
            grantsRun g m 3 (b.len + 1) (c + 32 * q) t)))) ∧
    (∀ (q : Nat) (mis : Bool) (blocks : List RxBlock), s.burst? k q = none →
      completes (.bulkBurstReply n c q mis blocks) s (fun t => t = s) ∧
      completes (.bulkRequestAnswer n c q mis blocks) s (fun t => t = s)) ∧
    ((s.chan k).st = .wait → s.hopUp g = true → s.bmvQuiet n = false →
      ((s.chan k).probeAt ≤ s.time.tick → 2 ≤ (s.downFree g).2 →
        completes (.bulkProbeDue n c) s (fun t => (t.chan k).st = .probe ∧ (t.chan k).out = (s.chan k).out ++
          [{ bseq := (s.chan k).bseq, len := 1, probe := true
             naddr := if (s.chan k).cur.fixed then (s.chan k).cur.naddr else (s.chan k).cur.naddr + (s.chan k).inFlight }])) ∧
      (s.time.tick < (s.chan k).probeAt → completes (.bulkProbeDue n c) s (fun t => t = s))) ∧
    ((s.chan k).st = .wait ∨ (s.chan k).st = .probe → bits (s.bmcWait f) 0 13 ≠ 0 → s.bcqTakes f →
      completes (.bulkWaitLimit n c) s (bulkTold f v k (s.chan k) 0x47 1 s)) ∧
    (∀ (w : Nat) (d : List Byte), (s.chan k).reading = some w →
      completes (.bulkHostReadDone n c 0 d) s (fun t =>
        t.chan k = { s.chan k with reading := none, buf := (s.chan k).buf ++ d.take w }) ∧
      (∀ err : Nat, err ≠ 0 → (s.chan k).buf.length < 8 → (s.chan k).out = [] → (s.chan k).ends = none → s.bcqTakes f →
        completes (.bulkHostReadDone n c err d) s (bulkTold f v k (s.chan k) 0x20 err s)) ∧
      (∀ err : Nat, err ≠ 0 → 8 ≤ (s.chan k).buf.length → completes (.bulkHostReadDone n c err d) s (fun t =>
        t.chan k = { s.chan k with reading := none, readErr := some (0x20, err) }))) ∧
    ((s.chan k).reading = none → ∀ (err : Nat) (d : List Byte), completes (.bulkHostReadDone n c err d) s (fun t => t = s))

/-- TENANT_CREATE to TENANT_DESTROY (R371, R372, R376, R379, R384-R393). -/
def Obligations.TenantCommands : Prop :=
  ∀ (s : State) (e : Nat) (x : Entry), s.cqTakes 0 x →
    let u := x.target % 1024
    (∀ p ∈ [(0x30, Instr.tenantCreate 0 e), (0x31, .tenantShare 0 e), (0x32, .tenantFreeze 0 e), (0x33, .tenantThaw 0 e),
        (0x34, .tenantSave 0 e), (0x35, .tenantRestore 0 e), (0x36, .tenantDestroy 0 e)], s.runs 0 e p.1 x →
      (u = 0 ∨ 512 < u ∨ s.numVfs < u → completes p.2 s (told 0 x false 0 6 5 0 s)) ∧
      (1 ≤ u → u ≤ 512 → u ≤ s.numVfs →
        (∀ h : Handle, s.tenantOp u = some h → completes p.2 s (told 0 x false 0 8 (h.seq % 256) 0 s)) ∧
        (s.tenantOp u = none → (s.fn u).st = .none → p.1 ≠ 0x30 → p.1 ≠ 0x35 → completes p.2 s (told 0 x false 0 6 5 0 s)))) ∧
    (1 ≤ u → u ≤ 512 → u ≤ s.numVfs → s.tenantOp u = none →
      (s.runs 0 e 0x30 x →
        ((s.fn u).st ≠ .none → completes (.tenantCreate 0 e) s (told 0 x false 0 0x66 0 0 s)) ∧
        ((s.fn u).st = .none →
          (x.addr % 64 ≠ 0 → completes (.tenantCreate 0 e) s (told 0 x false 0 9 2 0 s)) ∧
          (x.addr % 64 = 0 → s.handleRoom 0 → completes (.tenantCreate 0 e) s (fun t =>
            accepted 0 x (.tenantCreate u none) false 0 s t ∧ (t.fn u).st = .creating ∧
            Output.dmaRead 0 x.addr 1216 ∈ t.sent)))) ∧
      (s.runs 0 e 0x35 x →
        ((s.fn u).st ≠ .none → completes (.tenantRestore 0 e) s (told 0 x false 0 0x66 0 0 s)) ∧
        ((s.fn u).st = .none → s.handleRoom 0 → completes (.tenantRestore 0 e) s (fun t =>
          accepted 0 x (.tenantRestore u x.addr) false 0 s t ∧ (t.fn u).st = .restoring ∧
          Output.dmaRead 0 x.addr 4194304 ∈ t.sent))) ∧
      ((s.fn u).st ≠ .none →
        (s.runs 0 e 0x31 x →
          (x.addr % 64 ≠ 0 → completes (.tenantShare 0 e) s (told 0 x false 0 9 2 0 s)) ∧
          (x.addr % 64 = 0 → s.handleRoom 0 → completes (.tenantShare 0 e) s (fun t =>
            accepted 0 x (.tenantShare u none) false 0 s t ∧ Output.dmaRead 0 x.addr 1216 ∈ t.sent))) ∧
        (s.runs 0 e 0x32 x →
          ((s.fn u).st = .active → s.handleRoom 0 → completes (.tenantFreeze 0 e) s (fun t =>
            accepted 0 x (.tenantFreeze u) true 0 s t ∧ (t.fn u).st = .freezing)) ∧
          ((s.fn u).st = .frozen → completes (.tenantFreeze 0 e) s (told 0 x false 0 0 0 0 s)) ∧
          ((s.fn u).st ≠ .active → (s.fn u).st ≠ .frozen → completes (.tenantFreeze 0 e) s (told 0 x false 0 0x0B 3 0 s))) ∧
        (s.runs 0 e 0x33 x →
          ((s.fn u).st = .frozen → s.handleRoom 0 → completes (.tenantThaw 0 e) s (accepted 0 x (.tenantThaw u) true 0 s)) ∧
          ((s.fn u).st = .active → completes (.tenantThaw 0 e) s (told 0 x false 0 0 0 0 s)) ∧
          ((s.fn u).st ≠ .active → (s.fn u).st ≠ .frozen → completes (.tenantThaw 0 e) s (told 0 x false 0 0x0B 3 0 s))) ∧
        (s.runs 0 e 0x34 x →
          ((s.fn u).st = .frozen → s.handleRoom 0 →
            completes (.tenantSave 0 e) s (accepted 0 x (.tenantSave u x.addr) false 0 s)) ∧
          ((s.fn u).st = .active → s.handleRoom 0 → completes (.tenantSave 0 e) s (fun t =>
            accepted 0 x (.tenantSave u x.addr) false 0 s t ∧ (t.fn u).st = .freezing)) ∧
          ((s.fn u).st ≠ .active → (s.fn u).st ≠ .frozen → completes (.tenantSave 0 e) s (told 0 x false 0 0x0B 3 0 s))) ∧
        (s.runs 0 e 0x36 x → s.handleRoom 0 → completes (.tenantDestroy 0 e) s (fun t =>
          accepted 0 x (.tenantDestroy u) true 0 s t ∧ (t.fn u).st = .resetting ∧ (t.fn u).resetCause = 3))))

/-- SR-IOV enable (R368, R370), function-level reset (R382, R393) and the freeze's end (R384, R388). -/
def Obligations.FreezeAndResets : Prop :=
  ∀ (s : State) (f : Nat),
    (s.ari = true → completes .vfEnableSet s (fun t => t = { s with vfEnable := true })) ∧
    (s.ari = false → completes .vfEnableSet s (fun t => t.vfEnable = s.vfEnable ∧ t.errBit pTPL 0 1 = true)) ∧
    (s.vfEnable = true → completes .vfEnableClear s (fun t => t.vfEnable = false ∧
      (s.fns.map (·.1) = [f] → s.resettable f = true → (t.fn f).st = .resetting ∧ (t.fn f).resetCause = 2) ∧
      ((∀ x ∈ s.fns, (s.fn x.1).st ≠ .creating ∧ (s.fn x.1).st ≠ .restoring ∧ s.resettable x.1 = false) →
        t = { s with vfEnable := false }))) ∧
    (s.vfEnable = false → completes .vfEnableClear s (fun t => t = s)) ∧
    (s.ready = true → s.reach f = true → s.resettable f = true → completes (.flrInitiate f) s (fun t =>
      (t.fn f).st = .resetting ∧ (t.fn f).resetCause = 1 ∧ (t.fn f).resetTick = s.time.tick ∧ (t.fn f).entries = [] ∧
      (t.fn f).handles = [] ∧ (t.fn f).share = (s.fn f).share)) ∧
    (s.ready = false ∨ s.reach f = false ∨ s.resettable f = false → completes (.flrInitiate f) s (fun t => t = s)) ∧
    ((s.fn f).st = .resetting → s.resetQuiet f = true →
      (s.mgrOp (· == .tenantDestroy f) = none → completes (.tenantServicePoint f) s (fun t =>
        t.fn f = (s.fn f).wiped .active)) ∧
      (f ≠ 0 → (s.mgrOp (· == .tenantDestroy f)).isSome = true → completes (.tenantServicePoint f) s (fun t =>
        t.fn f = (s.fn f).wiped .destroying))) ∧
    ((s.fn f).st ≠ .resetting ∨ s.resetQuiet f = false → completes (.tenantServicePoint f) s (fun t => t = s)) ∧
    (f ≠ 0 → (s.fn f).st = .freezing →
      (s.freezeDrained f = true → completes (.freezeDrainComplete f) s (fun t =>
        (t.fn f).st = .frozen ∧ (t.fn f).frozeTick = s.time.tick ∧ (t.fn f).frozePt = s.time.plant)) ∧
      (s.freezeDrained f = false → completes (.freezeDrainComplete f) s (fun t => t = s)) ∧
      completes (.freezeTimeout f) s (fun t => (t.fn f).st = .frozen)) ∧
    ((s.fn f).st ≠ .freezing → completes (.freezeDrainComplete f) s (fun t => t = s) ∧
      completes (.freezeTimeout f) s (fun t => t = s))

/-- ABORT (R313, R314) and reads that fail or time out (R157, R161, R185, R254, R299, R315, R362). -/
def Obligations.AbortsAndStructureReads : Prop :=
  ∀ (s : State) (f : Nat),
    (∀ (e : Nat) (x : Entry), s.runs f e 0x1F x → s.cqTakes f x →
      let hf := x.target / 2 ^ 22
      let seq := x.target % 2 ^ 22
      (f = 0 ∨ hf = f → ∀ h : Handle, s.handle? hf seq = some h → h.assigned = true →
        (h.word = .pending → completes (.abort f e) s (fun t =>
          t = finish f x false 0 0 0 [] (undoOp hf h (endHandle hf h.seq .aborted 2 0 0 s)))) ∧
        (∀ u : Nat, h.word = .pending → h.done = false → h.op = .tenantThaw u → completes (.abort f e) s (fun t =>
          told f x false 0 0 0 0 s t ∧ ∃ y ∈ (t.fn hf).handles,
            y.seq = h.seq ∧ y.word = .aborted ∧ y.status = 2 ∧ y.done = true)) ∧
        (h.word = .committed → completes (.abort f e) s (told f x false 0 3 0 0 s)) ∧
        (h.word = .aborted ∨ h.word = .failed → completes (.abort f e) s (told f x false 0 3 1 0 s))) ∧
      (f ≠ 0 ∧ hf ≠ f ∨ (s.handle? hf seq).filter Handle.assigned = none →
        (hf = f → recentSeq (s.fn f).nextSeq seq = true → completes (.abort f e) s (told f x false 0 3 2 0 s)) ∧
        (hf ≠ f ∨ recentSeq (s.fn f).nextSeq seq = false → completes (.abort f e) s (told f x false 0 4 0 0 s)))) ∧
    (∀ (i err seg idx : Nat) (d : List Byte),
      (∀ x : Entry, s.readingEntry f i = some x → s.cqTakes f x →
        (err ≠ 0 → completes (.commandStructureReadDone f false i err d) s (told f x false 0 0x20 err 0 s)) ∧
        completes (.dmaReadTimeout 3 f i seg idx) s (told f x false 0 0x21 0 0 s)) ∧
      (s.readingEntry f i = none → completes (.commandStructureReadDone f false i err d) s (fun t => t = s) ∧
        completes (.dmaReadTimeout 3 f i seg idx) s (fun t => t = s)) ∧
      (s.awaitsRead f i = none → completes (.commandStructureReadDone f true i err d) s (fun t => t = s) ∧
        completes (.dmaReadTimeout 4 f i seg idx) s (fun t => t = s)) ∧
      (∀ h : Handle, s.awaitsRead f i = some h →
        (∀ (u : Nat) (sh : Option Share) (a : Nat), h.op = .tenantCreate u sh ∨ h.op = .tenantRestore u a → u ≠ f) →
        (err ≠ 0 → completes (.commandStructureReadDone f true i err d) s (fun t =>
          ∃ y ∈ (t.fn f).handles, y.seq = i ∧ y.word = .failed ∧ y.status = 0x20 ∧ y.detail = err)) ∧
        completes (.dmaReadTimeout 4 f i seg idx) s (fun t =>
          ∃ y ∈ (t.fn f).handles, y.seq = i ∧ y.word = .failed ∧ y.status = 0x21 ∧ y.detail = 0)) ∧
      (∀ k : Nat, (s.fn f).fetch i = some k → completes (.dmaReadTimeout 0 f i seg idx) s (fun t =>
        (t.fn f).fetch i = none ∧ (t.sqR f i).stopped = true ∧ (t.sqR f i).reason = 6)) ∧
      ((s.fn f).fetch i = none → completes (.dmaReadTimeout 0 f i seg idx) s (fun t => t = s)) ∧
      ((s.list f i).st = .header → completes (.dmaReadTimeout 1 f i seg idx) s (fun t =>
        (t.list f i).st = .stopped ∧ (t.list f i).reason = 2 ∧ (t.list f i).seg = 0 ∧ (t.list f i).idx = 0)) ∧
      ((s.list f i).st = .fetching → completes (.dmaReadTimeout 1 f i seg idx) s (fun t =>
        (t.list f i).st = .stopped ∧ (t.list f i).reason = 2 ∧ (t.list f i).seg = seg ∧ (t.list f i).idx = idx)) ∧
      ((s.list f i).st ≠ .header → (s.list f i).st ≠ .fetching →
        completes (.dmaReadTimeout 1 f i seg idx) s (fun t => t = s)) ∧
      ((s.fn f).image.outRead.isSome = true → completes (.dmaReadTimeout 2 f i seg idx) s (fun t =>
        (t.fn f).image.outRead = none ∧ (t.fn f).image.error = true)) ∧
      ((s.fn f).image.outRead = none → completes (.dmaReadTimeout 2 f i seg idx) s (fun t => t = s)) ∧
      ((s.chan f).reading.isSome = true → (s.chan f).ends = none →
        ((s.chan f).out ≠ [] → completes (.dmaReadTimeout 5 f i seg idx) s (fun t =>
          (t.chan f).reading = none ∧ (t.chan f).st = .ending ∧ (t.chan f).ends = some (0x21, 0) ∧
          (t.chan f).out = (s.chan f).out)) ∧
        (∀ o v : Nat, (s.chan f).out = [] → s.chanOwner f = some (o, v) → s.bcqTakes o →
          completes (.dmaReadTimeout 5 f i seg idx) s (bulkTold o v f { s.chan f with reading := none } 0x21 0 s))) ∧
      ((s.chan f).reading = none → completes (.dmaReadTimeout 5 f i seg idx) s (fun t => t = s)) ∧
      (f ≠ 128 → ∀ l : Look, (s.node f i).look = some l → l.retry = false →
        completes (.dmaReadTimeout 6 f i seg idx) s (fun t =>
          t = s.modNode f i (fun x => { x with look := some { owner := l.owner, addr := l.addr, retry := true } }))) ∧
      (f = 128 ∨ (∀ l : Look, (s.node f i).look = some l → l.retry = true) →
        completes (.dmaReadTimeout 6 f i seg idx) s (fun t => t = s)) ∧
      ((s.node f i).leaseLook = 1 ∨ (s.node f i).leaseLook = 2 → completes (.dmaReadTimeout 7 f i seg idx) s (fun t =>
        t = s.modNode f i (fun x => { x with leaseLook := 3 }))) ∧
      ((s.node f i).leaseLook ≠ 1 → (s.node f i).leaseLook ≠ 2 →
        completes (.dmaReadTimeout 7 f i seg idx) s (fun t => t = s)) ∧
      (∀ what : Nat, 7 < what → completes (.dmaReadTimeout what f i seg idx) s (fun t => t = s)))

/-- Node commands (R144, R157, R159-R163, R169, R175, R304, R315, R317, R526). -/
def Obligations.NodeCommands : Prop :=
  ∀ (s : State) (f e : Nat) (x : Entry), s.cqTakes f x →
    let g := bits x.target 12 7
    let n := bits x.target 0 12
    let rows := [(0x19, Instr.nodePromote f e), (0x21, .leaseSet f e), (0x22, .nodeAdmit f e), (0x23, .nodeUnbind f e),
      (0x24, .nodeRelease f e)]
    (s.runs f e 0x18 x →
      (x.addr = 0 → completes (.allowlistSet f e) s (fun t =>
        told f x false 0 0 0 0 s t ∧ (t.fn f).allowAddr = none ∧ (t.fn f).allowGen = none)) ∧
      (x.addr ≠ 0 → completes (.allowlistSet f e) s (reads f x 16))) ∧
    (s.runs f e 0x20 x → completes (.leasepolicySet f e) s (reads f x 16)) ∧
    (s.hasPort g = false → ∀ p ∈ rows, s.runs f e p.1 x → completes p.2 s (told f x false 0 6 2 0 s)) ∧
    (s.hasPort g = true →
      ((s.node g n).st = .free → ∀ p ∈ rows, p.1 ≠ 0x23 → s.runs f e p.1 x → completes p.2 s (told f x false 0 6 3 0 s)) ∧
      ((s.node g n).st ≠ .free →
        (s.runs f e 0x19 x →
          (f = 0 ∨ (s.node g n).lessee = f →
            ((s.node g n).present = true → s.handleRoom f →
              completes (.nodePromote f e) s (accepted f x (.nodePromote g n) true 0 s)) ∧
            ((s.node g n).st = .absent → completes (.nodePromote f e) s (told f x false 0 0x40 0 0 s)) ∧
            ((s.node g n).present = false → (s.node g n).st ≠ .absent →
              completes (.nodePromote f e) s (told f x false 0 0x41 (s.node g n).st.code 0 s))) ∧
          (f ≠ 0 → (s.node g n).lessee ≠ f → completes (.nodePromote f e) s (told f x false 0 0x61 0 0 s))) ∧
        (s.runs f e 0x21 x → s.handleRoom f → completes (.leaseSet f e) s (accepted f x
          (.leaseSet g n (min (bits x.p0 0 10) 512)
            (((leaseReaders x).map (fun r => min 512 r.2)).filter (fun r => decide (1 ≤ r))).eraseDups) true
          ((if bits x.p0 0 10 > 512 then 1 else 0) + ((leaseReaders x).filter (fun r => decide (r.2 > 512))).length) s)) ∧
        (s.runs f e 0x22 x →
          ((s.node g n).st = .held → s.handleRoom f →
            completes (.nodeAdmit f e) s (accepted f x (.nodeAdmit g n) true 0 s)) ∧
          ((s.node g n).st = .absent → completes (.nodeAdmit f e) s (told f x false 0 0x40 0 0 s)) ∧
          ((s.node g n).st ≠ .held → (s.node g n).st ≠ .absent →
            completes (.nodeAdmit f e) s (told f x false 0 0x41 (s.node g n).st.code 0 s)))) ∧
      (s.runs f e 0x23 x →
        (s.named g n = false → (s.node g n).st = .free ∨ (s.node g n).st = .absent ∨ (s.node g n).st = .refused →
          completes (.nodeUnbind f e) s (fun t => told f x false 0 0 0 0 s t ∧ (t.node g n).bound = false)) ∧
        (s.named g n = true ∨ (s.node g n).st ≠ .free ∧ (s.node g n).st ≠ .absent ∧ (s.node g n).st ≠ .refused →
          completes (.nodeUnbind f e) s (told f x false 0 0x66 0 0 s))) ∧
      (s.runs f e 0x24 x →
        ((s.node g n).st = .refused →
          completes (.nodeRelease f e) s (fun t =>
            told f x false 0 0 0 0 s t ∧ ((t.node g n).st = .absent ∨ (t.node g n).st = .numbering)) ∧
          ((s.placeOf g n).1 ≠ 0 → completes (.nodeRelease f e) s (fun t => (t.node g n).st = .absent))) ∧
        ((s.node g n).st = .quarantined → completes (.nodeRelease f e) s (fun t =>
          told f x false 0 0 0 0 s t ∧ (s.node g n).hash ∉ t.quar ∧
          ((t.node g n).st = .absent ∨ (t.node g n).st = .numbering))) ∧
        ((s.node g n).st = .absent → completes (.nodeRelease f e) s (told f x false 0 0x40 0 0 s)) ∧
        ((s.node g n).st ≠ .refused → (s.node g n).st ≠ .quarantined → (s.node g n).st ≠ .absent →
          (s.node g n).st ≠ .free → completes (.nodeRelease f e) s (told f x false 0 0x41 (s.node g n).st.code 0 s))))

/-- What structures of the host give (R247, R270, R315, R376, R390). -/
def Obligations.StructuresArrive : Prop :=
  ∀ (s : State) (f i : Nat) (d : List Byte),
    (∀ x : Entry, s.readingEntry f i = some x → s.cqTakes f x →
      (x.opc = 0x0A →
        let a := ((chunks 8 (count16 x).1 d).zipIdx).foldl (fun a y => configPoint f y.2 y.1 a) (s, (count16 x).2)
        completes (.commandStructureReadDone f false i 0 d) s (fun t =>
          told f x false 0 0 0 a.2.length s t ∧ t.points = a.1.points ∧ t.pim = a.1.pim)) ∧
      (x.opc = 0x18 → completes (.commandStructureReadDone f false i 0 d) s (fun t =>
        told f x false 0 0 0 (countClamp d (allowMax f)).length s t ∧
        (t.fn f).allowAddr = some x.addr ∧ (t.fn f).allowGen = none)) ∧
      (x.opc = 0x20 → completes (.commandStructureReadDone f false i 0 d) s (fun t =>
        told f x false 0 0 0 (countClamp d 4096).length s t ∧ t.policy = some x.addr))) ∧
    (∀ h : Handle, s.awaitsRead f i = some h →
      (∀ u : Nat, h.op = .tenantCreate u none → f = 0 → u ≠ 0 →
        (byteField d 0 2 ≠ 1 → completes (.commandStructureReadDone 0 true i 0 d) s (fun t =>
          (t.fn u).st = .none ∧ ∃ y ∈ (t.fn 0).handles, y.seq = i ∧ y.word = .failed ∧ y.status = 9 ∧ y.detail = 1)) ∧
        (byteField d 0 2 = 1 → s.poolFree .credits = 0 → completes (.commandStructureReadDone 0 true i 0 d) s (fun t =>
          (t.fn u).st = .none ∧ ∃ y ∈ (t.fn 0).handles, y.seq = i ∧ y.word = .failed ∧ y.status = 0x67 ∧ y.detail = 7)) ∧
        (byteField d 0 2 = 1 → s.poolFree .credits ≠ 0 → completes (.commandStructureReadDone 0 true i 0 d) s (fun t =>
          (t.fn u).share = (s.clampShare u true d).1 ∧ ∃ y ∈ (t.fn 0).handles,
            y.seq = i ∧ y.ready = true ∧ y.op = .tenantCreate u (some (s.clampShare u true d).1)))) ∧
      (∀ u : Nat, h.op = .tenantShare u none → f = 0 →
        (byteField d 0 2 ≠ 1 → completes (.commandStructureReadDone 0 true i 0 d) s (fun t =>
          ∃ y ∈ (t.fn 0).handles, y.seq = i ∧ y.word = .failed ∧ y.status = 9 ∧ y.detail = 1)) ∧
        (byteField d 0 2 = 1 → completes (.commandStructureReadDone 0 true i 0 d) s (fun t =>
          (t.fn u).shareNew = some (s.clampShare u false d).1 ∧ ∃ y ∈ (t.fn 0).handles,
            y.seq = i ∧ y.ready = true ∧ y.op = .tenantShare u (some (s.clampShare u false d).1)))) ∧
      (∀ o : Option ImageDesc, h.op = .imageSet o →
        let g := (parseImage s f d).1
        (imageFails d g ≠ 0 → completes (.commandStructureReadDone f true i 0 d) s (fun t =>
          ∃ y ∈ (t.fn f).handles, y.seq = i ∧ y.word = .failed ∧ y.status = 9 ∧ y.detail = imageFails d g)) ∧
        (imageFails d g = 0 → completes (.commandStructureReadDone f true i 0 d) s (fun t =>
          ∃ y ∈ (t.fn f).handles, y.seq = i ∧ y.ready = true ∧
            y.op = .imageSet (if g.bufs.head? = some 0 then none else some g)))) ∧
      (∀ (n first count : Nat) (l : List (Nat × RuleEntry)), h.op = .ruleSet n first count l →
        completes (.commandStructureReadDone f true i 0 d) s (fun t =>
          ∃ y ∈ (t.fn f).handles, y.seq = i ∧ y.ready = true ∧ ∃ l' : List (Nat × RuleEntry),
            y.op = .ruleSet n first count l' ∧
            ∀ r : Nat × RuleEntry, r ∈ l' ↔ r.1 < s.ruleQuota f n ∧ ∃ j b, (chunks 48 count d)[j]? = some b ∧
              r = (first + j, (clampRule j (parseRule b)).1))) ∧
      (∀ u a : Nat, h.op = .tenantRestore u a → f = 0 → u ≠ 0 →
        (∀ (st dt : Nat) (recs : List ListRec), s.restoreCheck u d = .inr (st, dt, recs) →
          completes (.commandStructureReadDone 0 true i 0 d) s (fun t =>
            (t.fn u).st = .none ∧ ∃ y ∈ (t.fn 0).handles, y.seq = i ∧ y.word = .failed ∧ y.status = st ∧ y.detail = dt)) ∧
        (∀ v : Saved, s.restoreCheck u d = .inl v → completes (.commandStructureReadDone 0 true i 0 d) s (fun t =>
          ∃ y ∈ (t.fn 0).handles, y.seq = i ∧ y.word = .committed ∧ y.commitTick = s.time.tick))))

/-- Steps and engine faults (R400, R403, R410-R412, R456), mesh links (R35). -/
def Obligations.EnginesAndMesh : Prop :=
  ∀ (s : State) (n e : Nat),
    (∀ k : Task, s.runningOn n e = some k → (s.tl n).ctxq = [] → ∀ (dur wait : Nat) (w : Option Nat),
      (∀ g : Nat, k.work = .compile g →
        ((s.tl n).pwr.forced = true ∨ (s.plan g).idleSt ≠ .compiling →
          completes (.taskStepEnd n e w dur wait) s (fun t => (∀ y ∈ (t.tl n).tasks, y.ctx ≠ k.ctx) ∧
            t.reg 0 pTSK n 0x060 = min (2 ^ 64 - 1) (s.reg 0 pTSK n 0x060 + 1))) ∧
        ((s.tl n).pwr.forced = false → (s.plan g).idleSt = .compiling → s.alive k.fn = true →
          completes (.taskStepEnd n e w dur wait) s (fun t => ∃ y ∈ (t.tl n).tasks, y.ctx = k.ctx ∧ y.work = k.work ∧
            match w with
            | some w => y.st = .delayed w
            | none => y.st = .ready ∨ ∃ i, y.st = .running i))) ∧
      (∀ f i : Nat, k.work = .command f i → (s.tl n).pwr.forced = false → (∀ y ∈ (s.fn f).entries, y.id ≠ i) →
        (∀ y ∈ (s.fn f).entries, badOpcode f y = none) → (∀ h ∈ (s.fn f).handles, h.eid ≠ i) →
        completes (.taskStepEnd n e w dur wait) s (fun t => ∀ y ∈ (t.tl n).tasks, y.ctx ≠ k.ctx))) ∧
    (∀ k : Task, s.runningOn n e = some k → ∀ dur : Nat, 600 < dur → completes (.stepOverrun n e dur) s (fun t =>
      t.errBit pTSK n 0 = true ∧
      bits (t.reg 0 pTSK n 0x068) 0 16 = min 65535 (bits (s.reg 0 pTSK n 0x068) 0 16 + 1))) ∧
    (∀ dur : Nat, s.runningOn n e = none ∨ dur ≤ 600 → completes (.stepOverrun n e dur) s (fun t => t = s)) ∧
    (∀ (k : Task) (us : Nat), s.runningOn n e = some k →
      let recent := ((s.tl n).faults.filter (fun m => decide (s.time.tick < m + s.ticksOf 1000000))).length
      (∀ g : Nat, recent < 2 → k.work = .compile g → completes (.engineFault n e us) s (fun t =>
        t.errBit pTSK n 1 = true ∧ (t.tl n).reload.contains e = true ∧ t.fw.trialBad = true)) ∧
      (∀ (f i : Nat) (x : Entry), recent < 2 → k.work = .command f i →
        (s.fn f).entries.find? (fun y => y.id == i && !y.ended) = some x → s.cqTakes f x → s.openHandles f i = [] →
        completes (.engineFault n e us) s (fun t => told f x false 0 0x0B 1 0 s t ∧ (t.tl n).reload.contains e = true)) ∧
      (2 ≤ recent → n ≠ 0 → s.hasTile n = true →
        completes (.engineFault n e us) s (fun t => (t.tl n).pow = .off))) ∧
    (s.runningOn n e = none → ∀ (us dur wait : Nat) (w : Option Nat),
      completes (.engineFault n e us) s (fun t => t = s) ∧ completes (.taskStepEnd n e w dur wait) s (fun t => t = s)) ∧
    ((s.tl n).reload.contains e = true → completes (.engineReloadDone n e) s (fun t =>
      (t.tl n).reload = (s.tl n).reload.filter (· != e))) ∧
    ((s.tl n).reload.contains e = false → completes (.engineReloadDone n e) s (fun t => t = s)) ∧
    (∀ (b : Nat) (x : Nat × Nat × Nat), s.meshEnds b = some x →
      (bit s.mesh.toNat b = true →
        completes (.meshTransferReceived b true) s (fun t => t = { s with meshFails := nput 0 s.meshFails b 0 }) ∧
        (nget 0 s.meshFails b < 8 → completes (.meshTransferReceived b false) s (fun t =>
          nget 0 t.meshFails b = nget 0 s.meshFails b + 1 ∧ t.mesh = s.mesh ∧ Output.mesh b 0 ∈ t.sent)) ∧
        (8 ≤ nget 0 s.meshFails b → completes (.meshTransferReceived b false) s (fun t => bit t.mesh.toNat b = false))) ∧
      (s.tiles ≤ 8 → bit s.mesh.toNat b = false → s.ready = true → s.meshOn x.1 = true → s.meshOn x.2.1 = true →
        completes (.meshLinkRetrain b true) s (fun t => bit t.mesh.toNat b = true ∧ nget 0 t.meshFails b = 0)) ∧
      (bit s.mesh.toNat b = true ∨ s.ready = false ∨ s.meshOn x.1 = false ∨ s.meshOn x.2.1 = false →
        completes (.meshLinkRetrain b true) s (fun t => t = s))) ∧
    (∀ b : Nat, completes (.meshLinkRetrain b false) s (fun t => t = s) ∧
      (s.meshEnds b = none → completes (.meshLinkRetrain b true) s (fun t => t = s)) ∧
      (∀ good : Bool, s.meshEnds b = none ∨ bit s.mesh.toNat b = false →
        completes (.meshTransferReceived b good) s (fun t => t = s)))

/-- Failed tiles (R37, R69, R589, R592). -/
def Obligations.TilesFail : Prop :=
  ∀ (s : State) (k : Nat),
    (s.hasTile k = true →
      let powered := (s.tl k).pow = .run ∨ (s.tl k).pow = .doze ∨ (s.tl k).pow = .drying ∨
        (s.tl k).pow = .waking ∧ (s.tl k).pwr.pgood = true
      (k ≠ 0 →
        (s.ready = true → s.meshOn k = true → completes (.timeTokenLoss k) s (fun t =>
          (t.tl k).pow = .off ∧ nget 0 t.pins.tileOk k = 0)) ∧
        (∀ rail : Nat, powered → completes (.pgoodLost k rail) s (fun t =>
          (t.tl k).pow = .off ∧ nget 0 t.pins.tileOk k = 0)) ∧
        completes (.thermalTrip k) s (fun t => (t.tl k).pow = .off)) ∧
      (k = 0 → (s.tl 0).pow ≠ .off →
        completes (.thermalTrip 0) s (fun t => t.pins.faultN = 1 ∧ t.link = 0) ∧
        (∀ rail : Nat, powered → completes (.pgoodLost 0 rail) s (fun t => t.pins.faultN = 1 ∧ t.link = 0))) ∧
      ((s.tl k).pow = .drydown →
        completes (.pgoodLost k 1) s (fun t => t = s.modPwr k (fun p => { p with lost := 2 ^ 32 - 1 })) ∧
        ∀ rail : Nat, rail ≠ 1 → completes (.pgoodLost k rail) s (fun t => t = s)) ∧
      (∀ rail : Nat, (s.tl k).pow = .off ∨ (s.tl k).pow = .waking ∧ (s.tl k).pwr.pgood = false →
        completes (.pgoodLost k rail) s (fun t => t = s))) ∧
    (k = 0 ∨ s.ready = false ∨ s.meshOn k = false → completes (.timeTokenLoss k) s (fun t => t = s)) ∧
    (s.hasTile k = false → completes (.thermalTrip k) s (fun t => t = s) ∧
      ∀ rail : Nat, completes (.pgoodLost k rail) s (fun t => t = s))

/-- Levels (R446, R447), the adaptive loop (R448-R450), the bus (R451), DOZE (R453). -/
def Obligations.LevelsVoltageDoze : Prop :=
  ∀ (s : State) (k : Nat),
    (∀ v : W32, (s.fn 0).dstate = 0 →
      (s.tileOpen k = true → s.accWaits k = false →
        completes (.levelWrite k v) s (fun t => t.levelSet k = min (bits v.toNat 0 2) 2) ∧
        ((s.tl k).pow = .run ∨ (s.tl k).pow = .doze → (s.tl k).pwr.change = none → s.avsFail k = false →
          completes (.levelWrite k v) s (fun t => (t.tl k).pwr.change =
            if min (bits v.toNat 0 2) 2 = (s.tl k).pwr.level then none else some (min (bits v.toNat 0 2) 2, 1)))) ∧
      (s.accWaits k = true → completes (.levelWrite k v) s (fun t => regAcc pPMT k 0x040 v.toNat ∈ (t.tl k).pwr.held)) ∧
      (s.tileOpen k = false → s.accWaits k = false → completes (.levelWrite k v) s (fun t =>
        t.levelSet k = s.levelSet k ∧ (t.tl k).pwr = (s.tl k).pwr))) ∧
    (∀ l : Nat,
      ((s.tl k).pwr.change = some (l, 1) → completes (.levelStepDone k) s (fun t =>
        (t.tl k).pwr.change = some (l, 2) ∧ (t.tl k).pwr.trim = (s.tl k).pwr.storedTrim l ∧
        (t.tl k).pwr.bus = (s.tl k).pwr.bus ++
          [{ rail := 0, mv := coreMv l ((s.tl k).pwr.storedTrim l), why := .level }, { rail := 1, mv := sramOf l, why := .level }])) ∧
      ((s.tl k).pwr.change = some (l, 2) →
        ((s.tl k).pwr.bus.any (fun b => b.why == .level) = false → s.avsFail k = false →
          completes (.levelStepDone k) s (fun t => (t.tl k).pwr = { (s.tl k).pwr with change := some (l, 3), level := l })) ∧
        ((s.tl k).pwr.bus.any (fun b => b.why == .level) = true ∨ s.avsFail k = true →
          completes (.levelStepDone k) s (fun t => t = s))) ∧
      ((s.tl k).pwr.change = some (l, 3) → s.avsFail k = false → (s.tl k).pow = .run ∨ (s.tl k).pow = .doze →
        completes (.levelStepDone k) s (fun t => (t.tl k).pwr.change =
          if s.levelSet k = (s.tl k).pwr.level then none else some (s.levelSet k, 1)))) ∧
    ((s.tl k).pwr.change = none → completes (.levelStepDone k) s (fun t => t = s)) ∧
    (∀ m : Nat,
      let lo := bits (s.reg 0x5028 pPMT k 0x04C) 0 8
      let hi := bits (s.reg 0x5028 pPMT k 0x04C) 8 8
      let p := (s.tl k).pwr
      ((s.tl k).pow = .run ∨ (s.tl k).pow = .doze → bit (s.pmtCtl k) 4 = true → p.change = none → s.avsFail k = false →
        -12 ≤ p.trim → p.trim ≤ 12 →
        (lo ≤ m → m ≤ hi ∨ p.trim = -12 → completes (.avsLoopPeriod k m) s (fun t => (t.tl k).pwr = { p with lowRun := 0 })) ∧
        (m < lo → p.trim < 12 → completes (.avsLoopPeriod k m) s (fun t => (t.tl k).pwr = { p with
          trim := p.trim + 1
          lowRun := 0
          bus := p.bus ++ [{ rail := 0, mv := coreMv p.level (p.trim + 1), why := .avs }] })) ∧
        (lo ≤ m → hi < m → -12 < p.trim → completes (.avsLoopPeriod k m) s (fun t => (t.tl k).pwr = { p with
          trim := p.trim - 1
          lowRun := 0
          bus := p.bus ++ [{ rail := 0, mv := coreMv p.level (p.trim - 1), why := .avs }] })) ∧
        (m < lo → p.trim = 12 →
          (p.lowRun < 15 → completes (.avsLoopPeriod k m) s (fun t => (t.tl k).pwr = { p with lowRun := p.lowRun + 1 })) ∧
          (15 ≤ p.lowRun → completes (.avsLoopPeriod k m) s (fun t => t.errBit pPMT k 0 = true ∧
            (p.level < 2 → t.levelSet k = p.level + 1 ∧ (t.tl k).pwr.stepdown = true ∧
              (t.tl k).pwr.change = some (p.level + 1, 1)))))) ∧
      ((s.tl k).pow ≠ .run ∧ (s.tl k).pow ≠ .doze ∨ bit (s.pmtCtl k) 4 = false ∨ p.change.isSome = true ∨ s.avsFail k = true →
        completes (.avsLoopPeriod k m) s (fun t => t = s))) ∧
    (let due := ∀ j : Nat, (s.tl k).pwr.trimTick = some j → j + s.ticksOf 600000000 ≤ s.time.tick
      let ok := s.tileRuns k = true ∧ (s.tl k).pwr.change = none ∧
        (s.tl k).pwr.trim ≠ (s.tl k).pwr.storedTrim (s.tl k).pwr.level ∧ due
      (ok → completes (.trimStore k) s (fun t =>
        (t.tl k).pwr.storedTrim (s.tl k).pwr.level = (s.tl k).pwr.trim ∧ (t.tl k).pwr.trimTick = some s.time.tick ∧
        Output.store 1 (k * 4 + (s.tl k).pwr.level) (ofSigned 5 (s.tl k).pwr.trim) ∈ t.sent)) ∧
      (¬ ok → completes (.trimStore k) s (fun t => t = s))) ∧
    (∀ i : Nat,
      ((s.tl k).pwr.bus[i]? = none → completes (.busTransactionComplete k i true) s (fun t => t = s) ∧
        completes (.busTransactionComplete k i false) s (fun t => t = s) ∧
        completes (.busStuckTimeout k i) s (fun t => t = s)) ∧
      (∀ b : BusTx, (s.tl k).pwr.bus[i]? = some b →
        ((s.tl k).pwr.off7 = false → completes (.busTransactionComplete k i true) s (fun t =>
          (t.tl k).pwr = { (s.tl k).pwr with bus := (s.tl k).pwr.bus.eraseIdx i })) ∧
        ((s.tl k).pwr.off7 = true → ((s.tl k).pwr.bus.eraseIdx i).any (fun b => b.why == .off) = true →
          completes (.busTransactionComplete k i true) s (fun t =>
            (t.tl k).pwr = { (s.tl k).pwr with bus := (s.tl k).pwr.bus.eraseIdx i })) ∧
        ((s.tl k).pwr.off7 = true → ((s.tl k).pwr.bus.eraseIdx i).any (fun b => b.why == .off) = false →
          (s.tl k).pwr.late = none → completes (.busTransactionComplete k i true) s (fun t =>
            (t.tl k).pwr = { (s.tl k).pwr with bus := (s.tl k).pwr.bus.eraseIdx i, off7 := false })) ∧
        (∀ c : Instr, c = .busTransactionComplete k i false ∨ c = .busStuckTimeout k i →
          (b.fails < 2 → completes c s (fun t =>
            (t.tl k).pwr = { (s.tl k).pwr with bus := (s.tl k).pwr.bus.set i { b with fails := b.fails + 1 } } ∧
            Output.bus b.rail k b.mv ∈ t.sent)) ∧
          (2 ≤ b.fails → b.why ≠ .wake → (s.tl k).pwr.off7 = false → completes c s (fun t =>
            t.avsFail k = true ∧ (t.tl k).pwr.bus = (s.tl k).pwr.bus.eraseIdx i)) ∧
          (2 ≤ b.fails → b.why = .wake → s.attempting k = true → (s.tl k).pwr.attempt < 2 → completes c s (fun t =>
            t.avsFail k = true ∧ (t.tl k).pwr.bus = [] ∧ (t.tl k).pwr.retryWait = true))))) ∧
    (s.hasTile k = true → s.dozeOk k = true → bits (s.pmtDoze k) 0 16 ≤ (s.tl k).pwr.idle →
      completes (.dozeEntry k) s (fun t => (t.tl k).pow = .doze)) ∧
    (s.hasTile k = false ∨ s.dozeOk k = false ∨ (s.tl k).pwr.idle < bits (s.pmtDoze k) 0 16 →
      completes (.dozeEntry k) s (fun t => t = s))

/-- POWER_SET and Drydown (R455, R456), wake sources (R457-R460), wakes (R461-R463). -/
def Obligations.DrydownAndWakes : Prop :=
  (∀ (s : State) (e : Nat) (x : Entry), s.runs 0 e 0x50 x → s.cqTakes 0 x →
    let k := bits x.target 16 3
    let st := (s.tl k).pow
    let n := if x.p0 % 4 = 2 then 0 else 1
    (s.hasTile k = false ∨ x.p0 % 4 = 1 ∧ k = 0 → completes (.powerSet 0 e) s (told 0 x false 0 6 1 0 s)) ∧
    (s.hasTile k = true →
      (x.p0 % 4 = 1 → k ≠ 0 →
        (st = .drying ∨ st = .drydown → completes (.powerSet 0 e) s (told 0 x false 0 0 0 0 s)) ∧
        (st = .run ∨ st = .doze ∨ st = .waking → ∀ q : Nat, s.powerPending k = some q →
          completes (.powerSet 0 e) s (told 0 x false 0 8 (q % 256) 0 s)) ∧
        (s.powerPending k = none → s.handleRoom 0 →
          (st = .run ∨ st = .doze → completes (.powerSet 0 e) s (fun t => accepted 0 x (.powerSet k 1) true 0 s t ∧
            (t.tl k).pow = .drying ∧ (t.tl k).pwr.dryHandle = some (s.fn 0).nextSeq)) ∧
          (st = .waking → completes (.powerSet 0 e) s (fun t => accepted 0 x (.powerSet k 1) true 0 s t ∧
            (t.tl k).pow = .waking ∧ (t.tl k).pwr.dryHandle = some (s.fn 0).nextSeq)))) ∧
      (x.p0 % 4 ≠ 1 →
        (∀ q : Nat, s.powerPending k = some q → completes (.powerSet 0 e) s (told 0 x false 0 8 (q % 256) 0 s)) ∧
        (s.powerPending k = none →
          (st = .run ∨ st = .doze → completes (.powerSet 0 e) s (told 0 x false 0 0 0 n s)) ∧
          (st = .drydown → (s.tl k).pwr.off7 = false → k = 0 ∨ s.asleep 0 = false → s.handleRoom 0 →
            completes (.powerSet 0 e) s (fun t =>
              accepted 0 x (.powerSet k 2) true n s t ∧ (t.tl k).pow = .waking ∧ (t.tl k).pwr.cause = 5)) ∧
          (st = .waking → s.handleRoom 0 → completes (.powerSet 0 e) s (fun t =>
            accepted 0 x (.powerSet k 2) true n s t ∧ (t.tl k).pow = .waking ∧
            (s.fn 0).nextSeq ∈ (t.tl k).pwr.wakeHandles)))))) ∧
  ∀ (s : State) (k : Nat),
    (k ≠ 0 → s.hasTile k = true → s.drained k = true → completes (.drydownDrained k) s (fun t =>
      (t.tl k).pow = .drydown ∧ (t.tl k).ready = false ∧
      ∀ q ∈ (s.tl k).pwr.dryHandle, ∀ h ∈ s.handle? 0 q, h.done = false →
        ∃ y ∈ (t.fn 0).handles, y.seq = q ∧ y.word = .committed ∧ y.done = true)) ∧
    (k = 0 ∨ s.hasTile k = false ∨ s.drained k = false → completes (.drydownDrained k) s (fun t => t = s)) ∧
    (∀ b : Nat, (s.tl k).pwr.dryB = some b →
      ((s.tl k).pow = .drying → b + s.ticksOf 5000 ≤ s.time.tick →
        completes (.drydownDrainTimeout k) s (fun t => (t.tl k).pwr.forced = true ∧ (t.tl k).pow = .drying)) ∧
      ((s.tl k).pow ≠ .drying ∨ s.time.tick < b + s.ticksOf 5000 →
        completes (.drydownDrainTimeout k) s (fun t => t = s))) ∧
    ((s.tl k).pwr.dryB = none → completes (.drydownDrainTimeout k) s (fun t => t = s)) ∧
    (s.hasTile k = true → bit (s.reg 0xFF pPWR 0 0x04C) k = true → (s.tl k).pow = .drydown → (s.tl k).pwr.off7 = false →
      k = 0 ∨ s.asleep 0 = false → completes .wakeNLow s (fun t =>
        (t.tl k).pow = .waking ∧ (t.tl k).pwr.cause = 2 ∧ (t.tl k).pwr.attempt = 1)) ∧
    ((∀ i : Nat, i < s.tiles → bit (s.reg 0xFF pPWR 0 0x04C) i = false) → completes .wakeNLow s (fun t => t = s)) ∧
    (s.link = 3 →
      (s.hasTile 0 = true → (s.tl 0).pow = .drydown → (s.tl 0).pwr.off7 = false → completes .l12Exit s (fun t =>
        t.link = 2 ∧ (t.tl 0).pow = .waking ∧ (t.tl 0).pwr.cause = 6)) ∧
      (s.asleep 0 = false → s.stage ≠ 3 → completes .l12Exit s (fun t => t = { s with link := 2 })) ∧
      (s.asleep 0 = false → s.stage = 3 → completes .l12Exit s (fun t => t.link = 2 ∧ t.stage = 0 ∧ t.lastCancel = 3))) ∧
    (s.link ≠ 3 → completes .l12Exit s (fun t => t = s)) ∧
    completes .oscillatorReady s (fun t => t = s.modPwr 0 (fun p => { p with xoWait := false })) ∧
    (∀ g : Nat, completes (.wakeDetectorRearm g) s (fun t =>
      t = s.modPwr (g / 16) (fun p => { p with rearm := p.rearm.filter (· != g) }))) ∧
    (s.attempting k = true →
      ((s.tl k).pwr.pgood = false → (s.tl k).pwr.bus = [] → completes (.wakePowerGood k) s (fun t =>
        (t.tl k).pwr = { (s.tl k).pwr with pgood := true } ∧ t.reg 0 pPIM k 0x054 = (s.tl k).pwr.lost % 2 ^ 64)) ∧
      (s.hasTile k = true → (s.tl k).pwr.pgood = true → (s.tl k).pwr.xoWait = false → (s.tl k).pwr.held = [] →
        ∀ us links : Nat,
        k = 0 ∨ ({ s with mesh := BitVec.ofNat 64 (trainedMesh k links (s.modTile k (fun x => { x with pow := .run }))) } : State).pathTo 0 k = true →
        completes (.tileReady k us links) s (fun t => (t.tl k).ready = true ∧
          ((s.tl k).pwr.dryHandle = none → (t.tl k).pow = .run) ∧
          (k ≠ 0 → (s.tl k).pwr.dryHandle.isSome = true → (t.tl k).pow = .drying))) ∧
      (∀ item : Nat,
        let due := (item = 1 ∨ item = 2) ∧ (s.tl k).pwr.pgood = false ∨ item = 3 ∧ (s.tl k).pwr.xoWait = true ∨
          item = 5 ∧ (s.tl k).pwr.pgood = true ∧ (s.tl k).pwr.xoWait = false
        (due → (s.tl k).pwr.attempt < 2 → completes (.wakeAttemptTimeout k item) s (fun t =>
          (t.tl k).pwr.retryWait = true ∧ (t.tl k).pwr.fails = min 255 ((s.tl k).pwr.fails + 1) ∧ (t.tl k).pow = .waking)) ∧
        (due → 2 ≤ (s.tl k).pwr.attempt →
          (k ≠ 0 → completes (.wakeAttemptTimeout k item) s (fun t => (t.tl k).pow = .off)) ∧
          (k = 0 → completes (.wakeAttemptTimeout k item) s (fun t => t.pins.faultN = 1 ∧ t.link = 0))) ∧
        (¬ due → completes (.wakeAttemptTimeout k item) s (fun t => t = s)))) ∧
    (s.attempting k = false → completes (.wakePowerGood k) s (fun t => t = s) ∧
      ∀ item us links : Nat, completes (.wakeAttemptTimeout k item) s (fun t => t = s) ∧
        completes (.tileReady k us links) s (fun t => t = s)) ∧
    ((s.tl k).pwr.pgood = true ∨ (s.tl k).pwr.bus ≠ [] → completes (.wakePowerGood k) s (fun t => t = s)) ∧
    (∀ us links : Nat, (s.tl k).pwr.pgood = false ∨ (s.tl k).pwr.xoWait = true →
      completes (.tileReady k us links) s (fun t => t = s)) ∧
    ((s.tl k).pow = .waking → (s.tl k).pwr.retryWait = true → completes (.wakeRetry k) s (fun t =>
      (t.tl k).pwr.retryWait = false ∧ (t.tl k).pwr.attempt = 2 ∧ (t.tl k).pow = .waking)) ∧
    ((s.tl k).pow ≠ .waking ∨ (s.tl k).pwr.retryWait = false → completes (.wakeRetry k) s (fun t => t = s))

/-- Standby (R84-R86, R438, R465-R468). -/
def Obligations.Standby : Prop :=
  ∀ s : State,
    (s.mgrOpen → ∀ v : W32,
      (bit v.toNat 0 = true →
        (bit s.stbyCtl 0 = false → completes (.standbyArm v) s (fun t =>
          t.stage = 1 ∧ t.lastCancel = s.lastCancel ∧ bit t.stbyCtl 0 = true)) ∧
        (bit s.stbyCtl 0 = true → completes (.standbyArm v) s (fun t => t.stage = s.stage ∧ bit t.stbyCtl 0 = true)) ∧
        completes (.standbyDisarm v) s (fun t => t.stage = s.stage ∧ t.stbyCtl = s.stbyCtl)) ∧
      (bit v.toNat 0 = false →
        (bit s.stbyCtl 0 = true → s.stage ≠ 0 → s.asleep 0 = false → completes (.standbyDisarm v) s (fun t =>
          t.stage = 0 ∧ t.lastCancel = 4 ∧ bit t.stbyCtl 0 = false)) ∧
        (bit s.stbyCtl 0 = false → completes (.standbyDisarm v) s (fun t => t.stage = s.stage ∧ bit t.stbyCtl 0 = false)) ∧
        completes (.standbyArm v) s (fun t => t.stage = s.stage ∧ t.stbyCtl = s.stbyCtl))) ∧
    (∀ v : W32, s.ready = false ∨ (s.fn 0).dstate ≠ 0 → ∀ c ∈ [Instr.standbyArm v, .standbyDisarm v],
      completes c s (fun t => t.stage = s.stage ∧ t.stbyCtl = s.stbyCtl)) ∧
    (∀ calib : Nat,
      let ok := s.stage = 2 ∧ s.stopping = true ∧ s.drained 0 = true ∧ s.allWritten = true
      (ok → completes (.standbyStopDone calib) s (fun t => t.stage = 3 ∧ Output.ltr 1 ∈ t.sent ∧
        t.time.sleepRc = s.xogate ∧ t.time.calib = if s.xogate && calib != 0 then some calib else none)) ∧
      (¬ ok → completes (.standbyStopDone calib) s (fun t => t = s))) ∧
    (s.link ≠ 0 →
      (s.stage = 3 → s.asleep 0 = false → completes .l12Entry s (fun t => t.link = 3 ∧ (t.tl 0).pow = .drydown ∧
        t.time.sleeping = true ∧ t.time.entryTick = s.time.tick + 1 ∧ (s.xogate = true → t.pins.xoEn = 1))) ∧
      (s.stage ≠ 3 ∨ s.asleep 0 = true → completes .l12Entry s (fun t => t = { s with link := 3 }))) ∧
    (s.link = 0 → completes .l12Entry s (fun t => t = s)) ∧
    (s.stage = 3 → s.asleep 0 = false → completes .standbyWaitTimeout s (fun t => t.stage = 0 ∧ t.lastCancel = 5 ∧
      t.errBit pPWR 0 0 = true)) ∧
    (s.stage ≠ 3 ∨ s.asleep 0 = true → completes .standbyWaitTimeout s (fun t => t = s)) ∧
    (s.pins.perst = true → s.boot.dead = false → s.link ≠ 1 → s.asleep 0 = false →
      (s.stage ≠ 3 → completes .hostLinkReachesL0 s (fun t =>
        t.link = 1 ∧ t.tlpHeld = [] ∧ t.wire = .ltr 0 :: ((leaveOrder s.tlpHeld.length s.tlpHeld.reverse).reverse ++ s.wire))) ∧
      (s.stage = 3 → completes .hostLinkReachesL0 s (fun t =>
        t.link = 1 ∧ t.tlpHeld = [] ∧ t.stage = 0 ∧ t.lastCancel = 3))) ∧
    (s.pins.perst = false ∨ s.boot.dead = true ∨ s.link = 1 ∨ s.asleep 0 = true →
      completes .hostLinkReachesL0 s (fun t => t = s)) ∧
    (∀ count : Nat,
      (s.time.sleeping = true → (s.tl 0).pow = .run → completes (.standbyWake count) s (fun t =>
        t.stage = 0 ∧ t.link = 1 ∧ t.time.sleeping = false ∧ t.time.sync = false ∧
        t.time.tick = (s.time.entryTick + (s.sleepTicks (min count (2 ^ 48 - 1))).1 + s.frameLen - 1) / s.frameLen * s.frameLen ∧
        bit t.stbyCtl 0 = false)) ∧
      (s.time.sleeping = false ∨ (s.tl 0).pow ≠ .run → completes (.standbyWake count) s (fun t => t = s)))

/-- FW_SESSION to FW_VERIFY (R475, R482, R483, R485-R488, R508). -/
def Obligations.FirmwareDownload : Prop :=
  ∀ (s : State),
    (∀ (e : Nat) (x : Entry), s.cqTakes 0 x →
      let c := if x.count < 2 then 2 else min x.count 8192
      let n := if c = x.count then 0 else 1
      let id := toLe 8 x.p1 ++ toLe 8 x.p2
      (s.runs 0 e 0x40 x →
        (s.fw.flashOk = false → completes (.fwSession 0 e) s (told 0 x false 0 0x88 0 0 s)) ∧
        (s.fw.flashOk = true → s.fw.onTrial = true → completes (.fwSession 0 e) s (told 0 x false 0 0x87 0 0 s)) ∧
        (s.fw.flashOk = true → s.fw.onTrial = false →
          (∀ q : Nat, s.fwBusy = some q → completes (.fwSession 0 e) s (told 0 x false 0 8 q 0 s)) ∧
          (s.fwBusy = none → s.fw.prog.isSome = true → completes (.fwSession 0 e) s (fun t =>
            x.id ∈ t.fw.sessWait ∧ (t.fn 0).entries = (s.fn 0).entries)) ∧
          (s.fwBusy = none → s.fw.prog = none →
            (bit x.p0 0 = true →
              (s.fw.session = none → completes (.fwSession 0 e) s (told 0 x false 0 0 0 n s)) ∧
              (s.fw.session.isSome = true →
                (s.sessRecent = true → completes (.fwSession 0 e) s (told 0 x false 0 8 0 0 s)) ∧
                (s.sessRecent = false → completes (.fwSession 0 e) s (fun t =>
                  told 0 x false 0 0 0 n s t ∧ t.fw.session = none)))) ∧
            (bit x.p0 0 = false →
              (s.fw.session.any (fun r => r.pkgid == id && r.count == c) = true →
                completes (.fwSession 0 e) s (told 0 x false s.fw.marked.length 0 0 n s)) ∧
              (s.fw.session.any (fun r => r.pkgid == id && r.count == c) = false →
                (s.sessRecent = true → completes (.fwSession 0 e) s (told 0 x false 0 8 0 0 s)) ∧
                (s.sessRecent = false → s.rngOk = false → completes (.fwSession 0 e) s (fun t =>
                  x.id ∈ t.fw.rngWait ∧ (t.fn 0).entries = (s.fn 0).entries)) ∧
                (s.sessRecent = false → s.rngOk = true → completes (.fwSession 0 e) s (fun t =>
                  told 0 x false 0 0 0 n s t ∧ t.fw.marked = [] ∧
                  ∃ r, t.fw.session = some r ∧ r.pkgid = id ∧ r.count = c ∧ r.slot = s.fw.flacon))))))) ∧
      (s.runs 0 e 0x41 x → completes (.fwChunk 0 e) s (reads 0 x 4096)) ∧
      (s.runs 0 e 0x42 x →
        (∀ q : Nat, s.fwBusy = some q → completes (.fwVerify 0 e) s (told 0 x false 0 8 q 0 s)) ∧
        (s.fwBusy = none →
          (s.fw.session = none → completes (.fwVerify 0 e) s (told 0 x false 0 0x82 0 0 s)) ∧
          (s.fw.session.isSome = true → s.handleRoom 0 → completes (.fwVerify 0 e) s (fun t =>
            accepted 0 x .fwVerify true 0 s t ∧ t.fw.verified = false))))) ∧
    (∀ (again : Bool) (q : ChunkReq) (r : Session), s.fw.prog = some again → s.fw.queue = [q] → s.fw.session = some r →
      s.fw.sessWait = [] →
      let cmdTold := fun (status detail : Nat) (t : State) => ∀ (i : Nat) (x : Entry), q.origin = .command i →
        (s.fn 0).entries.find? (fun y => y.id == i && !y.ended) = some x → s.cqTakes 0 x →
        told 0 x false 0 status detail 0 s t
      completes (.chunkProgrammed true) s (fun t => t.fw.prog = none ∧ t.fw.queue = [] ∧
        t.fw.marked = insertAsc q.index s.fw.marked ∧ nget [] t.fw.chunks (r.slot * 8192 + q.index) = q.data ∧
        cmdTold 0 0 t) ∧
      (again = false → completes (.chunkProgrammed false) s (fun t => t.fw.prog = some true ∧ t.fw.queue = [q] ∧
        t.fw.marked = s.fw.marked ∧ Output.store 4 (r.slot * 8192 + q.index) 1 ∈ t.sent)) ∧
      (again = true → completes (.chunkProgrammed false) s (fun t => t.fw.prog = none ∧ t.fw.queue = [] ∧
        t.fw.marked = s.fw.marked ∧ t.errBit pFWU 0 0 = true ∧ cmdTold 0x88 r.slot t))) ∧
    (∀ ok : Bool, s.fw.prog = none ∨ s.fw.queue = [] ∨ s.fw.session = none →
      completes (.chunkProgrammed ok) s (fun t => t = s)) ∧
    (∀ (src : Nat) (d : List Byte),
      let seg := byteField d 1 1 % 4
      let ck := byteField d 4 4
      let waits := s.fw.queue.any (fun q => q.index == ck && (match q.origin with | .udp _ => true | _ => false))
      let good := d.length = 1040 ∧ byteField d 0 1 = 1 ∧ s.tagOk d = true
      (s.udpOn src = false → completes (.fwUdpSegment src d) s (fun t => t.fw = s.fw) ∧
        completes (.fwUdpQuery src d) s (fun t => t.fw = s.fw)) ∧
      (s.udpOn src = true →
        (¬ good → completes (.fwUdpSegment src d) s (fun t => t.fw = s.fw ∧
          t.reg 0 pFWU 0 0x078 % 2 ^ 32 = min (2 ^ 32 - 1) (s.reg 0 pFWU 0 0x078 % 2 ^ 32 + 1))) ∧
        (good → s.fw.bufs.find? (·.chunk == ck) = none →
          (s.fw.bufs.length < 64 → completes (.fwUdpSegment src d) s (fun t =>
            t.fw.bufs = s.fw.bufs ++ [{ chunk := ck, src := src, segs := [(seg, d.drop 16)] }])) ∧
          (64 ≤ s.fw.bufs.length → completes (.fwUdpSegment src d) s (fun t => t.fw = s.fw))) ∧
        (∀ b : AsmBuf, good → s.fw.bufs.find? (·.chunk == ck) = some b →
          let l := b.segs.filter (·.1 != seg) ++ [(seg, d.drop 16)]
          (waits = true → completes (.fwUdpSegment src d) s (fun t => t.fw = s.fw)) ∧
          (waits = false → l.length ≠ 4 → completes (.fwUdpSegment src d) s (fun t =>
            t.fw.queue = s.fw.queue ∧
            t.fw.bufs = s.fw.bufs.map (fun y => if y.chunk = ck then { b with src := src, segs := l } else y))) ∧
          (waits = false → l.length = 4 → s.fw.prog.isSome = true → completes (.fwUdpSegment src d) s (fun t =>
            t.fw.queue = s.fw.queue ++ [{ origin := .udp src, index := ck, data := (sortBy (·.1) l).flatMap (·.2) }]))) ∧
        (∀ r : Session, s.fw.session = some r →
          (d.length = 16 → byteField d 0 1 = 2 → s.tagOk d = true → ∀ nh : Nat,
            s.nextHop (src % 2 == 1) (src / 2) = some nh → s.mgt.hops.any (fun h => h.1 == (src % 2 == 1) && h.2.1 == nh) = true →
            completes (.fwUdpQuery src d) s (fun t => Output.mgt 4 (src / 2) (s.statusBytes r) ∈ t.sent)) ∧
          (d.length ≠ 16 ∨ byteField d 0 1 ≠ 2 ∨ s.tagOk d = false → completes (.fwUdpQuery src d) s (fun t =>
            t.fw = s.fw ∧ t.reg 0 pFWU 0 0x078 % 2 ^ 32 = min (2 ^ 32 - 1) (s.reg 0 pFWU 0 0x078 % 2 ^ 32 + 1)))) ∧
        (s.fw.session = none → completes (.fwUdpQuery src d) s (fun t =>
          t.fw = s.fw ∧ t.reg 0 pFWU 0 0x078 % 2 ^ 32 = min (2 ^ 32 - 1) (s.reg 0 pFWU 0 0x078 % 2 ^ 32 + 1))))) ∧
    (∀ c : Nat,
      let mine := fun (q : ChunkReq) => q.index == c && (match q.origin with | .udp _ => true | _ => false)
      let busy := s.fw.prog.isSome && s.fw.queue.head?.any mine
      (busy = false → completes (.assemblyBufferTimeout c) s (fun t =>
        t.fw.bufs = s.fw.bufs.filter (·.chunk != c) ∧ t.fw.queue = s.fw.queue.filter (fun q => !mine q))) ∧
      (busy = true → completes (.assemblyBufferTimeout c) s (fun t => t = s))) ∧
    (∀ (h : Handle) (r : Session), s.mgrOp (· == .fwVerify) = some h → s.handle? 0 h.seq = some h → s.fw.session = some r →
      s.fw.queue = [] →
      let gaps := (List.range r.count).filter (fun i => !s.fw.marked.contains i)
      let ends := fun (word : HandleWord) (status detail : Nat) (t : State) =>
        ∃ y ∈ (t.fn 0).handles, y.seq = h.seq ∧ y.word = word ∧ (word = .failed → y.status = status ∧ y.detail = detail)
      (gaps ≠ [] → completes .verifyDone s (ends .failed 0x80 2)) ∧
      (gaps = [] →
        let m := s.fw.manifest r.slot
        ((manifestGood m r.count s).1 = false → completes .verifyDone s (ends .failed 0x80 1)) ∧
        ((manifestGood m r.count s).1 = true →
          (manSvn m < s.fw.fusedSvn → completes .verifyDone s (ends .failed 0x81 0)) ∧
          (s.fw.fusedSvn ≤ manSvn m → s.fw.badChunks r.slot ≠ [] → completes .verifyDone s (fun t =>
            ends .failed 0x80 2 t ∧ ∀ i ∈ s.fw.badChunks r.slot, i ∉ t.fw.marked)) ∧
          (s.fw.fusedSvn ≤ manSvn m → s.fw.badChunks r.slot = [] → completes .verifyDone s (fun t =>
            ends .committed 0 0 t ∧ t.fw.verified = true))))) ∧
    (s.mgrOp (· == .fwVerify) = none ∨ s.fw.session = none → completes .verifyDone s (fun t => t = s))

/-- FW_ACTIVATE and FW_CONFIRM (R492, R495, R498), switches (R496), trial and rollback (R497, R499). -/
def Obligations.ActivationAndTrial : Prop :=
  ∀ (s : State),
    (∀ (e : Nat) (x : Entry) (motion holdup : BitVec 8) (vin : Option (BitVec 16)), s.runs 0 e 0x43 x → s.cqTakes 0 x →
      let busy := s.mgrOp (fun o => o == .fwActivate || (match o with | .powerSet _ _ => true | _ => false))
      let c := Instr.fwActivate 0 e motion holdup vin
      (s.golden = true → completes c s (told 0 x false 0 0x86 0 0 s)) ∧
      (s.golden = false →
        (s.fw.verified = false → completes c s (told 0 x false 0 0x83 0 0 s)) ∧
        (s.fw.verified = true → s.fw.onTrial = true → completes c s (told 0 x false 0 0x87 0 0 s)) ∧
        (s.fw.verified = true → s.fw.onTrial = false →
          (∀ f : Nat × Nat, s.actFails motion holdup vin = some f → completes c s (told 0 x false 0 f.1 f.2 0 s)) ∧
          (s.actFails motion holdup vin = none →
            (∀ h : Handle, busy = some h → completes c s (told 0 x false 0 8 (h.seq % 256) 0 s)) ∧
            (busy = none → s.fw.rollWait.isSome = true ∨ s.fw.switch.isSome = true →
              completes c s (told 0 x false 0 8 0 0 s)) ∧
            (busy = none → s.fw.rollWait = none → s.fw.switch = none → s.handleRoom 0 → completes c s (fun t =>
              accepted 0 x .fwActivate true 0 s t ∧ ∃ a, t.fw.act = some a ∧ a.seq = (s.fn 0).nextSeq)))))) ∧
    (∀ (motion holdup : BitVec 8) (vin : Option (BitVec 16)),
      (∀ a : Activation, s.fw.act = some a → a.stage = 3 →
        (∀ f : Nat × Nat, s.actFails motion holdup vin = some f → s.fw.queue = [] → ∀ h : Handle,
          s.handle? 0 a.seq = some h → h.done = false → completes (.activationStaged motion holdup vin) s (fun t =>
            t.fw.act = none ∧ ∃ y ∈ (t.fn 0).handles, y.seq = a.seq ∧ y.word = .failed ∧ y.status = f.1 ∧ y.detail = f.2)) ∧
        (s.actFails motion holdup vin = none → completes (.activationStaged motion holdup vin) s (fun t =>
          t.fw.act = none ∧ t.fw.onTrial = true ∧ t.fw.slot = s.fw.flacon ∧ t.fw.verified = false ∧
          (t.fw.winner.map (·.slot)) = some s.fw.flacon))) ∧
      ((∀ a : Activation, s.fw.act = some a → a.stage ≠ 3) →
        completes (.activationStaged motion holdup vin) s (fun t => t = s))) ∧
    (∀ k pause : Nat,
      (∀ w : Switching, s.fw.switch = some w → w.tile = k →
        ((s.tl k).resetAt = none → completes (.tileSwitchDone k pause) s (fun t => t.fw.lastPause = min pause 65535)) ∧
        (w.rollback = false → s.golden = false → s.fw.rollWait = none → completes (.tileSwitchTimeout k) s (fun t =>
          t.fw.switch = none ∧ t.fw.rollWait = some 5 ∧ t.fw.trialBad = true)) ∧
        (w.rollback = true → completes (.tileSwitchTimeout k) s (fun t =>
          t.fw.trialBad = true ∧ t.fw.rollWait = s.fw.rollWait ∧ ∀ v : Switching, t.fw.switch = some v → v.todo.length < w.todo.length))) ∧
      ((∀ w : Switching, s.fw.switch = some w → w.tile ≠ k) →
        completes (.tileSwitchDone k pause) s (fun t => t = s) ∧ completes (.tileSwitchTimeout k) s (fun t => t = s)) ∧
      ((s.tl k).resetAt.isSome = true → completes (.tileSwitchDone k pause) s (fun t => t = s))) ∧
    (∀ w : BootRec, s.fw.winner = some w →
      (w.trial = true → s.golden = false → s.ready = true →
        let q := w.qh + 1
        let auto := w.autoConf = true ∧ 4 * w.acHours ≤ q ∧ s.fw.trialBad = false ∧ s.fw.rollWait = none ∧
          ∃ j : Nat, s.fw.adminFetch = some j ∧ s.time.tick ≤ j + s.ticksOf 900000000
        (q = 4 * w.hourMax → completes .trialQuarterHour s (fun t =>
          (t.fw.winner.map (·.qh)) = some q ∧ t.fw.rollWait = if s.fw.rollWait.isSome then s.fw.rollWait else some 2)) ∧
        (q ≠ 4 * w.hourMax → ¬ auto → completes .trialQuarterHour s (fun t =>
          t.fw.rollWait = s.fw.rollWait ∧ (t.fw.winner.map (·.qh)) = some q ∧ t.fw.onTrial = true)) ∧
        (q ≠ 4 * w.hourMax → auto → completes .trialQuarterHour s (fun t =>
          t.fw.rollWait = none ∧ t.fw.onTrial = false ∧ (t.fw.winner.map (·.slot)) = some w.slot))) ∧
      (w.trial = false ∨ s.golden = true ∨ s.ready = false → completes .trialQuarterHour s (fun t => t = s)) ∧
      (∀ (why : Nat) (holdup : BitVec 8) (vin : Option (BitVec 16)), s.fw.rollWait = some why →
        s.holdupFails holdup vin = none → s.fw.switch = none → completes (.rollbackHoldupCheck holdup vin) s (fun t =>
          t.fw.rollWait = none ∧ t.fw.slot = w.prevSlot ∧ t.fw.onTrial = false ∧
          (t.fw.winner.map (·.slot)) = some w.prevSlot))) ∧
    (s.fw.winner = none → completes .trialQuarterHour s (fun t => t = s)) ∧
    (∀ (holdup : BitVec 8) (vin : Option (BitVec 16)),
      s.fw.rollWait = none ∨ (s.holdupFails holdup vin).isSome = true ∨ s.fw.switch.isSome = true →
        completes (.rollbackHoldupCheck holdup vin) s (fun t => t = s)) ∧
    (∀ (e : Nat) (x : Entry), s.runs 0 e 0x44 x → s.cqTakes 0 x →
      (s.golden = true → completes (.fwConfirm 0 e) s (told 0 x false 0 0x86 0 0 s)) ∧
      (s.golden = false →
        (s.fw.onTrial = false → completes (.fwConfirm 0 e) s (told 0 x false 0 0 0 0 s)) ∧
        (s.fw.onTrial = true → bit x.p0 0 = true → completes (.fwConfirm 0 e) s (fun t =>
          x.id ∈ t.fw.rejectCmd ∧ t.fw.rollWait = if s.fw.rollWait.isSome then s.fw.rollWait else some 3)) ∧
        (s.fw.onTrial = true → bit x.p0 0 = false → completes (.fwConfirm 0 e) s (fun t =>
          (s.fw.rejectCmd = [] → told 0 x false 0 0 0 0 s t) ∧ t.fw.onTrial = false ∧ t.fw.rollWait = none ∧
          t.fw.rejectCmd = []))))

/-- SETTINGS_SAVE and its copies (R503), node tables (R506), motion (R493, R512), the random-number test (R561). -/
def Obligations.SettingsAndTables : Prop :=
  ∀ (s : State),
    (∀ (e : Nat) (x : Entry), s.runs 0 e 0x48 x → s.cqTakes 0 x →
      (s.golden = true → completes (.settingsSave 0 e) s (told 0 x false 0 0x86 0 0 s)) ∧
      (s.golden = false →
        (∀ h : Handle, s.mgrOp (· == .settingsSave) = some h →
          completes (.settingsSave 0 e) s (told 0 x false 0 8 (h.seq % 256) 0 s)) ∧
        (s.mgrOp (· == .settingsSave) = none → s.handleRoom 0 →
          completes (.settingsSave 0 e) s (accepted 0 x .settingsSave true 0 s)))) ∧
    (∀ v : SaveSt, s.fw.save = some v →
      (v.copy < 2 → completes .settingsCopyWritten s (fun t =>
        t.fw.save = some { v with copy := v.copy + 1 } ∧ t.fw.copyOf v.bank v.copy = some v.content)) ∧
      (v.copy = 2 →
        (v.forAct = false → s.fw.act = none → s.fw.saveWait = none → completes .settingsCopyWritten s (fun t =>
          t.fw.save = none ∧ t.fw.copyOf v.bank 2 = some v.content ∧
          ∀ (q : Nat) (h : Handle), v.seq = some q → s.handle? 0 q = some h → h.done = false →
            ∃ y ∈ (t.fn 0).handles, y.seq = q ∧ y.word = .committed ∧ y.done = true)) ∧
        (∀ a : Activation, v.forAct = true → s.fw.act = some a → completes .settingsCopyWritten s (fun t =>
          t.fw.save = none ∧ t.fw.copyOf v.bank 2 = some v.content ∧ t.fw.act = some { a with stage := 3 })))) ∧
    (s.fw.save = none → completes .settingsCopyWritten s (fun t => t = s)) ∧
    (s.fw.save = none →
      (∀ q : Nat, s.fw.act = none → s.fw.saveWait = some q →
        (s.bankFree s.fw.setBank = true → s.fw.switch.all (·.rollback) = true →
          completes .settingsGenerationWaitEnd s (fun t => t.fw.saveWait = none ∧
            ∃ v, t.fw.save = some v ∧ v.bank = s.fw.setBank ∧ v.copy = 0 ∧ v.seq = some q ∧
              v.content.gen = s.fw.bankGen s.fw.setBank + 1)) ∧
        (s.bankFree s.fw.setBank = false ∨ s.fw.switch.all (·.rollback) = false →
          completes .settingsGenerationWaitEnd s (fun t => t = s))) ∧
      (∀ a : Activation, s.fw.act = some a → a.stage = 1 →
        (s.bankFree (1 - s.fw.setBank) = true → completes .settingsGenerationWaitEnd s (fun t =>
          t.fw.act = some { a with stage := 2 } ∧
          ∃ v, t.fw.save = some v ∧ v.bank = 1 - s.fw.setBank ∧ v.copy = 0 ∧ v.forAct = true)) ∧
        (s.bankFree (1 - s.fw.setBank) = false → completes .settingsGenerationWaitEnd s (fun t => t = s)))) ∧
    (s.fw.save.isSome = true ∨ s.fw.act = none ∧ s.fw.saveWait = none →
      completes .settingsGenerationWaitEnd s (fun t => t = s)) ∧
    (∀ whole : Bool,
      (s.journal = [] → completes (.nodeTableJournalWrite whole) s (fun t => t = s)) ∧
      (∀ (r : Nat × Nat × Nat × List Byte) (rest : List (Nat × Nat × Nat × List Byte)), s.journal = r :: rest →
        (∀ b : NtBase, (s.ntHalf s.half).base = some b → s.half < 2 →
          completes (.nodeTableJournalWrite whole) s (fun t =>
            if (s.ntHalf s.half).records.length < Config.journalRoom then
              t.journal = rest ∧ t.half = s.half ∧ t.ntHalf s.half = { s.ntHalf s.half with
                records := (s.ntHalf s.half).records ++ [if whole then r else (0, 0, 0, [])] }
            else t.journal = [] ∧ t.half = (if whole then 1 - s.half else s.half) ∧
              t.ntHalf (1 - s.half) =
                { base := if whole then some { seq := b.seq + 1, nodes := s.boundNodes, quar := s.quar } else none })) ∧
        ((s.ntHalf s.half).base = none → completes (.nodeTableJournalWrite whole) s (fun t =>
          t.journal = [] ∧ t.half = 0 ∧
          t.half0 = { base := if whole then some { seq := 1, nodes := s.boundNodes, quar := s.quar } else none })))) ∧
    (∀ (f : Nat) (v : W32),
      (f ≠ 0 → s.pagesOpen f = true →
        ((s.fn f).share.motion = true → completes (.tnhMotionWrite f v) s (fun t =>
          (t.fn f).motionDeclared = bit v.toNat 0)) ∧
        ((s.fn f).share.motion = false → completes (.tnhMotionWrite f v) s (fun t => t.errBit pTNH f 0 = true ∧
          (t.fn f).motionDeclared = (s.fn f).motionDeclared))) ∧
      (f = 0 ∨ s.pagesOpen f = false → completes (.tnhMotionWrite f v) s (fun t =>
        (t.fn f).motionDeclared = (s.fn f).motionDeclared))) ∧
    completes (.rngHealthTest false) s (fun t => t.rngOk = false ∧ t.errBit pCRY 0 0 = true) ∧
    (s.nodes.filter (·.2.waitNonce) = [] → s.fw.rngWait = [] → completes (.rngHealthTest true) s (fun t => t.rngOk = true))

/-- The management port (R558-R560). -/
def Obligations.ManagementPort : Prop :=
  ∀ s : State,
    (∀ (up duplex : Bool) (speed : Nat), completes (.mgtLinkStatus up speed duplex) s (fun t =>
      t.mgt = { s.mgt with up := up, speed := speed % 4, duplex := duplex } ∧
      (s.mgt.up = true → up = false → t.errBit pMGT 0 0 = true) ∧
      (up = true → t.mgt.served = false → t.errBit pMGT 0 1 = true))) ∧
    (s.mgtUp = true →
      let unwanted := fun t : State => t.sent = s.sent ∧ t.mgt = s.mgt ∧
        bits (t.reg 0 pMGT 0 0x098) 16 16 = min 65535 (bits (s.reg 0 pMGT 0 0x098) 16 16 + 1)
      (∀ target src : Nat,
        (s.ownAddr false target = true → completes (.mgtArpRequest target src) s (fun t =>
          Output.mgt 1 src (toLe 6 s.mgtMac) ∈ t.sent)) ∧
        (s.ownAddr false target = false → completes (.mgtArpRequest target src) s unwanted) ∧
        (s.ownAddr true target = true → completes (.mgtNeighborSolicitation target src) s (fun t =>
          Output.mgt 2 src (toLe 6 s.mgtMac) ∈ t.sent)) ∧
        (s.ownAddr true target = false → completes (.mgtNeighborSolicitation target src) s unwanted)) ∧
      (∀ (v6 : Bool) (dst src : Nat) (d : List Byte),
        (s.ownAddr v6 dst = true → bit (s.sreg 4 pMGT 0 0x040) 2 = true →
          (∀ nh : Nat, s.nextHop v6 src = some nh →
            (s.mgt.hops.any (fun h => h.1 == v6 && h.2.1 == nh) = true →
              completes (.mgtEchoRequest v6 dst src d) s (fun t => Output.mgt 3 src d ∈ t.sent)) ∧
            (s.mgt.hops.any (fun h => h.1 == v6 && h.2.1 == nh) = false →
              completes (.mgtEchoRequest v6 dst src d) s (fun t => Output.mgt (if v6 then 8 else 7) nh [] ∈ t.sent ∧
                t.mgt = { s.mgt with waiting := s.mgt.waiting ++ [(v6, nh, src, 3#8 :: d)] }))) ∧
          (s.nextHop v6 src = none → completes (.mgtEchoRequest v6 dst src d) s (fun t => t.sent = s.sent))) ∧
        (s.ownAddr v6 dst = false ∨ bit (s.sreg 4 pMGT 0 0x040) 2 = false →
          completes (.mgtEchoRequest v6 dst src d) s unwanted)) ∧
      completes (.mgtUnwantedFrame false) s unwanted ∧
      completes (.mgtUnwantedFrame true) s (fun t => t.sent = s.sent ∧
        bits (t.reg 0 pMGT 0 0x098) 0 16 = min 65535 (bits (s.reg 0 pMGT 0 0x098) 0 16 + 1)) ∧
      (∀ (v6 : Bool) (ip mac : Nat),
        (s.familyOn v6 = true → completes (.nextHopResolutionReply v6 ip mac) s (fun t =>
          (v6, ip, mac) ∈ t.mgt.hops ∧ t.mgt.hops.length ≤ max 16 s.mgt.hops.length ∧
          t.mgt.waiting = s.mgt.waiting.filter (fun w => !(w.1 == v6 && w.2.1 == ip)) ∧
          ∀ w ∈ s.mgt.waiting, w.1 = v6 → w.2.1 = ip → ∀ kind ∈ w.2.2.2.head?,
            Output.mgt kind.toNat w.2.2.1 (w.2.2.2.drop 1) ∈ t.sent)) ∧
        (s.familyOn v6 = false → completes (.nextHopResolutionReply v6 ip mac) s (fun t =>
          t.mgt = s.mgt ∧ t.sent = s.sent)))) ∧
    (s.mgtUp = false → ∀ (v6 bad : Bool) (a b : Nat) (d : List Byte), ∀ c ∈ ([.mgtArpRequest a b, .mgtNeighborSolicitation a b,
      .mgtEchoRequest v6 a b d, .mgtUnwantedFrame bad, .nextHopResolutionReply v6 a b] : List Instr),
      completes c s (fun t => t = s)) ∧
    (∀ (v6 : Bool) (ip : Nat), completes (.mgtNeighborExpiry v6 ip) s (fun t =>
      t.mgt = { s.mgt with hops := s.mgt.hops.filter (fun h => !(h.1 == v6 && h.2.1 == ip)) })) ∧
    (s.mgrOpen → ∀ v : W64,
      let held := fun o old : Nat => ((s.mgt.words.find? (·.1 == o)).map (·.2)).getD old
      (∀ lo ∈ [0x060, 0x080],
        (∀ i < 3, completes (.mgtAddressWrite (lo + 4 * i) 4 v) s (fun t => t.mgtWide lo = s.mgtWide lo ∧
          t.mgt.words = s.mgt.words.filter (·.1 != lo + 4 * i) ++ [(lo + 4 * i, v.toNat % 2 ^ 32)])) ∧
        completes (.mgtAddressWrite (lo + 12) 4 v) s (fun t => t.sreg 0 pMGT 0 (lo + 12) = v.toNat % 2 ^ 32 ∧
          (∀ i < 3, t.sreg 0 pMGT 0 (lo + 4 * i) = held (lo + 4 * i) (s.sreg 0 pMGT 0 (lo + 4 * i)) % 2 ^ 64) ∧
          ∀ w ∈ t.mgt.words, w.1 < lo ∨ lo + 12 < w.1) ∧
        completes (.mgtAddressWrite (lo + 8) 8 v) s (fun t => t.sreg 0 pMGT 0 (lo + 12) = v.toNat / 2 ^ 32 ∧
          t.sreg 0 pMGT 0 (lo + 8) = v.toNat % 2 ^ 32 ∧
          (∀ i < 2, t.sreg 0 pMGT 0 (lo + 4 * i) = held (lo + 4 * i) (s.sreg 0 pMGT 0 (lo + 4 * i)) % 2 ^ 64) ∧
          ∀ w ∈ t.mgt.words, w.1 < lo ∨ lo + 12 < w.1) ∧
        completes (.mgtAddressWrite lo 8 v) s (fun t => t.mgtWide lo = s.mgtWide lo ∧
          (lo, v.toNat % 2 ^ 32) ∈ t.mgt.words ∧ (lo + 4, v.toNat / 2 ^ 32) ∈ t.mgt.words)) ∧
      completes (.mgtAddressWrite 0x048 4 v) s (fun t => t.mgtMac = s.mgtMac ∧
        t.mgt.words = s.mgt.words.filter (·.1 != 0x048) ++ [(0x048, clrBit (v.toNat % 2 ^ 32) 0)]) ∧
      completes (.mgtAddressWrite 0x04C 4 v) s (fun t =>
        t.mgtMac = (held 0x048 (bits s.mgtMac 0 32) + v.toNat % 2 ^ 32 % 2 ^ 16 * 2 ^ 32) % 2 ^ 64 ∧
        ∀ w ∈ t.mgt.words, w.1 < 0x048 ∨ 0x04C < w.1) ∧
      completes (.mgtAddressWrite 0x048 8 v) s (fun t =>
        t.mgtMac = clrBit (v.toNat % 2 ^ 32) 0 + v.toNat / 2 ^ 32 % 2 ^ 16 * 2 ^ 32)) ∧
    (∀ (off size : Nat) (v : W64), ¬ s.mgrOpen ∨ addrReg off = none ∧ (size = 8 → addrReg (off + 4) = none) →
      completes (.mgtAddressWrite off size v) s (fun t => t.mgt = s.mgt ∧ t.regs = s.regs))

/-- Boundary scan (R587). -/
def Obligations.BoundaryScan : Prop :=
  ∀ s : State,
    (s.pins.perst = false →
      (∀ v : Nat, completes (.jtagExtest v) s (fun t => t = { s with jtag := { ir := 0, boundary := v, drives := 1 } }) ∧
        completes (.jtagSamplePreload v) s (fun t => t = { s with jtag := { ir := 2, boundary := v, drives := 0 } })) ∧
      completes .jtagIdcode s (fun t =>
        t = out (.scan s.idcode) { s with jtag := { ir := 1, boundary := s.jtag.boundary, drives := 0 } } ∧
        (s.tiles = 8 → Output.scan 0x18808573 ∈ t.sent)) ∧
      completes .jtagClamp s (fun t => t = { s with jtag := { ir := 4, boundary := s.jtag.boundary, drives := 1 } }) ∧
      completes .jtagHighz s (fun t => t = { s with jtag := { ir := 8, boundary := s.jtag.boundary, drives := 2 } }) ∧
      (∀ c : BitVec 8, c.toNat ∉ [0x00, 0x01, 0x02, 0x04, 0x08] → completes (.jtagBypass c) s (fun t =>
        t = { s with jtag := { ir := c.toNat, boundary := s.jtag.boundary, drives := 0 } }))) ∧
    (s.pins.perst = true → ∀ (v : Nat) (c : BitVec 8),
      ∀ i ∈ ([.jtagExtest v, .jtagSamplePreload v, .jtagIdcode, .jtagClamp, .jtagHighz, .jtagBypass c] : List Instr),
        completes i s (fun t => t = s)) ∧
    (∀ c : BitVec 8, c.toNat ∈ [0x00, 0x01, 0x02, 0x04, 0x08] → completes (.jtagBypass c) s (fun t => t = s)) ∧
    completes .testLogicReset s (fun t => t = { s with jtag := { ir := 1, boundary := s.jtag.boundary, drives := 0 } })

/-- Package reset and boot (R515-R517, R522, R533, R534, R579, R590). -/
def Obligations.PackageReset : Prop :=
  ∀ s : State,
    (∀ c : Instr, c = .powerOn ∨ c = .supplyDrop ∨ (c = .perstAssert ∧ s.pins.perst = true) →
      completes c s (fun t => t.ready = false ∧ t.fns = [] ∧ t.ports = [] ∧ t.points = [] ∧ t.plans = [] ∧ t.pim = [] ∧
        t.time = State.reset.time ∧ t.half0 = s.half0 ∧ t.half1 = s.half1 ∧ t.fw.chunks = s.fw.chunks ∧
        t.fw.boot0 = s.fw.boot0 ∧ t.fw.boot1 = s.fw.boot1 ∧ t.fw.svnFuses = s.fw.svnFuses ∧
        t.boot.cause = if c = .perstAssert then (if s.ready then 2 else s.boot.cause) else 1)) ∧
    (s.pins.perst = false → completes .perstAssert s (fun t => t = s)) ∧
    (∀ (straps : BitVec 4) (flash : Bool),
      let starts := fun t : State => t.pins.perst = true ∧ t.pins.supply = true ∧ t.pins.straps = straps.toNat ∧
        t.fw.flashOk = flash ∧ t.boot.running = true
      (s.pins.perst = false → s.pins.supply = true → completes (.perstRelease straps flash) s starts) ∧
      (s.pins.perst = false → s.pins.supply = false → completes (.perstRelease straps flash) s (fun t =>
        t = { s with pins := { s.pins with perst := true } })) ∧
      (s.pins.perst = true → completes (.perstRelease straps flash) s (fun t => t = s)) ∧
      (s.pins.perst = true → s.pins.supply = false → completes (.resetHoldEnd straps flash) s starts) ∧
      (s.pins.perst = false → s.pins.supply = false → completes (.resetHoldEnd straps flash) s (fun t =>
        t = { s with pins := { s.pins with supply := true } })) ∧
      (s.pins.supply = true → completes (.resetHoldEnd straps flash) s (fun t => t = s)) ∧
      (s.powered = true →
        let again := fun (cause : Nat) (t : State) => t.ready = false ∧ t.points = [] ∧ t.boot.running = true ∧
          t.boot.cause = (if s.ready then cause else s.boot.cause)
        completes (.hotReset straps flash) s (again 3) ∧ completes (.dlDown straps flash) s (again 4) ∧
        ((s.fn 0).dstate = 0 → completes (.glbCtlReset straps flash) s (again 5))) ∧
      (s.powered = false → completes (.hotReset straps flash) s (fun t => t = s) ∧
        completes (.dlDown straps flash) s (fun t => t = s)) ∧
      (s.powered = false ∨ (s.fn 0).dstate ≠ 0 → completes (.glbCtlReset straps flash) s (fun t =>
        t.ready = s.ready ∧ t.boot = s.boot))) ∧
    (∀ ms links : Nat,
      (s.ready = false → s.boot.running = true → s.boot.dead = false →
        completes (.packageReady ms links) s (fun t => t.ready = true ∧ t.boot.ms = min ms 65535 ∧
          (0 < s.tiles → (t.tl 0).ready = true))) ∧
      (s.ready = true ∨ s.boot.running = false ∨ s.boot.dead = true →
        completes (.packageReady ms links) s (fun t => t = s)))

/-- Tile, port and block resets (R518, R519, R521, R533, R541, R562). -/
def Obligations.TilePortBlockResets : Prop :=
  ∀ s : State,
    (∀ k us pause : Nat,
      ((s.tl k).resetAt = none → completes (.tileResetReady k us pause) s (fun t => t = s)) ∧
      ((s.tl k).resetAt.isSome = true → ∃ u : State, (u.tl k).ready = true ∧ (u.tl k).resetAt = none ∧
        (u.tl k).pwr.held = (s.tl k).pwr.held ∧ answers (.tileResetReady k us pause) s (replayHeld k u)) ∧
      ((s.tl k).resetAt.isSome = true → (s.tl k).pwr.held = [] → completes (.tileResetReady k us pause) s (fun t =>
        (t.tl k).ready = true ∧ (t.tl k).resetAt = none))) ∧
    (s.mgrOpen →
      (∀ k : Nat, s.hasTile k = true →
        ((s.tl k).pow = .run ∨ (s.tl k).pow = .doze ∨ (s.tl k).pow = .drying →
          completes (.tileReset k) s (fun t => (t.tl k).ready = false ∧ (t.tl k).resetAt = some s.time.tick ∧
            (t.tl k).tasks = [] ∧ (t.tl k).pow = .run)) ∧
        (s.asleep k = true → completes (.tileReset k) s (fun t =>
          (t.tl k).pwr.held = (s.tl k).pwr.held ++ [regAcc pTIL k 0x00C 4])) ∧
        ((s.tl k).pow = .off → completes (.tileReset k) s (fun t => t.tile = s.tile))) ∧
      (∀ k : Nat, s.hasTile k = false → completes (.tileReset k) s (fun t => t.tile = s.tile)) ∧
      (∀ g : Nat,
        (s.hasPort g = true → s.tileOpen (g / 16) = true → (s.tl (g / 16)).resetAt = none →
          completes (.portReset g) s (fun t => ((t.port g).hop = .down ∨ (t.port g).hop = .lock) ∧
            (t.port g).blockLock = false ∧ (t.port g).quarPort = false ∧ t.linkcfg g = 0x80D)) ∧
        (s.hasPort g = true → s.asleep (g / 16) = true → completes (.portReset g) s (fun t =>
          (t.tl (g / 16)).pwr.held = (s.tl (g / 16)).pwr.held ++ [regAcc pTPT g 0x00C 4])) ∧
        (s.hasPort g = false ∨ s.asleep (g / 16) = false ∧ (s.tileOpen (g / 16) = false ∨ (s.tl (g / 16)).resetAt.isSome = true) →
          completes (.portReset g) s (fun t => t.ports = s.ports ∧ t.regs = s.regs))) ∧
      (∀ ty inst : Nat,
        (blockPage ty = true → s.hasPage ty inst = true → ty ≠ pFWU → ty ≠ pADM →
          (∀ u : Nat, pageTile ty inst = some u → s.accWaits u = false ∧ s.tileOpen u = true) →
          completes (.blockReset ty inst) s (fun t => ∀ off d : Nat, off < 4096 → d < 2 ^ 64 → keptWord ty off = false →
            t.reg d ty inst off = d)) ∧
        (∀ u : Nat, pageTile ty inst = some u →
          (s.accWaits u = true → completes (.blockReset ty inst) s (fun t =>
            (t.tl u).pwr.held = (s.tl u).pwr.held ++ [regAcc ty inst 0x00C 4])) ∧
          (s.accWaits u = false → s.tileOpen u = false → completes (.blockReset ty inst) s (fun t => t.regs = s.regs))) ∧
        (blockPage ty = false ∨ s.hasPage ty inst = false → (∀ u : Nat, pageTile ty inst = some u → s.accWaits u = false) →
          completes (.blockReset ty inst) s (fun t => t.regs = s.regs))) ∧
      completes (.blockReset pADM 0) s (fun t =>
        (t.eqR 0 0).enable = false ∧ (t.eqR 0 1).enable = false ∧ (t.cqR 0 0).enable = false ∧ (t.sqR 0 0).enable = false) ∧
      (s.fwBusy = none → s.fw.switch = none → completes (.blockReset pFWU 0) s (fun t =>
        t.fw.resetWait = false ∧ ∀ off d : Nat, off < 4096 → d < 2 ^ 64 → t.reg d pFWU 0 off = d)) ∧
      (s.fwBusy ≠ none ∨ s.fw.switch ≠ none → completes (.blockReset pFWU 0) s (fun t =>
        t.fw.resetWait = true ∧ t.regs = s.regs)))

/-- Writes (R4, R16-R19, R436, R454, R459, R526-R528, R541, R543-R546, R562). -/
def Obligations.RegisterAccesses : Prop :=
  ∀ (s : State) (f bar a size : Nat) (v : W64) (part : Bool),
    -- what the other commands for writes are
    (∀ (ty inst : Nat) (en : Bool) (m : W32),
      (s.mapped ty inst = false → ∀ c ∈ ([.errmaskWrite ty inst m, .ctlEnableWrite ty inst en, .ctlQuiesceWrite ty inst en] : List Instr),
        completes c s (fun t => t = s)) ∧
      (s.mapped ty inst = true → ∀ t : State,
        let ctl := fun x : Nat => Instr.registerWrite (pageFn ty inst) 0 (pageAddr ty inst 0x00C) 4 (BitVec.ofNat 64 x) false
        (answers (.errmaskWrite ty inst m) s t ↔
          answers (.registerWrite (pageFn ty inst) 0 (pageAddr ty inst 0x018) 4 (m.setWidth 64) false) s t) ∧
        (answers (.ctlEnableWrite ty inst en) s t ↔ answers (ctl (b2n en + 2 * bits (s.reg 1 ty inst 0x00C) 1 1)) s t) ∧
        (answers (.ctlQuiesceWrite ty inst en) s t ↔ answers (ctl (2 * b2n en + bits (s.reg 1 ty inst 0x00C) 0 1)) s t))) ∧
    (∀ t : State,
      (aligned a size = false →
        (answers (.malformedRegisterAccess f bar a size true) s t ↔ answers (.registerWrite f bar a size 0 false) s t) ∧
        (answers (.malformedRegisterAccess f bar a size false) s t ↔ answers (.splitReadSnapshot f bar a size) s t)) ∧
      (∀ ty inst off : Nat, place 0 a = .page ty inst off → ty = pTSK ∨ ty = pATZ →
        (answers (.tskAtzPageAccess a size true v) s t ↔ answers (.registerWrite 0 0 a size v false) s t) ∧
        (answers (.tskAtzPageAccess a size false v) s t ↔ answers (.splitReadSnapshot 0 0 a size) s t)) ∧
      (∀ k : Nat, accTile 0 bar a = some k → s.asleep k = true →
        (answers (.managerAccessSleepingTile bar a size true v part) s t ↔ answers (.registerWrite 0 bar a size v part) s t) ∧
        (answers (.managerAccessSleepingTile bar a size false v part) s t ↔ answers (.splitReadSnapshot 0 bar a size) s t)) ∧
      (s.serves 0 2 a → aligned a size = true →
        (answers (.registerWrite 0 2 a size v part) s t ↔ answers (.pimWindowWrite a size v part) s t))) ∧
    (∀ w : Bool,
      (aligned a size = true → completes (.malformedRegisterAccess f bar a size w) s (fun t => t = s)) ∧
      ((∀ ty inst off : Nat, place 0 a = .page ty inst off → ty ≠ pTSK ∧ ty ≠ pATZ) →
        completes (.tskAtzPageAccess a size w v) s (fun t => t = s)) ∧
      ((∀ k : Nat, accTile 0 bar a = some k → s.asleep k = false) →
        completes (.managerAccessSleepingTile bar a size w v part) s (fun t => t = s))) ∧
    -- writes that do not reach a register
    (hasBar f bar = false → completes (.registerWrite f bar a size v part) s (fun t => t = s)) ∧
    (hasBar f bar = true →
      (s.answers f = 0 ∨ s.waitsFor f bar a = none ∧
          (s.answers f ≠ 2 ∨ s.placeOpen f bar a = false ∨ s.deadTile (accTile f bar a) = true ∨
            tilAtOnce bar a s = true ∧ (a % 0x1000 = 0x00C → bit v.toNat 2 = false)) →
        completes (.registerWrite f bar a size v part) s (fun t => t.regs = s.regs ∧ t.tile = s.tile ∧ t.ports = s.ports)) ∧
      (∀ k : Nat, s.answers f ≠ 0 → s.waitsFor f bar a = some k →
        (resetAbsorbed bar a size v.toNat part s = false → completes (.registerWrite f bar a size v part) s (fun t =>
          (t.tl k).pwr.held = (s.tl k).pwr.held ++ [{ bar, off := a, size, write := true, value := v.toNat, part }])) ∧
        (resetAbsorbed bar a size v.toNat part s = true → completes (.registerWrite f bar a size v part) s (fun t =>
          t.tile = s.tile ∧ t.regs = s.regs ∧ t.ports = s.ports)))) ∧
    (s.serves 0 2 a → aligned a size = false → completes (.registerWrite 0 2 a size v part) s (fun t =>
      t.errBit pPIM (a / 0x800000) 30 = true)) ∧
    -- writes that reach a page
    (∀ ty inst off : Nat, s.serves f 0 a → place f a = .page ty inst off → tilAtOnce 0 a s = false →
      (part = true ∨ aligned a size = false →
        (named ty off = true → completes (.registerWrite f 0 a size v part) s (fun t => t.errBit ty inst 30 = true)) ∧
        (named ty off = false → completes (.registerWrite f 0 a size v part) s (fun t => t.regs = s.regs))) ∧
      (named ty off = false → a % 4 = 0 → completes (.registerWrite f 0 a 4 v false) s (fun t => t.regs = s.regs)) ∧
      (ty = pTSK ∨ ty = pATZ → ∀ w : Bool, w = true ∨ aligned a size = true → f = 0 →
        let k := if ty = pTSK then inst else inst / 16
        (s.tl k).pow = .doze → completes (.tskAtzPageAccess a size w v) s (fun t => (t.tl k).pow = .run)) ∧
      (off = 0x014 → a % 4 = 0 → completes (.registerWrite f 0 a 4 v false) s (fun t =>
        t.reg 0 ty inst 0x014 = maskOf 32 (fun b => bit (s.reg 0 ty inst 0x014) b && !bit v.toNat b))) ∧
      (off = 0x018 → a = pageAddr ty inst 0x018 → f = pageFn ty inst → s.mapped ty inst = true → ∀ m : W32,
        completes (.errmaskWrite ty inst m) s (fun t =>
          t.reg 0 ty inst 0x018 = maskOf 32 (fun b => bit (errBits ty) b && bit m.toNat b))) ∧
      (off = 0x00C → a = pageAddr ty inst 0x00C → f = pageFn ty inst → s.mapped ty inst = true →
        let ctl := s.reg 1 ty inst 0x00C
        let log := fun (t : State) (b : Nat) => t.reg 1 ty inst 0x00C = ctl ∧ bits (t.reg 0 ty inst 0x01C) 0 17 = 0x00C + b * 2 ^ 12
        ∀ b : Bool,
          (ty = pMGT ∨ ty = pATZ → completes (.ctlEnableWrite ty inst b) s (fun t => bit (t.reg 1 ty inst 0x00C) 0 = b)) ∧
          (ty ≠ pMGT → ty ≠ pATZ → bit ctl 1 = false → completes (.ctlEnableWrite ty inst false) s (fun t => log t 0)) ∧
          (ty = pBRG ∨ ty = pBMV ∨ ty = pADM →
            completes (.ctlQuiesceWrite ty inst b) s (fun t => bit (t.reg 1 ty inst 0x00C) 1 = b)) ∧
          (ty ≠ pBRG → ty ≠ pBMV → ty ≠ pADM → bit ctl 0 = true →
            completes (.ctlQuiesceWrite ty inst true) s (fun t => log t 1)))) ∧
    (∀ ty inst off : Nat, s.reaches f a ty inst off →
      (∀ x ∈ ([(pPWR, 0x4C, 0xFF, fun v => v % 256), (pTIM, 0x74, 0, fun v => bits v 0 12 + bits v 16 12 * 2 ^ 16),
          (pTPL, 0x40, 1, fun v => max 1 (min 512 (bits v 0 10))), (pTSK, 0x40, 0, fun v => min 11 (v % 16)),
          (pTSK, 0x48, 0, fun v => v % 16),
          (pPMT, 0x4C, 0x5028, fun v => let l := max 10 (min 200 (bits v 0 8)); l + max (l + 10) (bits v 8 8) * 256),
          (pPIM, 0x40, 2, fun v => v % 4), (pBRG, 0x40, 0, fun v => v % 2 ^ 16),
          (pBRG, 0x44, 0, fun v => min (v / 4 * 4) 0xFEFFFFFC), (pBRG, 0x48, 0, fun v => v), (pBMV, 0x40, 0, fun v => v % 32),
          (pTPT, 0x50, 0, fun v => v % 2 ^ 12), (pTPT, 0x90, 0, fun v => v % 2 ^ 12), (pSEQ, 0x44, 0, fun v => v % 2),
          (pATZ, 0x40, 0x100042, fun v => bits v 0 2 + max 1 (bits v 4 8) * 16 + max 1 (bits v 16 8) * 2 ^ 16),
          (pATZ, 0x4C, 0, fun v => min 4091 (v % 2 ^ 12)), (pPLN, 0x40, 0, fun v => v % 32),
          (pBWV, 0x48, 0xC8, fun v => max 1 (min 5000 (bits v 0 13))), (pBWV, 0x4C, 0x0A, fun v => max 4 (min 16 (bits v 0 5))),
          (pBMC, 0x44, 0x00080064, fun v => min 5000 (bits v 0 13) + max 4 (min 16 (bits v 16 5)) * 2 ^ 16)] :
          List (Nat × Nat × Nat × (Nat → Nat))), x.1 = ty → x.2.1 = off →
        completes (.registerWrite f 0 a 4 v false) s (fun t => t.reg x.2.2.1 ty inst off = x.2.2.2 (v.toNat % 2 ^ 32)) ∧
        (a % 8 = 0 → completes (.registerWrite f 0 a 8 v false) s (fun t =>
          t.reg x.2.2.1 ty inst off = x.2.2.2 (v.toNat % 2 ^ 32))) ∧
        (a % 8 = 4 → completes (.registerWrite f 0 (a - 4) 8 v false) s (fun t =>
          t.reg x.2.2.1 ty inst off = x.2.2.2 (v.toNat / 2 ^ 32)))) ∧
      (∀ x ∈ ([(pFWU, 0x64, 0x00480603, fun v => let h := max 2 (min 720 (bits v 16 10))
            max 1 (bits v 0 4) + b2n (bit v 4) * 16 + max 1 (min (h - 1) (bits v 6 10)) * 2 ^ 6 + h * 2 ^ 16),
          (pFWU, 0x68, 0, fun v => v % 2), (pFWU, 0x70, 0, fun v => bits v 0 7 + bits v 16 16 * 2 ^ 16),
          (pFWU, 0x6C, 0xC6C1, fun v => (if v % 2 ^ 16 = 0 then 50881 else v % 2 ^ 16) + b2n (bit v 16) * 2 ^ 16),
          (pMGT, 0x40, 4, fun v => v % 8), (pMGT, 0x50, 0, fun v => v), (pMGT, 0x54, 0, fun v => min 32 (v % 64)),
          (pMGT, 0x58, 0, fun v => v), (pMGT, 0x70, 0, fun v => min 128 (v % 256)), (pPIM, 0x44, 0xFFFFFFFF, fun v => v),
          (pPMT, 0x48, 0x10400, fun v => max 1 (v % 2 ^ 16) + b2n (bit v 16) * 2 ^ 16),
          (pTPT, 0x84, 0x2040, fun v => max 1 (bits v 0 8) + max 1 (bits v 8 8) * 256)] :
          List (Nat × Nat × Nat × (Nat → Nat))), x.1 = ty → x.2.1 = off →
        completes (.registerWrite f 0 a 4 v false) s (fun t => t.sreg x.2.2.1 ty inst off = x.2.2.2 (v.toNat % 2 ^ 32)) ∧
        (a % 8 = 0 → completes (.registerWrite f 0 a 8 v false) s (fun t =>
          t.sreg x.2.2.1 ty inst off = x.2.2.2 (v.toNat % 2 ^ 32))) ∧
        (a % 8 = 4 → completes (.registerWrite f 0 (a - 4) 8 v false) s (fun t =>
          t.sreg x.2.2.1 ty inst off = x.2.2.2 (v.toNat / 2 ^ 32)))))

/-- Configuration writes (R367, R368, R381, R467, R548). -/
def Obligations.ConfigurationWrites : Prop :=
  ∀ (s : State) (f what v : Nat),
    (s.reach f = true →
      completes (.configSpaceWrite f 0 v) s (fun t => (t.fn f).bme = bit v 0) ∧
      (v = 0 ∨ v = 3 → completes (.configSpaceWrite f 1 v) s (fun t => (t.fn f).dstate = v)) ∧
      (v ≠ 0 → v ≠ 3 → completes (.configSpaceWrite f 1 v) s (fun t => t = s)) ∧
      (f ≠ 0 → 2 ≤ what → completes (.configSpaceWrite f what v) s (fun t => t = s)) ∧
      (4 < what → completes (.configSpaceWrite f what v) s (fun t => t = s))) ∧
    (s.reach f = false → completes (.configSpaceWrite f what v) s (fun t => t = s)) ∧
    completes (.configSpaceWrite 0 2 v) s (fun t => t = { s with vfMse := bit v 0 }) ∧
    (s.vfEnable = false → completes (.configSpaceWrite 0 3 v) s (fun t => t = { s with numVfs := min v 512 })) ∧
    (s.vfEnable = true → completes (.configSpaceWrite 0 3 v) s (fun t => t = s)) ∧
    completes (.configSpaceWrite 0 4 v) s (fun t => t = { s with ari := bit v 0 })

/-- Reads (R15, R17, R18, R81, R82, R369, R454, R459, R523, R544-R546). -/
def Obligations.RegisterReads : Prop :=
  ∀ (s : State) (f bar a size : Nat),
    -- what the other commands for reads are
    (∀ t : State, (answers (.pttickRead size) s t ↔ answers (.splitReadSnapshot 0 0 0x1078 size) s t) ∧
      (f ≠ 0 → (answers (.tnhPttickRead f size) s t ↔ answers (.splitReadSnapshot f 0 0x48 size) s t)) ∧
      (∀ ty inst off : Nat, place f a = .page ty inst off →
        ((rcBases ty).contains off = true ∨ size = 8 ∧ (rcBases ty).contains (off + 4) = true) →
        (answers (.rcCounterRead f a size) s t ↔ answers (.splitReadSnapshot f 0 a size) s t))) ∧
    completes (.tnhPttickRead 0 size) s (fun t => t = s) ∧
    ((∀ ty inst off : Nat, place f a = .page ty inst off →
        (rcBases ty).contains off = false ∧ (size = 8 → (rcBases ty).contains (off + 4) = false)) →
      completes (.rcCounterRead f a size) s (fun t => t = s)) ∧
    -- reads that are not served
    (hasBar f bar = false → completes (.splitReadSnapshot f bar a size) s (fun t => t = s)) ∧
    (hasBar f bar = true → s.answers f = 0 ∨ aligned a size = false → completes (.splitReadSnapshot f bar a size) s (fun t =>
      Output.readUR f bar a ∈ t.sent ∧ if bar = 0 then (t.fn f).snap0 = none else (t.fn f).snap2 = none)) ∧
    (hasBar f bar = true → s.answers f ≠ 0 → aligned a size = true →
      (∀ k : Nat, s.waitsFor f bar a = some k → completes (.splitReadSnapshot f bar a size) s (fun t =>
        (t.tl k).pwr.held = (s.tl k).pwr.held ++
          [{ bar, off := a, size, write := false, value := 0, part := false, snap := s.snapAt f bar a size }])) ∧
      (s.waitsFor f bar a = none → s.answers f = 1 ∨ s.placeOpen f bar a = false ∨ s.deadTile (accTile f bar a) = true →
        completes (.splitReadSnapshot f bar a size) s (fun t => Output.readData f bar a size 0 ∈ t.sent))) ∧
    -- served reads of BAR0; `u` is the state in which the page is read
    (∀ ty inst off : Nat, s.reaches f a ty inst off →
      let u := endsDoze f a (dropSnap f 0 s)
      let v := (ptAtOf ty inst off u).getD (wideVal ty inst off u) % 2 ^ 64
      (wide ty off = true →
        completes (.splitReadSnapshot f 0 a 4) s (fun t => Output.readData f 0 a 4 (v % 2 ^ 32) ∈ t.sent ∧
          (t.fn f).snap0 = some (a + 4, BitVec.ofNat 32 (v / 2 ^ 32))) ∧
        (a % 8 = 0 → completes (.splitReadSnapshot f 0 a 8) s (fun t => Output.readData f 0 a 8 v ∈ t.sent ∧
          (t.fn f).snap0 = none))) ∧
      (off % 8 = 4 → wide ty (off - 4) = true → wide ty off = false →
        (∀ x : W32, (s.fn f).snap0 = some (a, x) → completes (.splitReadSnapshot f 0 a 4) s (fun t =>
          Output.readData f 0 a 4 x.toNat ∈ t.sent ∧ (t.fn f).snap0 = none)) ∧
        ((∀ x : W32, (s.fn f).snap0 ≠ some (a, x)) → completes (.splitReadSnapshot f 0 a 4) s (fun t =>
          Output.readData f 0 a 4 (wordVal ty inst off u) ∈ t.sent ∧ (t.fn f).snap0 = none))) ∧
      (wide ty off = false → ¬ (off % 8 = 4 ∧ wide ty (off - 4) = true) →
        completes (.splitReadSnapshot f 0 a 4) s (fun t => (t.fn f).snap0 = none ∧
          Output.readData f 0 a 4 (if ty = pBWV ∧ off = 0x50 then (takeLock f u).1 else wordVal ty inst off u) ∈ t.sent) ∧
        (a % 8 = 0 → completes (.splitReadSnapshot f 0 a 8) s (fun t => (t.fn f).snap0 = none ∧ ∃ hi : Nat,
          Output.readData f 0 a 8
            ((if ty = pBWV ∧ off = 0x50 then (takeLock f u).1 else wordVal ty inst off u) + hi * 2 ^ 32) ∈ t.sent)))) ∧
    (s.serves f 0 a → a % 4 = 0 →
      (place f a = .hole → completes (.splitReadSnapshot f 0 a 4) s (fun t => Output.readData f 0 a 4 0 ∈ t.sent)) ∧
      (∀ off : Nat, place f a = .msix off → completes (.splitReadSnapshot f 0 a 4) s (fun t =>
        Output.readData f 0 a 4 (msixVal f off s) ∈ t.sent)) ∧
      (∀ g off : Nat, place f a = .aper g off → completes (.splitReadSnapshot f 0 a 4) s (fun t =>
        Output.readData f 0 a 4 (aperVal g off s) ∈ t.sent)) ∧
      (place f a = .pba 0 → completes (.splitReadSnapshot f 0 a 4) s (fun t =>
        Output.readData f 0 a 4 (pbaVal f s % 2 ^ 32) ∈ t.sent ∧
        (t.fn f).snap0 = some (a + 4, BitVec.ofNat 32 (pbaVal f s / 2 ^ 32))) ∧
        (a % 8 = 0 → completes (.splitReadSnapshot f 0 a 8) s (fun t => Output.readData f 0 a 8 (pbaVal f s) ∈ t.sent))) ∧
      (∀ off : Nat, off ≠ 0 → place f a = .pba off →
        (∀ x : W32, (s.fn f).snap0 = some (a, x) → completes (.splitReadSnapshot f 0 a 4) s (fun t =>
          Output.readData f 0 a 4 x.toNat ∈ t.sent ∧ (t.fn f).snap0 = none)) ∧
        ((s.fn f).snap0 = none → completes (.splitReadSnapshot f 0 a 4) s (fun t =>
          Output.readData f 0 a 4 (pbaVal f s / 2 ^ 32) ∈ t.sent)))) ∧
    -- served reads of records
    (s.serves 0 2 a →
      (a % 8 = 0 → completes (.splitReadSnapshot 0 2 a 8) s (fun t => Output.readData 0 2 a 8 (s.record (a / 8)) ∈ t.sent) ∧
        completes (.splitReadSnapshot 0 2 a 4) s (fun t => Output.readData 0 2 a 4 (s.record (a / 8) % 2 ^ 32) ∈ t.sent ∧
          (t.fn 0).snap2 = some (a + 4, BitVec.ofNat 32 (s.record (a / 8) / 2 ^ 32)))) ∧
      (a % 8 = 4 →
        (∀ x : W32, (s.fn 0).snap2 = some (a, x) → completes (.splitReadSnapshot 0 2 a 4) s (fun t =>
          Output.readData 0 2 a 4 x.toNat ∈ t.sent ∧ (t.fn 0).snap2 = none)) ∧
        ((s.fn 0).snap2 = none → completes (.splitReadSnapshot 0 2 a 4) s (fun t =>
          Output.readData 0 2 a 4 (s.record (a / 8) / 2 ^ 32) ∈ t.sent)))) ∧
    -- the snapshots of plant time
    (s.serves 0 0 0x1078 → size = 4 ∨ size = 8 → completes (.pttickRead size) s (fun t =>
      Output.readData 0 0 0x1078 size (s.time.ptTick % 2 ^ 64 % 2 ^ (8 * size)) ∈ t.sent ∧ (t.fn 0).ptSnap = some s.time.ptAt)) ∧
    (s.serves f 0 0x48 → f ≠ 0 → size = 4 ∨ size = 8 → completes (.tnhPttickRead f size) s (fun t =>
      Output.readData f 0 0x48 size (s.time.ptTick % 2 ^ 64 % 2 ^ (8 * size)) ∈ t.sent ∧ (t.fn f).tnhSnap = some s.time.ptAt)) ∧
    -- read-clear registers
    (∀ ty inst off : Nat, s.reaches f a ty inst off →
      ((ty, off) ∈ [(pPWR, 0x48), (pFWU, 0x78), (pSET, 0x50), (pICG, 0x78), (pMGT, 0x98), (pCRY, 0x40), (pTSK, 0x54),
          (pTSK, 0x68), (pPMT, 0x58), (pPIM, 0x4C), (pRFX, 0x48), (pRFX, 0x4C), (pBMV, 0x50), (pTNH, 0xB0), (pFIB, 0x800),
          (pBWV, 0x60), (pBWV, 0x64)] →
        completes (.rcCounterRead f a 4) s (fun t =>
          Output.readData f 0 a 4 (s.reg 0 ty inst off % 2 ^ 32) ∈ t.sent ∧ t.reg 0 ty inst off = 0) ∧
        (a % 8 = 0 → completes (.rcCounterRead f a 8) s (fun t => t.reg 0 ty inst off = 0 ∧ ∃ hi : Nat,
          Output.readData f 0 a 8 (s.reg 0 ty inst off % 2 ^ 32 + hi * 2 ^ 32) ∈ t.sent)) ∧
        (a % 8 = 4 → completes (.rcCounterRead f (a - 4) 8) s (fun t => t.reg 0 ty inst off = 0 ∧ ∃ lo : Nat, lo < 2 ^ 32 ∧
          Output.readData f 0 (a - 4) 8 (lo + s.reg 0 ty inst off % 2 ^ 32 * 2 ^ 32) ∈ t.sent))) ∧
      ((ty, off) ∈ [(pICG, 0x70), (pMGT, 0x90), (pTSK, 0x60), (pPMT, 0x60), (pBMV, 0x48), (pTPT, 0x60), (pTPT, 0x68),
          (pTPT, 0x70), (pTPT, 0x78), (pBMC, 0x60)] → ∀ sz : Nat, sz = 4 ∨ sz = 8 ∧ a % 8 = 0 →
        completes (.rcCounterRead f a sz) s (fun t =>
          Output.readData f 0 a sz (s.reg 0 ty inst off % 2 ^ (8 * sz)) ∈ t.sent ∧ t.reg 0 ty inst off = 0)) ∧
      (ty = pTSK → off = 0x50 → completes (.rcCounterRead f a 4) s (fun t =>
        let w := waitOff (s.reg 0 pTSK inst 0x048)
        Output.readData f 0 a 4 (s.reg 0 pTSK inst w % 2 ^ 32) ∈ t.sent ∧ t.reg 0 pTSK inst w = 0)) ∧
      (ty = pTPT → off = 0x98 → completes (.rcCounterRead f a 4) s (fun t =>
        let n := s.reg 0 pTPT inst 0x090
        Output.readData f 0 a 4 (((s.node inst n).misses + (s.node inst n).recovered * 2 ^ 16) % 2 ^ 32) ∈ t.sent ∧
        t.node inst n = { s.node inst n with misses := 0, recovered := 0 })) ∧
      (ty = pSEQ → off = 0x68 → ∀ sz : Nat, sz = 4 ∨ sz = 8 ∧ a % 8 = 0 → completes (.rcCounterRead f a sz) s (fun t =>
        Output.readData f 0 a sz ((s.plan inst).swaps % 2 ^ (8 * sz)) ∈ t.sent ∧ (t.plan inst).swaps = 0)) ∧
      (ty = pATZ → off = 0x58 → completes (.rcCounterRead f a 4) s (fun t =>
        Output.readData f 0 a 4 (((s.plan inst).movesOpt + (s.plan inst).movesForced * 2 ^ 16) % 2 ^ 32) ∈ t.sent ∧
        (t.plan inst).movesOpt = 0 ∧ (t.plan inst).movesForced = 0)) ∧
      (ty = pTNH → off = 0x98 → completes (.rcCounterRead f a 4) s (fun t =>
        Output.readData f 0 a 4 (((s.fn inst).image.skipIn + (s.fn inst).image.skipOut * 2 ^ 16) % 2 ^ 32) ∈ t.sent ∧
        (t.fn inst).image.skipIn = 0 ∧ (t.fn inst).image.skipOut = 0)) ∧
      (ty = pTNH → off = 0x9C → completes (.rcCounterRead f a 4) s (fun t =>
        Output.readData f 0 a 4 ((s.fn inst).image.lost % 2 ^ 32) ∈ t.sent ∧ (t.fn inst).image.lost = 0)) ∧
      (∀ w : Nat, ty = pDBL ∨ ty = pADM → w < 7 → off = 0x250 + 4 * w → completes (.rcCounterRead f a 4) s (fun t =>
        Output.readData f 0 a 4
          ((nget 0 (s.fn inst).eqovf (2 * w) + nget 0 (s.fn inst).eqovf (2 * w + 1) * 2 ^ 16) % 2 ^ 32) ∈ t.sent ∧
        nget 0 (t.fn inst).eqovf (2 * w) = 0 ∧ nget 0 (t.fn inst).eqovf (2 * w + 1) = 0)) ∧
      (ty = pFIB → off = 0x80 → completes (.rcCounterRead f a 4) s (fun t =>
        Output.readData f 0 a 4 ((s.fn inst).fast.entries % 2 ^ 32) ∈ t.sent ∧ (t.fn inst).fast.entries = 0)) ∧
      (ty = pNIB → off = 0x58 → completes (.rcCounterRead f a 4) s (fun t =>
        Output.readData f 0 a 4 ((s.fn inst).norm.entries % 2 ^ 32) ∈ t.sent ∧ (t.fn inst).norm.entries = 0)))

/-- The RWL fields of TIM_TIMECFG and their lock (R58, R19). -/
def Obligations.TickConfigurationLocks : Prop :=
  ∀ s : State,
    (s.mgrOpen → ∀ v : W32,
      (s.time.locked = false → completes (.timecfgWrite v) s (fun t =>
        t.time.ticklenW = bits v.toNat 0 2 ∧ t.time.fllog2W = min 16 (max 4 (bits v.toNat 4 5)) ∧ t.time.locked = false)) ∧
      (s.time.locked = true → completes (.timecfgWrite v) s (fun t => t.time = s.time ∧ t.errBit pTIM 0 31 = true))) ∧
    (∀ g : Nat, (s.plan g).fixed = some s.time.tick →
      ((s.plan g).idle.entries ≠ [] → completes (.accordSwap g) s (fun t => t.time.locked = true)) ∧
      ((s.plan g).idle.entries = [] → completes (.accordSwap g) s (fun t => t.time.locked = s.time.locked))) ∧
    (∀ c : Instr, c = .powerOn ∨ c = .supplyDrop ∨ (c = .perstAssert ∧ s.pins.perst = true) →
      completes c s (fun t => t.time.locked = false)) ∧
    (∀ (straps : BitVec 4) (flash : Bool), s.powered = true → s.ready = true →
      completes (.hotReset straps flash) s (fun t => t.time.locked = false) ∧
      completes (.dlDown straps flash) s (fun t => t.time.locked = false) ∧
      ((s.fn 0).dstate = 0 → completes (.glbCtlReset straps flash) s (fun t => t.time.locked = false)))

/-- The tick configuration after package reset (R61). -/
def Obligations.StoredTickConfiguration : Prop :=
  bits 0xA0 0 2 = 0 ∧ bits 0xA0 4 5 = 10 ∧
  ∀ (s : State) (straps : BitVec 4) (flash : Bool), s.pins.perst = false → s.pins.supply = true →
    s.stored = [] → s.time = State.reset.time →
    completes (.perstRelease straps flash) s (fun t =>
      let w := (nget 0xA0#64 t.stored (regKey pTIM 0 0x040)).toNat
      t.time.ticklen = bits w 0 2 ∧ t.time.fllog2 = bits w 4 5 ∧
      t.time.ticklenW = bits w 0 2 ∧ t.time.fllog2W = bits w 4 5)

/-- The tick counter cannot be written (R70); package reset and the wake from Standby are the exceptions of R71, R85. -/
def Obligations.TickCannotBeWritten : Prop :=
  ∀ s : State, s.ready = true →
    (∀ (c : Instr) (t : State), c ≠ .tickBoundary → (∀ n : Nat, c ≠ .standbyWake n) → exec c s = .next t → t.ready = true →
      t.time.tick = s.time.tick) ∧
    (s.clockRuns = true → s.timecfgDue = false → completes .tickBoundary s (fun t => t.time.tick = (s.time.tick + 1) % 2 ^ 64)) ∧
    (∀ count : Nat, s.time.sleeping = true → (s.tl 0).pow = .run → completes (.standbyWake count) s (fun t =>
      s.time.entryTick ≤ t.time.tick ∧ t.time.tick % s.frameLen = 0))

/-- The modes of plant time and its start (R73). -/
def Obligations.PlantTimeModes : Prop :=
  ∀ s : State,
    (s.mgrOpen → ∀ v : W32, bits v.toNat 0 2 ≤ 2 → completes (.ptctlWrite v) s (fun t => t.time.modeW = bits v.toNat 0 2)) ∧
    (s.clockRuns = true → completes .tickBoundary s (fun t => t.time.mode = s.time.modeW)) ∧
    (∀ c : Instr, c = .powerOn ∨ c = .supplyDrop ∨ (c = .perstAssert ∧ s.pins.perst = true) →
      completes c s (fun t => t.time.plant = 0 ∧ t.time.mode = 0 ∧ t.time.modeW = 0 ∧ t.time.sync = false)) ∧
    (∀ (straps : BitVec 4) (flash : Bool), s.powered = true → s.ready = true →
      completes (.hotReset straps flash) s (fun t => t.time.plant = 0 ∧ t.time.mode = 0 ∧ t.time.sync = false) ∧
      completes (.dlDown straps flash) s (fun t => t.time.plant = 0 ∧ t.time.mode = 0 ∧ t.time.sync = false) ∧
      ((s.fn 0).dstate = 0 → completes (.glbCtlReset straps flash) s (fun t =>
        t.time.plant = 0 ∧ t.time.mode = 0 ∧ t.time.sync = false)))

/-- The loss of the IEEE 1588 master (R80). Which Announce selects a master: log entry 113. -/
def Obligations.MasterLossGivesHoldover : Prop :=
  ∀ s : State,
    (s.ready = true → s.time.mode = 1 → ∃ u : State,
      answers .announceReceiptTimeout s (emitMgr 9 3 [(16, 1, 1)] u) ∧
      (emitMgr 9 3 [(16, 1, 1)] u).time = u.time ∧ (emitMgr 9 3 [(16, 1, 1)] u).errBit pTIM 0 2 = true ∧
      u.time.sync = false ∧ u.time.holdover = true ∧ u.time.plant = s.time.plant ∧ u.time.plantFrac = s.time.plantFrac ∧
      u.time.rate = s.time.rate ∧ u.time.rateW = s.time.rateW) ∧
    (∀ (src : BitVec 80) (ds : BitVec 128), s.ptpOn = true → s.time.master = none →
      s.time.foreign.contains src.toNat = true → ds.toNat % 2 ^ 16 < 255 →
      completes (.ptpAnnounce s.ptpDomain src ds) s (fun t => t.time.master.isSome = true ∧ t.time.holdover = false))

/-- Failed and false management answers (R149). -/
def Obligations.ManagementAnswersFail : Prop :=
  ∀ (s : State) (g m : Nat) (r : MReq), s.hopUp g = true → (s.port g).mreqs.find? (·.mseq == m) = some r →
    (∀ (mis : Bool) (blocks : List RxBlock),
      (mis = true ∨ blocks = [] ∨ ∃ (hb : RxBlock) (body : List RxBlock), blocks = hb :: body ∧
        (hb.isHeader = false ∨ hOk hb.bytes = false ∨
          hNode hb.bytes = r.node ∧ hClass hb.bytes = 2 ∧ hXid hb.bytes % 256 = m ∧
          hLen hb.bytes ≤ answerLen r.op r.words - 1 ∧ bodyOk hb.bytes body = false)) →
      (r.attempt = 0 → completes (.managementAnswer g m mis blocks) s (fun t =>
        ∃ q ∈ (t.port g).mwait ++ (t.port g).mreqs, q.node = r.node ∧ q.op = r.op ∧ q.words = r.words ∧
          q.purpose = r.purpose ∧ q.attempt = 1 ∧ (q ∈ (t.port g).mwait ∨ q.mseq ≠ m))) ∧
      (r.attempt ≠ 0 → (∀ u : State, mgmtFailed g r u = u) → (s.node g r.node).leaves = true →
        (s.node g r.node).run + 1 < bits (s.treecfg g) 8 8 → (s.node g r.node).win + 1 < bits (s.misswin g) 0 8 →
        completes (.managementAnswer g m mis blocks) s (fun t =>
          (t.port g).mreqs = (s.port g).mreqs.filter (· != r) ∧
          t.node g r.node = { s.node g r.node with
            run := (s.node g r.node).run + 1
            win := (s.node g r.node).win + 1
            misses := min 65535 ((s.node g r.node).misses + 1) }))) ∧
    (∀ (hb : RxBlock) (body : List RxBlock), hb.isHeader = true → hOk hb.bytes = true →
      hNode hb.bytes ≠ r.node ∨ hXid hb.bytes % 256 ≠ m →
      answers (.managementAnswer g m false (hb :: body)) s (hostile g r.node 1 s))

/-- PLANIDs (R205). -/
def Obligations.PlanidsFollow : Prop :=
  ∀ (s : State) (g : Nat), (s.plan g).run.planid ≤ 0xFF →
    ((s.plan g).idleSt = .compiling → completes (.compileDone g) s (fun t =>
      (t.plan g).idleSt = .empty ∨
      ((t.plan g).idleSt = .loading ∧ (t.plan g).idle.planid ≠ 0 ∧
        ((s.plan g).run.planid = 0xFF → (t.plan g).idle.planid = 1) ∧
        ((s.plan g).run.planid < 0xFF → (t.plan g).idle.planid = (s.plan g).run.planid + 1)))) ∧
    ((s.plan g).fixed = some s.time.tick → completes (.accordSwap g) s (fun t =>
      (t.plan g).run.planid = (s.plan g).idle.planid))

/-- FW_CHUNK (R485) and the outcomes of R483. -/
def Obligations.FirmwareChunkCommand : Prop :=
  ∀ (s : State) (e : Nat) (x : Entry),
    (s.runs 0 e 0x41 x → s.dmaOk 0 = true → completes (.fwChunk 0 e) s (reads 0 x 4096)) ∧
    ((s.fn 0).entries.filter (·.id == x.id) = [x] → x.ended = false → s.cqTakes 0 x →
      (∀ d : List Byte, x.opc = 0x41 → x.reading = true → s.fw.queue = [] → s.fw.prog = none →
        s.mgrOp (fun o => o == .fwVerify || o == .fwActivate) = none →
        (∀ (st dt : Nat) (al : Bool),
          s.chunkCheck { origin := .command x.id, index := x.p0, data := d } = some (st, dt, al) →
          completes (.commandStructureReadDone 0 false x.id 0 d) s (told 0 x false 0 st dt 0 s)) ∧
        (s.chunkCheck { origin := .command x.id, index := x.p0, data := d } = none →
          completes (.commandStructureReadDone 0 false x.id 0 d) s (fun t =>
            t.fw.prog = some false ∧ t.fw.queue = [{ origin := .command x.id, index := x.p0, data := d }] ∧
            (t.fn 0).entries = (s.fn 0).entries))) ∧
      (∀ (q : ChunkReq) (r : Session) (again : Bool), q.origin = .command x.id → s.fw.queue = [q] → s.fw.session = some r →
        s.fw.prog = some again → s.fw.sessWait = [] →
        completes (.chunkProgrammed true) s (told 0 x false 0 0 0 0 s) ∧
        (again = true → completes (.chunkProgrammed false) s (told 0 x false 0 0x88 r.slot 0 s))))
end

