-- ==== Sys2Proof/Laws/Keeps.lean ====
section
/-!
SUPPORT. Keeps: what a state transformer leaves alone. `Keeps W s t` says that `t` differs from `s` only in the parts
whose bits `W` has, that the queue and the part are the same, and that `t` meets the invariant if `s` does. One lemma
per field says what its update keeps; Laws/Frames.lean has one lemma per operation of the machine.
-/

set_option Elab.async false
namespace Sys2Proof.Machine

/-- Bit of a part in a mask. -/
def Part.code (p : Part) : Nat :=
  match p with
  | .time => 0
  | .regs => 1
  | .stored => 2
  | .fns => 3
  | .ports => 4
  | .nodes => 5
  | .plans => 6
  | .lists => 7
  | .pim => 8
  | .owners => 9
  | .points => 10
  | .grants => 11
  | .rules => 12
  | .remote => 13
  | .copies => 14
  | .unseen => 15
  | .bridge => 16
  | .chans => 17
  | .nonces => 18
  | .quar => 19
  | .policy => 20
  | .journal => 21
  | .half0 => 22
  | .half1 => 23
  | .half => 24
  | .fw => 25
  | .mgt => 26
  | .jtag => 27
  | .pins => 28
  | .boot => 29
  | .chg => 30
  | .tile => 31
  | .mesh => 32
  | .meshFails => 33
  | .ready => 34
  | .link => 35
  | .vfEnable => 36
  | .vfMse => 37
  | .numVfs => 38
  | .ari => 39
  | .stamp => 40
  | .stage => 41
  | .lastCancel => 42
  | .stopping => 43
  | .xogate => 44
  | .evHeld => 45
  | .accepts => 46
  | .free => 47
  | .tlpHeld => 48
  | .wire => 49

/-- All parts outside the mask, the queue and the number of tiles agree, and the invariant carries over. -/
structure Keeps (W : Nat) (s t : State) : Prop where
  frame : ∀ p : Part, W.testBit p.code = false → p.same s t
  queue : t.pending = s.pending
  tiles : t.tiles = s.tiles
  inv : s.Inv → t.Inv

theorem Part.same_refl (p : Part) (s : State) : p.same s s := by cases p <;> rfl

theorem Part.same_trans (p : Part) {s t u : State} (h : p.same s t) (k : p.same t u) : p.same s u := by
  cases p <;> exact Eq.trans k h

theorem Keeps.refl (W : Nat) (s : State) : Keeps W s s := ⟨fun p _ => p.same_refl s, rfl, rfl, id⟩

theorem Keeps.trans {W : Nat} {s t u : State} (h : Keeps W s t) (k : Keeps W t u) : Keeps W s u :=
  ⟨fun p hp => p.same_trans (h.frame p hp) (k.frame p hp), k.queue.trans h.queue, k.tiles.trans h.tiles,
    fun hi => k.inv (h.inv hi)⟩

/-- A mask that another mask contains. -/
def subMask (V W : Nat) : Bool := V &&& W == V

theorem testBit_of_subMask {V W : Nat} (hs : subMask V W = true) {i : Nat} (h : W.testBit i = false) :
    V.testBit i = false := by
  have e : V &&& W = V := by simpa [subMask] using hs
  rw [← e, Nat.testBit_and, h, Bool.and_false]

theorem Keeps.mono {V W : Nat} {s t : State} (hs : subMask V W = true) (h : Keeps V s t) : Keeps W s t :=
  ⟨fun p hp => h.frame p (testBit_of_subMask hs hp), h.queue, h.tiles, h.inv⟩

/-- What an operation that keeps `V` adds to what was kept before it. -/
theorem Keeps.step {V W : Nat} {s0 s t : State} (hs : subMask V W = true) (h : Keeps W s0 s) (k : Keeps V s t) :
    Keeps W s0 t := h.trans (k.mono hs)

theorem Keeps.ite {W : Nat} {s0 a b : State} {c : Prop} [Decidable c] (hb : Keeps W s0 b)
    (ha : Keeps W s0 b → Keeps W s0 a) : Keeps W s0 (if c then a else b) := by
  by_cases h : c
  · rw [if_pos h]; exact ha hb
  · rw [if_neg h]; exact hb

theorem Keeps.foldl {α : Type} {W : Nat} {s0 s : State} {f : State → α → State} (l : List α)
    (hf : ∀ (t : State) (x : α), Keeps W s0 t → Keeps W s0 (f t x)) (h : Keeps W s0 s) : Keeps W s0 (l.foldl f s) := by
  induction l generalizing s with
  | nil => exact h
  | cons x r ih => exact ih (hf s x h)

theorem Keeps.foldl_fst {α β : Type} {W : Nat} {s0 : State} {a : State × β} {f : State × β → α → State × β} (l : List α)
    (hf : ∀ (t : State × β) (x : α), Keeps W s0 t.1 → Keeps W s0 (f t x).1) (h : Keeps W s0 a.1) :
    Keeps W s0 (l.foldl f a).1 := by
  induction l generalizing a with
  | nil => exact h
  | cons x r ih => exact ih (hf a x h)

/-! ## Canonical form of sparse maps -/

theorem nwf_cons {α : Type} [DecidableEq α] {d : α} {k : Nat} {v : α} {m : NMap α} :
    nwf d ((k, v) :: m) = true ↔ v ≠ d ∧ (∀ p ∈ m, k < p.1) ∧ nwf d m = true := by
  induction m generalizing k v with
  | nil => simp [nwf]
  | cons q r ih =>
    obtain ⟨k', v'⟩ := q
    have hk := @ih k' v'
    simp only [nwf, Bool.and_eq_true, decide_eq_true_eq, List.mem_cons, forall_eq_or_imp]
    constructor
    · rintro ⟨⟨h1, h2⟩, h3⟩
      exact ⟨h2, ⟨h1, fun p hp => Nat.lt_trans h1 ((hk.mp h3).2.1 p hp)⟩, h3⟩
    · rintro ⟨h1, ⟨h2, _⟩, h4⟩
      exact ⟨⟨h2, h1⟩, h4⟩

theorem mem_nins {α : Type} {m : NMap α} {i : Nat} {v : α} {p : Nat × α} (h : p ∈ nins m i v) :
    p ∈ m ∨ p = (i, v) := by
  induction m with
  | nil => exact .inr (List.mem_singleton.mp h)
  | cons q r ih =>
    obtain ⟨k, w⟩ := q
    unfold nins at h
    split at h
    · exact (List.mem_cons.mp h).symm
    · split at h
      · exact (List.mem_cons.mp h).elim .inr (fun h => .inl (List.mem_cons_of_mem _ h))
      · rcases List.mem_cons.mp h with h | h
        · exact .inl (by rw [h]; exact List.mem_cons_self)
        · exact (ih h).imp (List.mem_cons_of_mem _) id

theorem nwf_filter {α : Type} [DecidableEq α] {d : α} {m : NMap α} (p : Nat × α → Bool) (h : nwf d m = true) :
    nwf d (m.filter p) = true := by
  induction m with
  | nil => rfl
  | cons q r ih =>
    obtain ⟨k, w⟩ := q
    obtain ⟨hw, hk, hr⟩ := nwf_cons.mp h
    rw [List.filter_cons]
    split
    · exact nwf_cons.mpr ⟨hw, fun x hx => hk x (List.mem_filter.mp hx).1, ih hr⟩
    · exact ih hr

theorem nwf_nins {α : Type} [DecidableEq α] {d : α} {m : NMap α} (i : Nat) {v : α} (hv : v ≠ d)
    (h : nwf d m = true) : nwf d (nins m i v) = true := by
  induction m with
  | nil => simp [nins, nwf, hv]
  | cons q r ih =>
    obtain ⟨k, w⟩ := q
    obtain ⟨hw, hk, hr⟩ := nwf_cons.mp h
    unfold nins
    split
    · rename_i hi
      refine nwf_cons.mpr ⟨hv, fun p hp => ?_, h⟩
      rcases List.mem_cons.mp hp with hp | hp
      · rw [hp]; exact hi
      · exact Nat.lt_trans hi (hk p hp)
    · split
      · rename_i hn hi
        exact nwf_cons.mpr ⟨hv, fun p hp => by rw [hi]; exact hk p hp, hr⟩
      · rename_i hn hi
        refine nwf_cons.mpr ⟨hw, fun p hp => ?_, ih hr⟩
        rcases mem_nins hp with hp | hp
        · exact hk p hp
        · rw [hp]; show k < i; omega

/-- A write keeps the canonical form. -/
theorem nwf_nput {α : Type} [DecidableEq α] {d : α} {m : NMap α} (i : Nat) (v : α) (h : nwf d m = true) :
    nwf d (nput d m i v) = true := by
  unfold nput
  split
  · exact nwf_filter _ h
  · rename_i hv; exact nwf_nins i hv h

theorem nwf_nmod {α : Type} [DecidableEq α] {d : α} {m : NMap α} (i : Nat) (f : α → α) (h : nwf d m = true) :
    nwf d (nmod d m i f) = true := nwf_nput i _ h

theorem nwf_foldl_nput {α β : Type} [DecidableEq α] {d : α} (k : β → Nat) (v : β → α) (l : List β) {m : NMap α}
    (h : nwf d m = true) : nwf d (l.foldl (fun a x => nput d a (k x) (v x)) m) = true := by
  induction l generalizing m with
  | nil => exact h
  | cons x r ih => exact ih (nwf_nput _ _ h)

theorem nwf_nmapAll {α : Type} [DecidableEq α] {d : α} {m : NMap α} (f : Nat → α → α) : nwf d (nmapAll d f m) = true := by
  unfold nmapAll
  induction m with
  | nil => rfl
  | cons x r ih => exact nwf_nput _ _ ih

theorem ascKeys_cons {α : Type} {k : Nat} {v : α} {m : NMap α} :
    ascKeys ((k, v) :: m) = true ↔ (∀ p ∈ m, k < p.1) ∧ ascKeys m = true := by
  induction m generalizing k v with
  | nil => simp [ascKeys]
  | cons q r ih =>
    obtain ⟨k', v'⟩ := q
    have hk := @ih k' v'
    simp only [ascKeys, Bool.and_eq_true, decide_eq_true_eq, List.mem_cons, forall_eq_or_imp]
    constructor
    · rintro ⟨h1, h3⟩
      exact ⟨⟨h1, fun p hp => Nat.lt_trans h1 ((hk.mp h3).1 p hp)⟩, h3⟩
    · rintro ⟨⟨h2, _⟩, h4⟩
      exact ⟨h2, h4⟩

theorem ascKeys_filter {α : Type} {m : NMap α} (p : Nat × α → Bool) (h : ascKeys m = true) :
    ascKeys (m.filter p) = true := by
  induction m with
  | nil => rfl
  | cons q r ih =>
    obtain ⟨k, w⟩ := q
    obtain ⟨hk, hr⟩ := ascKeys_cons.mp h
    rw [List.filter_cons]
    split
    · exact ascKeys_cons.mpr ⟨fun x hx => hk x (List.mem_filter.mp hx).1, ih hr⟩
    · exact ih hr

theorem ascKeys_nins {α : Type} {m : NMap α} (i : Nat) (v : α) (h : ascKeys m = true) : ascKeys (nins m i v) = true := by
  induction m with
  | nil => rfl
  | cons q r ih =>
    obtain ⟨k, w⟩ := q
    obtain ⟨hk, hr⟩ := ascKeys_cons.mp h
    unfold nins
    split
    · rename_i hi
      refine ascKeys_cons.mpr ⟨fun p hp => ?_, h⟩
      rcases List.mem_cons.mp hp with hp | hp
      · rw [hp]; exact hi
      · exact Nat.lt_trans hi (hk p hp)
    · split
      · rename_i hn hi
        exact ascKeys_cons.mpr ⟨fun p hp => by rw [hi]; exact hk p hp, hr⟩
      · rename_i hn hi
        refine ascKeys_cons.mpr ⟨fun p hp => ?_, ih hr⟩
        rcases mem_nins hp with hp | hp
        · exact hk p hp
        · rw [hp]; show k < i; omega

/-- A write keeps the keys of a map rising, whatever its default. -/
theorem ascKeys_nput {α : Type} [DecidableEq α] (d : α) {m : NMap α} (i : Nat) (v : α) (h : ascKeys m = true) :
    ascKeys (nput d m i v) = true := by
  unfold nput
  split
  · exact ascKeys_filter _ h
  · exact ascKeys_nins i v h

/-! ## Reading after writing -/

theorem nget_filter_ne {α : Type} (d : α) (m : NMap α) (i j : Nat) :
    nget d (m.filter (fun p => p.1 != i)) j = if j = i then d else nget d m j := by
  induction m with
  | nil => simp [nget]
  | cons q r ih =>
    obtain ⟨k, w⟩ := q
    rw [List.filter_cons]
    by_cases hk : k = i
    · subst hk
      simp only [bne_self_eq_false, Bool.false_eq_true, if_false]
      rw [ih]
      by_cases hj : j = k
      · rw [if_pos hj, if_pos hj]
      · rw [if_neg hj, if_neg hj]; simp [nget, hj]
    · have : (k != i) = true := by simp [hk]
      simp only [this, if_true]
      by_cases hj : j = k
      · subst hj; simp [nget, hk]
      · simp only [nget, hj, if_false]; exact ih

theorem nget_nins {α : Type} (d : α) (m : NMap α) (i : Nat) (v : α) (j : Nat) :
    nget d (nins m i v) j = if j = i then v else nget d m j := by
  induction m with
  | nil => simp [nins, nget]
  | cons q r ih =>
    obtain ⟨k, w⟩ := q
    unfold nins
    by_cases h1 : i < k
    · rw [if_pos h1]; simp [nget]
    · rw [if_neg h1]
      by_cases h2 : i = k
      · rw [if_pos h2]; subst h2
        by_cases hj : j = i <;> simp [nget, hj]
      · rw [if_neg h2]
        by_cases hj : j = k
        · subst hj
          have : ¬ j = i := fun h => h2 h.symm
          simp [nget, this]
        · simp only [nget, hj, if_false]; exact ih

/-- A read after a write gives the value written at its key, and what was there at any other. -/
theorem nget_nput {α : Type} [DecidableEq α] (d : α) (m : NMap α) (i : Nat) (v : α) (j : Nat) :
    nget d (nput d m i v) j = if j = i then v else nget d m j := by
  unfold nput
  split
  · rename_i hv; rw [nget_filter_ne, hv]
  · exact nget_nins d m i v j

@[simp] theorem nget_nput_same {α : Type} [DecidableEq α] (d : α) (m : NMap α) (i : Nat) (v : α) :
    nget d (nput d m i v) i = v := by rw [nget_nput, if_pos rfl]

theorem nget_nput_ne {α : Type} [DecidableEq α] (d : α) (m : NMap α) {i j : Nat} (v : α) (h : j ≠ i) :
    nget d (nput d m i v) j = nget d m j := by rw [nget_nput, if_neg h]

@[simp] theorem nget_nmod_same {α : Type} [DecidableEq α] (d : α) (m : NMap α) (i : Nat) (f : α → α) :
    nget d (nmod d m i f) i = f (nget d m i) := nget_nput_same ..

theorem nget_nmod_ne {α : Type} [DecidableEq α] (d : α) (m : NMap α) {i j : Nat} (f : α → α) (h : j ≠ i) :
    nget d (nmod d m i f) j = nget d m j := nget_nput_ne d m _ h

/-- Every write of the process image keeps its canonical form. -/
theorem memWrite_wf {m : List Host.Cell} (a v n : Nat) (h : Memory.wf m) : Memory.wf (memWrite m a v n) := by
  induction n generalizing m a v with
  | zero => exact h
  | succ n ih => exact ih _ _ (nwf_nput _ _ h)

/-! ## One lemma per field -/

theorem Keeps.set_time {W : Nat} {s0 s : State} {x0 : TimeSt} (hW0 : W.testBit 0 = true)
    (h : Keeps W s0 s) : Keeps W s0 { s with time := x0 } :=
  ⟨fun p hp => by
      cases p
      case time => exact absurd (hW0.symm.trans hp) Bool.noConfusion
      all_goals exact h.frame _ hp,
    h.queue, h.tiles,
    fun hi => ⟨(h.inv hi).part, (h.inv hi).pim, (h.inv hi).regs, (h.inv hi).fns, (h.inv hi).ports, (h.inv hi).nodes, (h.inv hi).plans, (h.inv hi).lists, (h.inv hi).owners, (h.inv hi).points, (h.inv hi).rules, (h.inv hi).remote, (h.inv hi).chans, (h.inv hi).tile, (h.inv hi).meshFails⟩⟩

theorem Keeps.set_regs {W : Nat} {s0 s : State} {x0 : NMap W64} (hW0 : W.testBit 1 = true)
    (hx0 : ascKeys s.regs = true → ascKeys x0 = true) (h : Keeps W s0 s) : Keeps W s0 { s with regs := x0 } :=
  ⟨fun p hp => by
      cases p
      case regs => exact absurd (hW0.symm.trans hp) Bool.noConfusion
      all_goals exact h.frame _ hp,
    h.queue, h.tiles,
    fun hi => ⟨(h.inv hi).part, (h.inv hi).pim, hx0 (h.inv hi).regs, (h.inv hi).fns, (h.inv hi).ports, (h.inv hi).nodes, (h.inv hi).plans, (h.inv hi).lists, (h.inv hi).owners, (h.inv hi).points, (h.inv hi).rules, (h.inv hi).remote, (h.inv hi).chans, (h.inv hi).tile, (h.inv hi).meshFails⟩⟩

theorem Keeps.set_stored {W : Nat} {s0 s : State} {x0 : NMap W64} (hW0 : W.testBit 2 = true)
    (h : Keeps W s0 s) : Keeps W s0 { s with stored := x0 } :=
  ⟨fun p hp => by
      cases p
      case stored => exact absurd (hW0.symm.trans hp) Bool.noConfusion
      all_goals exact h.frame _ hp,
    h.queue, h.tiles,
    fun hi => ⟨(h.inv hi).part, (h.inv hi).pim, (h.inv hi).regs, (h.inv hi).fns, (h.inv hi).ports, (h.inv hi).nodes, (h.inv hi).plans, (h.inv hi).lists, (h.inv hi).owners, (h.inv hi).points, (h.inv hi).rules, (h.inv hi).remote, (h.inv hi).chans, (h.inv hi).tile, (h.inv hi).meshFails⟩⟩

theorem Keeps.set_fns {W : Nat} {s0 s : State} {x0 : NMap Fn} (hW0 : W.testBit 3 = true)
    (hx0 : nwf {} s.fns = true → nwf {} x0 = true) (h : Keeps W s0 s) : Keeps W s0 { s with fns := x0 } :=
  ⟨fun p hp => by
      cases p
      case fns => exact absurd (hW0.symm.trans hp) Bool.noConfusion
      all_goals exact h.frame _ hp,
    h.queue, h.tiles,
    fun hi => ⟨(h.inv hi).part, (h.inv hi).pim, (h.inv hi).regs, hx0 (h.inv hi).fns, (h.inv hi).ports, (h.inv hi).nodes, (h.inv hi).plans, (h.inv hi).lists, (h.inv hi).owners, (h.inv hi).points, (h.inv hi).rules, (h.inv hi).remote, (h.inv hi).chans, (h.inv hi).tile, (h.inv hi).meshFails⟩⟩

theorem Keeps.set_ports {W : Nat} {s0 s : State} {x0 : NMap Port} (hW0 : W.testBit 4 = true)
    (hx0 : nwf {} s.ports = true → nwf {} x0 = true) (h : Keeps W s0 s) : Keeps W s0 { s with ports := x0 } :=
  ⟨fun p hp => by
      cases p
      case ports => exact absurd (hW0.symm.trans hp) Bool.noConfusion
      all_goals exact h.frame _ hp,
    h.queue, h.tiles,
    fun hi => ⟨(h.inv hi).part, (h.inv hi).pim, (h.inv hi).regs, (h.inv hi).fns, hx0 (h.inv hi).ports, (h.inv hi).nodes, (h.inv hi).plans, (h.inv hi).lists, (h.inv hi).owners, (h.inv hi).points, (h.inv hi).rules, (h.inv hi).remote, (h.inv hi).chans, (h.inv hi).tile, (h.inv hi).meshFails⟩⟩

theorem Keeps.set_nodes {W : Nat} {s0 s : State} {x0 : NMap Node} (hW0 : W.testBit 5 = true)
    (hx0 : nwf {} s.nodes = true → nwf {} x0 = true) (h : Keeps W s0 s) : Keeps W s0 { s with nodes := x0 } :=
  ⟨fun p hp => by
      cases p
      case nodes => exact absurd (hW0.symm.trans hp) Bool.noConfusion
      all_goals exact h.frame _ hp,
    h.queue, h.tiles,
    fun hi => ⟨(h.inv hi).part, (h.inv hi).pim, (h.inv hi).regs, (h.inv hi).fns, (h.inv hi).ports, hx0 (h.inv hi).nodes, (h.inv hi).plans, (h.inv hi).lists, (h.inv hi).owners, (h.inv hi).points, (h.inv hi).rules, (h.inv hi).remote, (h.inv hi).chans, (h.inv hi).tile, (h.inv hi).meshFails⟩⟩

theorem Keeps.set_plans {W : Nat} {s0 s : State} {x0 : NMap PlanSt} (hW0 : W.testBit 6 = true)
    (hx0 : nwf {} s.plans = true → nwf {} x0 = true) (h : Keeps W s0 s) : Keeps W s0 { s with plans := x0 } :=
  ⟨fun p hp => by
      cases p
      case plans => exact absurd (hW0.symm.trans hp) Bool.noConfusion
      all_goals exact h.frame _ hp,
    h.queue, h.tiles,
    fun hi => ⟨(h.inv hi).part, (h.inv hi).pim, (h.inv hi).regs, (h.inv hi).fns, (h.inv hi).ports, (h.inv hi).nodes, hx0 (h.inv hi).plans, (h.inv hi).lists, (h.inv hi).owners, (h.inv hi).points, (h.inv hi).rules, (h.inv hi).remote, (h.inv hi).chans, (h.inv hi).tile, (h.inv hi).meshFails⟩⟩

theorem Keeps.set_lists {W : Nat} {s0 s : State} {x0 : NMap SList} (hW0 : W.testBit 7 = true)
    (hx0 : nwf {} s.lists = true → nwf {} x0 = true) (h : Keeps W s0 s) : Keeps W s0 { s with lists := x0 } :=
  ⟨fun p hp => by
      cases p
      case lists => exact absurd (hW0.symm.trans hp) Bool.noConfusion
      all_goals exact h.frame _ hp,
    h.queue, h.tiles,
    fun hi => ⟨(h.inv hi).part, (h.inv hi).pim, (h.inv hi).regs, (h.inv hi).fns, (h.inv hi).ports, (h.inv hi).nodes, (h.inv hi).plans, hx0 (h.inv hi).lists, (h.inv hi).owners, (h.inv hi).points, (h.inv hi).rules, (h.inv hi).remote, (h.inv hi).chans, (h.inv hi).tile, (h.inv hi).meshFails⟩⟩

theorem Keeps.set_pim {W : Nat} {s0 s : State} {x0 : List Host.Cell} (hW0 : W.testBit 8 = true)
    (hx0 : nwf 0#8 s.pim = true → nwf 0#8 x0 = true) (h : Keeps W s0 s) : Keeps W s0 { s with pim := x0 } :=
  ⟨fun p hp => by
      cases p
      case pim => exact absurd (hW0.symm.trans hp) Bool.noConfusion
      all_goals exact h.frame _ hp,
    h.queue, h.tiles,
    fun hi => ⟨(h.inv hi).part, hx0 (h.inv hi).pim, (h.inv hi).regs, (h.inv hi).fns, (h.inv hi).ports, (h.inv hi).nodes, (h.inv hi).plans, (h.inv hi).lists, (h.inv hi).owners, (h.inv hi).points, (h.inv hi).rules, (h.inv hi).remote, (h.inv hi).chans, (h.inv hi).tile, (h.inv hi).meshFails⟩⟩

theorem Keeps.set_owners {W : Nat} {s0 s : State} {x0 : NMap Nat} (hW0 : W.testBit 9 = true)
    (hx0 : nwf 0 s.owners = true → nwf 0 x0 = true) (h : Keeps W s0 s) : Keeps W s0 { s with owners := x0 } :=
  ⟨fun p hp => by
      cases p
      case owners => exact absurd (hW0.symm.trans hp) Bool.noConfusion
      all_goals exact h.frame _ hp,
    h.queue, h.tiles,
    fun hi => ⟨(h.inv hi).part, (h.inv hi).pim, (h.inv hi).regs, (h.inv hi).fns, (h.inv hi).ports, (h.inv hi).nodes, (h.inv hi).plans, (h.inv hi).lists, hx0 (h.inv hi).owners, (h.inv hi).points, (h.inv hi).rules, (h.inv hi).remote, (h.inv hi).chans, (h.inv hi).tile, (h.inv hi).meshFails⟩⟩

theorem Keeps.set_points {W : Nat} {s0 s : State} {x0 : NMap Point} (hW0 : W.testBit 10 = true)
    (hx0 : nwf {} s.points = true → nwf {} x0 = true) (h : Keeps W s0 s) : Keeps W s0 { s with points := x0 } :=
  ⟨fun p hp => by
      cases p
      case points => exact absurd (hW0.symm.trans hp) Bool.noConfusion
      all_goals exact h.frame _ hp,
    h.queue, h.tiles,
    fun hi => ⟨(h.inv hi).part, (h.inv hi).pim, (h.inv hi).regs, (h.inv hi).fns, (h.inv hi).ports, (h.inv hi).nodes, (h.inv hi).plans, (h.inv hi).lists, (h.inv hi).owners, hx0 (h.inv hi).points, (h.inv hi).rules, (h.inv hi).remote, (h.inv hi).chans, (h.inv hi).tile, (h.inv hi).meshFails⟩⟩

theorem Keeps.set_grants {W : Nat} {s0 s : State} {x0 : List ShareGrant} (hW0 : W.testBit 11 = true)
    (h : Keeps W s0 s) : Keeps W s0 { s with grants := x0 } :=
  ⟨fun p hp => by
      cases p
      case grants => exact absurd (hW0.symm.trans hp) Bool.noConfusion
      all_goals exact h.frame _ hp,
    h.queue, h.tiles,
    fun hi => ⟨(h.inv hi).part, (h.inv hi).pim, (h.inv hi).regs, (h.inv hi).fns, (h.inv hi).ports, (h.inv hi).nodes, (h.inv hi).plans, (h.inv hi).lists, (h.inv hi).owners, (h.inv hi).points, (h.inv hi).rules, (h.inv hi).remote, (h.inv hi).chans, (h.inv hi).tile, (h.inv hi).meshFails⟩⟩

theorem Keeps.set_rules {W : Nat} {s0 s : State} {x0 : NMap Rule} (hW0 : W.testBit 12 = true)
    (hx0 : nwf { e := {} } s.rules = true → nwf { e := {} } x0 = true) (h : Keeps W s0 s) : Keeps W s0 { s with rules := x0 } :=
  ⟨fun p hp => by
      cases p
      case rules => exact absurd (hW0.symm.trans hp) Bool.noConfusion
      all_goals exact h.frame _ hp,
    h.queue, h.tiles,
    fun hi => ⟨(h.inv hi).part, (h.inv hi).pim, (h.inv hi).regs, (h.inv hi).fns, (h.inv hi).ports, (h.inv hi).nodes, (h.inv hi).plans, (h.inv hi).lists, (h.inv hi).owners, (h.inv hi).points, hx0 (h.inv hi).rules, (h.inv hi).remote, (h.inv hi).chans, (h.inv hi).tile, (h.inv hi).meshFails⟩⟩

theorem Keeps.set_remote {W : Nat} {s0 s : State} {x0 : NMap Nat} (hW0 : W.testBit 13 = true)
    (hx0 : nwf 0 s.remote = true → nwf 0 x0 = true) (h : Keeps W s0 s) : Keeps W s0 { s with remote := x0 } :=
  ⟨fun p hp => by
      cases p
      case remote => exact absurd (hW0.symm.trans hp) Bool.noConfusion
      all_goals exact h.frame _ hp,
    h.queue, h.tiles,
    fun hi => ⟨(h.inv hi).part, (h.inv hi).pim, (h.inv hi).regs, (h.inv hi).fns, (h.inv hi).ports, (h.inv hi).nodes, (h.inv hi).plans, (h.inv hi).lists, (h.inv hi).owners, (h.inv hi).points, (h.inv hi).rules, hx0 (h.inv hi).remote, (h.inv hi).chans, (h.inv hi).tile, (h.inv hi).meshFails⟩⟩

theorem Keeps.set_copies {W : Nat} {s0 s : State} {x0 : List (Nat × Nat × Nat × Nat)} (hW0 : W.testBit 14 = true)
    (h : Keeps W s0 s) : Keeps W s0 { s with copies := x0 } :=
  ⟨fun p hp => by
      cases p
      case copies => exact absurd (hW0.symm.trans hp) Bool.noConfusion
      all_goals exact h.frame _ hp,
    h.queue, h.tiles,
    fun hi => ⟨(h.inv hi).part, (h.inv hi).pim, (h.inv hi).regs, (h.inv hi).fns, (h.inv hi).ports, (h.inv hi).nodes, (h.inv hi).plans, (h.inv hi).lists, (h.inv hi).owners, (h.inv hi).points, (h.inv hi).rules, (h.inv hi).remote, (h.inv hi).chans, (h.inv hi).tile, (h.inv hi).meshFails⟩⟩

theorem Keeps.set_unseen {W : Nat} {s0 s : State} {x0 : List (Nat × Nat × Nat)} (hW0 : W.testBit 15 = true)
    (h : Keeps W s0 s) : Keeps W s0 { s with unseen := x0 } :=
  ⟨fun p hp => by
      cases p
      case unseen => exact absurd (hW0.symm.trans hp) Bool.noConfusion
      all_goals exact h.frame _ hp,
    h.queue, h.tiles,
    fun hi => ⟨(h.inv hi).part, (h.inv hi).pim, (h.inv hi).regs, (h.inv hi).fns, (h.inv hi).ports, (h.inv hi).nodes, (h.inv hi).plans, (h.inv hi).lists, (h.inv hi).owners, (h.inv hi).points, (h.inv hi).rules, (h.inv hi).remote, (h.inv hi).chans, (h.inv hi).tile, (h.inv hi).meshFails⟩⟩

theorem Keeps.set_bridge {W : Nat} {s0 s : State} {x0 : List BAcc} (hW0 : W.testBit 16 = true)
    (h : Keeps W s0 s) : Keeps W s0 { s with bridge := x0 } :=
  ⟨fun p hp => by
      cases p
      case bridge => exact absurd (hW0.symm.trans hp) Bool.noConfusion
      all_goals exact h.frame _ hp,
    h.queue, h.tiles,
    fun hi => ⟨(h.inv hi).part, (h.inv hi).pim, (h.inv hi).regs, (h.inv hi).fns, (h.inv hi).ports, (h.inv hi).nodes, (h.inv hi).plans, (h.inv hi).lists, (h.inv hi).owners, (h.inv hi).points, (h.inv hi).rules, (h.inv hi).remote, (h.inv hi).chans, (h.inv hi).tile, (h.inv hi).meshFails⟩⟩

theorem Keeps.set_chans {W : Nat} {s0 s : State} {x0 : NMap Chan} (hW0 : W.testBit 17 = true)
    (hx0 : nwf {} s.chans = true → nwf {} x0 = true) (h : Keeps W s0 s) : Keeps W s0 { s with chans := x0 } :=
  ⟨fun p hp => by
      cases p
      case chans => exact absurd (hW0.symm.trans hp) Bool.noConfusion
      all_goals exact h.frame _ hp,
    h.queue, h.tiles,
    fun hi => ⟨(h.inv hi).part, (h.inv hi).pim, (h.inv hi).regs, (h.inv hi).fns, (h.inv hi).ports, (h.inv hi).nodes, (h.inv hi).plans, (h.inv hi).lists, (h.inv hi).owners, (h.inv hi).points, (h.inv hi).rules, (h.inv hi).remote, hx0 (h.inv hi).chans, (h.inv hi).tile, (h.inv hi).meshFails⟩⟩

theorem Keeps.set_nonces {W : Nat} {s0 s : State} {x0 : List (List Byte)} (hW0 : W.testBit 18 = true)
    (h : Keeps W s0 s) : Keeps W s0 { s with nonces := x0 } :=
  ⟨fun p hp => by
      cases p
      case nonces => exact absurd (hW0.symm.trans hp) Bool.noConfusion
      all_goals exact h.frame _ hp,
    h.queue, h.tiles,
    fun hi => ⟨(h.inv hi).part, (h.inv hi).pim, (h.inv hi).regs, (h.inv hi).fns, (h.inv hi).ports, (h.inv hi).nodes, (h.inv hi).plans, (h.inv hi).lists, (h.inv hi).owners, (h.inv hi).points, (h.inv hi).rules, (h.inv hi).remote, (h.inv hi).chans, (h.inv hi).tile, (h.inv hi).meshFails⟩⟩

theorem Keeps.set_quar {W : Nat} {s0 s : State} {x0 : List (List Byte)} (hW0 : W.testBit 19 = true)
    (h : Keeps W s0 s) : Keeps W s0 { s with quar := x0 } :=
  ⟨fun p hp => by
      cases p
      case quar => exact absurd (hW0.symm.trans hp) Bool.noConfusion
      all_goals exact h.frame _ hp,
    h.queue, h.tiles,
    fun hi => ⟨(h.inv hi).part, (h.inv hi).pim, (h.inv hi).regs, (h.inv hi).fns, (h.inv hi).ports, (h.inv hi).nodes, (h.inv hi).plans, (h.inv hi).lists, (h.inv hi).owners, (h.inv hi).points, (h.inv hi).rules, (h.inv hi).remote, (h.inv hi).chans, (h.inv hi).tile, (h.inv hi).meshFails⟩⟩

theorem Keeps.set_policy {W : Nat} {s0 s : State} {x0 : Option Nat} (hW0 : W.testBit 20 = true)
    (h : Keeps W s0 s) : Keeps W s0 { s with policy := x0 } :=
  ⟨fun p hp => by
      cases p
      case policy => exact absurd (hW0.symm.trans hp) Bool.noConfusion
      all_goals exact h.frame _ hp,
    h.queue, h.tiles,
    fun hi => ⟨(h.inv hi).part, (h.inv hi).pim, (h.inv hi).regs, (h.inv hi).fns, (h.inv hi).ports, (h.inv hi).nodes, (h.inv hi).plans, (h.inv hi).lists, (h.inv hi).owners, (h.inv hi).points, (h.inv hi).rules, (h.inv hi).remote, (h.inv hi).chans, (h.inv hi).tile, (h.inv hi).meshFails⟩⟩

theorem Keeps.set_journal {W : Nat} {s0 s : State} {x0 : List (Nat × Nat × Nat × List Byte)} (hW0 : W.testBit 21 = true)
    (h : Keeps W s0 s) : Keeps W s0 { s with journal := x0 } :=
  ⟨fun p hp => by
      cases p
      case journal => exact absurd (hW0.symm.trans hp) Bool.noConfusion
      all_goals exact h.frame _ hp,
    h.queue, h.tiles,
    fun hi => ⟨(h.inv hi).part, (h.inv hi).pim, (h.inv hi).regs, (h.inv hi).fns, (h.inv hi).ports, (h.inv hi).nodes, (h.inv hi).plans, (h.inv hi).lists, (h.inv hi).owners, (h.inv hi).points, (h.inv hi).rules, (h.inv hi).remote, (h.inv hi).chans, (h.inv hi).tile, (h.inv hi).meshFails⟩⟩

theorem Keeps.set_half0 {W : Nat} {s0 s : State} {x0 : NtHalf} (hW0 : W.testBit 22 = true)
    (h : Keeps W s0 s) : Keeps W s0 { s with half0 := x0 } :=
  ⟨fun p hp => by
      cases p
      case half0 => exact absurd (hW0.symm.trans hp) Bool.noConfusion
      all_goals exact h.frame _ hp,
    h.queue, h.tiles,
    fun hi => ⟨(h.inv hi).part, (h.inv hi).pim, (h.inv hi).regs, (h.inv hi).fns, (h.inv hi).ports, (h.inv hi).nodes, (h.inv hi).plans, (h.inv hi).lists, (h.inv hi).owners, (h.inv hi).points, (h.inv hi).rules, (h.inv hi).remote, (h.inv hi).chans, (h.inv hi).tile, (h.inv hi).meshFails⟩⟩

theorem Keeps.set_half1 {W : Nat} {s0 s : State} {x0 : NtHalf} (hW0 : W.testBit 23 = true)
    (h : Keeps W s0 s) : Keeps W s0 { s with half1 := x0 } :=
  ⟨fun p hp => by
      cases p
      case half1 => exact absurd (hW0.symm.trans hp) Bool.noConfusion
      all_goals exact h.frame _ hp,
    h.queue, h.tiles,
    fun hi => ⟨(h.inv hi).part, (h.inv hi).pim, (h.inv hi).regs, (h.inv hi).fns, (h.inv hi).ports, (h.inv hi).nodes, (h.inv hi).plans, (h.inv hi).lists, (h.inv hi).owners, (h.inv hi).points, (h.inv hi).rules, (h.inv hi).remote, (h.inv hi).chans, (h.inv hi).tile, (h.inv hi).meshFails⟩⟩

theorem Keeps.set_half {W : Nat} {s0 s : State} {x0 : Nat} (hW0 : W.testBit 24 = true)
    (h : Keeps W s0 s) : Keeps W s0 { s with half := x0 } :=
  ⟨fun p hp => by
      cases p
      case half => exact absurd (hW0.symm.trans hp) Bool.noConfusion
      all_goals exact h.frame _ hp,
    h.queue, h.tiles,
    fun hi => ⟨(h.inv hi).part, (h.inv hi).pim, (h.inv hi).regs, (h.inv hi).fns, (h.inv hi).ports, (h.inv hi).nodes, (h.inv hi).plans, (h.inv hi).lists, (h.inv hi).owners, (h.inv hi).points, (h.inv hi).rules, (h.inv hi).remote, (h.inv hi).chans, (h.inv hi).tile, (h.inv hi).meshFails⟩⟩

theorem Keeps.set_fw {W : Nat} {s0 s : State} {x0 : FwSt} (hW0 : W.testBit 25 = true)
    (h : Keeps W s0 s) : Keeps W s0 { s with fw := x0 } :=
  ⟨fun p hp => by
      cases p
      case fw => exact absurd (hW0.symm.trans hp) Bool.noConfusion
      all_goals exact h.frame _ hp,
    h.queue, h.tiles,
    fun hi => ⟨(h.inv hi).part, (h.inv hi).pim, (h.inv hi).regs, (h.inv hi).fns, (h.inv hi).ports, (h.inv hi).nodes, (h.inv hi).plans, (h.inv hi).lists, (h.inv hi).owners, (h.inv hi).points, (h.inv hi).rules, (h.inv hi).remote, (h.inv hi).chans, (h.inv hi).tile, (h.inv hi).meshFails⟩⟩

theorem Keeps.set_mgt {W : Nat} {s0 s : State} {x0 : MgtSt} (hW0 : W.testBit 26 = true)
    (h : Keeps W s0 s) : Keeps W s0 { s with mgt := x0 } :=
  ⟨fun p hp => by
      cases p
      case mgt => exact absurd (hW0.symm.trans hp) Bool.noConfusion
      all_goals exact h.frame _ hp,
    h.queue, h.tiles,
    fun hi => ⟨(h.inv hi).part, (h.inv hi).pim, (h.inv hi).regs, (h.inv hi).fns, (h.inv hi).ports, (h.inv hi).nodes, (h.inv hi).plans, (h.inv hi).lists, (h.inv hi).owners, (h.inv hi).points, (h.inv hi).rules, (h.inv hi).remote, (h.inv hi).chans, (h.inv hi).tile, (h.inv hi).meshFails⟩⟩

theorem Keeps.set_jtag {W : Nat} {s0 s : State} {x0 : JtagSt} (hW0 : W.testBit 27 = true)
    (h : Keeps W s0 s) : Keeps W s0 { s with jtag := x0 } :=
  ⟨fun p hp => by
      cases p
      case jtag => exact absurd (hW0.symm.trans hp) Bool.noConfusion
      all_goals exact h.frame _ hp,
    h.queue, h.tiles,
    fun hi => ⟨(h.inv hi).part, (h.inv hi).pim, (h.inv hi).regs, (h.inv hi).fns, (h.inv hi).ports, (h.inv hi).nodes, (h.inv hi).plans, (h.inv hi).lists, (h.inv hi).owners, (h.inv hi).points, (h.inv hi).rules, (h.inv hi).remote, (h.inv hi).chans, (h.inv hi).tile, (h.inv hi).meshFails⟩⟩

theorem Keeps.set_pins {W : Nat} {s0 s : State} {x0 : Pins} (hW0 : W.testBit 28 = true)
    (h : Keeps W s0 s) : Keeps W s0 { s with pins := x0 } :=
  ⟨fun p hp => by
      cases p
      case pins => exact absurd (hW0.symm.trans hp) Bool.noConfusion
      all_goals exact h.frame _ hp,
    h.queue, h.tiles,
    fun hi => ⟨(h.inv hi).part, (h.inv hi).pim, (h.inv hi).regs, (h.inv hi).fns, (h.inv hi).ports, (h.inv hi).nodes, (h.inv hi).plans, (h.inv hi).lists, (h.inv hi).owners, (h.inv hi).points, (h.inv hi).rules, (h.inv hi).remote, (h.inv hi).chans, (h.inv hi).tile, (h.inv hi).meshFails⟩⟩

theorem Keeps.set_boot {W : Nat} {s0 s : State} {x0 : BootSt} (hW0 : W.testBit 29 = true)
    (h : Keeps W s0 s) : Keeps W s0 { s with boot := x0 } :=
  ⟨fun p hp => by
      cases p
      case boot => exact absurd (hW0.symm.trans hp) Bool.noConfusion
      all_goals exact h.frame _ hp,
    h.queue, h.tiles,
    fun hi => ⟨(h.inv hi).part, (h.inv hi).pim, (h.inv hi).regs, (h.inv hi).fns, (h.inv hi).ports, (h.inv hi).nodes, (h.inv hi).plans, (h.inv hi).lists, (h.inv hi).owners, (h.inv hi).points, (h.inv hi).rules, (h.inv hi).remote, (h.inv hi).chans, (h.inv hi).tile, (h.inv hi).meshFails⟩⟩

theorem Keeps.set_chg {W : Nat} {s0 s : State} {x0 : Nat} (hW0 : W.testBit 30 = true)
    (h : Keeps W s0 s) : Keeps W s0 { s with chg := x0 } :=
  ⟨fun p hp => by
      cases p
      case chg => exact absurd (hW0.symm.trans hp) Bool.noConfusion
      all_goals exact h.frame _ hp,
    h.queue, h.tiles,
    fun hi => ⟨(h.inv hi).part, (h.inv hi).pim, (h.inv hi).regs, (h.inv hi).fns, (h.inv hi).ports, (h.inv hi).nodes, (h.inv hi).plans, (h.inv hi).lists, (h.inv hi).owners, (h.inv hi).points, (h.inv hi).rules, (h.inv hi).remote, (h.inv hi).chans, (h.inv hi).tile, (h.inv hi).meshFails⟩⟩

theorem Keeps.set_tile {W : Nat} {s0 s : State} {x0 : NMap Tile} (hW0 : W.testBit 31 = true)
    (hx0 : nwf {} s.tile = true → nwf {} x0 = true) (h : Keeps W s0 s) : Keeps W s0 { s with tile := x0 } :=
  ⟨fun p hp => by
      cases p
      case tile => exact absurd (hW0.symm.trans hp) Bool.noConfusion
      all_goals exact h.frame _ hp,
    h.queue, h.tiles,
    fun hi => ⟨(h.inv hi).part, (h.inv hi).pim, (h.inv hi).regs, (h.inv hi).fns, (h.inv hi).ports, (h.inv hi).nodes, (h.inv hi).plans, (h.inv hi).lists, (h.inv hi).owners, (h.inv hi).points, (h.inv hi).rules, (h.inv hi).remote, (h.inv hi).chans, hx0 (h.inv hi).tile, (h.inv hi).meshFails⟩⟩

theorem Keeps.set_mesh {W : Nat} {s0 s : State} {x0 : W64} (hW0 : W.testBit 32 = true)
    (h : Keeps W s0 s) : Keeps W s0 { s with mesh := x0 } :=
  ⟨fun p hp => by
      cases p
      case mesh => exact absurd (hW0.symm.trans hp) Bool.noConfusion
      all_goals exact h.frame _ hp,
    h.queue, h.tiles,
    fun hi => ⟨(h.inv hi).part, (h.inv hi).pim, (h.inv hi).regs, (h.inv hi).fns, (h.inv hi).ports, (h.inv hi).nodes, (h.inv hi).plans, (h.inv hi).lists, (h.inv hi).owners, (h.inv hi).points, (h.inv hi).rules, (h.inv hi).remote, (h.inv hi).chans, (h.inv hi).tile, (h.inv hi).meshFails⟩⟩

theorem Keeps.set_meshFails {W : Nat} {s0 s : State} {x0 : NMap Nat} (hW0 : W.testBit 33 = true)
    (hx0 : nwf 0 s.meshFails = true → nwf 0 x0 = true) (h : Keeps W s0 s) : Keeps W s0 { s with meshFails := x0 } :=
  ⟨fun p hp => by
      cases p
      case meshFails => exact absurd (hW0.symm.trans hp) Bool.noConfusion
      all_goals exact h.frame _ hp,
    h.queue, h.tiles,
    fun hi => ⟨(h.inv hi).part, (h.inv hi).pim, (h.inv hi).regs, (h.inv hi).fns, (h.inv hi).ports, (h.inv hi).nodes, (h.inv hi).plans, (h.inv hi).lists, (h.inv hi).owners, (h.inv hi).points, (h.inv hi).rules, (h.inv hi).remote, (h.inv hi).chans, (h.inv hi).tile, hx0 (h.inv hi).meshFails⟩⟩

theorem Keeps.set_ready {W : Nat} {s0 s : State} {x0 : Bool} (hW0 : W.testBit 34 = true)
    (h : Keeps W s0 s) : Keeps W s0 { s with ready := x0 } :=
  ⟨fun p hp => by
      cases p
      case ready => exact absurd (hW0.symm.trans hp) Bool.noConfusion
      all_goals exact h.frame _ hp,
    h.queue, h.tiles,
    fun hi => ⟨(h.inv hi).part, (h.inv hi).pim, (h.inv hi).regs, (h.inv hi).fns, (h.inv hi).ports, (h.inv hi).nodes, (h.inv hi).plans, (h.inv hi).lists, (h.inv hi).owners, (h.inv hi).points, (h.inv hi).rules, (h.inv hi).remote, (h.inv hi).chans, (h.inv hi).tile, (h.inv hi).meshFails⟩⟩

theorem Keeps.set_link {W : Nat} {s0 s : State} {x0 : Nat} (hW0 : W.testBit 35 = true)
    (h : Keeps W s0 s) : Keeps W s0 { s with link := x0 } :=
  ⟨fun p hp => by
      cases p
      case link => exact absurd (hW0.symm.trans hp) Bool.noConfusion
      all_goals exact h.frame _ hp,
    h.queue, h.tiles,
    fun hi => ⟨(h.inv hi).part, (h.inv hi).pim, (h.inv hi).regs, (h.inv hi).fns, (h.inv hi).ports, (h.inv hi).nodes, (h.inv hi).plans, (h.inv hi).lists, (h.inv hi).owners, (h.inv hi).points, (h.inv hi).rules, (h.inv hi).remote, (h.inv hi).chans, (h.inv hi).tile, (h.inv hi).meshFails⟩⟩

theorem Keeps.set_vfEnable {W : Nat} {s0 s : State} {x0 : Bool} (hW0 : W.testBit 36 = true)
    (h : Keeps W s0 s) : Keeps W s0 { s with vfEnable := x0 } :=
  ⟨fun p hp => by
      cases p
      case vfEnable => exact absurd (hW0.symm.trans hp) Bool.noConfusion
      all_goals exact h.frame _ hp,
    h.queue, h.tiles,
    fun hi => ⟨(h.inv hi).part, (h.inv hi).pim, (h.inv hi).regs, (h.inv hi).fns, (h.inv hi).ports, (h.inv hi).nodes, (h.inv hi).plans, (h.inv hi).lists, (h.inv hi).owners, (h.inv hi).points, (h.inv hi).rules, (h.inv hi).remote, (h.inv hi).chans, (h.inv hi).tile, (h.inv hi).meshFails⟩⟩

theorem Keeps.set_vfMse {W : Nat} {s0 s : State} {x0 : Bool} (hW0 : W.testBit 37 = true)
    (h : Keeps W s0 s) : Keeps W s0 { s with vfMse := x0 } :=
  ⟨fun p hp => by
      cases p
      case vfMse => exact absurd (hW0.symm.trans hp) Bool.noConfusion
      all_goals exact h.frame _ hp,
    h.queue, h.tiles,
    fun hi => ⟨(h.inv hi).part, (h.inv hi).pim, (h.inv hi).regs, (h.inv hi).fns, (h.inv hi).ports, (h.inv hi).nodes, (h.inv hi).plans, (h.inv hi).lists, (h.inv hi).owners, (h.inv hi).points, (h.inv hi).rules, (h.inv hi).remote, (h.inv hi).chans, (h.inv hi).tile, (h.inv hi).meshFails⟩⟩

theorem Keeps.set_numVfs {W : Nat} {s0 s : State} {x0 : Nat} (hW0 : W.testBit 38 = true)
    (h : Keeps W s0 s) : Keeps W s0 { s with numVfs := x0 } :=
  ⟨fun p hp => by
      cases p
      case numVfs => exact absurd (hW0.symm.trans hp) Bool.noConfusion
      all_goals exact h.frame _ hp,
    h.queue, h.tiles,
    fun hi => ⟨(h.inv hi).part, (h.inv hi).pim, (h.inv hi).regs, (h.inv hi).fns, (h.inv hi).ports, (h.inv hi).nodes, (h.inv hi).plans, (h.inv hi).lists, (h.inv hi).owners, (h.inv hi).points, (h.inv hi).rules, (h.inv hi).remote, (h.inv hi).chans, (h.inv hi).tile, (h.inv hi).meshFails⟩⟩

theorem Keeps.set_ari {W : Nat} {s0 s : State} {x0 : Bool} (hW0 : W.testBit 39 = true)
    (h : Keeps W s0 s) : Keeps W s0 { s with ari := x0 } :=
  ⟨fun p hp => by
      cases p
      case ari => exact absurd (hW0.symm.trans hp) Bool.noConfusion
      all_goals exact h.frame _ hp,
    h.queue, h.tiles,
    fun hi => ⟨(h.inv hi).part, (h.inv hi).pim, (h.inv hi).regs, (h.inv hi).fns, (h.inv hi).ports, (h.inv hi).nodes, (h.inv hi).plans, (h.inv hi).lists, (h.inv hi).owners, (h.inv hi).points, (h.inv hi).rules, (h.inv hi).remote, (h.inv hi).chans, (h.inv hi).tile, (h.inv hi).meshFails⟩⟩

theorem Keeps.set_stamp {W : Nat} {s0 s : State} {x0 : Nat} (hW0 : W.testBit 40 = true)
    (h : Keeps W s0 s) : Keeps W s0 { s with stamp := x0 } :=
  ⟨fun p hp => by
      cases p
      case stamp => exact absurd (hW0.symm.trans hp) Bool.noConfusion
      all_goals exact h.frame _ hp,
    h.queue, h.tiles,
    fun hi => ⟨(h.inv hi).part, (h.inv hi).pim, (h.inv hi).regs, (h.inv hi).fns, (h.inv hi).ports, (h.inv hi).nodes, (h.inv hi).plans, (h.inv hi).lists, (h.inv hi).owners, (h.inv hi).points, (h.inv hi).rules, (h.inv hi).remote, (h.inv hi).chans, (h.inv hi).tile, (h.inv hi).meshFails⟩⟩

theorem Keeps.set_stage {W : Nat} {s0 s : State} {x0 : Nat} (hW0 : W.testBit 41 = true)
    (h : Keeps W s0 s) : Keeps W s0 { s with stage := x0 } :=
  ⟨fun p hp => by
      cases p
      case stage => exact absurd (hW0.symm.trans hp) Bool.noConfusion
      all_goals exact h.frame _ hp,
    h.queue, h.tiles,
    fun hi => ⟨(h.inv hi).part, (h.inv hi).pim, (h.inv hi).regs, (h.inv hi).fns, (h.inv hi).ports, (h.inv hi).nodes, (h.inv hi).plans, (h.inv hi).lists, (h.inv hi).owners, (h.inv hi).points, (h.inv hi).rules, (h.inv hi).remote, (h.inv hi).chans, (h.inv hi).tile, (h.inv hi).meshFails⟩⟩

theorem Keeps.set_lastCancel {W : Nat} {s0 s : State} {x0 : Nat} (hW0 : W.testBit 42 = true)
    (h : Keeps W s0 s) : Keeps W s0 { s with lastCancel := x0 } :=
  ⟨fun p hp => by
      cases p
      case lastCancel => exact absurd (hW0.symm.trans hp) Bool.noConfusion
      all_goals exact h.frame _ hp,
    h.queue, h.tiles,
    fun hi => ⟨(h.inv hi).part, (h.inv hi).pim, (h.inv hi).regs, (h.inv hi).fns, (h.inv hi).ports, (h.inv hi).nodes, (h.inv hi).plans, (h.inv hi).lists, (h.inv hi).owners, (h.inv hi).points, (h.inv hi).rules, (h.inv hi).remote, (h.inv hi).chans, (h.inv hi).tile, (h.inv hi).meshFails⟩⟩

theorem Keeps.set_stopping {W : Nat} {s0 s : State} {x0 : Bool} (hW0 : W.testBit 43 = true)
    (h : Keeps W s0 s) : Keeps W s0 { s with stopping := x0 } :=
  ⟨fun p hp => by
      cases p
      case stopping => exact absurd (hW0.symm.trans hp) Bool.noConfusion
      all_goals exact h.frame _ hp,
    h.queue, h.tiles,
    fun hi => ⟨(h.inv hi).part, (h.inv hi).pim, (h.inv hi).regs, (h.inv hi).fns, (h.inv hi).ports, (h.inv hi).nodes, (h.inv hi).plans, (h.inv hi).lists, (h.inv hi).owners, (h.inv hi).points, (h.inv hi).rules, (h.inv hi).remote, (h.inv hi).chans, (h.inv hi).tile, (h.inv hi).meshFails⟩⟩

theorem Keeps.set_xogate {W : Nat} {s0 s : State} {x0 : Bool} (hW0 : W.testBit 44 = true)
    (h : Keeps W s0 s) : Keeps W s0 { s with xogate := x0 } :=
  ⟨fun p hp => by
      cases p
      case xogate => exact absurd (hW0.symm.trans hp) Bool.noConfusion
      all_goals exact h.frame _ hp,
    h.queue, h.tiles,
    fun hi => ⟨(h.inv hi).part, (h.inv hi).pim, (h.inv hi).regs, (h.inv hi).fns, (h.inv hi).ports, (h.inv hi).nodes, (h.inv hi).plans, (h.inv hi).lists, (h.inv hi).owners, (h.inv hi).points, (h.inv hi).rules, (h.inv hi).remote, (h.inv hi).chans, (h.inv hi).tile, (h.inv hi).meshFails⟩⟩

theorem Keeps.set_evHeld {W : Nat} {s0 s : State} {x0 : List (Nat × Event)} (hW0 : W.testBit 45 = true)
    (h : Keeps W s0 s) : Keeps W s0 { s with evHeld := x0 } :=
  ⟨fun p hp => by
      cases p
      case evHeld => exact absurd (hW0.symm.trans hp) Bool.noConfusion
      all_goals exact h.frame _ hp,
    h.queue, h.tiles,
    fun hi => ⟨(h.inv hi).part, (h.inv hi).pim, (h.inv hi).regs, (h.inv hi).fns, (h.inv hi).ports, (h.inv hi).nodes, (h.inv hi).plans, (h.inv hi).lists, (h.inv hi).owners, (h.inv hi).points, (h.inv hi).rules, (h.inv hi).remote, (h.inv hi).chans, (h.inv hi).tile, (h.inv hi).meshFails⟩⟩

theorem Keeps.set_accepts {W : Nat} {s0 s : State} {x0 : Nat} (hW0 : W.testBit 46 = true)
    (h : Keeps W s0 s) : Keeps W s0 { s with accepts := x0 } :=
  ⟨fun p hp => by
      cases p
      case accepts => exact absurd (hW0.symm.trans hp) Bool.noConfusion
      all_goals exact h.frame _ hp,
    h.queue, h.tiles,
    fun hi => ⟨(h.inv hi).part, (h.inv hi).pim, (h.inv hi).regs, (h.inv hi).fns, (h.inv hi).ports, (h.inv hi).nodes, (h.inv hi).plans, (h.inv hi).lists, (h.inv hi).owners, (h.inv hi).points, (h.inv hi).rules, (h.inv hi).remote, (h.inv hi).chans, (h.inv hi).tile, (h.inv hi).meshFails⟩⟩

theorem Keeps.set_free {W : Nat} {s0 s : State} {x0 : Nat} (hW0 : W.testBit 47 = true)
    (h : Keeps W s0 s) : Keeps W s0 { s with free := x0 } :=
  ⟨fun p hp => by
      cases p
      case free => exact absurd (hW0.symm.trans hp) Bool.noConfusion
      all_goals exact h.frame _ hp,
    h.queue, h.tiles,
    fun hi => ⟨(h.inv hi).part, (h.inv hi).pim, (h.inv hi).regs, (h.inv hi).fns, (h.inv hi).ports, (h.inv hi).nodes, (h.inv hi).plans, (h.inv hi).lists, (h.inv hi).owners, (h.inv hi).points, (h.inv hi).rules, (h.inv hi).remote, (h.inv hi).chans, (h.inv hi).tile, (h.inv hi).meshFails⟩⟩

theorem Keeps.set_tlpHeld {W : Nat} {s0 s : State} {x0 : List Output} (hW0 : W.testBit 48 = true)
    (h : Keeps W s0 s) : Keeps W s0 { s with tlpHeld := x0 } :=
  ⟨fun p hp => by
      cases p
      case tlpHeld => exact absurd (hW0.symm.trans hp) Bool.noConfusion
      all_goals exact h.frame _ hp,
    h.queue, h.tiles,
    fun hi => ⟨(h.inv hi).part, (h.inv hi).pim, (h.inv hi).regs, (h.inv hi).fns, (h.inv hi).ports, (h.inv hi).nodes, (h.inv hi).plans, (h.inv hi).lists, (h.inv hi).owners, (h.inv hi).points, (h.inv hi).rules, (h.inv hi).remote, (h.inv hi).chans, (h.inv hi).tile, (h.inv hi).meshFails⟩⟩

theorem Keeps.set_wire {W : Nat} {s0 s : State} {x0 : List Output} (hW0 : W.testBit 49 = true)
    (h : Keeps W s0 s) : Keeps W s0 { s with wire := x0 } :=
  ⟨fun p hp => by
      cases p
      case wire => exact absurd (hW0.symm.trans hp) Bool.noConfusion
      all_goals exact h.frame _ hp,
    h.queue, h.tiles,
    fun hi => ⟨(h.inv hi).part, (h.inv hi).pim, (h.inv hi).regs, (h.inv hi).fns, (h.inv hi).ports, (h.inv hi).nodes, (h.inv hi).plans, (h.inv hi).lists, (h.inv hi).owners, (h.inv hi).points, (h.inv hi).rules, (h.inv hi).remote, (h.inv hi).chans, (h.inv hi).tile, (h.inv hi).meshFails⟩⟩

theorem Keeps.set_boot_link {W : Nat} {s0 s : State} {x0 : BootSt} {x1 : Nat} (hW0 : W.testBit 29 = true) (hW1 : W.testBit 35 = true)
    (h : Keeps W s0 s) : Keeps W s0 { s with boot := x0, link := x1 } :=
  ⟨fun p hp => by
      cases p
      case boot => exact absurd (hW0.symm.trans hp) Bool.noConfusion
      case link => exact absurd (hW1.symm.trans hp) Bool.noConfusion
      all_goals exact h.frame _ hp,
    h.queue, h.tiles,
    fun hi => ⟨(h.inv hi).part, (h.inv hi).pim, (h.inv hi).regs, (h.inv hi).fns, (h.inv hi).ports, (h.inv hi).nodes, (h.inv hi).plans, (h.inv hi).lists, (h.inv hi).owners, (h.inv hi).points, (h.inv hi).rules, (h.inv hi).remote, (h.inv hi).chans, (h.inv hi).tile, (h.inv hi).meshFails⟩⟩

theorem Keeps.set_boot_mesh_ready {W : Nat} {s0 s : State} {x0 : BootSt} {x1 : W64} {x2 : Bool} (hW0 : W.testBit 29 = true) (hW1 : W.testBit 32 = true) (hW2 : W.testBit 34 = true)
    (h : Keeps W s0 s) : Keeps W s0 { s with boot := x0, mesh := x1, ready := x2 } :=
  ⟨fun p hp => by
      cases p
      case boot => exact absurd (hW0.symm.trans hp) Bool.noConfusion
      case mesh => exact absurd (hW1.symm.trans hp) Bool.noConfusion
      case ready => exact absurd (hW2.symm.trans hp) Bool.noConfusion
      all_goals exact h.frame _ hp,
    h.queue, h.tiles,
    fun hi => ⟨(h.inv hi).part, (h.inv hi).pim, (h.inv hi).regs, (h.inv hi).fns, (h.inv hi).ports, (h.inv hi).nodes, (h.inv hi).plans, (h.inv hi).lists, (h.inv hi).owners, (h.inv hi).points, (h.inv hi).rules, (h.inv hi).remote, (h.inv hi).chans, (h.inv hi).tile, (h.inv hi).meshFails⟩⟩

theorem Keeps.set_fw_pins_boot_tile {W : Nat} {s0 s : State} {x0 : FwSt} {x1 : Pins} {x2 : BootSt} {x3 : NMap Tile} (hW0 : W.testBit 25 = true) (hW1 : W.testBit 28 = true) (hW2 : W.testBit 29 = true) (hW3 : W.testBit 31 = true)
    (hx3 : nwf {} s.tile = true → nwf {} x3 = true) (h : Keeps W s0 s) : Keeps W s0 { s with fw := x0, pins := x1, boot := x2, tile := x3 } :=
  ⟨fun p hp => by
      cases p
      case fw => exact absurd (hW0.symm.trans hp) Bool.noConfusion
      case pins => exact absurd (hW1.symm.trans hp) Bool.noConfusion
      case boot => exact absurd (hW2.symm.trans hp) Bool.noConfusion
      case tile => exact absurd (hW3.symm.trans hp) Bool.noConfusion
      all_goals exact h.frame _ hp,
    h.queue, h.tiles,
    fun hi => ⟨(h.inv hi).part, (h.inv hi).pim, (h.inv hi).regs, (h.inv hi).fns, (h.inv hi).ports, (h.inv hi).nodes, (h.inv hi).plans, (h.inv hi).lists, (h.inv hi).owners, (h.inv hi).points, (h.inv hi).rules, (h.inv hi).remote, (h.inv hi).chans, hx3 (h.inv hi).tile, (h.inv hi).meshFails⟩⟩

theorem Keeps.set_half0_half1_half {W : Nat} {s0 s : State} {x0 : NtHalf} {x1 : NtHalf} {x2 : Nat} (hW0 : W.testBit 22 = true) (hW1 : W.testBit 23 = true) (hW2 : W.testBit 24 = true)
    (h : Keeps W s0 s) : Keeps W s0 { s with half0 := x0, half1 := x1, half := x2 } :=
  ⟨fun p hp => by
      cases p
      case half0 => exact absurd (hW0.symm.trans hp) Bool.noConfusion
      case half1 => exact absurd (hW1.symm.trans hp) Bool.noConfusion
      case half => exact absurd (hW2.symm.trans hp) Bool.noConfusion
      all_goals exact h.frame _ hp,
    h.queue, h.tiles,
    fun hi => ⟨(h.inv hi).part, (h.inv hi).pim, (h.inv hi).regs, (h.inv hi).fns, (h.inv hi).ports, (h.inv hi).nodes, (h.inv hi).plans, (h.inv hi).lists, (h.inv hi).owners, (h.inv hi).points, (h.inv hi).rules, (h.inv hi).remote, (h.inv hi).chans, (h.inv hi).tile, (h.inv hi).meshFails⟩⟩

theorem Keeps.set_journal_half {W : Nat} {s0 s : State} {x0 : List (Nat × Nat × Nat × List Byte)} {x1 : Nat} (hW0 : W.testBit 21 = true) (hW1 : W.testBit 24 = true)
    (h : Keeps W s0 s) : Keeps W s0 { s with journal := x0, half := x1 } :=
  ⟨fun p hp => by
      cases p
      case journal => exact absurd (hW0.symm.trans hp) Bool.noConfusion
      case half => exact absurd (hW1.symm.trans hp) Bool.noConfusion
      all_goals exact h.frame _ hp,
    h.queue, h.tiles,
    fun hi => ⟨(h.inv hi).part, (h.inv hi).pim, (h.inv hi).regs, (h.inv hi).fns, (h.inv hi).ports, (h.inv hi).nodes, (h.inv hi).plans, (h.inv hi).lists, (h.inv hi).owners, (h.inv hi).points, (h.inv hi).rules, (h.inv hi).remote, (h.inv hi).chans, (h.inv hi).tile, (h.inv hi).meshFails⟩⟩

theorem Keeps.set_lists_grants {W : Nat} {s0 s : State} {x0 : NMap SList} {x1 : List ShareGrant} (hW0 : W.testBit 7 = true) (hW1 : W.testBit 11 = true)
    (hx0 : nwf {} s.lists = true → nwf {} x0 = true) (h : Keeps W s0 s) : Keeps W s0 { s with lists := x0, grants := x1 } :=
  ⟨fun p hp => by
      cases p
      case lists => exact absurd (hW0.symm.trans hp) Bool.noConfusion
      case grants => exact absurd (hW1.symm.trans hp) Bool.noConfusion
      all_goals exact h.frame _ hp,
    h.queue, h.tiles,
    fun hi => ⟨(h.inv hi).part, (h.inv hi).pim, (h.inv hi).regs, (h.inv hi).fns, (h.inv hi).ports, (h.inv hi).nodes, (h.inv hi).plans, hx0 (h.inv hi).lists, (h.inv hi).owners, (h.inv hi).points, (h.inv hi).rules, (h.inv hi).remote, (h.inv hi).chans, (h.inv hi).tile, (h.inv hi).meshFails⟩⟩

theorem Keeps.set_mesh_meshFails {W : Nat} {s0 s : State} {x0 : W64} {x1 : NMap Nat} (hW0 : W.testBit 32 = true) (hW1 : W.testBit 33 = true)
    (hx1 : nwf 0 s.meshFails = true → nwf 0 x1 = true) (h : Keeps W s0 s) : Keeps W s0 { s with mesh := x0, meshFails := x1 } :=
  ⟨fun p hp => by
      cases p
      case mesh => exact absurd (hW0.symm.trans hp) Bool.noConfusion
      case meshFails => exact absurd (hW1.symm.trans hp) Bool.noConfusion
      all_goals exact h.frame _ hp,
    h.queue, h.tiles,
    fun hi => ⟨(h.inv hi).part, (h.inv hi).pim, (h.inv hi).regs, (h.inv hi).fns, (h.inv hi).ports, (h.inv hi).nodes, (h.inv hi).plans, (h.inv hi).lists, (h.inv hi).owners, (h.inv hi).points, (h.inv hi).rules, (h.inv hi).remote, (h.inv hi).chans, (h.inv hi).tile, hx1 (h.inv hi).meshFails⟩⟩

theorem Keeps.set_owners_grants {W : Nat} {s0 s : State} {x0 : NMap Nat} {x1 : List ShareGrant} (hW0 : W.testBit 9 = true) (hW1 : W.testBit 11 = true)
    (hx0 : nwf 0 s.owners = true → nwf 0 x0 = true) (h : Keeps W s0 s) : Keeps W s0 { s with owners := x0, grants := x1 } :=
  ⟨fun p hp => by
      cases p
      case owners => exact absurd (hW0.symm.trans hp) Bool.noConfusion
      case grants => exact absurd (hW1.symm.trans hp) Bool.noConfusion
      all_goals exact h.frame _ hp,
    h.queue, h.tiles,
    fun hi => ⟨(h.inv hi).part, (h.inv hi).pim, (h.inv hi).regs, (h.inv hi).fns, (h.inv hi).ports, (h.inv hi).nodes, (h.inv hi).plans, (h.inv hi).lists, hx0 (h.inv hi).owners, (h.inv hi).points, (h.inv hi).rules, (h.inv hi).remote, (h.inv hi).chans, (h.inv hi).tile, (h.inv hi).meshFails⟩⟩

theorem Keeps.set_plans_lists_owners_evHeld {W : Nat} {s0 s : State} {x0 : NMap PlanSt} {x1 : NMap SList} {x2 : NMap Nat} {x3 : List (Nat × Event)} (hW0 : W.testBit 6 = true) (hW1 : W.testBit 7 = true) (hW2 : W.testBit 9 = true) (hW3 : W.testBit 45 = true)
    (hx0 : nwf {} s.plans = true → nwf {} x0 = true) (hx1 : nwf {} s.lists = true → nwf {} x1 = true) (hx2 : nwf 0 s.owners = true → nwf 0 x2 = true) (h : Keeps W s0 s) : Keeps W s0 { s with plans := x0, lists := x1, owners := x2, evHeld := x3 } :=
  ⟨fun p hp => by
      cases p
      case plans => exact absurd (hW0.symm.trans hp) Bool.noConfusion
      case lists => exact absurd (hW1.symm.trans hp) Bool.noConfusion
      case owners => exact absurd (hW2.symm.trans hp) Bool.noConfusion
      case evHeld => exact absurd (hW3.symm.trans hp) Bool.noConfusion
      all_goals exact h.frame _ hp,
    h.queue, h.tiles,
    fun hi => ⟨(h.inv hi).part, (h.inv hi).pim, (h.inv hi).regs, (h.inv hi).fns, (h.inv hi).ports, (h.inv hi).nodes, hx0 (h.inv hi).plans, hx1 (h.inv hi).lists, hx2 (h.inv hi).owners, (h.inv hi).points, (h.inv hi).rules, (h.inv hi).remote, (h.inv hi).chans, (h.inv hi).tile, (h.inv hi).meshFails⟩⟩

theorem Keeps.set_quar_half {W : Nat} {s0 s : State} {x0 : List (List Byte)} {x1 : Nat} (hW0 : W.testBit 19 = true) (hW1 : W.testBit 24 = true)
    (h : Keeps W s0 s) : Keeps W s0 { s with quar := x0, half := x1 } :=
  ⟨fun p hp => by
      cases p
      case quar => exact absurd (hW0.symm.trans hp) Bool.noConfusion
      case half => exact absurd (hW1.symm.trans hp) Bool.noConfusion
      all_goals exact h.frame _ hp,
    h.queue, h.tiles,
    fun hi => ⟨(h.inv hi).part, (h.inv hi).pim, (h.inv hi).regs, (h.inv hi).fns, (h.inv hi).ports, (h.inv hi).nodes, (h.inv hi).plans, (h.inv hi).lists, (h.inv hi).owners, (h.inv hi).points, (h.inv hi).rules, (h.inv hi).remote, (h.inv hi).chans, (h.inv hi).tile, (h.inv hi).meshFails⟩⟩

theorem Keeps.set_remote_copies {W : Nat} {s0 s : State} {x0 : NMap Nat} {x1 : List (Nat × Nat × Nat × Nat)} (hW0 : W.testBit 13 = true) (hW1 : W.testBit 14 = true)
    (hx0 : nwf 0 s.remote = true → nwf 0 x0 = true) (h : Keeps W s0 s) : Keeps W s0 { s with remote := x0, copies := x1 } :=
  ⟨fun p hp => by
      cases p
      case remote => exact absurd (hW0.symm.trans hp) Bool.noConfusion
      case copies => exact absurd (hW1.symm.trans hp) Bool.noConfusion
      all_goals exact h.frame _ hp,
    h.queue, h.tiles,
    fun hi => ⟨(h.inv hi).part, (h.inv hi).pim, (h.inv hi).regs, (h.inv hi).fns, (h.inv hi).ports, (h.inv hi).nodes, (h.inv hi).plans, (h.inv hi).lists, (h.inv hi).owners, (h.inv hi).points, (h.inv hi).rules, hx0 (h.inv hi).remote, (h.inv hi).chans, (h.inv hi).tile, (h.inv hi).meshFails⟩⟩

theorem Keeps.set_stage_lastCancel_stopping {W : Nat} {s0 s : State} {x0 : Nat} {x1 : Nat} {x2 : Bool} (hW0 : W.testBit 41 = true) (hW1 : W.testBit 42 = true) (hW2 : W.testBit 43 = true)
    (h : Keeps W s0 s) : Keeps W s0 { s with stage := x0, lastCancel := x1, stopping := x2 } :=
  ⟨fun p hp => by
      cases p
      case stage => exact absurd (hW0.symm.trans hp) Bool.noConfusion
      case lastCancel => exact absurd (hW1.symm.trans hp) Bool.noConfusion
      case stopping => exact absurd (hW2.symm.trans hp) Bool.noConfusion
      all_goals exact h.frame _ hp,
    h.queue, h.tiles,
    fun hi => ⟨(h.inv hi).part, (h.inv hi).pim, (h.inv hi).regs, (h.inv hi).fns, (h.inv hi).ports, (h.inv hi).nodes, (h.inv hi).plans, (h.inv hi).lists, (h.inv hi).owners, (h.inv hi).points, (h.inv hi).rules, (h.inv hi).remote, (h.inv hi).chans, (h.inv hi).tile, (h.inv hi).meshFails⟩⟩

theorem Keeps.set_stage_stopping {W : Nat} {s0 s : State} {x0 : Nat} {x1 : Bool} (hW0 : W.testBit 41 = true) (hW1 : W.testBit 43 = true)
    (h : Keeps W s0 s) : Keeps W s0 { s with stage := x0, stopping := x1 } :=
  ⟨fun p hp => by
      cases p
      case stage => exact absurd (hW0.symm.trans hp) Bool.noConfusion
      case stopping => exact absurd (hW1.symm.trans hp) Bool.noConfusion
      all_goals exact h.frame _ hp,
    h.queue, h.tiles,
    fun hi => ⟨(h.inv hi).part, (h.inv hi).pim, (h.inv hi).regs, (h.inv hi).fns, (h.inv hi).ports, (h.inv hi).nodes, (h.inv hi).plans, (h.inv hi).lists, (h.inv hi).owners, (h.inv hi).points, (h.inv hi).rules, (h.inv hi).remote, (h.inv hi).chans, (h.inv hi).tile, (h.inv hi).meshFails⟩⟩

theorem Keeps.set_time_stored_xogate {W : Nat} {s0 s : State} {x0 : TimeSt} {x1 : NMap W64} {x2 : Bool} (hW0 : W.testBit 0 = true) (hW1 : W.testBit 2 = true) (hW2 : W.testBit 44 = true)
    (h : Keeps W s0 s) : Keeps W s0 { s with time := x0, stored := x1, xogate := x2 } :=
  ⟨fun p hp => by
      cases p
      case time => exact absurd (hW0.symm.trans hp) Bool.noConfusion
      case stored => exact absurd (hW1.symm.trans hp) Bool.noConfusion
      case xogate => exact absurd (hW2.symm.trans hp) Bool.noConfusion
      all_goals exact h.frame _ hp,
    h.queue, h.tiles,
    fun hi => ⟨(h.inv hi).part, (h.inv hi).pim, (h.inv hi).regs, (h.inv hi).fns, (h.inv hi).ports, (h.inv hi).nodes, (h.inv hi).plans, (h.inv hi).lists, (h.inv hi).owners, (h.inv hi).points, (h.inv hi).rules, (h.inv hi).remote, (h.inv hi).chans, (h.inv hi).tile, (h.inv hi).meshFails⟩⟩

theorem Keeps.set_tlpHeld_wire {W : Nat} {s0 s : State} {x0 : List Output} {x1 : List Output} (hW0 : W.testBit 48 = true) (hW1 : W.testBit 49 = true)
    (h : Keeps W s0 s) : Keeps W s0 { s with tlpHeld := x0, wire := x1 } :=
  ⟨fun p hp => by
      cases p
      case tlpHeld => exact absurd (hW0.symm.trans hp) Bool.noConfusion
      case wire => exact absurd (hW1.symm.trans hp) Bool.noConfusion
      all_goals exact h.frame _ hp,
    h.queue, h.tiles,
    fun hi => ⟨(h.inv hi).part, (h.inv hi).pim, (h.inv hi).regs, (h.inv hi).fns, (h.inv hi).ports, (h.inv hi).nodes, (h.inv hi).plans, (h.inv hi).lists, (h.inv hi).owners, (h.inv hi).points, (h.inv hi).rules, (h.inv hi).remote, (h.inv hi).chans, (h.inv hi).tile, (h.inv hi).meshFails⟩⟩

/-! ## From masks to lists of parts -/

/-- The list names every part of the mask. -/
def covers (W : Nat) (l : List Part) : Bool := Part.all.all (fun p => l.contains p || !W.testBit p.code)

theorem Part.mem_all (p : Part) : p ∈ Part.all := by cases p <;> decide

theorem Keeps.sameExcept {W : Nat} {l : List Part} {s t : State} (hc : covers W l = true) (h : Keeps W s t) :
    sameExcept l s t := by
  refine ⟨h.queue, h.tiles, fun p hp => h.frame p ?_⟩
  have hq := (List.all_eq_true.mp hc) p p.mem_all
  rw [Bool.or_eq_true] at hq
  rcases hq with hq | hq
  · exact absurd (List.contains_iff_mem.mp hq) hp
  · simpa using hq

end Sys2Proof.Machine
end

