-- ==== Sys2Proof/Laws/Frames1.lean ====
section
/-!
SUPPORT. Frames, part 1 of 5: one lemma per operation of the machine, in the order in which they call each other: it
keeps every part of the state outside its mask, the queue, the part and the invariant (Laws/Keeps.lean).
-/

set_option Elab.async false
namespace Sys2Proof.Machine

theorem subMask_trans {U V W : Nat} (h : subMask U V = true) (k : subMask V W = true) : subMask U W = true := by
  have e : U &&& V = U := by simpa [subMask] using h
  have f : V &&& W = V := by simpa [subMask] using k
  have g : U &&& W = U := by
    calc U &&& W = (U &&& V) &&& W := by rw [e]
      _ = U &&& (V &&& W) := Nat.and_assoc ..
      _ = U := by rw [f, e]
  simp [subMask, g]

theorem State.draw_keeps {V : Nat} {s0 s : State} (hV : subMask 140737488355328 V = true)
    (h : Keeps V s0 s) : Keeps V s0 (State.draw s) := by
  refine h.step hV ?_
  clear h hV
  have h : Keeps 140737488355328 s s := .refl _ _
  unfold State.draw
  repeat' first
    | with_reducible assumption
    | decide
    | with_reducible refine Keeps.ite ?_ (fun _ => ?_)
    | with_reducible refine Keeps.foldl _ (fun _ _ _ => ?_) ?_
    | with_reducible refine Keeps.foldl_fst _ (fun _ _ _ => ?_) ?_
    | dsimp only
    | split
    | with_reducible refine Keeps.set_free ?_ ?_

theorem State.modFn_keeps {V : Nat} {f : Nat} {u : Fn → Fn} {s0 s : State} (hV : subMask 8 V = true)
    (h : Keeps V s0 s) : Keeps V s0 (State.modFn s f u) := by
  refine h.step hV ?_
  clear h hV
  have h : Keeps 8 s s := .refl _ _
  unfold State.modFn
  repeat' first
    | with_reducible assumption
    | decide
    | with_reducible refine Keeps.ite ?_ (fun _ => ?_)
    | exact nwf_nmod _ _
    | exact nwf_nput _ _
    | exact nwf_filter _
    | exact fun _ => nwf_nmapAll _
    | exact ascKeys_nput _ _ _
    | exact ascKeys_filter _
    | exact nwf_foldl_nput _ _ _
    | exact memWrite_wf _ _ _
    | exact fun hi => nwf_nput _ _ (nwf_filter _ hi)
    | with_reducible refine Keeps.foldl _ (fun _ _ _ => ?_) ?_
    | with_reducible refine Keeps.foldl_fst _ (fun _ _ _ => ?_) ?_
    | dsimp only
    | split
    | with_reducible refine Keeps.set_fns ?_ ?_ ?_

theorem State.joinEntry_keeps {V : Nat} {f : Nat} {fast : Bool} {s0 s : State} (hV : subMask 8 V = true)
    (h : Keeps V s0 s) : Keeps V s0 (State.joinEntry s f fast) := by
  refine h.step hV ?_
  clear h hV
  have h : Keeps 8 s s := .refl _ _
  unfold State.joinEntry
  repeat' first
    | with_reducible assumption
    | decide
    | with_reducible refine Keeps.ite ?_ (fun _ => ?_)
    | with_reducible refine State.modFn_keeps ?_ ?_

theorem State.modBridge_keeps {V : Nat} {f : Nat} {u : BridgeView → BridgeView} {s0 s : State} (hV : subMask 8 V = true)
    (h : Keeps V s0 s) : Keeps V s0 (State.modBridge s f u) := by
  refine h.step hV ?_
  clear h hV
  have h : Keeps 8 s s := .refl _ _
  unfold State.modBridge
  repeat' first
    | with_reducible assumption
    | decide
    | with_reducible refine Keeps.ite ?_ (fun _ => ?_)
    | with_reducible refine State.modFn_keeps ?_ ?_

theorem State.modChan_keeps {V : Nat} {k : Nat} {u : Chan → Chan} {s0 s : State} (hV : subMask 131072 V = true)
    (h : Keeps V s0 s) : Keeps V s0 (State.modChan s k u) := by
  refine h.step hV ?_
  clear h hV
  have h : Keeps 131072 s s := .refl _ _
  unfold State.modChan
  repeat' first
    | with_reducible assumption
    | decide
    | with_reducible refine Keeps.ite ?_ (fun _ => ?_)
    | exact nwf_nmod _ _
    | exact nwf_nput _ _
    | exact nwf_filter _
    | exact fun _ => nwf_nmapAll _
    | exact ascKeys_nput _ _ _
    | exact ascKeys_filter _
    | exact nwf_foldl_nput _ _ _
    | exact memWrite_wf _ _ _
    | exact fun hi => nwf_nput _ _ (nwf_filter _ hi)
    | with_reducible refine Keeps.foldl _ (fun _ _ _ => ?_) ?_
    | with_reducible refine Keeps.foldl_fst _ (fun _ _ _ => ?_) ?_
    | dsimp only
    | split
    | with_reducible refine Keeps.set_chans ?_ ?_ ?_

theorem State.modCq_keeps {V : Nat} {f : Nat} {q : Nat} {u : Ring → Ring} {s0 s : State} (hV : subMask 8 V = true)
    (h : Keeps V s0 s) : Keeps V s0 (State.modCq s f q u) := by
  refine h.step hV ?_
  clear h hV
  have h : Keeps 8 s s := .refl _ _
  unfold State.modCq
  repeat' first
    | with_reducible assumption
    | decide
    | with_reducible refine Keeps.ite ?_ (fun _ => ?_)
    | with_reducible refine State.modFn_keeps ?_ ?_

theorem State.modEq_keeps {V : Nat} {f : Nat} {q : Nat} {u : Ring → Ring} {s0 s : State} (hV : subMask 8 V = true)
    (h : Keeps V s0 s) : Keeps V s0 (State.modEq s f q u) := by
  refine h.step hV ?_
  clear h hV
  have h : Keeps 8 s s := .refl _ _
  unfold State.modEq
  repeat' first
    | with_reducible assumption
    | decide
    | with_reducible refine Keeps.ite ?_ (fun _ => ?_)
    | with_reducible refine State.modFn_keeps ?_ ?_

theorem State.modFw_keeps {V : Nat} {u : FwSt → FwSt} {s0 s : State} (hV : subMask 33554432 V = true)
    (h : Keeps V s0 s) : Keeps V s0 (State.modFw s u) := by
  refine h.step hV ?_
  clear h hV
  have h : Keeps 33554432 s s := .refl _ _
  unfold State.modFw
  repeat' first
    | with_reducible assumption
    | decide
    | with_reducible refine Keeps.ite ?_ (fun _ => ?_)
    | with_reducible refine Keeps.foldl _ (fun _ _ _ => ?_) ?_
    | with_reducible refine Keeps.foldl_fst _ (fun _ _ _ => ?_) ?_
    | dsimp only
    | split
    | with_reducible refine Keeps.set_fw ?_ ?_

theorem State.modHandle_keeps {V : Nat} {f : Nat} {seq : Nat} {u : Handle → Handle} {s0 s : State} (hV : subMask 8 V = true)
    (h : Keeps V s0 s) : Keeps V s0 (State.modHandle s f seq u) := by
  refine h.step hV ?_
  clear h hV
  have h : Keeps 8 s s := .refl _ _
  unfold State.modHandle
  repeat' first
    | with_reducible assumption
    | decide
    | with_reducible refine Keeps.ite ?_ (fun _ => ?_)
    | with_reducible refine State.modFn_keeps ?_ ?_

theorem State.modImage_keeps {V : Nat} {f : Nat} {u : ImageSt → ImageSt} {s0 s : State} (hV : subMask 8 V = true)
    (h : Keeps V s0 s) : Keeps V s0 (State.modImage s f u) := by
  refine h.step hV ?_
  clear h hV
  have h : Keeps 8 s s := .refl _ _
  unfold State.modImage
  repeat' first
    | with_reducible assumption
    | decide
    | with_reducible refine Keeps.ite ?_ (fun _ => ?_)
    | with_reducible refine State.modFn_keeps ?_ ?_

theorem State.modJtag_keeps {V : Nat} {u : JtagSt → JtagSt} {s0 s : State} (hV : subMask 134217728 V = true)
    (h : Keeps V s0 s) : Keeps V s0 (State.modJtag s u) := by
  refine h.step hV ?_
  clear h hV
  have h : Keeps 134217728 s s := .refl _ _
  unfold State.modJtag
  repeat' first
    | with_reducible assumption
    | decide
    | with_reducible refine Keeps.ite ?_ (fun _ => ?_)
    | with_reducible refine Keeps.foldl _ (fun _ _ _ => ?_) ?_
    | with_reducible refine Keeps.foldl_fst _ (fun _ _ _ => ?_) ?_
    | dsimp only
    | split
    | with_reducible refine Keeps.set_jtag ?_ ?_

theorem State.modList_keeps {V : Nat} {f : Nat} {g : Nat} {u : SList → SList} {s0 s : State} (hV : subMask 128 V = true)
    (h : Keeps V s0 s) : Keeps V s0 (State.modList s f g u) := by
  refine h.step hV ?_
  clear h hV
  have h : Keeps 128 s s := .refl _ _
  unfold State.modList
  repeat' first
    | with_reducible assumption
    | decide
    | with_reducible refine Keeps.ite ?_ (fun _ => ?_)
    | exact nwf_nmod _ _
    | exact nwf_nput _ _
    | exact nwf_filter _
    | exact fun _ => nwf_nmapAll _
    | exact ascKeys_nput _ _ _
    | exact ascKeys_filter _
    | exact nwf_foldl_nput _ _ _
    | exact memWrite_wf _ _ _
    | exact fun hi => nwf_nput _ _ (nwf_filter _ hi)
    | with_reducible refine Keeps.foldl _ (fun _ _ _ => ?_) ?_
    | with_reducible refine Keeps.foldl_fst _ (fun _ _ _ => ?_) ?_
    | dsimp only
    | split
    | with_reducible refine Keeps.set_lists ?_ ?_ ?_

theorem State.modMgt_keeps {V : Nat} {u : MgtSt → MgtSt} {s0 s : State} (hV : subMask 67108864 V = true)
    (h : Keeps V s0 s) : Keeps V s0 (State.modMgt s u) := by
  refine h.step hV ?_
  clear h hV
  have h : Keeps 67108864 s s := .refl _ _
  unfold State.modMgt
  repeat' first
    | with_reducible assumption
    | decide
    | with_reducible refine Keeps.ite ?_ (fun _ => ?_)
    | with_reducible refine Keeps.foldl _ (fun _ _ _ => ?_) ?_
    | with_reducible refine Keeps.foldl_fst _ (fun _ _ _ => ?_) ?_
    | dsimp only
    | split
    | with_reducible refine Keeps.set_mgt ?_ ?_

theorem State.modNode_keeps {V : Nat} {g : Nat} {n : Nat} {u : Node → Node} {s0 s : State} (hV : subMask 32 V = true)
    (h : Keeps V s0 s) : Keeps V s0 (State.modNode s g n u) := by
  refine h.step hV ?_
  clear h hV
  have h : Keeps 32 s s := .refl _ _
  unfold State.modNode
  repeat' first
    | with_reducible assumption
    | decide
    | with_reducible refine Keeps.ite ?_ (fun _ => ?_)
    | exact nwf_nmod _ _
    | exact nwf_nput _ _
    | exact nwf_filter _
    | exact fun _ => nwf_nmapAll _
    | exact ascKeys_nput _ _ _
    | exact ascKeys_filter _
    | exact nwf_foldl_nput _ _ _
    | exact memWrite_wf _ _ _
    | exact fun hi => nwf_nput _ _ (nwf_filter _ hi)
    | with_reducible refine Keeps.foldl _ (fun _ _ _ => ?_) ?_
    | with_reducible refine Keeps.foldl_fst _ (fun _ _ _ => ?_) ?_
    | dsimp only
    | split
    | with_reducible refine Keeps.set_nodes ?_ ?_ ?_

theorem State.modPins_keeps {V : Nat} {u : Pins → Pins} {s0 s : State} (hV : subMask 268435456 V = true)
    (h : Keeps V s0 s) : Keeps V s0 (State.modPins s u) := by
  refine h.step hV ?_
  clear h hV
  have h : Keeps 268435456 s s := .refl _ _
  unfold State.modPins
  repeat' first
    | with_reducible assumption
    | decide
    | with_reducible refine Keeps.ite ?_ (fun _ => ?_)
    | with_reducible refine Keeps.foldl _ (fun _ _ _ => ?_) ?_
    | with_reducible refine Keeps.foldl_fst _ (fun _ _ _ => ?_) ?_
    | dsimp only
    | split
    | with_reducible refine Keeps.set_pins ?_ ?_

theorem State.modPlan_keeps {V : Nat} {g : Nat} {u : PlanSt → PlanSt} {s0 s : State} (hV : subMask 64 V = true)
    (h : Keeps V s0 s) : Keeps V s0 (State.modPlan s g u) := by
  refine h.step hV ?_
  clear h hV
  have h : Keeps 64 s s := .refl _ _
  unfold State.modPlan
  repeat' first
    | with_reducible assumption
    | decide
    | with_reducible refine Keeps.ite ?_ (fun _ => ?_)
    | exact nwf_nmod _ _
    | exact nwf_nput _ _
    | exact nwf_filter _
    | exact fun _ => nwf_nmapAll _
    | exact ascKeys_nput _ _ _
    | exact ascKeys_filter _
    | exact nwf_foldl_nput _ _ _
    | exact memWrite_wf _ _ _
    | exact fun hi => nwf_nput _ _ (nwf_filter _ hi)
    | with_reducible refine Keeps.foldl _ (fun _ _ _ => ?_) ?_
    | with_reducible refine Keeps.foldl_fst _ (fun _ _ _ => ?_) ?_
    | dsimp only
    | split
    | with_reducible refine Keeps.set_plans ?_ ?_ ?_

theorem State.modPlanNow_keeps {V : Nat} {g : Nat} {u : Plan → Plan} {s0 s : State} (hV : subMask 64 V = true)
    (h : Keeps V s0 s) : Keeps V s0 (State.modPlanNow s g u) := by
  refine h.step hV ?_
  clear h hV
  have h : Keeps 64 s s := .refl _ _
  unfold State.modPlanNow
  repeat' first
    | with_reducible assumption
    | decide
    | with_reducible refine Keeps.ite ?_ (fun _ => ?_)
    | with_reducible refine State.modPlan_keeps ?_ ?_

theorem State.modPoint_keeps {V : Nat} {p : Nat} {u : Point → Point} {s0 s : State} (hV : subMask 1024 V = true)
    (h : Keeps V s0 s) : Keeps V s0 (State.modPoint s p u) := by
  refine h.step hV ?_
  clear h hV
  have h : Keeps 1024 s s := .refl _ _
  unfold State.modPoint
  repeat' first
    | with_reducible assumption
    | decide
    | with_reducible refine Keeps.ite ?_ (fun _ => ?_)
    | exact nwf_nmod _ _
    | exact nwf_nput _ _
    | exact nwf_filter _
    | exact fun _ => nwf_nmapAll _
    | exact ascKeys_nput _ _ _
    | exact ascKeys_filter _
    | exact nwf_foldl_nput _ _ _
    | exact memWrite_wf _ _ _
    | exact fun hi => nwf_nput _ _ (nwf_filter _ hi)
    | with_reducible refine Keeps.foldl _ (fun _ _ _ => ?_) ?_
    | with_reducible refine Keeps.foldl_fst _ (fun _ _ _ => ?_) ?_
    | dsimp only
    | split
    | with_reducible refine Keeps.set_points ?_ ?_ ?_

theorem State.modPort_keeps {V : Nat} {g : Nat} {u : Port → Port} {s0 s : State} (hV : subMask 16 V = true)
    (h : Keeps V s0 s) : Keeps V s0 (State.modPort s g u) := by
  refine h.step hV ?_
  clear h hV
  have h : Keeps 16 s s := .refl _ _
  unfold State.modPort
  repeat' first
    | with_reducible assumption
    | decide
    | with_reducible refine Keeps.ite ?_ (fun _ => ?_)
    | exact nwf_nmod _ _
    | exact nwf_nput _ _
    | exact nwf_filter _
    | exact fun _ => nwf_nmapAll _
    | exact ascKeys_nput _ _ _
    | exact ascKeys_filter _
    | exact nwf_foldl_nput _ _ _
    | exact memWrite_wf _ _ _
    | exact fun hi => nwf_nput _ _ (nwf_filter _ hi)
    | with_reducible refine Keeps.foldl _ (fun _ _ _ => ?_) ?_
    | with_reducible refine Keeps.foldl_fst _ (fun _ _ _ => ?_) ?_
    | dsimp only
    | split
    | with_reducible refine Keeps.set_ports ?_ ?_ ?_

theorem State.modTile_keeps {V : Nat} {t0 : Nat} {u : Tile → Tile} {s0 s : State} (hV : subMask 2147483648 V = true)
    (h : Keeps V s0 s) : Keeps V s0 (State.modTile s t0 u) := by
  refine h.step hV ?_
  clear h hV
  have h : Keeps 2147483648 s s := .refl _ _
  unfold State.modTile
  repeat' first
    | with_reducible assumption
    | decide
    | with_reducible refine Keeps.ite ?_ (fun _ => ?_)
    | exact nwf_nmod _ _
    | exact nwf_nput _ _
    | exact nwf_filter _
    | exact fun _ => nwf_nmapAll _
    | exact ascKeys_nput _ _ _
    | exact ascKeys_filter _
    | exact nwf_foldl_nput _ _ _
    | exact memWrite_wf _ _ _
    | exact fun hi => nwf_nput _ _ (nwf_filter _ hi)
    | with_reducible refine Keeps.foldl _ (fun _ _ _ => ?_) ?_
    | with_reducible refine Keeps.foldl_fst _ (fun _ _ _ => ?_) ?_
    | dsimp only
    | split
    | with_reducible refine Keeps.set_tile ?_ ?_ ?_

theorem State.modPwr_keeps {V : Nat} {t0 : Nat} {u : PwrSt → PwrSt} {s0 s : State} (hV : subMask 2147483648 V = true)
    (h : Keeps V s0 s) : Keeps V s0 (State.modPwr s t0 u) := by
  refine h.step hV ?_
  clear h hV
  have h : Keeps 2147483648 s s := .refl _ _
  unfold State.modPwr
  repeat' first
    | with_reducible assumption
    | decide
    | with_reducible refine Keeps.ite ?_ (fun _ => ?_)
    | with_reducible refine State.modTile_keeps ?_ ?_

theorem State.modSq_keeps {V : Nat} {f : Nat} {q : Nat} {u : Ring → Ring} {s0 s : State} (hV : subMask 8 V = true)
    (h : Keeps V s0 s) : Keeps V s0 (State.modSq s f q u) := by
  refine h.step hV ?_
  clear h hV
  have h : Keeps 8 s s := .refl _ _
  unfold State.modSq
  repeat' first
    | with_reducible assumption
    | decide
    | with_reducible refine Keeps.ite ?_ (fun _ => ?_)
    | with_reducible refine State.modFn_keeps ?_ ?_

theorem State.modRing_keeps {V : Nat} {f : Nat} {kind : Nat} {q : Nat} {u : Ring → Ring} {s0 s : State} (hV : subMask 8 V = true)
    (h : Keeps V s0 s) : Keeps V s0 (State.modRing s f kind q u) := by
  refine h.step hV ?_
  clear h hV
  have h : Keeps 8 s s := .refl _ _
  unfold State.modRing
  repeat' first
    | with_reducible assumption
    | decide
    | with_reducible refine Keeps.ite ?_ (fun _ => ?_)
    | with_reducible refine State.modCq_keeps ?_ ?_
    | with_reducible refine State.modEq_keeps ?_ ?_
    | with_reducible refine State.modFn_keeps ?_ ?_
    | with_reducible refine State.modSq_keeps ?_ ?_

theorem State.modTime_keeps {V : Nat} {u : TimeSt → TimeSt} {s0 s : State} (hV : subMask 1 V = true)
    (h : Keeps V s0 s) : Keeps V s0 (State.modTime s u) := by
  refine h.step hV ?_
  clear h hV
  have h : Keeps 1 s s := .refl _ _
  unfold State.modTime
  repeat' first
    | with_reducible assumption
    | decide
    | with_reducible refine Keeps.ite ?_ (fun _ => ?_)
    | with_reducible refine Keeps.foldl _ (fun _ _ _ => ?_) ?_
    | with_reducible refine Keeps.foldl_fst _ (fun _ _ _ => ?_) ?_
    | dsimp only
    | split
    | with_reducible refine Keeps.set_time ?_ ?_

theorem State.putHalf_keeps {V : Nat} {h0 : Nat} {x : NtHalf} {s0 s : State} (hV : subMask 12582912 V = true)
    (h : Keeps V s0 s) : Keeps V s0 (State.putHalf s h0 x) := by
  refine h.step hV ?_
  clear h hV
  have h : Keeps 12582912 s s := .refl _ _
  unfold State.putHalf
  repeat' first
    | with_reducible assumption
    | decide
    | with_reducible refine Keeps.ite ?_ (fun _ => ?_)
    | with_reducible refine Keeps.foldl _ (fun _ _ _ => ?_) ?_
    | with_reducible refine Keeps.foldl_fst _ (fun _ _ _ => ?_) ?_
    | dsimp only
    | split
    | with_reducible refine Keeps.set_half0 ?_ ?_
    | with_reducible refine Keeps.set_half1 ?_ ?_

theorem State.setRecord_keeps {V : Nat} {p : Nat} {w : Nat} {s0 s : State} (hV : subMask 256 V = true)
    (h : Keeps V s0 s) : Keeps V s0 (State.setRecord s p w) := by
  refine h.step hV ?_
  clear h hV
  have h : Keeps 256 s s := .refl _ _
  unfold State.setRecord
  repeat' first
    | with_reducible assumption
    | decide
    | with_reducible refine Keeps.ite ?_ (fun _ => ?_)
    | exact nwf_nmod _ _
    | exact nwf_nput _ _
    | exact nwf_filter _
    | exact fun _ => nwf_nmapAll _
    | exact ascKeys_nput _ _ _
    | exact ascKeys_filter _
    | exact nwf_foldl_nput _ _ _
    | exact memWrite_wf _ _ _
    | exact fun hi => nwf_nput _ _ (nwf_filter _ hi)
    | with_reducible refine Keeps.foldl _ (fun _ _ _ => ?_) ?_
    | with_reducible refine Keeps.foldl_fst _ (fun _ _ _ => ?_) ?_
    | dsimp only
    | split
    | with_reducible refine Keeps.set_pim ?_ ?_ ?_

theorem State.setReg_keeps {V : Nat} {d : Nat} {ty : Nat} {inst : Nat} {off : Nat} {v : Nat} {s0 s : State} (hV : subMask 2 V = true)
    (h : Keeps V s0 s) : Keeps V s0 (State.setReg s d ty inst off v) := by
  refine h.step hV ?_
  clear h hV
  have h : Keeps 2 s s := .refl _ _
  unfold State.setReg
  repeat' first
    | with_reducible assumption
    | decide
    | with_reducible refine Keeps.ite ?_ (fun _ => ?_)
    | exact nwf_nmod _ _
    | exact nwf_nput _ _
    | exact nwf_filter _
    | exact fun _ => nwf_nmapAll _
    | exact ascKeys_nput _ _ _
    | exact ascKeys_filter _
    | exact nwf_foldl_nput _ _ _
    | exact memWrite_wf _ _ _
    | exact fun hi => nwf_nput _ _ (nwf_filter _ hi)
    | with_reducible refine Keeps.foldl _ (fun _ _ _ => ?_) ?_
    | with_reducible refine Keeps.foldl_fst _ (fun _ _ _ => ?_) ?_
    | dsimp only
    | split
    | with_reducible refine Keeps.set_regs ?_ ?_ ?_

theorem State.setSreg_keeps {V : Nat} {d : Nat} {ty : Nat} {inst : Nat} {off : Nat} {v : Nat} {s0 s : State} (hV : subMask 2 V = true)
    (h : Keeps V s0 s) : Keeps V s0 (State.setSreg s d ty inst off v) := by
  refine h.step hV ?_
  clear h hV
  have h : Keeps 2 s s := .refl _ _
  unfold State.setSreg
  repeat' first
    | with_reducible assumption
    | decide
    | with_reducible refine Keeps.ite ?_ (fun _ => ?_)
    | with_reducible refine State.setReg_keeps ?_ ?_

theorem endHandle_keeps {V : Nat} {f : Nat} {seq : Nat} {word : HandleWord} {status : Nat} {detail : Nat} {commitTick : Nat} {s0 s : State} (hV : subMask 8 V = true)
    (h : Keeps V s0 s) : Keeps V s0 (endHandle f seq word status detail commitTick s) := by
  refine h.step hV ?_
  clear h hV
  have h : Keeps 8 s s := .refl _ _
  unfold endHandle
  repeat' first
    | with_reducible assumption
    | decide
    | with_reducible refine Keeps.ite ?_ (fun _ => ?_)
    | with_reducible refine State.modFn_keeps ?_ ?_
    | with_reducible refine State.modHandle_keeps ?_ ?_
    | with_reducible refine Keeps.foldl _ (fun _ _ _ => ?_) ?_
    | with_reducible refine Keeps.foldl_fst _ (fun _ _ _ => ?_) ?_
    | dsimp only
    | split

theorem abortDrying_keeps {V : Nat} {t0 : Nat} {s0 s : State} (hV : subMask 2147483648 V = true)
    (h : Keeps V s0 s) : Keeps V s0 (abortDrying t0 s) := by
  refine h.step hV ?_
  clear h hV
  have h : Keeps 2147483648 s s := .refl _ _
  unfold abortDrying
  repeat' first
    | with_reducible assumption
    | decide
    | with_reducible refine Keeps.ite ?_ (fun _ => ?_)
    | with_reducible refine State.modPwr_keeps ?_ ?_
    | with_reducible refine State.modTile_keeps ?_ ?_

theorem abortGeneration_keeps {V : Nat} {f : Nat} {seq : Nat} {g : Nat} {s0 s : State} (hV : subMask 192 V = true)
    (h : Keeps V s0 s) : Keeps V s0 (abortGeneration f seq g s) := by
  refine h.step hV ?_
  clear h hV
  have h : Keeps 192 s s := .refl _ _
  unfold abortGeneration
  repeat' first
    | with_reducible assumption
    | decide
    | with_reducible refine Keeps.ite ?_ (fun _ => ?_)
    | with_reducible refine State.modList_keeps ?_ ?_
    | with_reducible refine State.modPlan_keeps ?_ ?_

theorem dropSave_keeps {V : Nat} {p : SaveSt → Bool} {s0 s : State} (hV : subMask 33554432 V = true)
    (h : Keeps V s0 s) : Keeps V s0 (dropSave p s) := by
  refine h.step hV ?_
  clear h hV
  have h : Keeps 33554432 s s := .refl _ _
  unfold dropSave
  repeat' first
    | with_reducible assumption
    | decide
    | with_reducible refine Keeps.ite ?_ (fun _ => ?_)
    | with_reducible refine State.modFw_keeps ?_ ?_
    | with_reducible refine Keeps.foldl _ (fun _ _ _ => ?_) ?_
    | with_reducible refine Keeps.foldl_fst _ (fun _ _ _ => ?_) ?_
    | dsimp only
    | split

theorem out_keeps {V : Nat} {o : Output} {s0 s : State} (hV : subMask 844424930131968 V = true)
    (h : Keeps V s0 s) : Keeps V s0 (out o s) := by
  refine h.step hV ?_
  clear h hV
  have h : Keeps 844424930131968 s s := .refl _ _
  unfold out
  repeat' first
    | with_reducible assumption
    | decide
    | with_reducible refine Keeps.ite ?_ (fun _ => ?_)
    | with_reducible refine Keeps.foldl _ (fun _ _ _ => ?_) ?_
    | with_reducible refine Keeps.foldl_fst _ (fun _ _ _ => ?_) ?_
    | dsimp only
    | split
    | with_reducible refine Keeps.set_tlpHeld ?_ ?_
    | with_reducible refine Keeps.set_wire ?_ ?_

theorem mgtSend_keeps {V : Nat} {kind : Nat} {v6 : Bool} {dst : Nat} {data : List Byte} {s0 s : State} (hV : subMask 844424997240832 V = true)
    (h : Keeps V s0 s) : Keeps V s0 (mgtSend kind v6 dst data s) := by
  refine h.step hV ?_
  clear h hV
  have h : Keeps 844424997240832 s s := .refl _ _
  unfold mgtSend
  repeat' first
    | with_reducible assumption
    | decide
    | with_reducible refine Keeps.ite ?_ (fun _ => ?_)
    | with_reducible refine State.modMgt_keeps ?_ ?_
    | with_reducible refine out_keeps ?_ ?_
    | with_reducible refine Keeps.foldl _ (fun _ _ _ => ?_) ?_
    | with_reducible refine Keeps.foldl_fst _ (fun _ _ _ => ?_) ?_
    | dsimp only
    | split

theorem chunkAck_keeps {V : Nat} {src : Nat} {result : Nat} {index : Nat} {tag : Nat} {s0 s : State} (hV : subMask 844424997240832 V = true)
    (h : Keeps V s0 s) : Keeps V s0 (chunkAck src result index tag s) := by
  refine h.step hV ?_
  clear h hV
  have h : Keeps 844424997240832 s s := .refl _ _
  unfold chunkAck
  repeat' first
    | with_reducible assumption
    | decide
    | with_reducible refine Keeps.ite ?_ (fun _ => ?_)
    | with_reducible refine mgtSend_keeps ?_ ?_

theorem holdCompletion_keeps {V : Nat} {f : Nat} {c : Completion} {s0 s : State} (hV : subMask 8 V = true)
    (h : Keeps V s0 s) : Keeps V s0 (holdCompletion f c s) := by
  refine h.step hV ?_
  clear h hV
  have h : Keeps 8 s s := .refl _ _
  unfold holdCompletion
  repeat' first
    | with_reducible assumption
    | decide
    | with_reducible refine Keeps.ite ?_ (fun _ => ?_)
    | with_reducible refine State.modFn_keeps ?_ ?_

theorem loseEvent_keeps {V : Nat} {f : Nat} {q : Nat} {e0 : Event} {s0 s : State} (hV : subMask 8 V = true)
    (h : Keeps V s0 s) : Keeps V s0 (loseEvent f q e0 s) := by
  refine h.step hV ?_
  clear h hV
  have h : Keeps 8 s s := .refl _ _
  unfold loseEvent
  repeat' first
    | with_reducible assumption
    | decide
    | with_reducible refine Keeps.ite ?_ (fun _ => ?_)
    | with_reducible refine State.modFn_keeps ?_ ?_

theorem leaveDoze_keeps {V : Nat} {t0 : Nat} {s0 s : State} (hV : subMask 2147483648 V = true)
    (h : Keeps V s0 s) : Keeps V s0 (leaveDoze t0 s) := by
  refine h.step hV ?_
  clear h hV
  have h : Keeps 2147483648 s s := .refl _ _
  unfold leaveDoze
  repeat' first
    | with_reducible assumption
    | decide
    | with_reducible refine Keeps.ite ?_ (fun _ => ?_)
    | with_reducible refine State.modPwr_keeps ?_ ?_
    | with_reducible refine State.modTile_keeps ?_ ?_

theorem engineWork_keeps {V : Nat} {t0 : Nat} {s0 s : State} (hV : subMask 2147483648 V = true)
    (h : Keeps V s0 s) : Keeps V s0 (engineWork t0 s) := by
  refine h.step hV ?_
  clear h hV
  have h : Keeps 2147483648 s s := .refl _ _
  unfold engineWork
  repeat' first
    | with_reducible assumption
    | decide
    | with_reducible refine Keeps.ite ?_ (fun _ => ?_)
    | with_reducible refine leaveDoze_keeps ?_ ?_
    | with_reducible refine Keeps.foldl _ (fun _ _ _ => ?_) ?_
    | with_reducible refine Keeps.foldl_fst _ (fun _ _ _ => ?_) ?_
    | dsimp only
    | split

theorem putRecord_keeps {V : Nat} {f : Nat} {q : Nat} {e0 : Event} {d : List Byte} {more : Bool} {s0 s : State} (hV : subMask 844427077615624 V = true)
    (h : Keeps V s0 s) : Keeps V s0 (putRecord f q e0 d more s) := by
  refine h.step hV ?_
  clear h hV
  have h : Keeps 844427077615624 s s := .refl _ _
  unfold putRecord
  repeat' first
    | with_reducible assumption
    | decide
    | with_reducible refine Keeps.ite ?_ (fun _ => ?_)
    | with_reducible refine State.modEq_keeps ?_ ?_
    | with_reducible refine engineWork_keeps ?_ ?_
    | with_reducible refine out_keeps ?_ ?_

theorem putRecords_keeps {V : Nat} {f q : Nat} {ev : Event} {l : List (List Byte)} {s0 s : State}
    (hV : subMask 844427077615624 V = true) (h : Keeps V s0 s) : Keeps V s0 (putRecords f q ev l s) := by
  induction l generalizing s with
  | nil => exact h
  | cons d r ih =>
    cases r with
    | nil => exact putRecord_keeps hV h
    | cons d' r' => exact ih (putRecord_keeps hV h)

theorem raiseSrc_keeps {V : Nat} {f : Nat} {fast : Bool} {src : Nat} {s0 s : State} (hV : subMask 8 V = true)
    (h : Keeps V s0 s) : Keeps V s0 (raiseSrc f fast src s) := by
  refine h.step hV ?_
  clear h hV
  have h : Keeps 8 s s := .refl _ _
  unfold raiseSrc
  repeat' first
    | with_reducible assumption
    | decide
    | with_reducible refine Keeps.ite ?_ (fun _ => ?_)
    | with_reducible refine State.joinEntry_keeps ?_ ?_
    | with_reducible refine State.modFn_keeps ?_ ?_

theorem raiseNorm_keeps {V : Nat} {f : Nat} {src : Nat} {s0 s : State} (hV : subMask 8 V = true)
    (h : Keeps V s0 s) : Keeps V s0 (raiseNorm f src s) := by
  refine h.step hV ?_
  clear h hV
  have h : Keeps 8 s s := .refl _ _
  unfold raiseNorm
  repeat' first
    | with_reducible assumption
    | decide
    | with_reducible refine Keeps.ite ?_ (fun _ => ?_)
    | with_reducible refine raiseSrc_keeps ?_ ?_

theorem payOverflow_keeps {V : Nat} {f : Nat} {q : Nat} {s0 s : State} (hV : subMask 844427077615624 V = true)
    (h : Keeps V s0 s) : Keeps V s0 (payOverflow f q s) := by
  refine h.step hV ?_
  clear h hV
  have h : Keeps 844427077615624 s s := .refl _ _
  unfold payOverflow
  repeat' first
    | with_reducible assumption
    | decide
    | with_reducible refine Keeps.ite ?_ (fun _ => ?_)
    | with_reducible refine State.modFn_keeps ?_ ?_
    | with_reducible refine putRecords_keeps ?_ ?_
    | with_reducible refine raiseNorm_keeps ?_ ?_

theorem setErr_keeps {V : Nat} {ty : Nat} {inst : Nat} {b : Nat} {s0 s : State} (hV : subMask 10 V = true)
    (h : Keeps V s0 s) : Keeps V s0 (setErr ty inst b s) := by
  refine h.step hV ?_
  clear h hV
  have h : Keeps 10 s s := .refl _ _
  unfold setErr
  repeat' first
    | with_reducible assumption
    | decide
    | with_reducible refine Keeps.ite ?_ (fun _ => ?_)
    | with_reducible refine State.setReg_keeps ?_ ?_
    | with_reducible refine raiseNorm_keeps ?_ ?_

theorem emitTo_keeps {V : Nat} {k : Nat} {f : Nat} {q : Nat} {ev : Event} {s0 s : State} (hV : subMask 844427077615626 V = true)
    (h : Keeps V s0 s) : Keeps V s0 (emitTo k f q ev s) := by
  induction k generalizing f q ev s with
  | zero =>
    unfold emitTo
    exact loseEvent_keeps (subMask_trans (by decide) hV) h
  | succ k ih =>
    unfold emitTo
    repeat' first
      | with_reducible assumption
      | exact subMask_trans (by decide) hV
      | with_reducible refine Keeps.ite ?_ (fun _ => ?_)
      | with_reducible refine State.modEq_keeps ?_ ?_
      | with_reducible refine State.modFn_keeps ?_ ?_
      | with_reducible refine loseEvent_keeps ?_ ?_
      | with_reducible refine payOverflow_keeps ?_ ?_
      | with_reducible refine putRecords_keeps ?_ ?_
      | with_reducible refine raiseNorm_keeps ?_ ?_
      | with_reducible refine setErr_keeps ?_ ?_
      | with_reducible refine Keeps.foldl _ (fun _ _ _ => ?_) ?_
      | with_reducible refine Keeps.foldl_fst _ (fun _ _ _ => ?_) ?_
      | dsimp only
      | split
      | (with_reducible refine ih ?_)

theorem emit_keeps {V : Nat} {f : Nat} {e0 : Event} {s0 s : State} (hV : subMask 879611449704458 V = true)
    (h : Keeps V s0 s) : Keeps V s0 (emit f e0 s) := by
  refine h.step hV ?_
  clear h hV
  have h : Keeps 879611449704458 s s := .refl _ _
  unfold emit
  repeat' first
    | with_reducible assumption
    | decide
    | with_reducible refine Keeps.ite ?_ (fun _ => ?_)
    | with_reducible refine emitTo_keeps ?_ ?_
    | with_reducible refine Keeps.foldl _ (fun _ _ _ => ?_) ?_
    | with_reducible refine Keeps.foldl_fst _ (fun _ _ _ => ?_) ?_
    | dsimp only
    | split
    | with_reducible refine Keeps.set_evHeld ?_ ?_

theorem emitMgr_keeps {V : Nat} {cls : Nat} {kind : Nat} {fs : List (Nat × Nat × Nat)} {s0 s : State} (hV : subMask 879611449704458 V = true)
    (h : Keeps V s0 s) : Keeps V s0 (emitMgr cls kind fs s) := by
  refine h.step hV ?_
  clear h hV
  have h : Keeps 879611449704458 s s := .refl _ _
  unfold emitMgr
  repeat' first
    | with_reducible assumption
    | decide
    | with_reducible refine Keeps.ite ?_ (fun _ => ?_)
    | with_reducible refine emit_keeps ?_ ?_

theorem dmaRefused_keeps {V : Nat} {f : Nat} {s0 s : State} (hV : subMask 879611449704458 V = true)
    (h : Keeps V s0 s) : Keeps V s0 (dmaRefused f s) := by
  refine h.step hV ?_
  clear h hV
  have h : Keeps 879611449704458 s s := .refl _ _
  unfold dmaRefused
  repeat' first
    | with_reducible assumption
    | decide
    | with_reducible refine Keeps.ite ?_ (fun _ => ?_)
    | with_reducible refine State.modFn_keeps ?_ ?_
    | with_reducible refine emitMgr_keeps ?_ ?_
    | with_reducible refine setErr_keeps ?_ ?_

theorem ringStop_keeps {V : Nat} {f : Nat} {kind : Nat} {q : Nat} {reason : Nat} {latched : Nat} {s0 s : State} (hV : subMask 879611449704458 V = true)
    (h : Keeps V s0 s) : Keeps V s0 (ringStop f kind q reason latched s) := by
  refine h.step hV ?_
  clear h hV
  have h : Keeps 879611449704458 s s := .refl _ _
  unfold ringStop
  repeat' first
    | with_reducible assumption
    | decide
    | with_reducible refine Keeps.ite ?_ (fun _ => ?_)
    | with_reducible refine State.modCq_keeps ?_ ?_
    | with_reducible refine State.modEq_keeps ?_ ?_
    | with_reducible refine State.modSq_keeps ?_ ?_
    | with_reducible refine emit_keeps ?_ ?_

theorem settleDrain_keeps {V : Nat} {f : Nat} {s0 s : State} (hV : subMask 8 V = true)
    (h : Keeps V s0 s) : Keeps V s0 (settleDrain f s) := by
  refine h.step hV ?_
  clear h hV
  have h : Keeps 8 s s := .refl _ _
  unfold settleDrain
  repeat' first
    | with_reducible assumption
    | decide
    | with_reducible refine Keeps.ite ?_ (fun _ => ?_)
    | with_reducible refine State.modFn_keeps ?_ ?_

theorem writeCompletion_keeps {V : Nat} {f : Nat} {c : Completion} {s0 s : State} (hV : subMask 879611449704458 V = true)
    (h : Keeps V s0 s) : Keeps V s0 (writeCompletion f c s) := by
  refine h.step hV ?_
  clear h hV
  have h : Keeps 879611449704458 s s := .refl _ _
  unfold writeCompletion
  repeat' first
    | with_reducible assumption
    | decide
    | with_reducible refine Keeps.ite ?_ (fun _ => ?_)
    | with_reducible refine State.modCq_keeps ?_ ?_
    | with_reducible refine State.modFn_keeps ?_ ?_
    | with_reducible refine dmaRefused_keeps ?_ ?_
    | with_reducible refine engineWork_keeps ?_ ?_
    | with_reducible refine holdCompletion_keeps ?_ ?_
    | with_reducible refine out_keeps ?_ ?_
    | with_reducible refine raiseNorm_keeps ?_ ?_
    | with_reducible refine ringStop_keeps ?_ ?_
    | with_reducible refine settleDrain_keeps ?_ ?_

theorem complete_keeps {V : Nat} {f : Nat} {c : Completion} {s0 s : State} (hV : subMask 879611449704458 V = true)
    (h : Keeps V s0 s) : Keeps V s0 (complete f c s) := by
  refine h.step hV ?_
  clear h hV
  have h : Keeps 879611449704458 s s := .refl _ _
  unfold complete
  repeat' first
    | with_reducible assumption
    | decide
    | with_reducible refine Keeps.ite ?_ (fun _ => ?_)
    | with_reducible refine State.modFn_keeps ?_ ?_
    | with_reducible refine holdCompletion_keeps ?_ ?_
    | with_reducible refine writeCompletion_keeps ?_ ?_

theorem request_keeps {V : Nat} {f : Nat} {o : Output} {s0 s : State} (hV : subMask 879611449704458 V = true)
    (h : Keeps V s0 s) : Keeps V s0 (request f o s).1 := by
  refine h.step hV ?_
  clear h hV
  have h : Keeps 879611449704458 s s := .refl _ _
  unfold request
  repeat' first
    | with_reducible assumption
    | decide
    | with_reducible refine Keeps.ite ?_ (fun _ => ?_)
    | with_reducible refine dmaRefused_keeps ?_ ?_
    | with_reducible refine out_keeps ?_ ?_
    | with_reducible refine Keeps.foldl _ (fun _ _ _ => ?_) ?_
    | with_reducible refine Keeps.foldl_fst _ (fun _ _ _ => ?_) ?_
    | dsimp only
    | split

theorem dmaWrite_keeps {V : Nat} {f : Nat} {addr : Nat} {data : List Byte} {s0 s : State} (hV : subMask 879611449704458 V = true)
    (h : Keeps V s0 s) : Keeps V s0 (dmaWrite f addr data s).1 := by
  refine h.step hV ?_
  clear h hV
  have h : Keeps 879611449704458 s s := .refl _ _
  unfold dmaWrite
  repeat' first
    | with_reducible assumption
    | decide
    | with_reducible refine Keeps.ite ?_ (fun _ => ?_)
    | with_reducible refine request_keeps ?_ ?_
    | with_reducible refine Keeps.foldl _ (fun _ _ _ => ?_) ?_
    | with_reducible refine Keeps.foldl_fst _ (fun _ _ _ => ?_) ?_
    | dsimp only
    | split

theorem writeList_keeps {V : Nat} {f : Nat} {addr : Nat} {maxN : Nat} {had : Nat} {recs : List ListRec} {s0 s : State} (hV : subMask 879611449704458 V = true)
    (h : Keeps V s0 s) : Keeps V s0 (writeList f addr maxN had recs s).1 := by
  refine h.step hV ?_
  clear h hV
  have h : Keeps 879611449704458 s s := .refl _ _
  unfold writeList
  repeat' first
    | with_reducible assumption
    | decide
    | with_reducible refine Keeps.ite ?_ (fun _ => ?_)
    | with_reducible refine dmaWrite_keeps ?_ ?_
    | with_reducible refine Keeps.foldl _ (fun _ _ _ => ?_) ?_
    | with_reducible refine Keeps.foldl_fst _ (fun _ _ _ => ?_) ?_
    | dsimp only
    | split

theorem finish_keeps {V : Nat} {f : Nat} {e0 : Entry} {long : Bool} {result : Nat} {status : Nat} {detail : Nat} {recs : List ListRec} {s0 s : State} (hV : subMask 879611449704458 V = true)
    (h : Keeps V s0 s) : Keeps V s0 (finish f e0 long result status detail recs s) := by
  refine h.step hV ?_
  clear h hV
  have h : Keeps 879611449704458 s s := .refl _ _
  unfold finish
  repeat' first
    | with_reducible assumption
    | decide
    | with_reducible refine Keeps.ite ?_ (fun _ => ?_)
    | with_reducible refine State.modFn_keeps ?_ ?_
    | with_reducible refine complete_keeps ?_ ?_
    | with_reducible refine settleDrain_keeps ?_ ?_
    | with_reducible refine writeList_keeps ?_ ?_

theorem endCommand_keeps {V : Nat} {f : Nat} {id : Nat} {status : Nat} {detail : Nat} {s0 s : State} (hV : subMask 879611449704458 V = true)
    (h : Keeps V s0 s) : Keeps V s0 (endCommand f id status detail s) := by
  refine h.step hV ?_
  clear h hV
  have h : Keeps 879611449704458 s s := .refl _ _
  unfold endCommand
  repeat' first
    | with_reducible assumption
    | decide
    | with_reducible refine Keeps.ite ?_ (fun _ => ?_)
    | with_reducible refine finish_keeps ?_ ?_
    | with_reducible refine Keeps.foldl _ (fun _ _ _ => ?_) ?_
    | with_reducible refine Keeps.foldl_fst _ (fun _ _ _ => ?_) ?_
    | dsimp only
    | split

theorem chunkEnds_keeps {V : Nat} {q : ChunkReq} {status : Nat} {detail : Nat} {already : Bool} {s0 s : State} (hV : subMask 879611550367754 V = true)
    (h : Keeps V s0 s) : Keeps V s0 (chunkEnds q status detail already s) := by
  refine h.step hV ?_
  clear h hV
  have h : Keeps 879611550367754 s s := .refl _ _
  unfold chunkEnds
  repeat' first
    | with_reducible assumption
    | decide
    | with_reducible refine Keeps.ite ?_ (fun _ => ?_)
    | with_reducible refine State.modFw_keeps ?_ ?_
    | with_reducible refine chunkAck_keeps ?_ ?_
    | with_reducible refine endCommand_keeps ?_ ?_
    | with_reducible refine Keeps.foldl _ (fun _ _ _ => ?_) ?_
    | with_reducible refine Keeps.foldl_fst _ (fun _ _ _ => ?_) ?_
    | dsimp only
    | split

theorem pumpChunks_keeps {V : Nat} {k : Nat}  {s0 s : State} (hV : subMask 879611550367754 V = true)
    (h : Keeps V s0 s) : Keeps V s0 (pumpChunks k s) := by
  induction k generalizing s with
  | zero =>
    unfold pumpChunks
    exact h
  | succ k ih =>
    unfold pumpChunks
    repeat' first
      | with_reducible assumption
      | exact subMask_trans (by decide) hV
      | with_reducible refine Keeps.ite ?_ (fun _ => ?_)
      | with_reducible refine State.modFw_keeps ?_ ?_
      | with_reducible refine chunkEnds_keeps ?_ ?_
      | with_reducible refine out_keeps ?_ ?_
      | with_reducible refine Keeps.foldl _ (fun _ _ _ => ?_) ?_
      | with_reducible refine Keeps.foldl_fst _ (fun _ _ _ => ?_) ?_
      | dsimp only
      | split
      | (with_reducible refine ih ?_)

theorem pumpAll_keeps {V : Nat} {s0 s : State} (hV : subMask 879611550367754 V = true)
    (h : Keeps V s0 s) : Keeps V s0 (pumpAll s) := by
  refine h.step hV ?_
  clear h hV
  have h : Keeps 879611550367754 s s := .refl _ _
  unfold pumpAll
  repeat' first
    | with_reducible assumption
    | decide
    | with_reducible refine Keeps.ite ?_ (fun _ => ?_)
    | with_reducible refine pumpChunks_keeps ?_ ?_

theorem startSave_keeps {V : Nat} {bank : Nat} {format : Nat} {body : Option (NMap W64)} {gen : Nat} {seq : Option Nat} {forAct : Bool} {s0 s : State} (hV : subMask 33554432 V = true)
    (h : Keeps V s0 s) : Keeps V s0 (startSave bank format body gen seq forAct s) := by
  refine h.step hV ?_
  clear h hV
  have h : Keeps 33554432 s s := .refl _ _
  unfold startSave
  repeat' first
    | with_reducible assumption
    | decide
    | with_reducible refine Keeps.ite ?_ (fun _ => ?_)
    | with_reducible refine State.modFw_keeps ?_ ?_

theorem actWriteBank_keeps {V : Nat} {s0 s : State} (hV : subMask 33554432 V = true)
    (h : Keeps V s0 s) : Keeps V s0 (actWriteBank s) := by
  refine h.step hV ?_
  clear h hV
  have h : Keeps 33554432 s s := .refl _ _
  unfold actWriteBank
  repeat' first
    | with_reducible assumption
    | decide
    | with_reducible refine Keeps.ite ?_ (fun _ => ?_)
    | with_reducible refine State.modFw_keeps ?_ ?_
    | with_reducible refine startSave_keeps ?_ ?_

theorem startWaiting_keeps {V : Nat} {s0 s : State} (hV : subMask 33554432 V = true)
    (h : Keeps V s0 s) : Keeps V s0 (startWaiting s) := by
  refine h.step hV ?_
  clear h hV
  have h : Keeps 33554432 s s := .refl _ _
  unfold startWaiting
  repeat' first
    | with_reducible assumption
    | decide
    | with_reducible refine Keeps.ite ?_ (fun _ => ?_)
    | with_reducible refine State.modFw_keeps ?_ ?_
    | with_reducible refine actWriteBank_keeps ?_ ?_
    | with_reducible refine startSave_keeps ?_ ?_
    | with_reducible refine Keeps.foldl _ (fun _ _ _ => ?_) ?_
    | with_reducible refine Keeps.foldl_fst _ (fun _ _ _ => ?_) ?_
    | dsimp only
    | split

theorem unfreeze_keeps {V : Nat} {t0 : Nat} {s0 s : State} (hV : subMask 8 V = true)
    (h : Keeps V s0 s) : Keeps V s0 (unfreeze t0 s) := by
  refine h.step hV ?_
  clear h hV
  have h : Keeps 8 s s := .refl _ _
  unfold unfreeze
  repeat' first
    | with_reducible assumption
    | decide
    | with_reducible refine Keeps.ite ?_ (fun _ => ?_)
    | with_reducible refine State.modFn_keeps ?_ ?_

theorem undoOp_keeps {V : Nat} {f : Nat} {h0 : Handle} {s0 s : State} (hV : subMask 879611550367946 V = true)
    (h : Keeps V s0 s) : Keeps V s0 (undoOp f h0 s) := by
  refine h.step hV ?_
  clear h hV
  have h : Keeps 879611550367946 s s := .refl _ _
  unfold undoOp
  repeat' first
    | with_reducible assumption
    | decide
    | with_reducible refine Keeps.ite ?_ (fun _ => ?_)
    | with_reducible refine State.modFn_keeps ?_ ?_
    | with_reducible refine State.modFw_keeps ?_ ?_
    | with_reducible refine abortDrying_keeps ?_ ?_
    | with_reducible refine abortGeneration_keeps ?_ ?_
    | with_reducible refine dropSave_keeps ?_ ?_
    | with_reducible refine pumpAll_keeps ?_ ?_
    | with_reducible refine startWaiting_keeps ?_ ?_
    | with_reducible refine unfreeze_keeps ?_ ?_
    | with_reducible refine Keeps.foldl _ (fun _ _ _ => ?_) ?_
    | with_reducible refine Keeps.foldl_fst _ (fun _ _ _ => ?_) ?_
    | dsimp only
    | split

theorem abortOp_keeps {V : Nat} {f : Nat} {h0 : Handle} {s0 s : State} (hV : subMask 879611550367946 V = true)
    (h : Keeps V s0 s) : Keeps V s0 (abortOp f h0 s) := by
  refine h.step hV ?_
  clear h hV
  have h : Keeps 879611550367946 s s := .refl _ _
  unfold abortOp
  repeat' first
    | with_reducible assumption
    | decide
    | with_reducible refine Keeps.ite ?_ (fun _ => ?_)
    | with_reducible refine endHandle_keeps ?_ ?_
    | with_reducible refine undoOp_keeps ?_ ?_

theorem abort_keeps {V : Nat} {f : Nat} {x : Entry} {s0 s : State} (hV : subMask 879611550367946 V = true)
    (h : Keeps V s0 s) : Keeps V s0 (abort f x s) := by
  refine h.step hV ?_
  clear h hV
  have h : Keeps 879611550367946 s s := .refl _ _
  unfold abort
  repeat' first
    | with_reducible assumption
    | decide
    | with_reducible refine Keeps.ite ?_ (fun _ => ?_)
    | with_reducible refine abortOp_keeps ?_ ?_
    | with_reducible refine finish_keeps ?_ ?_
    | with_reducible refine Keeps.foldl _ (fun _ _ _ => ?_) ?_
    | with_reducible refine Keeps.foldl_fst _ (fun _ _ _ => ?_) ?_
    | dsimp only
    | split

theorem heard_keeps {V : Nat} {g : Nat} {n : Nat} {s0 s : State} (hV : subMask 32 V = true)
    (h : Keeps V s0 s) : Keeps V s0 (heard g n s) := by
  refine h.step hV ?_
  clear h hV
  have h : Keeps 32 s s := .refl _ _
  unfold heard
  repeat' first
    | with_reducible assumption
    | decide
    | with_reducible refine Keeps.ite ?_ (fun _ => ?_)
    | with_reducible refine State.modNode_keeps ?_ ?_

theorem seeHeader_keeps {V : Nat} {g : Nat} {n : Nat} {attn : Bool} {s0 s : State} (hV : subMask 879611449704490 V = true)
    (h : Keeps V s0 s) : Keeps V s0 (seeHeader g n attn s) := by
  refine h.step hV ?_
  clear h hV
  have h : Keeps 879611449704490 s s := .refl _ _
  unfold seeHeader
  repeat' first
    | with_reducible assumption
    | decide
    | with_reducible refine Keeps.ite ?_ (fun _ => ?_)
    | with_reducible refine State.modNode_keeps ?_ ?_
    | with_reducible refine emit_keeps ?_ ?_

theorem hideRecord_keeps {V : Nat} {last : Nat} {p : Nat} {s0 s : State} (hV : subMask 32768 V = true)
    (h : Keeps V s0 s) : Keeps V s0 (hideRecord last p s) := by
  refine h.step hV ?_
  clear h hV
  have h : Keeps 32768 s s := .refl _ _
  unfold hideRecord
  repeat' first
    | with_reducible assumption
    | decide
    | with_reducible refine Keeps.ite ?_ (fun _ => ?_)
    | with_reducible refine Keeps.foldl _ (fun _ _ _ => ?_) ?_
    | with_reducible refine Keeps.foldl_fst _ (fun _ _ _ => ?_) ?_
    | dsimp only
    | split
    | with_reducible refine Keeps.set_unseen ?_ ?_

theorem noteChange_keeps {V : Nat} {p : Nat} {s0 s : State} (hV : subMask 1073742848 V = true)
    (h : Keeps V s0 s) : Keeps V s0 (noteChange p s) := by
  refine h.step hV ?_
  clear h hV
  have h : Keeps 1073742848 s s := .refl _ _
  unfold noteChange
  repeat' first
    | with_reducible assumption
    | decide
    | with_reducible refine Keeps.ite ?_ (fun _ => ?_)
    | with_reducible refine State.modPoint_keeps ?_ ?_
    | with_reducible refine Keeps.foldl _ (fun _ _ _ => ?_) ?_
    | with_reducible refine Keeps.foldl_fst _ (fun _ _ _ => ?_) ?_
    | dsimp only
    | split
    | with_reducible refine Keeps.set_chg ?_ ?_

theorem writePoint_keeps {V : Nat} {p : Nat} {v : Nat} {age : Nat} {q : Nat} {s0 s : State} (hV : subMask 1073743104 V = true)
    (h : Keeps V s0 s) : Keeps V s0 (writePoint p v age q s) := by
  refine h.step hV ?_
  clear h hV
  have h : Keeps 1073743104 s s := .refl _ _
  unfold writePoint
  repeat' first
    | with_reducible assumption
    | decide
    | with_reducible refine Keeps.ite ?_ (fun _ => ?_)
    | with_reducible refine State.modPoint_keeps ?_ ?_
    | with_reducible refine State.setRecord_keeps ?_ ?_
    | with_reducible refine noteChange_keeps ?_ ?_

theorem writeUp_keeps {V : Nat} {e0 : AEntry} {last : Nat} {payload : Nat} {age : Nat} {q : Nat} {s0 s : State} (hV : subMask 1073775872 V = true)
    (h : Keeps V s0 s) : Keeps V s0 (writeUp e0 last payload age q s) := by
  refine h.step hV ?_
  clear h hV
  have h : Keeps 1073775872 s s := .refl _ _
  unfold writeUp
  repeat' first
    | with_reducible assumption
    | decide
    | with_reducible refine Keeps.ite ?_ (fun _ => ?_)
    | with_reducible refine hideRecord_keeps ?_ ?_
    | with_reducible refine writePoint_keeps ?_ ?_
    | with_reducible refine Keeps.foldl _ (fun _ _ _ => ?_) ?_

theorem accept_keeps {V : Nat} {g : Nat} {e0 : AEntry} {h0 : List Byte} {body : List RxBlock} {s0 s : State} (hV : subMask 879612523480362 V = true)
    (h : Keeps V s0 s) : Keeps V s0 (accept g e0 h0 body s) := by
  refine h.step hV ?_
  clear h hV
  have h : Keeps 879612523480362 s s := .refl _ _
  unfold accept
  repeat' first
    | with_reducible assumption
    | decide
    | with_reducible refine Keeps.ite ?_ (fun _ => ?_)
    | with_reducible refine State.modNode_keeps ?_ ?_
    | with_reducible refine heard_keeps ?_ ?_
    | with_reducible refine seeHeader_keeps ?_ ?_
    | with_reducible refine writeUp_keeps ?_ ?_

theorem needCompile_keeps {V : Nat} {g : Nat} {s0 s : State} (hV : subMask 64 V = true)
    (h : Keeps V s0 s) : Keeps V s0 (needCompile g s) := by
  refine h.step hV ?_
  clear h hV
  have h : Keeps 64 s s := .refl _ _
  unfold needCompile
  repeat' first
    | with_reducible assumption
    | decide
    | with_reducible refine Keeps.ite ?_ (fun _ => ?_)
    | with_reducible refine State.modPlan_keeps ?_ ?_

theorem newHandle_keeps {V : Nat} {f cid opc : Nat} {op : LongOp} {ready : Bool} {listAddr listMax nlist n : Nat} {s0 s t : State} (hV : subMask 70368744177672 V = true)
    (h : Keeps V s0 s) (e : newHandle f cid opc op ready listAddr listMax nlist s = some (n, t)) : Keeps V s0 t := by
  refine h.step hV ?_
  clear h hV
  have h : Keeps 70368744177672 s s := .refl _ _
  unfold newHandle at e
  repeat' first
    | (dsimp only at e)
    | (split at e)
    | (cases e)
  repeat' first
    | with_reducible assumption
    | decide
    | with_reducible refine Keeps.ite ?_ (fun _ => ?_)
    | with_reducible refine State.modFn_keeps ?_ ?_
    | with_reducible refine Keeps.foldl _ (fun _ _ _ => ?_) ?_
    | with_reducible refine Keeps.foldl_fst _ (fun _ _ _ => ?_) ?_
    | dsimp only
    | split
    | with_reducible refine Keeps.set_accepts ?_ ?_

theorem acceptEmpty_keeps {V : Nat} {f : Nat} {g : Nat} {report : Nat} {s0 s : State} (hV : subMask 70368744177864 V = true)
    (h : Keeps V s0 s) : Keeps V s0 (acceptEmpty f g report s) := by
  refine h.step hV ?_
  clear h hV
  have h : Keeps 70368744177864 s s := .refl _ _
  unfold acceptEmpty
  repeat' first
    | with_reducible assumption
    | decide
    | with_reducible refine Keeps.ite ?_ (fun _ => ?_)
    | with_reducible refine State.modList_keeps ?_ ?_
    | with_reducible refine State.modPlan_keeps ?_ ?_
    | with_reducible refine needCompile_keeps ?_ ?_
    | with_reducible refine newHandle_keeps ?_ ?_ (by assumption)
    | with_reducible refine Keeps.foldl _ (fun _ _ _ => ?_) ?_
    | with_reducible refine Keeps.foldl_fst _ (fun _ _ _ => ?_) ?_
    | dsimp only
    | split

theorem dropHandle_keeps {V : Nat} {f : Nat} {seq : Nat} {s0 s : State} (hV : subMask 8 V = true)
    (h : Keeps V s0 s) : Keeps V s0 (dropHandle f seq s) := by
  refine h.step hV ?_
  clear h hV
  have h : Keeps 8 s s := .refl _ _
  unfold dropHandle
  repeat' first
    | with_reducible assumption
    | decide
    | with_reducible refine Keeps.ite ?_ (fun _ => ?_)
    | with_reducible refine State.modFn_keeps ?_ ?_

theorem acceptFetched_keeps {V : Nat} {f : Nat} {g : Nat} {heads : List (List Byte)} {bodies : List (List Byte)} {pmap : List Byte} {gen2 : Nat} {s0 s : State} (hV : subMask 200 V = true)
    (h : Keeps V s0 s) : Keeps V s0 (acceptFetched f g heads bodies pmap gen2 s) := by
  refine h.step hV ?_
  clear h hV
  have h : Keeps 200 s s := .refl _ _
  unfold acceptFetched
  repeat' first
    | with_reducible assumption
    | decide
    | with_reducible refine Keeps.ite ?_ (fun _ => ?_)
    | with_reducible refine State.modHandle_keeps ?_ ?_
    | with_reducible refine State.modList_keeps ?_ ?_
    | with_reducible refine State.modPlan_keeps ?_ ?_
    | with_reducible refine dropHandle_keeps ?_ ?_
    | with_reducible refine needCompile_keeps ?_ ?_
    | with_reducible refine Keeps.foldl _ (fun _ _ _ => ?_) ?_
    | with_reducible refine Keeps.foldl_fst _ (fun _ _ _ => ?_) ?_
    | dsimp only
    | split

theorem accordReady_keeps {V : Nat} {g : Nat} {s0 s : State} (hV : subMask 64 V = true)
    (h : Keeps V s0 s) : Keeps V s0 (accordReady g s) := by
  refine h.step hV ?_
  clear h hV
  have h : Keeps 64 s s := .refl _ _
  unfold accordReady
  repeat' first
    | with_reducible assumption
    | decide
    | with_reducible refine Keeps.ite ?_ (fun _ => ?_)
    | with_reducible refine State.modPlan_keeps ?_ ?_

theorem flushHandles_keeps {V : Nat} {k : Nat} {f : Nat} {s0 s : State} (hV : subMask 879611449704458 V = true)
    (h : Keeps V s0 s) : Keeps V s0 (flushHandles k f s) := by
  induction k generalizing s with
  | zero =>
    unfold flushHandles
    exact h
  | succ k ih =>
    unfold flushHandles
    repeat' first
      | with_reducible assumption
      | exact subMask_trans (by decide) hV
      | with_reducible refine Keeps.ite ?_ (fun _ => ?_)
      | with_reducible refine State.modFn_keeps ?_ ?_
      | with_reducible refine dmaRefused_keeps ?_ ?_
      | with_reducible refine payOverflow_keeps ?_ ?_
      | with_reducible refine putRecords_keeps ?_ ?_
      | with_reducible refine raiseNorm_keeps ?_ ?_
      | with_reducible refine ringStop_keeps ?_ ?_
      | with_reducible refine Keeps.foldl _ (fun _ _ _ => ?_) ?_
      | with_reducible refine Keeps.foldl_fst _ (fun _ _ _ => ?_) ?_
      | dsimp only
      | split
      | (with_reducible refine ih ?_)

theorem flushAll_keeps {V : Nat} {f : Nat} {s0 s : State} (hV : subMask 879611449704458 V = true)
    (h : Keeps V s0 s) : Keeps V s0 (flushAll f s) := by
  refine h.step hV ?_
  clear h hV
  have h : Keeps 879611449704458 s s := .refl _ _
  unfold flushAll
  repeat' first
    | with_reducible assumption
    | decide
    | with_reducible refine Keeps.ite ?_ (fun _ => ?_)
    | with_reducible refine flushHandles_keeps ?_ ?_

theorem commitGeneration_keeps {V : Nat} {g : Nat} {planid : Nat} {swaptick : Nat} {c : Cover} {s0 s : State} (hV : subMask 879611449704586 V = true)
    (h : Keeps V s0 s) : Keeps V s0 (commitGeneration g planid swaptick s c) := by
  refine h.step hV ?_
  clear h hV
  have h : Keeps 879611449704586 s s := .refl _ _
  unfold commitGeneration
  repeat' first
    | with_reducible assumption
    | decide
    | with_reducible refine Keeps.ite ?_ (fun _ => ?_)
    | with_reducible refine State.modHandle_keeps ?_ ?_
    | with_reducible refine State.modList_keeps ?_ ?_
    | with_reducible refine dmaWrite_keeps ?_ ?_
    | with_reducible refine endHandle_keeps ?_ ?_
    | with_reducible refine flushAll_keeps ?_ ?_
    | with_reducible refine Keeps.foldl _ (fun _ _ _ => ?_) ?_
    | with_reducible refine Keeps.foldl_fst _ (fun _ _ _ => ?_) ?_
    | dsimp only
    | split

theorem imgLost_keeps {V : Nat} {f : Nat} {s0 s : State} (hV : subMask 8 V = true)
    (h : Keeps V s0 s) : Keeps V s0 (imgLost f s) := by
  refine h.step hV ?_
  clear h hV
  have h : Keeps 8 s s := .refl _ _
  unfold imgLost
  repeat' first
    | with_reducible assumption
    | decide
    | with_reducible refine Keeps.ite ?_ (fun _ => ?_)
    | with_reducible refine State.modImage_keeps ?_ ?_
    | with_reducible refine Keeps.foldl _ (fun _ _ _ => ?_) ?_
    | with_reducible refine Keeps.foldl_fst _ (fun _ _ _ => ?_) ?_
    | dsimp only
    | split

theorem countReg_keeps {V : Nat} {ty : Nat} {inst : Nat} {off : Nat} {lo : Nat} {n : Nat} {k : Nat} {s0 s : State} (hV : subMask 2 V = true)
    (h : Keeps V s0 s) : Keeps V s0 (countReg ty inst off lo n k s) := by
  refine h.step hV ?_
  clear h hV
  have h : Keeps 2 s s := .refl _ _
  unfold countReg
  repeat' first
    | with_reducible assumption
    | decide
    | with_reducible refine Keeps.ite ?_ (fun _ => ?_)
    | with_reducible refine State.setReg_keeps ?_ ?_

theorem rfxLost_keeps {V : Nat} {f : Nat} {t0 : Nat} {s0 s : State} (hV : subMask 2 V = true)
    (h : Keeps V s0 s) : Keeps V s0 (rfxLost f t0 s) := by
  refine h.step hV ?_
  clear h hV
  have h : Keeps 2 s s := .refl _ _
  unfold rfxLost
  repeat' first
    | with_reducible assumption
    | decide
    | with_reducible refine Keeps.ite ?_ (fun _ => ?_)
    | with_reducible refine countReg_keeps ?_ ?_

theorem countDiscard_keeps {V : Nat} {p : Nat} {src : Nat} {fn : Nat} {s0 s : State} (hV : subMask 10 V = true)
    (h : Keeps V s0 s) : Keeps V s0 (countDiscard p src fn s) := by
  refine h.step hV ?_
  clear h hV
  have h : Keeps 10 s s := .refl _ _
  unfold countDiscard
  repeat' first
    | with_reducible assumption
    | decide
    | with_reducible refine Keeps.ite ?_ (fun _ => ?_)
    | with_reducible refine imgLost_keeps ?_ ?_
    | with_reducible refine rfxLost_keeps ?_ ?_
    | with_reducible refine setErr_keeps ?_ ?_
    | with_reducible refine Keeps.foldl _ (fun _ _ _ => ?_) ?_
    | with_reducible refine Keeps.foldl_fst _ (fun _ _ _ => ?_) ?_
    | dsimp only
    | split

theorem discardWrites_keeps {V : Nat} {p : Nat} {s0 s : State} (hV : subMask 1073743114 V = true)
    (h : Keeps V s0 s) : Keeps V s0 (discardWrites p s) := by
  refine h.step hV ?_
  clear h hV
  have h : Keeps 1073743114 s s := .refl _ _
  unfold discardWrites
  repeat' first
    | with_reducible assumption
    | decide
    | with_reducible refine Keeps.ite ?_ (fun _ => ?_)
    | with_reducible refine State.modPoint_keeps ?_ ?_
    | with_reducible refine State.setRecord_keeps ?_ ?_
    | with_reducible refine countDiscard_keeps ?_ ?_
    | with_reducible refine noteChange_keeps ?_ ?_
    | with_reducible refine Keeps.foldl _ (fun _ _ _ => ?_) ?_
    | with_reducible refine Keeps.foldl_fst _ (fun _ _ _ => ?_) ?_
    | dsimp only
    | split

theorem lockPoint_keeps {V : Nat} {c : LockCause} {p : Nat} {s0 s : State} (hV : subMask 1073743114 V = true)
    (h : Keeps V s0 s) : Keeps V s0 (lockPoint c p s) := by
  refine h.step hV ?_
  clear h hV
  have h : Keeps 1073743114 s s := .refl _ _
  unfold lockPoint
  repeat' first
    | with_reducible assumption
    | decide
    | with_reducible refine Keeps.ite ?_ (fun _ => ?_)
    | with_reducible refine State.modPoint_keeps ?_ ?_
    | with_reducible refine discardWrites_keeps ?_ ?_

theorem staleNext_keeps {V : Nat} {code : Nat} {p : Nat} {s0 s : State} (hV : subMask 1024 V = true)
    (h : Keeps V s0 s) : Keeps V s0 (staleNext code p s) := by
  refine h.step hV ?_
  clear h hV
  have h : Keeps 1024 s s := .refl _ _
  unfold staleNext
  repeat' first
    | with_reducible assumption
    | decide
    | with_reducible refine Keeps.ite ?_ (fun _ => ?_)
    | with_reducible refine State.modPoint_keeps ?_ ?_

theorem stopFeeds_keeps {V : Nat} {code : Nat} {cause : LockCause} {l : List AEntry} {s0 s : State} (hV : subMask 1073743114 V = true)
    (h : Keeps V s0 s) : Keeps V s0 (stopFeeds code cause l s) := by
  refine h.step hV ?_
  clear h hV
  have h : Keeps 1073743114 s s := .refl _ _
  unfold stopFeeds
  repeat' first
    | with_reducible assumption
    | decide
    | with_reducible refine Keeps.ite ?_ (fun _ => ?_)
    | with_reducible refine lockPoint_keeps ?_ ?_
    | with_reducible refine staleNext_keeps ?_ ?_
    | with_reducible refine Keeps.foldl _ (fun _ _ _ => ?_) ?_
    | with_reducible refine Keeps.foldl_fst _ (fun _ _ _ => ?_) ?_
    | dsimp only
    | split

theorem enterPoints_keeps {V : Nat} {g : Nat} {new : List AEntry} {s0 s : State} (hV : subMask 1073743114 V = true)
    (h : Keeps V s0 s) : Keeps V s0 (enterPoints g new s) := by
  refine h.step hV ?_
  clear h hV
  have h : Keeps 1073743114 s s := .refl _ _
  unfold enterPoints
  repeat' first
    | with_reducible assumption
    | decide
    | with_reducible refine Keeps.ite ?_ (fun _ => ?_)
    | with_reducible refine stopFeeds_keeps ?_ ?_
    | with_reducible refine Keeps.foldl _ (fun _ _ _ => ?_) ?_
    | with_reducible refine Keeps.foldl_fst _ (fun _ _ _ => ?_) ?_
    | dsimp only
    | split

theorem uncountReg_keeps {V : Nat} {ty : Nat} {inst : Nat} {off : Nat} {s0 s : State} (hV : subMask 2 V = true)
    (h : Keeps V s0 s) : Keeps V s0 (uncountReg ty inst off s) := by
  refine h.step hV ?_
  clear h hV
  have h : Keeps 2 s s := .refl _ _
  unfold uncountReg
  repeat' first
    | with_reducible assumption
    | decide
    | with_reducible refine Keeps.ite ?_ (fun _ => ?_)
    | with_reducible refine State.setReg_keeps ?_ ?_
    | with_reducible refine Keeps.foldl _ (fun _ _ _ => ?_) ?_
    | with_reducible refine Keeps.foldl_fst _ (fun _ _ _ => ?_) ?_
    | dsimp only
    | split

theorem uncountDiscard_keeps {V : Nat} {p : Nat} {w : PointWrite} {s0 s : State} (hV : subMask 10 V = true)
    (h : Keeps V s0 s) : Keeps V s0 (uncountDiscard p w s) := by
  refine h.step hV ?_
  clear h hV
  have h : Keeps 10 s s := .refl _ _
  unfold uncountDiscard
  repeat' first
    | with_reducible assumption
    | decide
    | with_reducible refine Keeps.ite ?_ (fun _ => ?_)
    | with_reducible refine State.modImage_keeps ?_ ?_
    | with_reducible refine State.setReg_keeps ?_ ?_
    | with_reducible refine uncountReg_keeps ?_ ?_
    | with_reducible refine Keeps.foldl _ (fun _ _ _ => ?_) ?_
    | with_reducible refine Keeps.foldl_fst _ (fun _ _ _ => ?_) ?_
    | dsimp only
    | split

theorem admitWrites_keeps {V : Nat} {p : Nat} {s0 s : State} (hV : subMask 1073743114 V = true)
    (h : Keeps V s0 s) : Keeps V s0 (admitWrites p s) := by
  refine h.step hV ?_
  clear h hV
  have h : Keeps 1073743114 s s := .refl _ _
  unfold admitWrites
  repeat' first
    | with_reducible assumption
    | decide
    | with_reducible refine Keeps.ite ?_ (fun _ => ?_)
    | with_reducible refine State.modPoint_keeps ?_ ?_
    | with_reducible refine uncountDiscard_keeps ?_ ?_
    | with_reducible refine writePoint_keeps ?_ ?_
    | with_reducible refine Keeps.foldl _ (fun _ _ _ => ?_) ?_
    | with_reducible refine Keeps.foldl_fst _ (fun _ _ _ => ?_) ?_
    | dsimp only
    | split

theorem unlockPoint_keeps {V : Nat} {c : LockCause} {p : Nat} {s0 s : State} (hV : subMask 1073743114 V = true)
    (h : Keeps V s0 s) : Keeps V s0 (unlockPoint c p s) := by
  refine h.step hV ?_
  clear h hV
  have h : Keeps 1073743114 s s := .refl _ _
  unfold unlockPoint
  repeat' first
    | with_reducible assumption
    | decide
    | with_reducible refine Keeps.ite ?_ (fun _ => ?_)
    | with_reducible refine State.modPoint_keeps ?_ ?_
    | with_reducible refine admitWrites_keeps ?_ ?_

theorem leavePoints_keeps {V : Nat} {g : Nat} {old : List AEntry} {new : List AEntry} {s0 s : State} (hV : subMask 1073743114 V = true)
    (h : Keeps V s0 s) : Keeps V s0 (leavePoints g old new s) := by
  refine h.step hV ?_
  clear h hV
  have h : Keeps 1073743114 s s := .refl _ _
  unfold leavePoints
  repeat' first
    | with_reducible assumption
    | decide
    | with_reducible refine Keeps.ite ?_ (fun _ => ?_)
    | with_reducible refine staleNext_keeps ?_ ?_
    | with_reducible refine unlockPoint_keeps ?_ ?_
    | with_reducible refine Keeps.foldl _ (fun _ _ _ => ?_) ?_

theorem lockCommit_keeps {V : Nat} {s0 s : State} (hV : subMask 11 V = true)
    (h : Keeps V s0 s) : Keeps V s0 (lockCommit s) := by
  refine h.step hV ?_
  clear h hV
  have h : Keeps 11 s s := .refl _ _
  unfold lockCommit
  repeat' first
    | with_reducible assumption
    | decide
    | with_reducible refine Keeps.ite ?_ (fun _ => ?_)
    | with_reducible refine State.modTime_keeps ?_ ?_
    | with_reducible refine setErr_keeps ?_ ?_

theorem zeroRights_keeps {V : Nat} {f : Nat} {pts : List Nat} {s0 s : State} (hV : subMask 8 V = true)
    (h : Keeps V s0 s) : Keeps V s0 (zeroRights f pts s) := by
  refine h.step hV ?_
  clear h hV
  have h : Keeps 8 s s := .refl _ _
  unfold zeroRights
  repeat' first
    | with_reducible assumption
    | decide
    | with_reducible refine Keeps.ite ?_ (fun _ => ?_)
    | with_reducible refine State.modFn_keeps ?_ ?_

theorem zeroAll_keeps {V : Nat} {l : List (Nat × List Nat)} {s0 s : State} (hV : subMask 8 V = true)
    (h : Keeps V s0 s) : Keeps V s0 (zeroAll l s) := by
  refine h.step hV ?_
  clear h hV
  have h : Keeps 8 s s := .refl _ _
  unfold zeroAll
  repeat' first
    | with_reducible assumption
    | decide
    | with_reducible refine Keeps.ite ?_ (fun _ => ?_)
    | with_reducible refine zeroRights_keeps ?_ ?_
    | with_reducible refine Keeps.foldl _ (fun _ _ _ => ?_) ?_
    | with_reducible refine Keeps.foldl_fst _ (fun _ _ _ => ?_) ?_
    | dsimp only
    | split

theorem accordSwap_keeps {V : Nat} {g : Nat} {s0 s : State} (hV : subMask 879612523447787 V = true)
    (h : Keeps V s0 s) : Keeps V s0 (accordSwap g s) := by
  refine h.step hV ?_
  clear h hV
  have h : Keeps 879612523447787 s s := .refl _ _
  unfold accordSwap
  repeat' first
    | with_reducible assumption
    | decide
    | with_reducible refine Keeps.ite ?_ (fun _ => ?_)
    | with_reducible refine State.modNode_keeps ?_ ?_
    | with_reducible refine State.modPlan_keeps ?_ ?_
    | with_reducible refine commitGeneration_keeps ?_ ?_
    | with_reducible refine enterPoints_keeps ?_ ?_
    | with_reducible refine leaveDoze_keeps ?_ ?_
    | with_reducible refine leavePoints_keeps ?_ ?_
    | with_reducible refine lockCommit_keeps ?_ ?_
    | with_reducible refine zeroAll_keeps ?_ ?_
    | with_reducible refine Keeps.foldl _ (fun _ _ _ => ?_) ?_

theorem pickSpot_keeps {V : Nat} {cls : Nat} {run : Nat → List Nat} {l : List Nat} {s0 s : State} (hV : subMask 140737488355328 V = true)
    (h : Keeps V s0 s) : Keeps V s0 (pickSpot cls run l s).2 := by
  refine h.step hV ?_
  clear h hV
  have h : Keeps 140737488355328 s s := .refl _ _
  unfold pickSpot
  repeat' first
    | with_reducible assumption
    | decide
    | with_reducible refine Keeps.ite ?_ (fun _ => ?_)
    | with_reducible refine State.draw_keeps ?_ ?_
    | with_reducible refine Keeps.foldl _ (fun _ _ _ => ?_) ?_
    | with_reducible refine Keeps.foldl_fst _ (fun _ _ _ => ?_) ?_
    | dsimp only
    | split

theorem useDown_keeps {V : Nat} {g : Nat} {b : Nat} {len : Nat} {s0 s : State} (hV : subMask 16 V = true)
    (h : Keeps V s0 s) : Keeps V s0 (useDown g b len s) := by
  refine h.step hV ?_
  clear h hV
  have h : Keeps 16 s s := .refl _ _
  unfold useDown
  repeat' first
    | with_reducible assumption
    | decide
    | with_reducible refine Keeps.ite ?_ (fun _ => ?_)
    | with_reducible refine State.modPort_keeps ?_ ?_
    | with_reducible refine Keeps.foldl _ (fun _ _ _ => ?_) ?_
    | with_reducible refine Keeps.foldl_fst _ (fun _ _ _ => ?_) ?_
    | dsimp only
    | split

theorem takeDown_keeps {V : Nat} {g cls len after n : Nat} {s0 s t : State} (hV : subMask 140737488355344 V = true)
    (h : Keeps V s0 s) (e : takeDown g cls len after s = some (n, t)) : Keeps V s0 t := by
  refine h.step hV ?_
  clear h hV
  have h : Keeps 140737488355344 s s := .refl _ _
  unfold takeDown at e
  repeat' first
    | (dsimp only at e)
    | (split at e)
    | (cases e)
  repeat' first
    | with_reducible assumption
    | decide
    | with_reducible refine Keeps.ite ?_ (fun _ => ?_)
    | with_reducible refine pickSpot_keeps ?_ ?_
    | with_reducible refine useDown_keeps ?_ ?_
    | with_reducible refine Keeps.foldl _ (fun _ _ _ => ?_) ?_
    | with_reducible refine Keeps.foldl_fst _ (fun _ _ _ => ?_) ?_
    | dsimp only
    | split

theorem ackAlert_keeps {V : Nat} {g : Nat} {blk : Nat} {n : Nat} {aseq : Nat} {s0 s : State} (hV : subMask 985162418487312 V = true)
    (h : Keeps V s0 s) : Keeps V s0 (ackAlert g blk n aseq s) := by
  refine h.step hV ?_
  clear h hV
  have h : Keeps 985162418487312 s s := .refl _ _
  unfold ackAlert
  repeat' first
    | with_reducible assumption
    | decide
    | with_reducible refine Keeps.ite ?_ (fun _ => ?_)
    | with_reducible refine State.modPort_keeps ?_ ?_
    | with_reducible refine out_keeps ?_ ?_
    | with_reducible refine takeDown_keeps ?_ ?_ (by assumption)
    | with_reducible refine Keeps.foldl _ (fun _ _ _ => ?_) ?_
    | with_reducible refine Keeps.foldl_fst _ (fun _ _ _ => ?_) ?_
    | dsimp only
    | split

theorem ackWrite_keeps {V : Nat} {f : Nat} {fast : Bool} {v : W64} {s0 s : State} (hV : subMask 10 V = true)
    (h : Keeps V s0 s) : Keeps V s0 (ackWrite f fast v s) := by
  refine h.step hV ?_
  clear h hV
  have h : Keeps 10 s s := .refl _ _
  unfold ackWrite
  repeat' first
    | with_reducible assumption
    | decide
    | with_reducible refine Keeps.ite ?_ (fun _ => ?_)
    | with_reducible refine State.modFn_keeps ?_ ?_
    | with_reducible refine setErr_keeps ?_ ?_

theorem failHandle_keeps {V : Nat} {f : Nat} {seq : Nat} {status : Nat} {detail : Nat} {s0 s : State} (hV : subMask 8 V = true)
    (h : Keeps V s0 s) : Keeps V s0 (failHandle f seq status detail s) := by
  refine h.step hV ?_
  clear h hV
  have h : Keeps 8 s s := .refl _ _
  unfold failHandle
  repeat' first
    | with_reducible assumption
    | decide
    | with_reducible refine Keeps.ite ?_ (fun _ => ?_)
    | with_reducible refine endHandle_keeps ?_ ?_

theorem nextSwitch_keeps {V : Nat} {s0 s : State} (hV : subMask 33554440 V = true)
    (h : Keeps V s0 s) : Keeps V s0 (nextSwitch s) := by
  refine h.step hV ?_
  clear h hV
  have h : Keeps 33554440 s s := .refl _ _
  unfold nextSwitch
  repeat' first
    | with_reducible assumption
    | decide
    | with_reducible refine Keeps.ite ?_ (fun _ => ?_)
    | with_reducible refine State.modFw_keeps ?_ ?_
    | with_reducible refine endHandle_keeps ?_ ?_
    | with_reducible refine Keeps.foldl _ (fun _ _ _ => ?_) ?_
    | with_reducible refine Keeps.foldl_fst _ (fun _ _ _ => ?_) ?_
    | dsimp only
    | split

theorem startSwitches_keeps {V : Nat} {rollback : Bool} {seq : Option Nat} {s0 s : State} (hV : subMask 33554440 V = true)
    (h : Keeps V s0 s) : Keeps V s0 (startSwitches rollback seq s) := by
  refine h.step hV ?_
  clear h hV
  have h : Keeps 33554440 s s := .refl _ _
  unfold startSwitches
  repeat' first
    | with_reducible assumption
    | decide
    | with_reducible refine Keeps.ite ?_ (fun _ => ?_)
    | with_reducible refine State.modFw_keeps ?_ ?_
    | with_reducible refine nextSwitch_keeps ?_ ?_

theorem writeBoot_keeps {V : Nat} {r : BootRec} {s0 s : State} (hV : subMask 844424963686400 V = true)
    (h : Keeps V s0 s) : Keeps V s0 (writeBoot r s) := by
  refine h.step hV ?_
  clear h hV
  have h : Keeps 844424963686400 s s := .refl _ _
  unfold writeBoot
  repeat' first
    | with_reducible assumption
    | decide
    | with_reducible refine Keeps.ite ?_ (fun _ => ?_)
    | with_reducible refine State.modFw_keeps ?_ ?_
    | with_reducible refine out_keeps ?_ ?_

theorem writeSession_keeps {V : Nat} {r : Session} {s0 s : State} (hV : subMask 844424963686400 V = true)
    (h : Keeps V s0 s) : Keeps V s0 (writeSession r s) := by
  refine h.step hV ?_
  clear h hV
  have h : Keeps 844424963686400 s s := .refl _ _
  unfold writeSession
  repeat' first
    | with_reducible assumption
    | decide
    | with_reducible refine Keeps.ite ?_ (fun _ => ?_)
    | with_reducible refine State.modFw_keeps ?_ ?_
    | with_reducible refine out_keeps ?_ ?_

theorem activationStaged_keeps {V : Nat} {motion : BitVec 8} {holdup : BitVec 8} {vin : Option (BitVec 16)} {s0 s : State} (hV : subMask 879611550367754 V = true)
    (h : Keeps V s0 s) : Keeps V s0 (activationStaged motion holdup vin s) := by
  refine h.step hV ?_
  clear h hV
  have h : Keeps 879611550367754 s s := .refl _ _
  unfold activationStaged
  repeat' first
    | with_reducible assumption
    | decide
    | with_reducible refine Keeps.ite ?_ (fun _ => ?_)
    | with_reducible refine State.modFw_keeps ?_ ?_
    | with_reducible refine State.modHandle_keeps ?_ ?_
    | with_reducible refine failHandle_keeps ?_ ?_
    | with_reducible refine pumpAll_keeps ?_ ?_
    | with_reducible refine startSwitches_keeps ?_ ?_
    | with_reducible refine startWaiting_keeps ?_ ?_
    | with_reducible refine writeBoot_keeps ?_ ?_
    | with_reducible refine writeSession_keeps ?_ ?_
    | with_reducible refine Keeps.foldl _ (fun _ _ _ => ?_) ?_
    | with_reducible refine Keeps.foldl_fst _ (fun _ _ _ => ?_) ?_
    | dsimp only
    | split

theorem addViews_keeps {V : Nat} {k : Nat} {f : Nat} {t0 : Nat} {s0 s : State} (hV : subMask 8 V = true)
    (h : Keeps V s0 s) : Keeps V s0 (addViews f t0 k s) := by
  induction k generalizing s with
  | zero =>
    unfold addViews
    exact h
  | succ k ih =>
    unfold addViews
    repeat' first
      | with_reducible assumption
      | exact subMask_trans (by decide) hV
      | with_reducible refine Keeps.ite ?_ (fun _ => ?_)
      | with_reducible refine State.modFn_keeps ?_ ?_
      | with_reducible refine Keeps.foldl _ (fun _ _ _ => ?_) ?_
      | with_reducible refine Keeps.foldl_fst _ (fun _ _ _ => ?_) ?_
      | dsimp only
      | split
      | (with_reducible refine ih ?_)

theorem addWish_keeps {V : Nat} {g : Nat} {w : Wish} {s0 s : State} (hV : subMask 16 V = true)
    (h : Keeps V s0 s) : Keeps V s0 (addWish g w s) := by
  refine h.step hV ?_
  clear h hV
  have h : Keeps 16 s s := .refl _ _
  unfold addWish
  repeat' first
    | with_reducible assumption
    | decide
    | with_reducible refine Keeps.ite ?_ (fun _ => ?_)
    | with_reducible refine State.modPort_keeps ?_ ?_
    | with_reducible refine Keeps.foldl _ (fun _ _ _ => ?_) ?_
    | with_reducible refine Keeps.foldl_fst _ (fun _ _ _ => ?_) ?_
    | dsimp only
    | split

theorem clearPage_keeps {V : Nat} {ty : Nat} {inst : Nat} {s0 s : State} (hV : subMask 2 V = true)
    (h : Keeps V s0 s) : Keeps V s0 (clearPage ty inst s) := by
  refine h.step hV ?_
  clear h hV
  have h : Keeps 2 s s := .refl _ _
  unfold clearPage
  repeat' first
    | with_reducible assumption
    | decide
    | with_reducible refine Keeps.ite ?_ (fun _ => ?_)
    | exact nwf_nmod _ _
    | exact nwf_nput _ _
    | exact nwf_filter _
    | exact fun _ => nwf_nmapAll _
    | exact ascKeys_nput _ _ _
    | exact ascKeys_filter _
    | exact nwf_foldl_nput _ _ _
    | exact memWrite_wf _ _ _
    | exact fun hi => nwf_nput _ _ (nwf_filter _ hi)
    | with_reducible refine Keeps.foldl _ (fun _ _ _ => ?_) ?_
    | with_reducible refine Keeps.foldl_fst _ (fun _ _ _ => ?_) ?_
    | dsimp only
    | split
    | with_reducible refine Keeps.set_regs ?_ ?_ ?_

theorem admWipe_keeps {V : Nat} {s0 s : State} (hV : subMask 10 V = true)
    (h : Keeps V s0 s) : Keeps V s0 (admWipe s) := by
  refine h.step hV ?_
  clear h hV
  have h : Keeps 10 s s := .refl _ _
  unfold admWipe
  repeat' first
    | with_reducible assumption
    | decide
    | with_reducible refine Keeps.ite ?_ (fun _ => ?_)
    | with_reducible refine State.modFn_keeps ?_ ?_
    | with_reducible refine clearPage_keeps ?_ ?_

theorem dmaRead_keeps {V : Nat} {f : Nat} {addr : Nat} {len : Nat} {s0 s : State} (hV : subMask 879611449704458 V = true)
    (h : Keeps V s0 s) : Keeps V s0 (dmaRead f addr len s).1 := by
  refine h.step hV ?_
  clear h hV
  have h : Keeps 879611449704458 s s := .refl _ _
  unfold dmaRead
  repeat' first
    | with_reducible assumption
    | decide
    | with_reducible refine Keeps.ite ?_ (fun _ => ?_)
    | with_reducible refine request_keeps ?_ ?_
    | with_reducible refine Keeps.foldl _ (fun _ _ _ => ?_) ?_
    | with_reducible refine Keeps.foldl_fst _ (fun _ _ _ => ?_) ?_
    | dsimp only
    | split

theorem leaseRead_keeps {V : Nat} {g : Nat} {n : Nat} {s0 s : State} (hV : subMask 879611449704490 V = true)
    (h : Keeps V s0 s) : Keeps V s0 (leaseRead g n s) := by
  refine h.step hV ?_
  clear h hV
  have h : Keeps 879611449704490 s s := .refl _ _
  unfold leaseRead
  repeat' first
    | with_reducible assumption
    | decide
    | with_reducible refine Keeps.ite ?_ (fun _ => ?_)
    | with_reducible refine State.modNode_keeps ?_ ?_
    | with_reducible refine dmaRead_keeps ?_ ?_
    | with_reducible refine engineWork_keeps ?_ ?_
    | with_reducible refine Keeps.foldl _ (fun _ _ _ => ?_) ?_
    | with_reducible refine Keeps.foldl_fst _ (fun _ _ _ => ?_) ?_
    | dsimp only
    | split

theorem emitAll_keeps {V : Nat} {fs : List Nat} {e0 : Event} {s0 s : State} (hV : subMask 879611449704458 V = true)
    (h : Keeps V s0 s) : Keeps V s0 (emitAll fs e0 s) := by
  refine h.step hV ?_
  clear h hV
  have h : Keeps 879611449704458 s s := .refl _ _
  unfold emitAll
  repeat' first
    | with_reducible assumption
    | decide
    | with_reducible refine Keeps.ite ?_ (fun _ => ?_)
    | with_reducible refine emit_keeps ?_ ?_
    | with_reducible refine Keeps.foldl _ (fun _ _ _ => ?_) ?_

theorem tryGrant_keeps {V : Nat} {g node cls len gseq after : Nat} {s0 s t : State} (hV : subMask 985162418487312 V = true)
    (h : Keeps V s0 s) (e : tryGrant g node cls len gseq after s = some t) : Keeps V s0 t := by
  refine h.step hV ?_
  clear h hV
  have h : Keeps 985162418487312 s s := .refl _ _
  unfold tryGrant at e
  repeat' first
    | (dsimp only at e)
    | (split at e)
    | (cases e)
  repeat' first
    | with_reducible assumption
    | decide
    | with_reducible refine Keeps.ite ?_ (fun _ => ?_)
    | with_reducible refine State.modPort_keeps ?_ ?_
    | with_reducible refine out_keeps ?_ ?_
    | with_reducible refine pickSpot_keeps ?_ ?_
    | with_reducible refine takeDown_keeps ?_ ?_ (by assumption)
    | with_reducible refine Keeps.foldl _ (fun _ _ _ => ?_) ?_
    | with_reducible refine Keeps.foldl_fst _ (fun _ _ _ => ?_) ?_
    | dsimp only
    | split

theorem tryGrant_getD_keeps {V : Nat} {g node cls len gseq after : Nat} {s0 s x : State} (hV : subMask 985162418487312 V = true)
    (h : Keeps V s0 s) (hx : Keeps V s0 x) : Keeps V s0 ((tryGrant g node cls len gseq after s).getD x) := by
  cases e : tryGrant g node cls len gseq after s with
  | none => exact hx
  | some t => exact tryGrant_keeps hV h e

theorem issueGrant_keeps {V : Nat} {g : Nat} {node : Nat} {cls : Nat} {len : Nat} {gseq : Nat} {after : Nat} {s0 s : State} (hV : subMask 985162418487312 V = true)
    (h : Keeps V s0 s) : Keeps V s0 (issueGrant g node cls len gseq after s) := by
  refine h.step hV ?_
  clear h hV
  have h : Keeps 985162418487312 s s := .refl _ _
  unfold issueGrant
  repeat' first
    | with_reducible assumption
    | decide
    | with_reducible refine Keeps.ite ?_ (fun _ => ?_)
    | with_reducible refine addWish_keeps ?_ ?_
    | with_reducible refine tryGrant_getD_keeps ?_ ?_ ?_
    | with_reducible refine Keeps.foldl _ (fun _ _ _ => ?_) ?_
    | with_reducible refine Keeps.foldl_fst _ (fun _ _ _ => ?_) ?_
    | dsimp only
    | split

theorem pumpMgmt_keeps {V : Nat} {k : Nat} {g : Nat} {s0 s : State} (hV : subMask 985164565970960 V = true)
    (h : Keeps V s0 s) : Keeps V s0 (pumpMgmt g k s) := by
  induction k generalizing s with
  | zero =>
    unfold pumpMgmt
    exact h
  | succ k ih =>
    unfold pumpMgmt
    repeat' first
      | with_reducible assumption
      | exact subMask_trans (by decide) hV
      | with_reducible refine Keeps.ite ?_ (fun _ => ?_)
      | with_reducible refine State.modPort_keeps ?_ ?_
      | with_reducible refine engineWork_keeps ?_ ?_
      | with_reducible refine issueGrant_keeps ?_ ?_
      | with_reducible refine out_keeps ?_ ?_
      | with_reducible refine takeDown_keeps ?_ ?_ (by assumption)
      | with_reducible refine Keeps.foldl _ (fun _ _ _ => ?_) ?_
      | with_reducible refine Keeps.foldl_fst _ (fun _ _ _ => ?_) ?_
      | dsimp only
      | split
      | (with_reducible refine ih ?_)

theorem sendReq_keeps {V : Nat} {g : Nat} {r : MReq} {s0 s : State} (hV : subMask 985164565970960 V = true)
    (h : Keeps V s0 s) : Keeps V s0 (sendReq g r s) := by
  refine h.step hV ?_
  clear h hV
  have h : Keeps 985164565970960 s s := .refl _ _
  unfold sendReq
  repeat' first
    | with_reducible assumption
    | decide
    | with_reducible refine Keeps.ite ?_ (fun _ => ?_)
    | with_reducible refine State.modPort_keeps ?_ ?_
    | with_reducible refine pumpMgmt_keeps ?_ ?_
    | with_reducible refine Keeps.foldl _ (fun _ _ _ => ?_) ?_
    | with_reducible refine Keeps.foldl_fst _ (fun _ _ _ => ?_) ?_
    | dsimp only
    | split

theorem sendMgmt_keeps {V : Nat} {g : Nat} {node : Nat} {op : Nat} {words : List Nat} {purpose : Purpose} {attempt : Nat} {s0 s : State} (hV : subMask 985164565970960 V = true)
    (h : Keeps V s0 s) : Keeps V s0 (sendMgmt g node op words purpose attempt s) := by
  refine h.step hV ?_
  clear h hV
  have h : Keeps 985164565970960 s s := .refl _ _
  unfold sendMgmt
  repeat' first
    | with_reducible assumption
    | decide
    | with_reducible refine Keeps.ite ?_ (fun _ => ?_)
    | with_reducible refine sendReq_keeps ?_ ?_

theorem mgmtWrite_keeps {V : Nat} {g : Nat} {node : Nat} {addr : Nat} {data : List Nat} {purpose : Purpose} {s0 s : State} (hV : subMask 985164565970960 V = true)
    (h : Keeps V s0 s) : Keeps V s0 (mgmtWrite g node addr data purpose s) := by
  refine h.step hV ?_
  clear h hV
  have h : Keeps 985164565970960 s s := .refl _ _
  unfold mgmtWrite
  repeat' first
    | with_reducible assumption
    | decide
    | with_reducible refine Keeps.ite ?_ (fun _ => ?_)
    | with_reducible refine sendMgmt_keeps ?_ ?_

theorem enableBranch_keeps {V : Nat} {g : Nat} {h0 : Nat} {br : Nat} {on : Bool} {p : Purpose} {s0 s : State} (hV : subMask 985164565970992 V = true)
    (h : Keeps V s0 s) : Keeps V s0 (enableBranch g h0 br on p s) := by
  refine h.step hV ?_
  clear h hV
  have h : Keeps 985164565970992 s s := .refl _ _
  unfold enableBranch
  repeat' first
    | with_reducible assumption
    | decide
    | with_reducible refine Keeps.ite ?_ (fun _ => ?_)
    | with_reducible refine State.modNode_keeps ?_ ?_
    | with_reducible refine mgmtWrite_keeps ?_ ?_

theorem dropStores_keeps {V : Nat} {f : Nat} {g : Nat} {n : Nat} {reason : Nat} {status : Nat} {detail : Nat} {k : Nat} {addr : Nat} {value : Nat} {tag : Nat} {wide : Bool} {always : Bool} {s0 s : State} (hV : subMask 879611449704458 V = true)
    (h : Keeps V s0 s) : Keeps V s0 (dropStores f g n reason status detail k addr value tag wide always s) := by
  refine h.step hV ?_
  clear h hV
  have h : Keeps 879611449704458 s s := .refl _ _
  unfold dropStores
  repeat' first
    | with_reducible assumption
    | decide
    | with_reducible refine Keeps.ite ?_ (fun _ => ?_)
    | with_reducible refine State.modBridge_keeps ?_ ?_
    | with_reducible refine countReg_keeps ?_ ?_
    | with_reducible refine emit_keeps ?_ ?_

theorem changeAcc_keeps {V : Nat} {a : BAcc} {b : BAcc} {s0 s : State} (hV : subMask 65536 V = true)
    (h : Keeps V s0 s) : Keeps V s0 (changeAcc a b s) := by
  refine h.step hV ?_
  clear h hV
  have h : Keeps 65536 s s := .refl _ _
  unfold changeAcc
  repeat' first
    | with_reducible assumption
    | decide
    | with_reducible refine Keeps.ite ?_ (fun _ => ?_)
    | with_reducible refine Keeps.foldl _ (fun _ _ _ => ?_) ?_
    | with_reducible refine Keeps.foldl_fst _ (fun _ _ _ => ?_) ?_
    | dsimp only
    | split
    | with_reducible refine Keeps.set_bridge ?_ ?_

theorem removeAcc_keeps {V : Nat} {a : BAcc} {s0 s : State} (hV : subMask 65536 V = true)
    (h : Keeps V s0 s) : Keeps V s0 (removeAcc a s) := by
  refine h.step hV ?_
  clear h hV
  have h : Keeps 65536 s s := .refl _ _
  unfold removeAcc
  repeat' first
    | with_reducible assumption
    | decide
    | with_reducible refine Keeps.ite ?_ (fun _ => ?_)
    | with_reducible refine Keeps.foldl _ (fun _ _ _ => ?_) ?_
    | with_reducible refine Keeps.foldl_fst _ (fun _ _ _ => ?_) ?_
    | dsimp only
    | split
    | with_reducible refine Keeps.set_bridge ?_ ?_

theorem countEnd_keeps {V : Nat} {f : Nat} {limit : Bool} {s0 s : State} (hV : subMask 2 V = true)
    (h : Keeps V s0 s) : Keeps V s0 (countEnd f limit s) := by
  refine h.step hV ?_
  clear h hV
  have h : Keeps 2 s s := .refl _ _
  unfold countEnd
  repeat' first
    | with_reducible assumption
    | decide
    | with_reducible refine Keeps.ite ?_ (fun _ => ?_)
    | with_reducible refine countReg_keeps ?_ ?_

theorem tellLoad_keeps {V : Nat} {kind : Nat} {status : Nat} {detail : Nat} {b17 : Nat} {sentFlag : Bool} {a : BAcc} {s0 s : State} (hV : subMask 879611449704458 V = true)
    (h : Keeps V s0 s) : Keeps V s0 (tellLoad kind status detail b17 sentFlag a s) := by
  refine h.step hV ?_
  clear h hV
  have h : Keeps 879611449704458 s s := .refl _ _
  unfold tellLoad
  repeat' first
    | with_reducible assumption
    | decide
    | with_reducible refine Keeps.ite ?_ (fun _ => ?_)
    | with_reducible refine countEnd_keeps ?_ ?_
    | with_reducible refine emit_keeps ?_ ?_
    | with_reducible refine out_keeps ?_ ?_
    | with_reducible refine Keeps.foldl _ (fun _ _ _ => ?_) ?_
    | with_reducible refine Keeps.foldl_fst _ (fun _ _ _ => ?_) ?_
    | dsimp only
    | split

theorem endLoad_keeps {V : Nat} {kind : Nat} {status : Nat} {detail : Nat} {sentFlag : Bool} {a : BAcc} {s0 s : State} (hV : subMask 879611449769994 V = true)
    (h : Keeps V s0 s) : Keeps V s0 (endLoad kind status detail sentFlag s a) := by
  refine h.step hV ?_
  clear h hV
  have h : Keeps 879611449769994 s s := .refl _ _
  unfold endLoad
  repeat' first
    | with_reducible assumption
    | decide
    | with_reducible refine Keeps.ite ?_ (fun _ => ?_)
    | with_reducible refine changeAcc_keeps ?_ ?_
    | with_reducible refine removeAcc_keeps ?_ ?_
    | with_reducible refine tellLoad_keeps ?_ ?_

theorem mgrResult_keeps {V : Nat} {t0 : Nat} {status : Nat} {s0 s : State} (hV : subMask 2 V = true)
    (h : Keeps V s0 s) : Keeps V s0 (mgrResult t0 status s) := by
  refine h.step hV ?_
  clear h hV
  have h : Keeps 2 s s := .refl _ _
  unfold mgrResult
  repeat' first
    | with_reducible assumption
    | decide
    | with_reducible refine Keeps.ite ?_ (fun _ => ?_)
    | with_reducible refine State.setReg_keeps ?_ ?_

theorem departFn_keeps {V : Nat} {g : Nat} {n : Nat} {status : Nat} {f : Nat} {s0 s : State} (hV : subMask 879611449769994 V = true)
    (h : Keeps V s0 s) : Keeps V s0 (departFn g n status s f) := by
  refine h.step hV ?_
  clear h hV
  have h : Keeps 879611449769994 s s := .refl _ _
  unfold departFn
  repeat' first
    | with_reducible assumption
    | decide
    | with_reducible refine Keeps.ite ?_ (fun _ => ?_)
    | with_reducible refine dropStores_keeps ?_ ?_
    | with_reducible refine endLoad_keeps ?_ ?_
    | with_reducible refine mgrResult_keeps ?_ ?_
    | with_reducible refine Keeps.foldl _ (fun _ _ _ => ?_) ?_
    | with_reducible refine Keeps.foldl_fst _ (fun _ _ _ => ?_) ?_
    | dsimp only
    | split
    | with_reducible refine Keeps.set_bridge ?_ ?_

theorem freeLock_keeps {V : Nat} {k : Nat} {s0 s : State} (hV : subMask 32 V = true)
    (h : Keeps V s0 s) : Keeps V s0 (freeLock k s) := by
  refine h.step hV ?_
  clear h hV
  have h : Keeps 32 s s := .refl _ _
  unfold freeLock
  repeat' first
    | with_reducible assumption
    | decide
    | with_reducible refine Keeps.ite ?_ (fun _ => ?_)
    | with_reducible refine State.modNode_keeps ?_ ?_

theorem bridgeDepart_keeps {V : Nat} {g : Nat} {n : Nat} {status : Nat} {s0 s : State} (hV : subMask 879611449770026 V = true)
    (h : Keeps V s0 s) : Keeps V s0 (bridgeDepart g n status s) := by
  refine h.step hV ?_
  clear h hV
  have h : Keeps 879611449770026 s s := .refl _ _
  unfold bridgeDepart
  repeat' first
    | with_reducible assumption
    | decide
    | with_reducible refine Keeps.ite ?_ (fun _ => ?_)
    | with_reducible refine departFn_keeps ?_ ?_
    | with_reducible refine freeLock_keeps ?_ ?_
    | with_reducible refine Keeps.foldl _ (fun _ _ _ => ?_) ?_

theorem bcqStop_keeps {V : Nat} {f : Nat} {reason : Nat} {latched : Nat} {s0 s : State} (hV : subMask 879611449704458 V = true)
    (h : Keeps V s0 s) : Keeps V s0 (bcqStop f reason latched s) := by
  refine h.step hV ?_
  clear h hV
  have h : Keeps 879611449704458 s s := .refl _ _
  unfold bcqStop
  repeat' first
    | with_reducible assumption
    | decide
    | with_reducible refine Keeps.ite ?_ (fun _ => ?_)
    | with_reducible refine State.modRing_keeps ?_ ?_
    | with_reducible refine emit_keeps ?_ ?_

theorem putBulkRecord_keeps {V : Nat} {f : Nat} {s0 s : State} (hV : subMask 879611449835530 V = true)
    (h : Keeps V s0 s) : Keeps V s0 (putBulkRecord f s) := by
  refine h.step hV ?_
  clear h hV
  have h : Keeps 879611449835530 s s := .refl _ _
  unfold putBulkRecord
  repeat' first
    | with_reducible assumption
    | decide
    | with_reducible refine Keeps.ite ?_ (fun _ => ?_)
    | with_reducible refine State.modChan_keeps ?_ ?_
    | with_reducible refine State.modFn_keeps ?_ ?_
    | with_reducible refine State.modRing_keeps ?_ ?_
    | with_reducible refine bcqStop_keeps ?_ ?_
    | with_reducible refine dmaRefused_keeps ?_ ?_
    | with_reducible refine out_keeps ?_ ?_
    | with_reducible refine raiseNorm_keeps ?_ ?_
    | with_reducible refine Keeps.foldl _ (fun _ _ _ => ?_) ?_
    | with_reducible refine Keeps.foldl_fst _ (fun _ _ _ => ?_) ?_
    | dsimp only
    | split

theorem recordJob_keeps {V : Nat} {k : Nat} {status : Nat} {detail : Nat} {s0 s : State} (hV : subMask 879611449835530 V = true)
    (h : Keeps V s0 s) : Keeps V s0 (recordJob k status detail s) := by
  refine h.step hV ?_
  clear h hV
  have h : Keeps 879611449835530 s s := .refl _ _
  unfold recordJob
  repeat' first
    | with_reducible assumption
    | decide
    | with_reducible refine Keeps.ite ?_ (fun _ => ?_)
    | with_reducible refine State.modChan_keeps ?_ ?_
    | with_reducible refine State.modFn_keeps ?_ ?_
    | with_reducible refine putBulkRecord_keeps ?_ ?_
    | with_reducible refine setErr_keeps ?_ ?_
    | with_reducible refine Keeps.foldl _ (fun _ _ _ => ?_) ?_
    | with_reducible refine Keeps.foldl_fst _ (fun _ _ _ => ?_) ?_
    | dsimp only
    | split

theorem promote_keeps {V : Nat} {k : Nat} {s0 s : State} (hV : subMask 879611449835530 V = true)
    (h : Keeps V s0 s) : Keeps V s0 (promote k s) := by
  refine h.step hV ?_
  clear h hV
  have h : Keeps 879611449835530 s s := .refl _ _
  unfold promote
  repeat' first
    | with_reducible assumption
    | decide
    | with_reducible refine Keeps.ite ?_ (fun _ => ?_)
    | with_reducible refine State.modChan_keeps ?_ ?_
    | with_reducible refine recordJob_keeps ?_ ?_
    | with_reducible refine Keeps.foldl _ (fun _ _ _ => ?_) ?_
    | with_reducible refine Keeps.foldl_fst _ (fun _ _ _ => ?_) ?_
    | dsimp only
    | split

theorem endJobNow_keeps {V : Nat} {k : Nat} {status : Nat} {detail : Nat} {s0 s : State} (hV : subMask 879611449835530 V = true)
    (h : Keeps V s0 s) : Keeps V s0 (endJobNow k status detail s) := by
  refine h.step hV ?_
  clear h hV
  have h : Keeps 879611449835530 s s := .refl _ _
  unfold endJobNow
  repeat' first
    | with_reducible assumption
    | decide
    | with_reducible refine Keeps.ite ?_ (fun _ => ?_)
    | with_reducible refine promote_keeps ?_ ?_
    | with_reducible refine recordJob_keeps ?_ ?_
    | with_reducible refine Keeps.foldl _ (fun _ _ _ => ?_) ?_
    | with_reducible refine Keeps.foldl_fst _ (fun _ _ _ => ?_) ?_
    | dsimp only
    | split

theorem bulkDepart_keeps {V : Nat} {g : Nat} {n : Nat} {status : Nat} {s0 s : State} (hV : subMask 879611449835530 V = true)
    (h : Keeps V s0 s) : Keeps V s0 (bulkDepart g n status s) := by
  refine h.step hV ?_
  clear h hV
  have h : Keeps 879611449835530 s s := .refl _ _
  unfold bulkDepart
  repeat' first
    | with_reducible assumption
    | decide
    | with_reducible refine Keeps.ite ?_ (fun _ => ?_)
    | with_reducible refine State.modChan_keeps ?_ ?_
    | with_reducible refine endJobNow_keeps ?_ ?_
    | with_reducible refine Keeps.foldl _ (fun _ _ _ => ?_) ?_

theorem failAdmits_keeps {V : Nat} {g : Nat} {n : Nat} {s0 s : State} (hV : subMask 8 V = true)
    (h : Keeps V s0 s) : Keeps V s0 (failAdmits g n s) := by
  refine h.step hV ?_
  clear h hV
  have h : Keeps 8 s s := .refl _ _
  unfold failAdmits
  repeat' first
    | with_reducible assumption
    | decide
    | with_reducible refine Keeps.ite ?_ (fun _ => ?_)
    | with_reducible refine failHandle_keeps ?_ ?_
    | with_reducible refine Keeps.foldl _ (fun _ _ _ => ?_) ?_

theorem stopPoints_keeps {V : Nat} {code : Nat} {g : Nat} {n : Nat} {s0 s : State} (hV : subMask 1073743114 V = true)
    (h : Keeps V s0 s) : Keeps V s0 (stopPoints code g n s) := by
  refine h.step hV ?_
  clear h hV
  have h : Keeps 1073743114 s s := .refl _ _
  unfold stopPoints
  repeat' first
    | with_reducible assumption
    | decide
    | with_reducible refine Keeps.ite ?_ (fun _ => ?_)
    | with_reducible refine stopFeeds_keeps ?_ ?_
    | with_reducible refine Keeps.foldl _ (fun _ _ _ => ?_) ?_

theorem departOne_keeps {V : Nat} {g : Nat} {why : Nat} {status : Nat} {n : Nat} {s0 s : State} (hV : subMask 879612523644218 V = true)
    (h : Keeps V s0 s) : Keeps V s0 (departOne g why status s n) := by
  refine h.step hV ?_
  clear h hV
  have h : Keeps 879612523644218 s s := .refl _ _
  unfold departOne
  repeat' first
    | with_reducible assumption
    | decide
    | with_reducible refine Keeps.ite ?_ (fun _ => ?_)
    | with_reducible refine State.modNode_keeps ?_ ?_
    | with_reducible refine State.modPort_keeps ?_ ?_
    | with_reducible refine bridgeDepart_keeps ?_ ?_
    | with_reducible refine bulkDepart_keeps ?_ ?_
    | with_reducible refine failAdmits_keeps ?_ ?_
    | with_reducible refine stopPoints_keeps ?_ ?_

theorem departList_keeps {V : Nat} {g : Nat} {why : Nat} {status : Nat} {gone : List Nat} {s0 s : State} (hV : subMask 879612523644218 V = true)
    (h : Keeps V s0 s) : Keeps V s0 (departList g why status gone s) := by
  refine h.step hV ?_
  clear h hV
  have h : Keeps 879612523644218 s s := .refl _ _
  unfold departList
  repeat' first
    | with_reducible assumption
    | decide
    | with_reducible refine Keeps.ite ?_ (fun _ => ?_)
    | with_reducible refine departOne_keeps ?_ ?_
    | with_reducible refine emit_keeps ?_ ?_
    | with_reducible refine Keeps.foldl _ (fun _ _ _ => ?_) ?_
    | with_reducible refine Keeps.foldl_fst _ (fun _ _ _ => ?_) ?_
    | dsimp only
    | split

theorem departNodes_keeps {V : Nat} {g : Nat} {why : Nat} {status : Nat} {ns : List Nat} {s0 s : State} (hV : subMask 879612523644218 V = true)
    (h : Keeps V s0 s) : Keeps V s0 (departNodes g why status ns s) := by
  refine h.step hV ?_
  clear h hV
  have h : Keeps 879612523644218 s s := .refl _ _
  unfold departNodes
  repeat' first
    | with_reducible assumption
    | decide
    | with_reducible refine Keeps.ite ?_ (fun _ => ?_)
    | with_reducible refine departList_keeps ?_ ?_
    | with_reducible refine Keeps.foldl _ (fun _ _ _ => ?_) ?_

theorem downLine_keeps {V : Nat} {g : Nat} {s0 s : State} (hV : subMask 985162418487296 V = true)
    (h : Keeps V s0 s) : Keeps V s0 (downLine g s) := by
  refine h.step hV ?_
  clear h hV
  have h : Keeps 985162418487296 s s := .refl _ _
  unfold downLine
  repeat' first
    | with_reducible assumption
    | decide
    | with_reducible refine Keeps.ite ?_ (fun _ => ?_)
    | with_reducible refine State.draw_keeps ?_ ?_
    | with_reducible refine out_keeps ?_ ?_
    | with_reducible refine Keeps.foldl _ (fun _ _ _ => ?_) ?_
    | with_reducible refine Keeps.foldl_fst _ (fun _ _ _ => ?_) ?_
    | dsimp only
    | split

theorem hopDown_keeps {V : Nat} {g : Nat} {flag : Bool} {status : Nat} {s0 s : State} (hV : subMask 1020350011999546 V = true)
    (h : Keeps V s0 s) : Keeps V s0 (hopDown g flag status s) := by
  refine h.step hV ?_
  clear h hV
  have h : Keeps 1020350011999546 s s := .refl _ _
  unfold hopDown
  repeat' first
    | with_reducible assumption
    | decide
    | with_reducible refine Keeps.ite ?_ (fun _ => ?_)
    | with_reducible refine State.modPort_keeps ?_ ?_
    | with_reducible refine departNodes_keeps ?_ ?_
    | with_reducible refine downLine_keeps ?_ ?_
    | with_reducible refine emitMgr_keeps ?_ ?_
    | with_reducible refine setErr_keeps ?_ ?_

theorem refuse_keeps {V : Nat} {g : Nat} {n : Nat} {reason : Nat} {s0 s : State} (hV : subMask 1020350011999546 V = true)
    (h : Keeps V s0 s) : Keeps V s0 (refuse g n reason s) := by
  refine h.step hV ?_
  clear h hV
  have h : Keeps 1020350011999546 s s := .refl _ _
  unfold refuse
  repeat' first
    | with_reducible assumption
    | decide
    | with_reducible refine Keeps.ite ?_ (fun _ => ?_)
    | with_reducible refine State.modNode_keeps ?_ ?_
    | with_reducible refine State.modPort_keeps ?_ ?_
    | with_reducible refine emitAll_keeps ?_ ?_
    | with_reducible refine enableBranch_keeps ?_ ?_
    | with_reducible refine hopDown_keeps ?_ ?_

theorem lookRead_keeps {V : Nat} {g : Nat} {n : Nat} {l : Look} {s0 s : State} (hV : subMask 879611449704490 V = true)
    (h : Keeps V s0 s) : Keeps V s0 (lookRead g n l s) := by
  refine h.step hV ?_
  clear h hV
  have h : Keeps 879611449704490 s s := .refl _ _
  unfold lookRead
  repeat' first
    | with_reducible assumption
    | decide
    | with_reducible refine Keeps.ite ?_ (fun _ => ?_)
    | with_reducible refine State.modNode_keeps ?_ ?_
    | with_reducible refine dmaRead_keeps ?_ ?_
    | with_reducible refine engineWork_keeps ?_ ?_
    | with_reducible refine Keeps.foldl _ (fun _ _ _ => ?_) ?_
    | with_reducible refine Keeps.foldl_fst _ (fun _ _ _ => ?_) ?_
    | dsimp only
    | split

theorem startLook_keeps {V : Nat} {g : Nat} {n : Nat} {f : Nat} {a : Nat} {s0 s : State} (hV : subMask 879611449704490 V = true)
    (h : Keeps V s0 s) : Keeps V s0 (startLook g n f a s) := by
  refine h.step hV ?_
  clear h hV
  have h : Keeps 879611449704490 s s := .refl _ _
  unfold startLook
  repeat' first
    | with_reducible assumption
    | decide
    | with_reducible refine Keeps.ite ?_ (fun _ => ?_)
    | with_reducible refine lookRead_keeps ?_ ?_
    | with_reducible refine Keeps.foldl _ (fun _ _ _ => ?_) ?_
    | with_reducible refine Keeps.foldl_fst _ (fun _ _ _ => ?_) ?_
    | dsimp only
    | split

theorem prospect_keeps {V : Nat} {g : Nat} {n : Nat} {w : Nat} {s0 s : State} (hV : subMask 1020350011999546 V = true)
    (h : Keeps V s0 s) : Keeps V s0 (prospect g n w s) := by
  refine h.step hV ?_
  clear h hV
  have h : Keeps 1020350011999546 s s := .refl _ _
  unfold prospect
  repeat' first
    | with_reducible assumption
    | decide
    | with_reducible refine Keeps.ite ?_ (fun _ => ?_)
    | with_reducible refine State.modNode_keeps ?_ ?_
    | with_reducible refine refuse_keeps ?_ ?_
    | with_reducible refine startLook_keeps ?_ ?_
    | with_reducible refine Keeps.foldl _ (fun _ _ _ => ?_) ?_
    | with_reducible refine Keeps.foldl_fst _ (fun _ _ _ => ?_) ?_
    | dsimp only
    | split

theorem notListed_keeps {V : Nat} {g : Nat} {n : Nat} {f : Nat} {s0 s : State} (hV : subMask 1020350011999546 V = true)
    (h : Keeps V s0 s) : Keeps V s0 (notListed g n f s) := by
  refine h.step hV ?_
  clear h hV
  have h : Keeps 1020350011999546 s s := .refl _ _
  unfold notListed
  repeat' first
    | with_reducible assumption
    | decide
    | with_reducible refine Keeps.ite ?_ (fun _ => ?_)
    | with_reducible refine State.modNode_keeps ?_ ?_
    | with_reducible refine leaseRead_keeps ?_ ?_
    | with_reducible refine prospect_keeps ?_ ?_
    | with_reducible refine refuse_keeps ?_ ?_

theorem lookFirst_keeps {V : Nat} {g : Nat} {n : Nat} {s0 s : State} (hV : subMask 1020350011999546 V = true)
    (h : Keeps V s0 s) : Keeps V s0 (lookFirst g n s) := by
  refine h.step hV ?_
  clear h hV
  have h : Keeps 1020350011999546 s s := .refl _ _
  unfold lookFirst
  repeat' first
    | with_reducible assumption
    | decide
    | with_reducible refine Keeps.ite ?_ (fun _ => ?_)
    | with_reducible refine notListed_keeps ?_ ?_
    | with_reducible refine startLook_keeps ?_ ?_
    | with_reducible refine Keeps.foldl _ (fun _ _ _ => ?_) ?_
    | with_reducible refine Keeps.foldl_fst _ (fun _ _ _ => ?_) ?_
    | dsimp only
    | split

theorem demote_keeps {V : Nat} {g : Nat} {n : Nat} {reason : Nat} {s0 s : State} (hV : subMask 879612523447594 V = true)
    (h : Keeps V s0 s) : Keeps V s0 (demote g n reason s) := by
  refine h.step hV ?_
  clear h hV
  have h : Keeps 879612523447594 s s := .refl _ _
  unfold demote
  repeat' first
    | with_reducible assumption
    | decide
    | with_reducible refine Keeps.ite ?_ (fun _ => ?_)
    | with_reducible refine State.modNode_keeps ?_ ?_
    | with_reducible refine emitAll_keeps ?_ ?_
    | with_reducible refine stopPoints_keeps ?_ ?_

theorem loadNode_keeps {V : Nat} {g : Nat} {n : Nat} {planid : Nat} {es : List AEntry} {s0 s : State} (hV : subMask 985164565970992 V = true)
    (h : Keeps V s0 s) : Keeps V s0 (loadNode g n planid es s) := by
  refine h.step hV ?_
  clear h hV
  have h : Keeps 985164565970992 s s := .refl _ _
  unfold loadNode
  repeat' first
    | with_reducible assumption
    | decide
    | with_reducible refine Keeps.ite ?_ (fun _ => ?_)
    | with_reducible refine State.modNode_keeps ?_ ?_
    | with_reducible refine mgmtWrite_keeps ?_ ?_
    | with_reducible refine Keeps.foldl _ (fun _ _ _ => ?_) ?_

theorem mgmtRead_keeps {V : Nat} {g : Nat} {node : Nat} {addr : Nat} {c : Nat} {purpose : Purpose} {s0 s : State} (hV : subMask 985164565970960 V = true)
    (h : Keeps V s0 s) : Keeps V s0 (mgmtRead g node addr c purpose s) := by
  refine h.step hV ?_
  clear h hV
  have h : Keeps 985164565970960 s s := .refl _ _
  unfold mgmtRead
  repeat' first
    | with_reducible assumption
    | decide
    | with_reducible refine Keeps.ite ?_ (fun _ => ?_)
    | with_reducible refine sendMgmt_keeps ?_ ?_

theorem writeRoute_keeps {V : Nat} {g : Nat} {n : Nat} {h0 : Nat} {s0 s : State} (hV : subMask 985164565970992 V = true)
    (h : Keeps V s0 s) : Keeps V s0 (writeRoute g n s h0) := by
  refine h.step hV ?_
  clear h hV
  have h : Keeps 985164565970992 s s := .refl _ _
  unfold writeRoute
  repeat' first
    | with_reducible assumption
    | decide
    | with_reducible refine Keeps.ite ?_ (fun _ => ?_)
    | with_reducible refine State.modNode_keeps ?_ ?_
    | with_reducible refine mgmtWrite_keeps ?_ ?_
    | with_reducible refine Keeps.foldl _ (fun _ _ _ => ?_) ?_
    | with_reducible refine Keeps.foldl_fst _ (fun _ _ _ => ?_) ?_
    | dsimp only
    | split

theorem arrive_keeps {V : Nat} {g : Nat} {n : Nat} {s0 s : State} (hV : subMask 1020350011802938 V = true)
    (h : Keeps V s0 s) : Keeps V s0 (arrive g n s) := by
  refine h.step hV ?_
  clear h hV
  have h : Keeps 1020350011802938 s s := .refl _ _
  unfold arrive
  repeat' first
    | with_reducible assumption
    | decide
    | with_reducible refine Keeps.ite ?_ (fun _ => ?_)
    | with_reducible refine State.modNode_keeps ?_ ?_
    | with_reducible refine demote_keeps ?_ ?_
    | with_reducible refine emitAll_keeps ?_ ?_
    | with_reducible refine loadNode_keeps ?_ ?_
    | with_reducible refine mgmtRead_keeps ?_ ?_
    | with_reducible refine writeRoute_keeps ?_ ?_
    | with_reducible refine Keeps.foldl _ (fun _ _ _ => ?_) ?_

theorem leaseGiven_keeps {V : Nat} {g : Nat} {n : Nat} {w : Nat} {readers : List Nat} {s0 s : State} (hV : subMask 1020350011802938 V = true)
    (h : Keeps V s0 s) : Keeps V s0 (leaseGiven g n w readers s) := by
  refine h.step hV ?_
  clear h hV
  have h : Keeps 1020350011802938 s s := .refl _ _
  unfold leaseGiven
  repeat' first
    | with_reducible assumption
    | decide
    | with_reducible refine Keeps.ite ?_ (fun _ => ?_)
    | with_reducible refine State.modNode_keeps ?_ ?_
    | with_reducible refine arrive_keeps ?_ ?_
    | with_reducible refine emitMgr_keeps ?_ ?_
    | with_reducible refine zeroAll_keeps ?_ ?_

theorem admitCommit_keeps {V : Nat} {g : Nat} {n : Nat} {s0 s : State} (hV : subMask 1020350011802938 V = true)
    (h : Keeps V s0 s) : Keeps V s0 (admitCommit g n s) := by
  refine h.step hV ?_
  clear h hV
  have h : Keeps 1020350011802938 s s := .refl _ _
  unfold admitCommit
  repeat' first
    | with_reducible assumption
    | decide
    | with_reducible refine Keeps.ite ?_ (fun _ => ?_)
    | with_reducible refine State.modNode_keeps ?_ ?_
    | with_reducible refine arrive_keeps ?_ ?_
    | with_reducible refine leaseGiven_keeps ?_ ?_
    | with_reducible refine leaseRead_keeps ?_ ?_

theorem passed_keeps {V : Nat} {g : Nat} {n : Nat} {s0 s : State} (hV : subMask 1020350011802938 V = true)
    (h : Keeps V s0 s) : Keeps V s0 (passed g n s) := by
  refine h.step hV ?_
  clear h hV
  have h : Keeps 1020350011802938 s s := .refl _ _
  unfold passed
  repeat' first
    | with_reducible assumption
    | decide
    | with_reducible refine Keeps.ite ?_ (fun _ => ?_)
    | with_reducible refine State.modNode_keeps ?_ ?_
    | with_reducible refine admitCommit_keeps ?_ ?_

theorem admitCheck_keeps {V : Nat} {g : Nat} {n : Nat} {s0 s : State} (hV : subMask 1020350011999546 V = true)
    (h : Keeps V s0 s) : Keeps V s0 (admitCheck g n s) := by
  refine h.step hV ?_
  clear h hV
  have h : Keeps 1020350011999546 s s := .refl _ _
  unfold admitCheck
  repeat' first
    | with_reducible assumption
    | decide
    | with_reducible refine Keeps.ite ?_ (fun _ => ?_)
    | with_reducible refine State.modNode_keeps ?_ ?_
    | with_reducible refine lookFirst_keeps ?_ ?_
    | with_reducible refine passed_keeps ?_ ?_
    | with_reducible refine refuse_keeps ?_ ?_

theorem admitFinished_keeps {V : Nat} {k : Nat} {f : Nat} {s0 s : State} (hV : subMask 879611449704458 V = true)
    (h : Keeps V s0 s) : Keeps V s0 (admitFinished k f s) := by
  induction k generalizing s with
  | zero =>
    unfold admitFinished
    exact h
  | succ k ih =>
    unfold admitFinished
    repeat' first
      | with_reducible assumption
      | exact subMask_trans (by decide) hV
      | with_reducible refine Keeps.ite ?_ (fun _ => ?_)
      | with_reducible refine State.modFn_keeps ?_ ?_
      | with_reducible refine complete_keeps ?_ ?_
      | with_reducible refine Keeps.foldl _ (fun _ _ _ => ?_) ?_
      | with_reducible refine Keeps.foldl_fst _ (fun _ _ _ => ?_) ?_
      | dsimp only
      | split
      | (with_reducible refine ih ?_)

theorem settleChan_keeps {V : Nat} {k : Nat} {s0 s : State} (hV : subMask 879611449835530 V = true)
    (h : Keeps V s0 s) : Keeps V s0 (settleChan k s) := by
  refine h.step hV ?_
  clear h hV
  have h : Keeps 879611449835530 s s := .refl _ _
  unfold settleChan
  repeat' first
    | with_reducible assumption
    | decide
    | with_reducible refine Keeps.ite ?_ (fun _ => ?_)
    | with_reducible refine State.modChan_keeps ?_ ?_
    | with_reducible refine endJobNow_keeps ?_ ?_
    | with_reducible refine Keeps.foldl _ (fun _ _ _ => ?_) ?_
    | with_reducible refine Keeps.foldl_fst _ (fun _ _ _ => ?_) ?_
    | dsimp only
    | split

theorem afterAnswer_keeps {V : Nat} {k : Nat} {s0 s : State} (hV : subMask 879611449835530 V = true)
    (h : Keeps V s0 s) : Keeps V s0 (afterAnswer k s) := by
  refine h.step hV ?_
  clear h hV
  have h : Keeps 879611449835530 s s := .refl _ _
  unfold afterAnswer
  repeat' first
    | with_reducible assumption
    | decide
    | with_reducible refine Keeps.ite ?_ (fun _ => ?_)
    | with_reducible refine endJobNow_keeps ?_ ?_
    | with_reducible refine settleChan_keeps ?_ ?_

theorem setQuality_keeps {V : Nat} {p : Nat} {q : Nat} {s0 s : State} (hV : subMask 1073743104 V = true)
    (h : Keeps V s0 s) : Keeps V s0 (setQuality p q s) := by
  refine h.step hV ?_
  clear h hV
  have h : Keeps 1073743104 s s := .refl _ _
  unfold setQuality
  repeat' first
    | with_reducible assumption
    | decide
    | with_reducible refine Keeps.ite ?_ (fun _ => ?_)
    | with_reducible refine State.setRecord_keeps ?_ ?_
    | with_reducible refine noteChange_keeps ?_ ?_

theorem ageRecord_keeps {V : Nat} {p : Nat} {s0 s : State} (hV : subMask 1073743104 V = true)
    (h : Keeps V s0 s) : Keeps V s0 (ageRecord s p) := by
  refine h.step hV ?_
  clear h hV
  have h : Keeps 1073743104 s s := .refl _ _
  unfold ageRecord
  repeat' first
    | with_reducible assumption
    | decide
    | with_reducible refine Keeps.ite ?_ (fun _ => ?_)
    | with_reducible refine State.setRecord_keeps ?_ ?_
    | with_reducible refine setQuality_keeps ?_ ?_

theorem ageAll_keeps {V : Nat} {s0 s : State} (hV : subMask 1073743104 V = true)
    (h : Keeps V s0 s) : Keeps V s0 (ageAll s) := by
  refine h.step hV ?_
  clear h hV
  have h : Keeps 1073743104 s s := .refl _ _
  unfold ageAll
  repeat' first
    | with_reducible assumption
    | decide
    | with_reducible refine Keeps.ite ?_ (fun _ => ?_)
    | with_reducible refine ageRecord_keeps ?_ ?_
    | with_reducible refine Keeps.foldl _ (fun _ _ _ => ?_) ?_

theorem ageBy_keeps {V : Nat} {k : Nat} {s0 s : State} (hV : subMask 1073743104 V = true)
    (h : Keeps V s0 s) : Keeps V s0 (ageBy k s) := by
  refine h.step hV ?_
  clear h hV
  have h : Keeps 1073743104 s s := .refl _ _
  unfold ageBy
  repeat' first
    | with_reducible assumption
    | decide
    | with_reducible refine Keeps.ite ?_ (fun _ => ?_)
    | with_reducible refine State.setRecord_keeps ?_ ?_
    | with_reducible refine setQuality_keeps ?_ ?_
    | with_reducible refine Keeps.foldl _ (fun _ _ _ => ?_) ?_

theorem countBlk_keeps {V : Nat} {g : Nat} {k : Nat} {s0 s : State} (hV : subMask 2 V = true)
    (h : Keeps V s0 s) : Keeps V s0 (countBlk g k s) := by
  refine h.step hV ?_
  clear h hV
  have h : Keeps 2 s s := .refl _ _
  unfold countBlk
  repeat' first
    | with_reducible assumption
    | decide
    | with_reducible refine Keeps.ite ?_ (fun _ => ?_)
    | with_reducible refine countReg_keeps ?_ ?_

theorem countMis_keeps {V : Nat} {g : Nat} {k : Nat} {s0 s : State} (hV : subMask 2 V = true)
    (h : Keeps V s0 s) : Keeps V s0 (countMis g k s) := by
  refine h.step hV ?_
  clear h hV
  have h : Keeps 2 s s := .refl _ _
  unfold countMis
  repeat' first
    | with_reducible assumption
    | decide
    | with_reducible refine Keeps.ite ?_ (fun _ => ?_)
    | with_reducible refine countReg_keeps ?_ ?_
    | with_reducible refine Keeps.foldl _ (fun _ _ _ => ?_) ?_
    | with_reducible refine Keeps.foldl_fst _ (fun _ _ _ => ?_) ?_
    | dsimp only
    | split

theorem displaced_keeps {V : Nat} {g : Nat} {h0 : Option (List Byte)} {s0 s : State} (hV : subMask 879611449704458 V = true)
    (h : Keeps V s0 s) : Keeps V s0 (displaced g h0 s) := by
  refine h.step hV ?_
  clear h hV
  have h : Keeps 879611449704458 s s := .refl _ _
  unfold displaced
  repeat' first
    | with_reducible assumption
    | decide
    | with_reducible refine Keeps.ite ?_ (fun _ => ?_)
    | with_reducible refine emit_keeps ?_ ?_
    | with_reducible refine Keeps.foldl _ (fun _ _ _ => ?_) ?_
    | with_reducible refine Keeps.foldl_fst _ (fun _ _ _ => ?_) ?_
    | dsimp only
    | split

theorem setQuarPort_keeps {V : Nat} {g : Nat} {on : Bool} {s0 s : State} (hV : subMask 18 V = true)
    (h : Keeps V s0 s) : Keeps V s0 (setQuarPort g on s) := by
  refine h.step hV ?_
  clear h hV
  have h : Keeps 18 s s := .refl _ _
  unfold setQuarPort
  repeat' first
    | with_reducible assumption
    | decide
    | with_reducible refine Keeps.ite ?_ (fun _ => ?_)
    | with_reducible refine State.modPort_keeps ?_ ?_
    | with_reducible refine State.setSreg_keeps ?_ ?_

theorem orderGate_keeps {V : Nat} {g : Nat} {gate : Option (Nat × Nat)} {n : Nat} {s0 s : State} (hV : subMask 1020350011999546 V = true)
    (h : Keeps V s0 s) : Keeps V s0 (orderGate g gate n s) := by
  refine h.step hV ?_
  clear h hV
  have h : Keeps 1020350011999546 s s := .refl _ _
  unfold orderGate
  repeat' first
    | with_reducible assumption
    | decide
    | with_reducible refine Keeps.ite ?_ (fun _ => ?_)
    | with_reducible refine State.modNode_keeps ?_ ?_
    | with_reducible refine hopDown_keeps ?_ ?_
    | with_reducible refine mgmtWrite_keeps ?_ ?_
    | with_reducible refine setQuarPort_keeps ?_ ?_
    | with_reducible refine Keeps.foldl _ (fun _ _ _ => ?_) ?_
    | with_reducible refine Keeps.foldl_fst _ (fun _ _ _ => ?_) ?_
    | dsimp only
    | split

theorem noteTable_keeps {V : Nat} {type : Nat} {g : Nat} {n : Nat} {d : List Byte} {s0 s : State} (hV : subMask 2097152 V = true)
    (h : Keeps V s0 s) : Keeps V s0 (noteTable type g n d s) := by
  refine h.step hV ?_
  clear h hV
  have h : Keeps 2097152 s s := .refl _ _
  unfold noteTable
  repeat' first
    | with_reducible assumption
    | decide
    | with_reducible refine Keeps.ite ?_ (fun _ => ?_)
    | with_reducible refine Keeps.foldl _ (fun _ _ _ => ?_) ?_
    | with_reducible refine Keeps.foldl_fst _ (fun _ _ _ => ?_) ?_
    | dsimp only
    | split
    | with_reducible refine Keeps.set_journal ?_ ?_

theorem quarAdd_keeps {V : Nat} {g : Nat} {h0 : List Byte} {s0 s : State} (hV : subMask 2621440 V = true)
    (h : Keeps V s0 s) : Keeps V s0 (quarAdd g h0 s).1 := by
  refine h.step hV ?_
  clear h hV
  have h : Keeps 2621440 s s := .refl _ _
  unfold quarAdd
  repeat' first
    | with_reducible assumption
    | decide
    | with_reducible refine Keeps.ite ?_ (fun _ => ?_)
    | with_reducible refine noteTable_keeps ?_ ?_
    | with_reducible refine Keeps.foldl _ (fun _ _ _ => ?_) ?_
    | with_reducible refine Keeps.foldl_fst _ (fun _ _ _ => ?_) ?_
    | dsimp only
    | split
    | with_reducible refine Keeps.set_quar ?_ ?_

theorem quarantine_keeps {V : Nat} {g : Nat} {n : Nat} {obs : Nat} {s0 s : State} (hV : subMask 1020350014620986 V = true)
    (h : Keeps V s0 s) : Keeps V s0 (quarantine g n obs s) := by
  refine h.step hV ?_
  clear h hV
  have h : Keeps 1020350014620986 s s := .refl _ _
  unfold quarantine
  repeat' first
    | with_reducible assumption
    | decide
    | with_reducible refine Keeps.ite ?_ (fun _ => ?_)
    | with_reducible refine State.modNode_keeps ?_ ?_
    | with_reducible refine departList_keeps ?_ ?_
    | with_reducible refine departOne_keeps ?_ ?_
    | with_reducible refine displaced_keeps ?_ ?_
    | with_reducible refine emitAll_keeps ?_ ?_
    | with_reducible refine orderGate_keeps ?_ ?_
    | with_reducible refine quarAdd_keeps ?_ ?_
    | with_reducible refine setErr_keeps ?_ ?_
    | with_reducible refine Keeps.foldl _ (fun _ _ _ => ?_) ?_
    | with_reducible refine Keeps.foldl_fst _ (fun _ _ _ => ?_) ?_
    | dsimp only
    | split

theorem hostile_keeps {V : Nat} {g : Nat} {n : Nat} {obs : Nat} {s0 s : State} (hV : subMask 1020350014620986 V = true)
    (h : Keeps V s0 s) : Keeps V s0 (hostile g n obs s) := by
  refine h.step hV ?_
  clear h hV
  have h : Keeps 1020350014620986 s s := .refl _ _
  unfold hostile
  repeat' first
    | with_reducible assumption
    | decide
    | with_reducible refine Keeps.ite ?_ (fun _ => ?_)
    | with_reducible refine quarantine_keeps ?_ ?_

theorem hostileFirst_keeps {V : Nat} {g : Nat} {obs : Nat} {s0 s : State} (hV : subMask 1020350014620986 V = true)
    (h : Keeps V s0 s) : Keeps V s0 (hostileFirst g obs s) := by
  refine h.step hV ?_
  clear h hV
  have h : Keeps 1020350014620986 s s := .refl _ _
  unfold hostileFirst
  repeat' first
    | with_reducible assumption
    | decide
    | with_reducible refine Keeps.ite ?_ (fun _ => ?_)
    | with_reducible refine hostile_keeps ?_ ?_

theorem miss_keeps {V : Nat} {g : Nat} {n : Nat} {s0 s : State} (hV : subMask 879612523447594 V = true)
    (h : Keeps V s0 s) : Keeps V s0 (miss g n s) := by
  refine h.step hV ?_
  clear h hV
  have h : Keeps 879612523447594 s s := .refl _ _
  unfold miss
  repeat' first
    | with_reducible assumption
    | decide
    | with_reducible refine Keeps.ite ?_ (fun _ => ?_)
    | with_reducible refine State.modNode_keeps ?_ ?_
    | with_reducible refine demote_keeps ?_ ?_

theorem alertAstray_keeps {V : Nat} {g : Nat} {blk : Nat} {mis : Bool} {s0 s : State} (hV : subMask 1020350014620986 V = true)
    (h : Keeps V s0 s) : Keeps V s0 (alertAstray g blk mis s) := by
  refine h.step hV ?_
  clear h hV
  have h : Keeps 1020350014620986 s s := .refl _ _
  unfold alertAstray
  repeat' first
    | with_reducible assumption
    | decide
    | with_reducible refine Keeps.ite ?_ (fun _ => ?_)
    | with_reducible refine countBlk_keeps ?_ ?_
    | with_reducible refine countMis_keeps ?_ ?_
    | with_reducible refine hostile_keeps ?_ ?_
    | with_reducible refine hostileFirst_keeps ?_ ?_
    | with_reducible refine miss_keeps ?_ ?_
    | with_reducible refine Keeps.foldl _ (fun _ _ _ => ?_) ?_
    | with_reducible refine Keeps.foldl_fst _ (fun _ _ _ => ?_) ?_
    | dsimp only
    | split

theorem onNode_keeps {V : Nat} {f : Nat} {x : Entry} {free : Bool} {k : Nat → Nat → State → State} {s0 s : State} (hV : subMask 879611449704458 V = true)
    (hk : ∀ (x0 : Nat) (x1 : Nat) (t : State), Keeps V s0 t → Keeps V s0 (k x0 x1 t)) (h : Keeps V s0 s) :
    Keeps V s0 (onNode f x free k s) := by
  unfold onNode
  repeat' first
    | with_reducible assumption
    | exact subMask_trans (by decide) hV
    | with_reducible refine Keeps.ite ?_ (fun _ => ?_)
    | with_reducible refine finish_keeps ?_ ?_
    | with_reducible refine Keeps.foldl _ (fun _ _ _ => ?_) ?_
    | with_reducible refine Keeps.foldl_fst _ (fun _ _ _ => ?_) ?_
    | dsimp only
    | split
    | (with_reducible refine hk _ _ _ ?_)

theorem alertBind_keeps {V : Nat} {f : Nat} {x : Entry} {s0 s : State} (hV : subMask 879611449704458 V = true)
    (h : Keeps V s0 s) : Keeps V s0 (alertBind f x s) := by
  refine h.step hV ?_
  clear h hV
  have h : Keeps 879611449704458 s s := .refl _ _
  unfold alertBind
  repeat' first
    | with_reducible assumption
    | decide
    | with_reducible refine Keeps.ite ?_ (fun _ => ?_)
    | with_reducible refine State.modFn_keeps ?_ ?_
    | with_reducible refine finish_keeps ?_ ?_
    | with_reducible refine onNode_keeps ?_ (fun _ _ _ _ => ?_) ?_

theorem alertTo_keeps {V : Nat} {f : Nat} {src : Nat} {origin : Nat} {wher : Nat} {isRule : Bool} {code : Nat} {aprio : Nat} {aseq : Nat} {data : Nat} {s0 s : State} (hV : subMask 8 V = true)
    (h : Keeps V s0 s) : Keeps V s0 (alertTo f src origin wher isRule code aprio aseq data s) := by
  refine h.step hV ?_
  clear h hV
  have h : Keeps 8 s s := .refl _ _
  unfold alertTo
  repeat' first
    | with_reducible assumption
    | decide
    | with_reducible refine Keeps.ite ?_ (fun _ => ?_)
    | with_reducible refine State.modFn_keeps ?_ ?_
    | with_reducible refine raiseSrc_keeps ?_ ?_

theorem alertIn_keeps {V : Nat} {g : Nat} {blk : Nat} {b : List Byte} {s0 s : State} (hV : subMask 985162418487354 V = true)
    (h : Keeps V s0 s) : Keeps V s0 (alertIn g blk b s) := by
  refine h.step hV ?_
  clear h hV
  have h : Keeps 985162418487354 s s := .refl _ _
  unfold alertIn
  repeat' first
    | with_reducible assumption
    | decide
    | with_reducible refine Keeps.ite ?_ (fun _ => ?_)
    | with_reducible refine State.modNode_keeps ?_ ?_
    | with_reducible refine ackAlert_keeps ?_ ?_
    | with_reducible refine alertTo_keeps ?_ ?_
    | with_reducible refine countReg_keeps ?_ ?_

theorem windowBabble_keeps {V : Nat} {g : Nat} {b : RxBlock} {s0 s : State} (hV : subMask 1020350014620986 V = true)
    (h : Keeps V s0 s) : Keeps V s0 (windowBabble g b s) := by
  refine h.step hV ?_
  clear h hV
  have h : Keeps 1020350014620986 s s := .refl _ _
  unfold windowBabble
  repeat' first
    | with_reducible assumption
    | decide
    | with_reducible refine Keeps.ite ?_ (fun _ => ?_)
    | with_reducible refine countBlk_keeps ?_ ?_
    | with_reducible refine hostileFirst_keeps ?_ ?_
    | with_reducible refine Keeps.foldl _ (fun _ _ _ => ?_) ?_
    | with_reducible refine Keeps.foldl_fst _ (fun _ _ _ => ?_) ?_
    | dsimp only
    | split

theorem alertReceived_keeps {V : Nat} {g : Nat} {blk : Nat} {mis : Bool} {w : W64} {s0 s : State} (hV : subMask 1020350014620986 V = true)
    (h : Keeps V s0 s) : Keeps V s0 (alertReceived g blk mis w s) := by
  refine h.step hV ?_
  clear h hV
  have h : Keeps 1020350014620986 s s := .refl _ _
  unfold alertReceived
  repeat' first
    | with_reducible assumption
    | decide
    | with_reducible refine Keeps.ite ?_ (fun _ => ?_)
    | with_reducible refine alertAstray_keeps ?_ ?_
    | with_reducible refine alertIn_keeps ?_ ?_
    | with_reducible refine countBlk_keeps ?_ ?_
    | with_reducible refine countMis_keeps ?_ ?_
    | with_reducible refine windowBabble_keeps ?_ ?_
    | with_reducible refine Keeps.foldl _ (fun _ _ _ => ?_) ?_
    | with_reducible refine Keeps.foldl_fst _ (fun _ _ _ => ?_) ?_
    | dsimp only
    | split

theorem alignMeasurement_keeps {V : Nat} {t0 : Nat} {ps : Int} {s0 s : State} (hV : subMask 879611449704458 V = true)
    (h : Keeps V s0 s) : Keeps V s0 (alignMeasurement t0 ps s) := by
  refine h.step hV ?_
  clear h hV
  have h : Keeps 879611449704458 s s := .refl _ _
  unfold alignMeasurement
  repeat' first
    | with_reducible assumption
    | decide
    | with_reducible refine Keeps.ite ?_ (fun _ => ?_)
    | with_reducible refine State.modTile_keeps ?_ ?_
    | with_reducible refine emitMgr_keeps ?_ ?_
    | with_reducible refine setErr_keeps ?_ ?_

theorem holdBranch_keeps {V : Nat} {g : Nat} {pk : Nat} {br : Nat} {s0 s : State} (hV : subMask 16 V = true)
    (h : Keeps V s0 s) : Keeps V s0 (holdBranch g pk br s) := by
  refine h.step hV ?_
  clear h hV
  have h : Keeps 16 s s := .refl _ _
  unfold holdBranch
  repeat' first
    | with_reducible assumption
    | decide
    | with_reducible refine Keeps.ite ?_ (fun _ => ?_)
    | with_reducible refine State.modPort_keeps ?_ ?_

end Sys2Proof.Machine
end

