-- ==== Sys2Proof/Laws/Frames2.lean ====
section
/-!
SUPPORT. Frames, part 2 of 5: one lemma per operation of the machine, in the order in which they call each other: it
keeps every part of the state outside its mask, the queue, the part and the invariant (Laws/Keeps.lean).
-/

set_option Elab.async false
namespace Sys2Proof.Machine

theorem makeAbsent_keeps {V : Nat} {g : Nat} {n : Nat} {s0 s : State} (hV : subMask 32 V = true)
    (h : Keeps V s0 s) : Keeps V s0 (makeAbsent g n s) := by
  refine h.step hV ?_
  clear h hV
  have h : Keeps 32 s s := .refl _ _
  unfold makeAbsent
  repeat' first
    | with_reducible assumption
    | decide
    | with_reducible refine Keeps.ite ?_ (fun _ => ?_)
    | with_reducible refine State.modNode_keeps ?_ ?_
    | with_reducible refine Keeps.foldl _ (fun _ _ _ => ?_) ?_
    | with_reducible refine Keeps.foldl_fst _ (fun _ _ _ => ?_) ?_
    | dsimp only
    | split

theorem refuseLoc_keeps {V : Nat} {g : Nat} {pk : Nat} {br : Nat} {reason : Nat} {errBit : Nat} {s0 s : State} (hV : subMask 879611449704474 V = true)
    (h : Keeps V s0 s) : Keeps V s0 (refuseLoc g pk br reason errBit s) := by
  refine h.step hV ?_
  clear h hV
  have h : Keeps 879611449704474 s s := .refl _ _
  unfold refuseLoc
  repeat' first
    | with_reducible assumption
    | decide
    | with_reducible refine Keeps.ite ?_ (fun _ => ?_)
    | with_reducible refine State.modPort_keeps ?_ ?_
    | with_reducible refine emit_keeps ?_ ?_
    | with_reducible refine setErr_keeps ?_ ?_

theorem startNumber_keeps {V : Nat} {g : Nat} {pk : Nat} {br : Nat} {n : Nat} {s0 s : State} (hV : subMask 48 V = true)
    (h : Keeps V s0 s) : Keeps V s0 (startNumber g pk br n s) := by
  refine h.step hV ?_
  clear h hV
  have h : Keeps 48 s s := .refl _ _
  unfold startNumber
  repeat' first
    | with_reducible assumption
    | decide
    | with_reducible refine Keeps.ite ?_ (fun _ => ?_)
    | with_reducible refine State.modNode_keeps ?_ ?_
    | with_reducible refine State.modPort_keeps ?_ ?_
    | with_reducible refine Keeps.foldl _ (fun _ _ _ => ?_) ?_
    | with_reducible refine Keeps.foldl_fst _ (fun _ _ _ => ?_) ?_
    | dsimp only
    | split

theorem writeRoutes_keeps {V : Nat} {g : Nat} {n : Nat} {depth : Nat} {path : Nat} {s0 s : State} (hV : subMask 985164565970992 V = true)
    (h : Keeps V s0 s) : Keeps V s0 (writeRoutes g n depth path s) := by
  refine h.step hV ?_
  clear h hV
  have h : Keeps 985164565970992 s s := .refl _ _
  unfold writeRoutes
  repeat' first
    | with_reducible assumption
    | decide
    | with_reducible refine Keeps.ite ?_ (fun _ => ?_)
    | with_reducible refine writeRoute_keeps ?_ ?_
    | with_reducible refine Keeps.foldl _ (fun _ _ _ => ?_) ?_

theorem unbind_keeps {V : Nat} {g : Nat} {n : Nat} {s0 s : State} (hV : subMask 985164568068144 V = true)
    (h : Keeps V s0 s) : Keeps V s0 (unbind g n s) := by
  refine h.step hV ?_
  clear h hV
  have h : Keeps 985164568068144 s s := .refl _ _
  unfold unbind
  repeat' first
    | with_reducible assumption
    | decide
    | with_reducible refine Keeps.ite ?_ (fun _ => ?_)
    | with_reducible refine State.modNode_keeps ?_ ?_
    | with_reducible refine noteTable_keeps ?_ ?_
    | with_reducible refine writeRoutes_keeps ?_ ?_

theorem takeNumber_keeps {V : Nat} {g depth path n : Nat} {s0 s t : State} (hV : subMask 985164568068144 V = true)
    (h : Keeps V s0 s) (e : takeNumber g depth path s = some (n, t)) : Keeps V s0 t := by
  refine h.step hV ?_
  clear h hV
  have h : Keeps 985164568068144 s s := .refl _ _
  unfold takeNumber at e
  repeat' first
    | (dsimp only at e)
    | (split at e)
    | (cases e)
  repeat' first
    | with_reducible assumption
    | decide
    | with_reducible refine Keeps.ite ?_ (fun _ => ?_)
    | with_reducible refine State.modNode_keeps ?_ ?_
    | with_reducible refine noteTable_keeps ?_ ?_
    | with_reducible refine unbind_keeps ?_ ?_

theorem tryTrain_keeps {V : Nat} {g : Nat} {s0 s : State} (hV : subMask 1020348940156986 V = true)
    (h : Keeps V s0 s) : Keeps V s0 (tryTrain g s) := by
  refine h.step hV ?_
  clear h hV
  have h : Keeps 1020348940156986 s s := .refl _ _
  unfold tryTrain
  repeat' first
    | with_reducible assumption
    | decide
    | with_reducible refine Keeps.ite ?_ (fun _ => ?_)
    | with_reducible refine State.modPort_keeps ?_ ?_
    | with_reducible refine downLine_keeps ?_ ?_
    | with_reducible refine out_keeps ?_ ?_
    | with_reducible refine refuseLoc_keeps ?_ ?_
    | with_reducible refine startNumber_keeps ?_ ?_
    | with_reducible refine takeNumber_keeps ?_ ?_ (by assumption)
    | with_reducible refine Keeps.foldl _ (fun _ _ _ => ?_) ?_
    | with_reducible refine Keeps.foldl_fst _ (fun _ _ _ => ?_) ?_
    | dsimp only
    | split

theorem enumAfresh_keeps {V : Nat} {g : Nat} {n : Nat} {s0 s : State} (hV : subMask 1020348940156986 V = true)
    (h : Keeps V s0 s) : Keeps V s0 (enumAfresh g n s) := by
  refine h.step hV ?_
  clear h hV
  have h : Keeps 1020348940156986 s s := .refl _ _
  unfold enumAfresh
  repeat' first
    | with_reducible assumption
    | decide
    | with_reducible refine Keeps.ite ?_ (fun _ => ?_)
    | with_reducible refine State.modNode_keeps ?_ ?_
    | with_reducible refine State.modPort_keeps ?_ ?_
    | with_reducible refine holdBranch_keeps ?_ ?_
    | with_reducible refine makeAbsent_keeps ?_ ?_
    | with_reducible refine tryTrain_keeps ?_ ?_

theorem releaseUnlisted_keeps {V : Nat} {s0 s : State} (hV : subMask 1020348940156986 V = true)
    (h : Keeps V s0 s) : Keeps V s0 (releaseUnlisted s) := by
  refine h.step hV ?_
  clear h hV
  have h : Keeps 1020348940156986 s s := .refl _ _
  unfold releaseUnlisted
  repeat' first
    | with_reducible assumption
    | decide
    | with_reducible refine Keeps.ite ?_ (fun _ => ?_)
    | with_reducible refine enumAfresh_keeps ?_ ?_
    | with_reducible refine Keeps.foldl _ (fun _ _ _ => ?_) ?_

theorem allowSet_keeps {V : Nat} {f : Nat} {a : Option Nat} {s0 s : State} (hV : subMask 1020348940156986 V = true)
    (h : Keeps V s0 s) : Keeps V s0 (allowSet f a s) := by
  refine h.step hV ?_
  clear h hV
  have h : Keeps 1020348940156986 s s := .refl _ _
  unfold allowSet
  repeat' first
    | with_reducible assumption
    | decide
    | with_reducible refine Keeps.ite ?_ (fun _ => ?_)
    | with_reducible refine State.modFn_keeps ?_ ?_
    | with_reducible refine releaseUnlisted_keeps ?_ ?_

theorem allowlistDone_keeps {V : Nat} {f : Nat} {x : Entry} {d : List Byte} {s0 s : State} (hV : subMask 1020348940156986 V = true)
    (h : Keeps V s0 s) : Keeps V s0 (allowlistDone f x d s) := by
  refine h.step hV ?_
  clear h hV
  have h : Keeps 1020348940156986 s s := .refl _ _
  unfold allowlistDone
  repeat' first
    | with_reducible assumption
    | decide
    | with_reducible refine Keeps.ite ?_ (fun _ => ?_)
    | with_reducible refine allowSet_keeps ?_ ?_
    | with_reducible refine finish_keeps ?_ ?_

theorem genSeen_keeps {V : Nat} {f : Nat} {gen : Nat} {s0 s : State} (hV : subMask 1020348940156986 V = true)
    (h : Keeps V s0 s) : Keeps V s0 (genSeen f gen s) := by
  refine h.step hV ?_
  clear h hV
  have h : Keeps 1020348940156986 s s := .refl _ _
  unfold genSeen
  repeat' first
    | with_reducible assumption
    | decide
    | with_reducible refine Keeps.ite ?_ (fun _ => ?_)
    | with_reducible refine State.modFn_keeps ?_ ?_
    | with_reducible refine releaseUnlisted_keeps ?_ ?_

theorem sendNonce_keeps {V : Nat} {g : Nat} {n : Nat} {s0 s : State} (hV : subMask 985164566233136 V = true)
    (h : Keeps V s0 s) : Keeps V s0 (sendNonce g n s) := by
  refine h.step hV ?_
  clear h hV
  have h : Keeps 985164566233136 s s := .refl _ _
  unfold sendNonce
  repeat' first
    | with_reducible assumption
    | decide
    | with_reducible refine Keeps.ite ?_ (fun _ => ?_)
    | with_reducible refine State.draw_keeps ?_ ?_
    | with_reducible refine State.modNode_keeps ?_ ?_
    | with_reducible refine mgmtWrite_keeps ?_ ?_
    | with_reducible refine Keeps.set_nonces ?_ ?_

theorem listed_keeps {V : Nat} {g : Nat} {n : Nat} {s0 s : State} (hV : subMask 1020350012261690 V = true)
    (h : Keeps V s0 s) : Keeps V s0 (listed g n s) := by
  refine h.step hV ?_
  clear h hV
  have h : Keeps 1020350012261690 s s := .refl _ _
  unfold listed
  repeat' first
    | with_reducible assumption
    | decide
    | with_reducible refine Keeps.ite ?_ (fun _ => ?_)
    | with_reducible refine State.modNode_keeps ?_ ?_
    | with_reducible refine passed_keeps ?_ ?_
    | with_reducible refine refuse_keeps ?_ ?_
    | with_reducible refine sendNonce_keeps ?_ ?_

theorem lookStep_keeps {V : Nat} {g : Nat} {n : Nat} {l : Look} {d : List Byte} {s0 s : State} (hV : subMask 1020350012261690 V = true)
    (h : Keeps V s0 s) : Keeps V s0 (lookStep g n l d s) := by
  refine h.step hV ?_
  clear h hV
  have h : Keeps 1020350012261690 s s := .refl _ _
  unfold lookStep
  repeat' first
    | with_reducible assumption
    | decide
    | with_reducible refine Keeps.ite ?_ (fun _ => ?_)
    | with_reducible refine emit_keeps ?_ ?_
    | with_reducible refine listed_keeps ?_ ?_
    | with_reducible refine lookRead_keeps ?_ ?_
    | with_reducible refine notListed_keeps ?_ ?_

theorem allowlistReadDone_keeps {V : Nat} {g : Nat} {n : Nat} {err : Nat} {d : List Byte} {s0 s : State} (hV : subMask 1020350014358842 V = true)
    (h : Keeps V s0 s) : Keeps V s0 (allowlistReadDone g n err d s) := by
  refine h.step hV ?_
  clear h hV
  have h : Keeps 1020350014358842 s s := .refl _ _
  unfold allowlistReadDone
  repeat' first
    | with_reducible assumption
    | decide
    | with_reducible refine Keeps.ite ?_ (fun _ => ?_)
    | with_reducible refine State.modNode_keeps ?_ ?_
    | with_reducible refine genSeen_keeps ?_ ?_
    | with_reducible refine lookStep_keeps ?_ ?_
    | with_reducible refine Keeps.foldl _ (fun _ _ _ => ?_) ?_
    | with_reducible refine Keeps.foldl_fst _ (fun _ _ _ => ?_) ?_
    | dsimp only
    | split

theorem markReading_keeps {V : Nat} {f : Nat} {e0 : Entry} {seq : Nat} {s0 s : State} (hV : subMask 8 V = true)
    (h : Keeps V s0 s) : Keeps V s0 (markReading f e0 seq s) := by
  refine h.step hV ?_
  clear h hV
  have h : Keeps 8 s s := .refl _ _
  unfold markReading
  repeat' first
    | with_reducible assumption
    | decide
    | with_reducible refine Keeps.ite ?_ (fun _ => ?_)
    | with_reducible refine State.modFn_keeps ?_ ?_

theorem readStruct_keeps {V : Nat} {f : Nat} {e0 : Entry} {len : Nat} {s0 s : State} (hV : subMask 879611449704458 V = true)
    (h : Keeps V s0 s) : Keeps V s0 (readStruct f e0 len s) := by
  refine h.step hV ?_
  clear h hV
  have h : Keeps 879611449704458 s s := .refl _ _
  unfold readStruct
  repeat' first
    | with_reducible assumption
    | decide
    | with_reducible refine Keeps.ite ?_ (fun _ => ?_)
    | with_reducible refine dmaRead_keeps ?_ ?_
    | with_reducible refine finish_keeps ?_ ?_
    | with_reducible refine markReading_keeps ?_ ?_

theorem allowlistSet_keeps {V : Nat} {f : Nat} {x : Entry} {s0 s : State} (hV : subMask 1020348940156986 V = true)
    (h : Keeps V s0 s) : Keeps V s0 (allowlistSet f x s) := by
  refine h.step hV ?_
  clear h hV
  have h : Keeps 1020348940156986 s s := .refl _ _
  unfold allowlistSet
  repeat' first
    | with_reducible assumption
    | decide
    | with_reducible refine Keeps.ite ?_ (fun _ => ?_)
    | with_reducible refine allowSet_keeps ?_ ?_
    | with_reducible refine finish_keeps ?_ ?_
    | with_reducible refine readStruct_keeps ?_ ?_

theorem failAcc_keeps {V : Nat} {status : Nat} {detail : Nat} {b17 : Nat} {a : BAcc} {s0 s : State} (hV : subMask 879611449769994 V = true)
    (h : Keeps V s0 s) : Keeps V s0 (failAcc status detail b17 a s) := by
  refine h.step hV ?_
  clear h hV
  have h : Keeps 879611449769994 s s := .refl _ _
  unfold failAcc
  repeat' first
    | with_reducible assumption
    | decide
    | with_reducible refine Keeps.ite ?_ (fun _ => ?_)
    | with_reducible refine State.modBridge_keeps ?_ ?_
    | with_reducible refine emit_keeps ?_ ?_
    | with_reducible refine mgrResult_keeps ?_ ?_
    | with_reducible refine removeAcc_keeps ?_ ?_
    | with_reducible refine tellLoad_keeps ?_ ?_

theorem answerLimit_keeps {V : Nat} {g : Nat} {k : Nat} {s0 s : State} (hV : subMask 879611449769994 V = true)
    (h : Keeps V s0 s) : Keeps V s0 (answerLimit g k s) := by
  refine h.step hV ?_
  clear h hV
  have h : Keeps 879611449769994 s s := .refl _ _
  unfold answerLimit
  repeat' first
    | with_reducible assumption
    | decide
    | with_reducible refine Keeps.ite ?_ (fun _ => ?_)
    | with_reducible refine failAcc_keeps ?_ ?_
    | with_reducible refine Keeps.foldl _ (fun _ _ _ => ?_) ?_
    | with_reducible refine Keeps.foldl_fst _ (fun _ _ _ => ?_) ?_
    | dsimp only
    | split

theorem applyFailsafe_keeps {V : Nat} {p : Nat} {s0 s : State} (hV : subMask 1073743104 V = true)
    (h : Keeps V s0 s) : Keeps V s0 (applyFailsafe p s) := by
  refine h.step hV ?_
  clear h hV
  have h : Keeps 1073743104 s s := .refl _ _
  unfold applyFailsafe
  repeat' first
    | with_reducible assumption
    | decide
    | with_reducible refine Keeps.ite ?_ (fun _ => ?_)
    | with_reducible refine writePoint_keeps ?_ ?_

theorem setStale_keeps {V : Nat} {p : Nat} {code : Nat} {s0 s : State} (hV : subMask 1073743104 V = true)
    (h : Keeps V s0 s) : Keeps V s0 (setStale p code s) := by
  refine h.step hV ?_
  clear h hV
  have h : Keeps 1073743104 s s := .refl _ _
  unfold setStale
  repeat' first
    | with_reducible assumption
    | decide
    | with_reducible refine Keeps.ite ?_ (fun _ => ?_)
    | with_reducible refine setQuality_keeps ?_ ?_

theorem applyDeferred_keeps {V : Nat} {due : List Nat} {s0 s : State} (hV : subMask 1073743104 V = true)
    (h : Keeps V s0 s) : Keeps V s0 (applyDeferred due s) := by
  refine h.step hV ?_
  clear h hV
  have h : Keeps 1073743104 s s := .refl _ _
  unfold applyDeferred
  repeat' first
    | with_reducible assumption
    | decide
    | with_reducible refine Keeps.ite ?_ (fun _ => ?_)
    | with_reducible refine State.modPoint_keeps ?_ ?_
    | with_reducible refine applyFailsafe_keeps ?_ ?_
    | with_reducible refine setStale_keeps ?_ ?_
    | with_reducible refine Keeps.foldl _ (fun _ _ _ => ?_) ?_
    | with_reducible refine Keeps.foldl_fst _ (fun _ _ _ => ?_) ?_
    | dsimp only
    | split

theorem noteWrite_keeps {V : Nat} {p : Nat} {w : PointWrite} {s0 s : State} (hV : subMask 1024 V = true)
    (h : Keeps V s0 s) : Keeps V s0 (noteWrite p w s) := by
  refine h.step hV ?_
  clear h hV
  have h : Keeps 1024 s s := .refl _ _
  unfold noteWrite
  repeat' first
    | with_reducible assumption
    | decide
    | with_reducible refine Keeps.ite ?_ (fun _ => ?_)
    | with_reducible refine State.modPoint_keeps ?_ ?_
    | with_reducible refine Keeps.foldl _ (fun _ _ _ => ?_) ?_
    | with_reducible refine Keeps.foldl_fst _ (fun _ _ _ => ?_) ?_
    | dsimp only
    | split

theorem sourceWrite_keeps {V : Nat} {src : Nat} {fn : Nat} {p : Nat} {v : Nat} {s0 s : State} (hV : subMask 1073743114 V = true)
    (h : Keeps V s0 s) : Keeps V s0 (sourceWrite src fn p v s) := by
  refine h.step hV ?_
  clear h hV
  have h : Keeps 1073743114 s s := .refl _ _
  unfold sourceWrite
  repeat' first
    | with_reducible assumption
    | decide
    | with_reducible refine Keeps.ite ?_ (fun _ => ?_)
    | with_reducible refine countDiscard_keeps ?_ ?_
    | with_reducible refine noteWrite_keeps ?_ ?_
    | with_reducible refine writePoint_keeps ?_ ?_
    | with_reducible refine Keeps.foldl _ (fun _ _ _ => ?_) ?_
    | with_reducible refine Keeps.foldl_fst _ (fun _ _ _ => ?_) ?_
    | dsimp only
    | split

theorem applyImageWrite_keeps {V : Nat} {f : Nat} {w : Nat × Nat} {s0 s : State} (hV : subMask 140738562098442 V = true)
    (h : Keeps V s0 s) : Keeps V s0 (applyImageWrite f s w) := by
  refine h.step hV ?_
  clear h hV
  have h : Keeps 140738562098442 s s := .refl _ _
  unfold applyImageWrite
  repeat' first
    | with_reducible assumption
    | decide
    | with_reducible refine Keeps.ite ?_ (fun _ => ?_)
    | with_reducible refine State.draw_keeps ?_ ?_
    | with_reducible refine imgLost_keeps ?_ ?_
    | with_reducible refine sourceWrite_keeps ?_ ?_

theorem applyOutputs_keeps {V : Nat} {s0 s : State} (hV : subMask 140738562098442 V = true)
    (h : Keeps V s0 s) : Keeps V s0 (applyOutputs s) := by
  refine h.step hV ?_
  clear h hV
  have h : Keeps 140738562098442 s s := .refl _ _
  unfold applyOutputs
  repeat' first
    | with_reducible assumption
    | decide
    | with_reducible refine Keeps.ite ?_ (fun _ => ?_)
    | with_reducible refine State.modImage_keeps ?_ ?_
    | with_reducible refine applyImageWrite_keeps ?_ ?_
    | with_reducible refine Keeps.foldl _ (fun _ _ _ => ?_) ?_

theorem budgetApplies_keeps {V : Nat} {f : Nat} {g : Nat} {rise : Bool} {wait : Nat} {s0 s : State} (hV : subMask 879611449704650 V = true)
    (h : Keeps V s0 s) : Keeps V s0 (budgetApplies f g rise wait s) := by
  refine h.step hV ?_
  clear h hV
  have h : Keeps 879611449704650 s s := .refl _ _
  unfold budgetApplies
  repeat' first
    | with_reducible assumption
    | decide
    | with_reducible refine Keeps.ite ?_ (fun _ => ?_)
    | with_reducible refine State.modList_keeps ?_ ?_
    | with_reducible refine emit_keeps ?_ ?_
    | with_reducible refine needCompile_keeps ?_ ?_

theorem logClamp_keeps {V : Nat} {ty : Nat} {inst : Nat} {off : Nat} {b : Nat} {s0 s : State} (hV : subMask 2 V = true)
    (h : Keeps V s0 s) : Keeps V s0 (logClamp ty inst off b s) := by
  refine h.step hV ?_
  clear h hV
  have h : Keeps 2 s s := .refl _ _
  unfold logClamp
  repeat' first
    | with_reducible assumption
    | decide
    | with_reducible refine Keeps.ite ?_ (fun _ => ?_)
    | with_reducible refine State.setReg_keeps ?_ ?_

theorem fitVectors_keeps {V : Nat} {f : Nat} {s0 s : State} (hV : subMask 10 V = true)
    (h : Keeps V s0 s) : Keeps V s0 (fitVectors f s) := by
  refine h.step hV ?_
  clear h hV
  have h : Keeps 10 s s := .refl _ _
  unfold fitVectors
  repeat' first
    | with_reducible assumption
    | decide
    | with_reducible refine Keeps.ite ?_ (fun _ => ?_)
    | with_reducible refine State.modFn_keeps ?_ ?_
    | with_reducible refine State.modImage_keeps ?_ ?_
    | with_reducible refine State.modRing_keeps ?_ ?_
    | with_reducible refine logClamp_keeps ?_ ?_
    | with_reducible refine Keeps.foldl _ (fun _ _ _ => ?_) ?_

theorem cutTileViews_keeps {V : Nat} {k : Nat} {f : Nat} {t0 : Nat} {s0 s : State} (hV : subMask 131080 V = true)
    (h : Keeps V s0 s) : Keeps V s0 (cutTileViews f t0 k s) := by
  induction k generalizing s with
  | zero =>
    unfold cutTileViews
    exact h
  | succ k ih =>
    unfold cutTileViews
    repeat' first
      | with_reducible assumption
      | exact subMask_trans (by decide) hV
      | with_reducible refine Keeps.ite ?_ (fun _ => ?_)
      | with_reducible refine State.modChan_keeps ?_ ?_
      | with_reducible refine State.modFn_keeps ?_ ?_
      | with_reducible refine Keeps.foldl _ (fun _ _ _ => ?_) ?_
      | with_reducible refine Keeps.foldl_fst _ (fun _ _ _ => ?_) ?_
      | dsimp only
      | split
      | (with_reducible refine ih ?_)

theorem fitViews_keeps {V : Nat} {f : Nat} {s0 s : State} (hV : subMask 131080 V = true)
    (h : Keeps V s0 s) : Keeps V s0 (fitViews f s) := by
  refine h.step hV ?_
  clear h hV
  have h : Keeps 131080 s s := .refl _ _
  unfold fitViews
  repeat' first
    | with_reducible assumption
    | decide
    | with_reducible refine Keeps.ite ?_ (fun _ => ?_)
    | with_reducible refine addViews_keeps ?_ ?_
    | with_reducible refine cutTileViews_keeps ?_ ?_
    | with_reducible refine Keeps.foldl _ (fun _ _ _ => ?_) ?_

theorem applyShare_keeps {V : Nat} {f : Nat} {sh : Share} {s0 s : State} (hV : subMask 879611449835722 V = true)
    (h : Keeps V s0 s) : Keeps V s0 (applyShare f sh s) := by
  refine h.step hV ?_
  clear h hV
  have h : Keeps 879611449835722 s s := .refl _ _
  unfold applyShare
  repeat' first
    | with_reducible assumption
    | decide
    | with_reducible refine Keeps.ite ?_ (fun _ => ?_)
    | with_reducible refine State.modFn_keeps ?_ ?_
    | with_reducible refine budgetApplies_keeps ?_ ?_
    | with_reducible refine fitVectors_keeps ?_ ?_
    | with_reducible refine fitViews_keeps ?_ ?_
    | with_reducible refine Keeps.foldl _ (fun _ _ _ => ?_) ?_

theorem modRx_keeps {V : Nat} {g : Nat} {key : Nat} {u : Hop → Hop} {s0 s : State} (hV : subMask 16 V = true)
    (h : Keeps V s0 s) : Keeps V s0 (modRx g key u s) := by
  refine h.step hV ?_
  clear h hV
  have h : Keeps 16 s s := .refl _ _
  unfold modRx
  repeat' first
    | with_reducible assumption
    | decide
    | with_reducible refine Keeps.ite ?_ (fun _ => ?_)
    | with_reducible refine State.modPort_keeps ?_ ?_

theorem trainedBelow_keeps {V : Nat} {g : Nat} {n : Nat} {s0 s : State} (hV : subMask 140737488355344 V = true)
    (h : Keeps V s0 s) : Keeps V s0 (trainedBelow g n s) := by
  refine h.step hV ?_
  clear h hV
  have h : Keeps 140737488355344 s s := .refl _ _
  unfold trainedBelow
  repeat' first
    | with_reducible assumption
    | decide
    | with_reducible refine Keeps.ite ?_ (fun _ => ?_)
    | with_reducible refine State.draw_keeps ?_ ?_
    | with_reducible refine modRx_keeps ?_ ?_
    | with_reducible refine Keeps.foldl _ (fun _ _ _ => ?_) ?_
    | with_reducible refine Keeps.foldl_fst _ (fun _ _ _ => ?_) ?_
    | dsimp only
    | split

theorem assign_keeps {V : Nat} {g : Nat} {n : Nat} {delay : Nat} {s0 s : State} (hV : subMask 985164565970992 V = true)
    (h : Keeps V s0 s) : Keeps V s0 (assign g n delay s) := by
  refine h.step hV ?_
  clear h hV
  have h : Keeps 985164565970992 s s := .refl _ _
  unfold assign
  repeat' first
    | with_reducible assumption
    | decide
    | with_reducible refine Keeps.ite ?_ (fun _ => ?_)
    | with_reducible refine State.modNode_keeps ?_ ?_
    | with_reducible refine State.modPort_keeps ?_ ?_
    | with_reducible refine sendMgmt_keeps ?_ ?_
    | with_reducible refine trainedBelow_keeps ?_ ?_

theorem assignRefs_keeps {V : Nat} {used : List (Nat × Nat)} {l : List AEntry} {s0 s : State} (hV : subMask 140737488355328 V = true)
    (h : Keeps V s0 s) : Keeps V s0 (assignRefs used l s).2 := by
  induction l generalizing used s with
  | nil => exact h
  | cons x r ih => exact ih (State.draw_keeps hV h)

theorem atomizerCause_keeps {V : Nat} {g : Nat} {s0 s : State} (hV : subMask 64 V = true)
    (h : Keeps V s0 s) : Keeps V s0 (atomizerCause g s) := by
  refine h.step hV ?_
  clear h hV
  have h : Keeps 64 s s := .refl _ _
  unfold atomizerCause
  repeat' first
    | with_reducible assumption
    | decide
    | with_reducible refine Keeps.ite ?_ (fun _ => ?_)
    | with_reducible refine needCompile_keeps ?_ ?_

theorem attentionPoll_keeps {V : Nat} {g : Nat} {n : Nat} {s0 s : State} (hV : subMask 985164565970960 V = true)
    (h : Keeps V s0 s) : Keeps V s0 (attentionPoll g n s) := by
  refine h.step hV ?_
  clear h hV
  have h : Keeps 985164565970960 s s := .refl _ _
  unfold attentionPoll
  repeat' first
    | with_reducible assumption
    | decide
    | with_reducible refine Keeps.ite ?_ (fun _ => ?_)
    | with_reducible refine engineWork_keeps ?_ ?_
    | with_reducible refine issueGrant_keeps ?_ ?_

theorem countRun_keeps {V : Nat} {g : Nat} {blocks : List RxBlock} {s0 s : State} (hV : subMask 2 V = true)
    (h : Keeps V s0 s) : Keeps V s0 (countRun g blocks s) := by
  refine h.step hV ?_
  clear h hV
  have h : Keeps 2 s s := .refl _ _
  unfold countRun
  repeat' first
    | with_reducible assumption
    | decide
    | with_reducible refine Keeps.ite ?_ (fun _ => ?_)
    | with_reducible refine countBlk_keeps ?_ ?_
    | with_reducible refine Keeps.foldl _ (fun _ _ _ => ?_) ?_
    | with_reducible refine Keeps.foldl_fst _ (fun _ _ _ => ?_) ?_
    | dsimp only
    | split

theorem discarded_keeps {V : Nat} {g : Nat} {blocks : List RxBlock} {s0 s : State} (hV : subMask 2 V = true)
    (h : Keeps V s0 s) : Keeps V s0 (discarded g blocks s) := by
  refine h.step hV ?_
  clear h hV
  have h : Keeps 2 s s := .refl _ _
  unfold discarded
  repeat' first
    | with_reducible assumption
    | decide
    | with_reducible refine Keeps.ite ?_ (fun _ => ?_)
    | with_reducible refine countReg_keeps ?_ ?_
    | with_reducible refine countRun_keeps ?_ ?_

theorem receive_keeps {V : Nat} {g : Nat} {mis : Bool} {node : Nat} {cls : Nat} {len : Nat} {xid : Nat → Bool} {exact : Bool} {blocks : List RxBlock} {s0 s : State} (hV : subMask 2 V = true)
    (h : Keeps V s0 s) : Keeps V s0 (receive g mis node cls len xid exact blocks s).2 := by
  refine h.step hV ?_
  clear h hV
  have h : Keeps 2 s s := .refl _ _
  unfold receive
  repeat' first
    | with_reducible assumption
    | decide
    | with_reducible refine Keeps.ite ?_ (fun _ => ?_)
    | with_reducible refine countMis_keeps ?_ ?_
    | with_reducible refine countRun_keeps ?_ ?_
    | with_reducible refine discarded_keeps ?_ ?_
    | with_reducible refine Keeps.foldl _ (fun _ _ _ => ?_) ?_
    | with_reducible refine Keeps.foldl_fst _ (fun _ _ _ => ?_) ?_
    | dsimp only
    | split

theorem attentionReply_keeps {V : Nat} {g : Nat} {n : Nat} {mis : Bool} {blocks : List RxBlock} {s0 s : State} (hV : subMask 1020350014620986 V = true)
    (h : Keeps V s0 s) : Keeps V s0 (attentionReply g n mis blocks s) := by
  refine h.step hV ?_
  clear h hV
  have h : Keeps 1020350014620986 s s := .refl _ _
  unfold attentionReply
  repeat' first
    | with_reducible assumption
    | decide
    | with_reducible refine Keeps.ite ?_ (fun _ => ?_)
    | with_reducible refine hostile_keeps ?_ ?_
    | with_reducible refine receive_keeps ?_ ?_
    | with_reducible refine seeHeader_keeps ?_ ?_
    | with_reducible refine Keeps.foldl _ (fun _ _ _ => ?_) ?_
    | with_reducible refine Keeps.foldl_fst _ (fun _ _ _ => ?_) ?_
    | dsimp only
    | split

theorem clampLog_keeps {V : Nat} {ty : Nat} {inst : Nat} {off : Nat} {b : Nat} {v : Nat} {stored : Nat} {s0 s : State} (hV : subMask 2 V = true)
    (h : Keeps V s0 s) : Keeps V s0 (clampLog ty inst off b v stored s) := by
  refine h.step hV ?_
  clear h hV
  have h : Keeps 2 s s := .refl _ _
  unfold clampLog
  repeat' first
    | with_reducible assumption
    | decide
    | with_reducible refine Keeps.ite ?_ (fun _ => ?_)
    | with_reducible refine logClamp_keeps ?_ ?_

theorem atzWrite_keeps {V : Nat} {g : Nat} {off : Nat} {v : Nat} {s0 s : State} (hV : subMask 2 V = true)
    (h : Keeps V s0 s) : Keeps V s0 (atzWrite g off v s) := by
  refine h.step hV ?_
  clear h hV
  have h : Keeps 2 s s := .refl _ _
  unfold atzWrite
  repeat' first
    | with_reducible assumption
    | decide
    | with_reducible refine Keeps.ite ?_ (fun _ => ?_)
    | with_reducible refine State.setReg_keeps ?_ ?_
    | with_reducible refine clampLog_keeps ?_ ?_

theorem sendBus_keeps {V : Nat} {t0 : Nat} {b : BusTx} {s0 s : State} (hV : subMask 844427077615616 V = true)
    (h : Keeps V s0 s) : Keeps V s0 (sendBus t0 b s) := by
  refine h.step hV ?_
  clear h hV
  have h : Keeps 844427077615616 s s := .refl _ _
  unfold sendBus
  repeat' first
    | with_reducible assumption
    | decide
    | with_reducible refine Keeps.ite ?_ (fun _ => ?_)
    | with_reducible refine State.modPwr_keeps ?_ ?_
    | with_reducible refine out_keeps ?_ ?_

theorem sendLevel_keeps {V : Nat} {t0 : Nat} {l : Nat} {s0 s : State} (hV : subMask 844427077615616 V = true)
    (h : Keeps V s0 s) : Keeps V s0 (sendLevel t0 l s) := by
  refine h.step hV ?_
  clear h hV
  have h : Keeps 844427077615616 s s := .refl _ _
  unfold sendLevel
  repeat' first
    | with_reducible assumption
    | decide
    | with_reducible refine Keeps.ite ?_ (fun _ => ?_)
    | with_reducible refine State.modPwr_keeps ?_ ?_
    | with_reducible refine sendBus_keeps ?_ ?_

theorem startLevel_keeps {V : Nat} {t0 : Nat} {s0 s : State} (hV : subMask 2147483648 V = true)
    (h : Keeps V s0 s) : Keeps V s0 (startLevel t0 s) := by
  refine h.step hV ?_
  clear h hV
  have h : Keeps 2147483648 s s := .refl _ _
  unfold startLevel
  repeat' first
    | with_reducible assumption
    | decide
    | with_reducible refine Keeps.ite ?_ (fun _ => ?_)
    | with_reducible refine State.modPwr_keeps ?_ ?_

theorem avsCleared_keeps {V : Nat} {t0 : Nat} {s0 s : State} (hV : subMask 844427077615616 V = true)
    (h : Keeps V s0 s) : Keeps V s0 (avsCleared t0 s) := by
  refine h.step hV ?_
  clear h hV
  have h : Keeps 844427077615616 s s := .refl _ _
  unfold avsCleared
  repeat' first
    | with_reducible assumption
    | decide
    | with_reducible refine Keeps.ite ?_ (fun _ => ?_)
    | with_reducible refine sendLevel_keeps ?_ ?_
    | with_reducible refine startLevel_keeps ?_ ?_
    | with_reducible refine Keeps.foldl _ (fun _ _ _ => ?_) ?_
    | with_reducible refine Keeps.foldl_fst _ (fun _ _ _ => ?_) ?_
    | dsimp only
    | split

theorem avsEvent_keeps {V : Nat} {t0 : Nat} {what : Nat} {level : Nat} {rail : Nat} {s0 s : State} (hV : subMask 879611449704458 V = true)
    (h : Keeps V s0 s) : Keeps V s0 (avsEvent t0 what level rail s) := by
  refine h.step hV ?_
  clear h hV
  have h : Keeps 879611449704458 s s := .refl _ _
  unfold avsEvent
  repeat' first
    | with_reducible assumption
    | decide
    | with_reducible refine Keeps.ite ?_ (fun _ => ?_)
    | with_reducible refine emitMgr_keeps ?_ ?_

theorem noteAvs_keeps {V : Nat} {t0 : Nat} {margin : Nat} {s0 s : State} (hV : subMask 2 V = true)
    (h : Keeps V s0 s) : Keeps V s0 (noteAvs t0 margin s) := by
  refine h.step hV ?_
  clear h hV
  have h : Keeps 2 s s := .refl _ _
  unfold noteAvs
  repeat' first
    | with_reducible assumption
    | decide
    | with_reducible refine Keeps.ite ?_ (fun _ => ?_)
    | with_reducible refine State.setReg_keeps ?_ ?_

theorem avsPeriod_keeps {V : Nat} {t0 : Nat} {m : Nat} {s0 s : State} (hV : subMask 879611449704458 V = true)
    (h : Keeps V s0 s) : Keeps V s0 (avsPeriod t0 m s) := by
  refine h.step hV ?_
  clear h hV
  have h : Keeps 879611449704458 s s := .refl _ _
  unfold avsPeriod
  repeat' first
    | with_reducible assumption
    | decide
    | with_reducible refine Keeps.ite ?_ (fun _ => ?_)
    | with_reducible refine State.modPwr_keeps ?_ ?_
    | with_reducible refine State.setSreg_keeps ?_ ?_
    | with_reducible refine avsEvent_keeps ?_ ?_
    | with_reducible refine noteAvs_keeps ?_ ?_
    | with_reducible refine sendBus_keeps ?_ ?_
    | with_reducible refine setErr_keeps ?_ ?_
    | with_reducible refine startLevel_keeps ?_ ?_

theorem dropSnap_keeps {V : Nat} {f : Nat} {b : Nat} {s0 s : State} (hV : subMask 8 V = true)
    (h : Keeps V s0 s) : Keeps V s0 (dropSnap f b s) := by
  refine h.step hV ?_
  clear h hV
  have h : Keeps 8 s s := .refl _ _
  unfold dropSnap
  repeat' first
    | with_reducible assumption
    | decide
    | with_reducible refine Keeps.ite ?_ (fun _ => ?_)
    | with_reducible refine State.modFn_keeps ?_ ?_

theorem endsDoze_keeps {V : Nat} {f : Nat} {a : Nat} {s0 s : State} (hV : subMask 2147483648 V = true)
    (h : Keeps V s0 s) : Keeps V s0 (endsDoze f a s) := by
  refine h.step hV ?_
  clear h hV
  have h : Keeps 2147483648 s s := .refl _ _
  unfold endsDoze
  repeat' first
    | with_reducible assumption
    | decide
    | with_reducible refine Keeps.ite ?_ (fun _ => ?_)
    | with_reducible refine leaveDoze_keeps ?_ ?_
    | with_reducible refine Keeps.foldl _ (fun _ _ _ => ?_) ?_
    | with_reducible refine Keeps.foldl_fst _ (fun _ _ _ => ?_) ?_
    | dsimp only
    | split

theorem pimRead_keeps {V : Nat} {a : Nat} {size : Nat} {old : Option Snapshot} {s0 s : State} (hV : subMask 8 V = true)
    (h : Keeps V s0 s) : Keeps V s0 (pimRead a size old s).2 := by
  refine h.step hV ?_
  clear h hV
  have h : Keeps 8 s s := .refl _ _
  unfold pimRead
  repeat' first
    | with_reducible assumption
    | decide
    | with_reducible refine Keeps.ite ?_ (fun _ => ?_)
    | with_reducible refine State.modFn_keeps ?_ ?_
    | with_reducible refine Keeps.foldl _ (fun _ _ _ => ?_) ?_
    | with_reducible refine Keeps.foldl_fst _ (fun _ _ _ => ?_) ?_
    | dsimp only
    | split

theorem clearRc_keeps {V : Nat} {ty : Nat} {inst : Nat} {off : Nat} {s0 s : State} (hV : subMask 106 V = true)
    (h : Keeps V s0 s) : Keeps V s0 (clearRc ty inst off s) := by
  refine h.step hV ?_
  clear h hV
  have h : Keeps 106 s s := .refl _ _
  unfold clearRc
  repeat' first
    | with_reducible assumption
    | decide
    | with_reducible refine Keeps.ite ?_ (fun _ => ?_)
    | with_reducible refine State.modBridge_keeps ?_ ?_
    | with_reducible refine State.modFn_keeps ?_ ?_
    | with_reducible refine State.modImage_keeps ?_ ?_
    | with_reducible refine State.modNode_keeps ?_ ?_
    | with_reducible refine State.modPlan_keeps ?_ ?_
    | with_reducible refine State.setReg_keeps ?_ ?_

theorem wideEffect_keeps {V : Nat} {ty : Nat} {inst : Nat} {off : Nat} {s0 s : State} (hV : subMask 106 V = true)
    (h : Keeps V s0 s) : Keeps V s0 (wideEffect ty inst off s) := by
  refine h.step hV ?_
  clear h hV
  have h : Keeps 106 s s := .refl _ _
  unfold wideEffect
  repeat' first
    | with_reducible assumption
    | decide
    | with_reducible refine Keeps.ite ?_ (fun _ => ?_)
    | with_reducible refine State.modFn_keeps ?_ ?_
    | with_reducible refine clearRc_keeps ?_ ?_

theorem readWide_keeps {V : Nat} {ty : Nat} {inst : Nat} {off : Nat} {s0 s : State} (hV : subMask 106 V = true)
    (h : Keeps V s0 s) : Keeps V s0 (readWide ty inst off s).2 := by
  refine h.step hV ?_
  clear h hV
  have h : Keeps 106 s s := .refl _ _
  unfold readWide
  repeat' first
    | with_reducible assumption
    | decide
    | with_reducible refine Keeps.ite ?_ (fun _ => ?_)
    | with_reducible refine wideEffect_keeps ?_ ?_

theorem narrowEffect_keeps {V : Nat} {ty : Nat} {inst : Nat} {off : Nat} {s0 s : State} (hV : subMask 140737488355434 V = true)
    (h : Keeps V s0 s) : Keeps V s0 (narrowEffect ty inst off s) := by
  refine h.step hV ?_
  clear h hV
  have h : Keeps 140737488355434 s s := .refl _ _
  unfold narrowEffect
  repeat' first
    | with_reducible assumption
    | decide
    | with_reducible refine Keeps.ite ?_ (fun _ => ?_)
    | with_reducible refine State.draw_keeps ?_ ?_
    | with_reducible refine clearRc_keeps ?_ ?_

theorem takeLock_keeps {V : Nat} {f : Nat} {s0 s : State} (hV : subMask 140737488355360 V = true)
    (h : Keeps V s0 s) : Keeps V s0 (takeLock f s).2 := by
  refine h.step hV ?_
  clear h hV
  have h : Keeps 140737488355360 s s := .refl _ _
  unfold takeLock
  repeat' first
    | with_reducible assumption
    | decide
    | with_reducible refine Keeps.ite ?_ (fun _ => ?_)
    | with_reducible refine State.draw_keeps ?_ ?_
    | with_reducible refine State.modNode_keeps ?_ ?_
    | with_reducible refine Keeps.foldl _ (fun _ _ _ => ?_) ?_
    | with_reducible refine Keeps.foldl_fst _ (fun _ _ _ => ?_) ?_
    | dsimp only
    | split

theorem readWord_keeps {V : Nat} {f : Nat} {a : Nat} {old : Option Snapshot} {s0 s : State} (hV : subMask 140737488355434 V = true)
    (h : Keeps V s0 s) : Keeps V s0 (readWord f a old s).2 := by
  refine h.step hV ?_
  clear h hV
  have h : Keeps 140737488355434 s s := .refl _ _
  unfold readWord
  repeat' first
    | with_reducible assumption
    | decide
    | with_reducible refine Keeps.ite ?_ (fun _ => ?_)
    | with_reducible refine State.modFn_keeps ?_ ?_
    | with_reducible refine narrowEffect_keeps ?_ ?_
    | with_reducible refine readWide_keeps ?_ ?_
    | with_reducible refine takeLock_keeps ?_ ?_
    | with_reducible refine Keeps.foldl _ (fun _ _ _ => ?_) ?_
    | with_reducible refine Keeps.foldl_fst _ (fun _ _ _ => ?_) ?_
    | dsimp only
    | split

theorem readLong_keeps {V : Nat} {f : Nat} {a : Nat} {s0 s : State} (hV : subMask 140737488355434 V = true)
    (h : Keeps V s0 s) : Keeps V s0 (readLong f a s).2 := by
  refine h.step hV ?_
  clear h hV
  have h : Keeps 140737488355434 s s := .refl _ _
  unfold readLong
  repeat' first
    | with_reducible assumption
    | decide
    | with_reducible refine Keeps.ite ?_ (fun _ => ?_)
    | with_reducible refine dropSnap_keeps ?_ ?_
    | with_reducible refine readWide_keeps ?_ ?_
    | with_reducible refine readWord_keeps ?_ ?_
    | with_reducible refine Keeps.foldl _ (fun _ _ _ => ?_) ?_
    | with_reducible refine Keeps.foldl_fst _ (fun _ _ _ => ?_) ?_
    | dsimp only
    | split

theorem barRead_keeps {V : Nat} {f : Nat} {bar : Nat} {a : Nat} {size : Nat} {s0 s : State} (hV : subMask 985164565971050 V = true)
    (h : Keeps V s0 s) : Keeps V s0 (barRead f bar a size s) := by
  refine h.step hV ?_
  clear h hV
  have h : Keeps 985164565971050 s s := .refl _ _
  unfold barRead
  repeat' first
    | with_reducible assumption
    | decide
    | with_reducible refine Keeps.ite ?_ (fun _ => ?_)
    | with_reducible refine dropSnap_keeps ?_ ?_
    | with_reducible refine endsDoze_keeps ?_ ?_
    | with_reducible refine out_keeps ?_ ?_
    | with_reducible refine pimRead_keeps ?_ ?_
    | with_reducible refine readLong_keeps ?_ ?_
    | with_reducible refine readWord_keeps ?_ ?_
    | with_reducible refine Keeps.foldl _ (fun _ _ _ => ?_) ?_
    | with_reducible refine Keeps.foldl_fst _ (fun _ _ _ => ?_) ?_
    | dsimp only
    | split

theorem partWrite_keeps {V : Nat} {f : Nat} {a : Nat} {s0 s : State} (hV : subMask 10 V = true)
    (h : Keeps V s0 s) : Keeps V s0 (partWrite f a s) := by
  refine h.step hV ?_
  clear h hV
  have h : Keeps 10 s s := .refl _ _
  unfold partWrite
  repeat' first
    | with_reducible assumption
    | decide
    | with_reducible refine Keeps.ite ?_ (fun _ => ?_)
    | with_reducible refine setErr_keeps ?_ ?_
    | with_reducible refine Keeps.foldl _ (fun _ _ _ => ?_) ?_
    | with_reducible refine Keeps.foldl_fst _ (fun _ _ _ => ?_) ?_
    | dsimp only
    | split

theorem pimWindowWrite_keeps {V : Nat} {off : Nat} {size : Nat} {v : Nat} {part : Bool} {s0 s : State} (hV : subMask 1073743114 V = true)
    (h : Keeps V s0 s) : Keeps V s0 (pimWindowWrite off size v part s) := by
  refine h.step hV ?_
  clear h hV
  have h : Keeps 1073743114 s s := .refl _ _
  unfold pimWindowWrite
  repeat' first
    | with_reducible assumption
    | decide
    | with_reducible refine Keeps.ite ?_ (fun _ => ?_)
    | with_reducible refine setErr_keeps ?_ ?_
    | with_reducible refine sourceWrite_keeps ?_ ?_

theorem msixTableWrite_keeps {V : Nat} {f : Nat} {i : Nat} {off : Nat} {size : Nat} {v : W64} {s0 s : State} (hV : subMask 8 V = true)
    (h : Keeps V s0 s) : Keeps V s0 (msixTableWrite f i off size v s) := by
  refine h.step hV ?_
  clear h hV
  have h : Keeps 8 s s := .refl _ _
  unfold msixTableWrite
  repeat' first
    | with_reducible assumption
    | decide
    | with_reducible refine Keeps.ite ?_ (fun _ => ?_)
    | with_reducible refine State.joinEntry_keeps ?_ ?_
    | with_reducible refine State.modFn_keeps ?_ ?_

theorem ptstepWrite_keeps {V : Nat} {v : Nat} {whole : Bool} {s0 s : State} (hV : subMask 11 V = true)
    (h : Keeps V s0 s) : Keeps V s0 (ptstepWrite v whole s) := by
  refine h.step hV ?_
  clear h hV
  have h : Keeps 11 s s := .refl _ _
  unfold ptstepWrite
  repeat' first
    | with_reducible assumption
    | decide
    | with_reducible refine Keeps.ite ?_ (fun _ => ?_)
    | with_reducible refine State.modTime_keeps ?_ ?_
    | with_reducible refine setErr_keeps ?_ ?_

theorem bcqHead_keeps {V : Nat} {f : Nat} {v : Nat} {s0 s : State} (hV : subMask 879611449704458 V = true)
    (h : Keeps V s0 s) : Keeps V s0 (bcqHead f v s) := by
  refine h.step hV ?_
  clear h hV
  have h : Keeps 879611449704458 s s := .refl _ _
  unfold bcqHead
  repeat' first
    | with_reducible assumption
    | decide
    | with_reducible refine Keeps.ite ?_ (fun _ => ?_)
    | with_reducible refine State.modRing_keeps ?_ ?_
    | with_reducible refine bcqStop_keeps ?_ ?_
    | with_reducible refine setErr_keeps ?_ ?_

theorem cancelStandby_keeps {V : Nat} {code : Nat} {s0 s : State} (hV : subMask 895004612493322 V = true)
    (h : Keeps V s0 s) : Keeps V s0 (cancelStandby code s) := by
  refine h.step hV ?_
  clear h hV
  have h : Keeps 895004612493322 s s := .refl _ _
  unfold cancelStandby
  repeat' first
    | with_reducible assumption
    | decide
    | with_reducible refine Keeps.ite ?_ (fun _ => ?_)
    | with_reducible refine State.modPwr_keeps ?_ ?_
    | with_reducible refine State.modTile_keeps ?_ ?_
    | with_reducible refine State.setSreg_keeps ?_ ?_
    | with_reducible refine emitMgr_keeps ?_ ?_
    | with_reducible refine out_keeps ?_ ?_
    | with_reducible refine setErr_keeps ?_ ?_
    | with_reducible refine Keeps.foldl _ (fun _ _ _ => ?_) ?_
    | with_reducible refine Keeps.foldl_fst _ (fun _ _ _ => ?_) ?_
    | dsimp only
    | split
    | with_reducible refine Keeps.set_stage_lastCancel_stopping ?_ ?_ ?_ ?_

theorem doorbell_keeps {V : Nat} {f : Nat} {s0 s : State} (hV : subMask 895004612493322 V = true)
    (h : Keeps V s0 s) : Keeps V s0 (doorbell f s) := by
  refine h.step hV ?_
  clear h hV
  have h : Keeps 895004612493322 s s := .refl _ _
  unfold doorbell
  repeat' first
    | with_reducible assumption
    | decide
    | with_reducible refine Keeps.ite ?_ (fun _ => ?_)
    | with_reducible refine cancelStandby_keeps ?_ ?_

theorem ringBase_keeps {V : Nat} {f : Nat} {kind : Nat} {q : Nat} {v : Nat} {s0 s : State} (hV : subMask 10 V = true)
    (h : Keeps V s0 s) : Keeps V s0 (ringBase f kind q v s) := by
  refine h.step hV ?_
  clear h hV
  have h : Keeps 10 s s := .refl _ _
  unfold ringBase
  repeat' first
    | with_reducible assumption
    | decide
    | with_reducible refine Keeps.ite ?_ (fun _ => ?_)
    | with_reducible refine State.modRing_keeps ?_ ?_
    | with_reducible refine logClamp_keeps ?_ ?_
    | with_reducible refine setErr_keeps ?_ ?_

theorem cfgFields_keeps {V : Nat} {ty : Nat} {f : Nat} {kind : Nat} {q : Nat} {v : Nat} {s0 s : State} (hV : subMask 10 V = true)
    (h : Keeps V s0 s) : Keeps V s0 (cfgFields ty f kind q v s) := by
  refine h.step hV ?_
  clear h hV
  have h : Keeps 10 s s := .refl _ _
  unfold cfgFields
  repeat' first
    | with_reducible assumption
    | decide
    | with_reducible refine Keeps.ite ?_ (fun _ => ?_)
    | with_reducible refine State.modRing_keeps ?_ ?_
    | with_reducible refine logClamp_keeps ?_ ?_

theorem ringOff_keeps {V : Nat} {f : Nat} {kind : Nat} {q : Nat} {s0 s : State} (hV : subMask 8 V = true)
    (h : Keeps V s0 s) : Keeps V s0 (ringOff f kind q s) := by
  refine h.step hV ?_
  clear h hV
  have h : Keeps 8 s s := .refl _ _
  unfold ringOff
  repeat' first
    | with_reducible assumption
    | decide
    | with_reducible refine Keeps.ite ?_ (fun _ => ?_)
    | with_reducible refine State.modRing_keeps ?_ ?_

theorem ringCfg_keeps {V : Nat} {f : Nat} {kind : Nat} {q : Nat} {v : Nat} {s0 s : State} (hV : subMask 10 V = true)
    (h : Keeps V s0 s) : Keeps V s0 (ringCfg f kind q v s) := by
  refine h.step hV ?_
  clear h hV
  have h : Keeps 10 s s := .refl _ _
  unfold ringCfg
  repeat' first
    | with_reducible assumption
    | decide
    | with_reducible refine Keeps.ite ?_ (fun _ => ?_)
    | with_reducible refine State.modRing_keeps ?_ ?_
    | with_reducible refine cfgFields_keeps ?_ ?_
    | with_reducible refine ringOff_keeps ?_ ?_
    | with_reducible refine setErr_keeps ?_ ?_

theorem bulkCancel_keeps {V : Nat} {f : Nat} {v : Nat} {s0 s : State} (hV : subMask 131072 V = true)
    (h : Keeps V s0 s) : Keeps V s0 (bulkCancel f v s) := by
  refine h.step hV ?_
  clear h hV
  have h : Keeps 131072 s s := .refl _ _
  unfold bulkCancel
  repeat' first
    | with_reducible assumption
    | decide
    | with_reducible refine Keeps.ite ?_ (fun _ => ?_)
    | with_reducible refine State.modChan_keeps ?_ ?_
    | with_reducible refine Keeps.foldl _ (fun _ _ _ => ?_) ?_
    | with_reducible refine Keeps.foldl_fst _ (fun _ _ _ => ?_) ?_
    | dsimp only
    | split

theorem endJob_keeps {V : Nat} {k : Nat} {status : Nat} {detail : Nat} {s0 s : State} (hV : subMask 879611449835530 V = true)
    (h : Keeps V s0 s) : Keeps V s0 (endJob k status detail s) := by
  refine h.step hV ?_
  clear h hV
  have h : Keeps 879611449835530 s s := .refl _ _
  unfold endJob
  repeat' first
    | with_reducible assumption
    | decide
    | with_reducible refine Keeps.ite ?_ (fun _ => ?_)
    | with_reducible refine State.modChan_keeps ?_ ?_
    | with_reducible refine endJobNow_keeps ?_ ?_

theorem bulkStop_keeps {V : Nat} {f : Nat} {v : Nat} {s0 s : State} (hV : subMask 879611449835530 V = true)
    (h : Keeps V s0 s) : Keeps V s0 (bulkStop f v s) := by
  refine h.step hV ?_
  clear h hV
  have h : Keeps 879611449835530 s s := .refl _ _
  unfold bulkStop
  repeat' first
    | with_reducible assumption
    | decide
    | with_reducible refine Keeps.ite ?_ (fun _ => ?_)
    | with_reducible refine State.modChan_keeps ?_ ?_
    | with_reducible refine endJob_keeps ?_ ?_
    | with_reducible refine Keeps.foldl _ (fun _ _ _ => ?_) ?_
    | with_reducible refine Keeps.foldl_fst _ (fun _ _ _ => ?_) ?_
    | dsimp only
    | split

theorem nxtWrite_keeps {V : Nat} {f : Nat} {v : Nat} {off : Nat} {w : Nat} {s0 s : State} (hV : subMask 131082 V = true)
    (h : Keeps V s0 s) : Keeps V s0 (nxtWrite f v off w s) := by
  refine h.step hV ?_
  clear h hV
  have h : Keeps 131082 s s := .refl _ _
  unfold nxtWrite
  repeat' first
    | with_reducible assumption
    | decide
    | with_reducible refine Keeps.ite ?_ (fun _ => ?_)
    | with_reducible refine State.modChan_keeps ?_ ?_
    | with_reducible refine logClamp_keeps ?_ ?_
    | with_reducible refine setErr_keeps ?_ ?_
    | with_reducible refine Keeps.foldl _ (fun _ _ _ => ?_) ?_
    | with_reducible refine Keeps.foldl_fst _ (fun _ _ _ => ?_) ?_
    | dsimp only
    | split

theorem nxtArm_keeps {V : Nat} {f : Nat} {v : Nat} {ctl : Nat} {s0 s : State} (hV : subMask 879611449835530 V = true)
    (h : Keeps V s0 s) : Keeps V s0 (nxtArm f v ctl s) := by
  refine h.step hV ?_
  clear h hV
  have h : Keeps 879611449835530 s s := .refl _ _
  unfold nxtArm
  repeat' first
    | with_reducible assumption
    | decide
    | with_reducible refine Keeps.ite ?_ (fun _ => ?_)
    | with_reducible refine State.modChan_keeps ?_ ?_
    | with_reducible refine nxtWrite_keeps ?_ ?_
    | with_reducible refine promote_keeps ?_ ?_
    | with_reducible refine setErr_keeps ?_ ?_
    | with_reducible refine Keeps.foldl _ (fun _ _ _ => ?_) ?_
    | with_reducible refine Keeps.foldl_fst _ (fun _ _ _ => ?_) ?_
    | dsimp only
    | split

theorem viewWrite_keeps {V : Nat} {f : Nat} {v : Nat} {off : Nat} {w : Nat} {s0 s : State} (hV : subMask 879611449835530 V = true)
    (h : Keeps V s0 s) : Keeps V s0 (viewWrite f v off w s) := by
  refine h.step hV ?_
  clear h hV
  have h : Keeps 879611449835530 s s := .refl _ _
  unfold viewWrite
  repeat' first
    | with_reducible assumption
    | decide
    | with_reducible refine Keeps.ite ?_ (fun _ => ?_)
    | with_reducible refine bulkCancel_keeps ?_ ?_
    | with_reducible refine bulkStop_keeps ?_ ?_
    | with_reducible refine nxtArm_keeps ?_ ?_
    | with_reducible refine nxtWrite_keeps ?_ ?_

theorem bmcWrite_keeps {V : Nat} {f : Nat} {off : Nat} {v : Nat} {s0 s : State} (hV : subMask 895004612624394 V = true)
    (h : Keeps V s0 s) : Keeps V s0 (bmcWrite f off v s) := by
  refine h.step hV ?_
  clear h hV
  have h : Keeps 895004612624394 s s := .refl _ _
  unfold bmcWrite
  repeat' first
    | with_reducible assumption
    | decide
    | with_reducible refine Keeps.ite ?_ (fun _ => ?_)
    | with_reducible refine State.setReg_keeps ?_ ?_
    | with_reducible refine bcqHead_keeps ?_ ?_
    | with_reducible refine clampLog_keeps ?_ ?_
    | with_reducible refine doorbell_keeps ?_ ?_
    | with_reducible refine ringBase_keeps ?_ ?_
    | with_reducible refine ringCfg_keeps ?_ ?_
    | with_reducible refine viewWrite_keeps ?_ ?_

theorem mgrAccess_keeps {V : Nat} {t0 : Nat} {load : Bool} {s0 s : State} (hV : subMask 65538 V = true)
    (h : Keeps V s0 s) : Keeps V s0 (mgrAccess t0 load s) := by
  refine h.step hV ?_
  clear h hV
  have h : Keeps 65538 s s := .refl _ _
  unfold mgrAccess
  repeat' first
    | with_reducible assumption
    | decide
    | with_reducible refine Keeps.ite ?_ (fun _ => ?_)
    | with_reducible refine mgrResult_keeps ?_ ?_
    | with_reducible refine Keeps.foldl _ (fun _ _ _ => ?_) ?_
    | with_reducible refine Keeps.foldl_fst _ (fun _ _ _ => ?_) ?_
    | dsimp only
    | split
    | with_reducible refine Keeps.set_bridge ?_ ?_

theorem mctlWrite_keeps {V : Nat} {t0 : Nat} {v : Nat} {s0 s : State} (hV : subMask 65538 V = true)
    (h : Keeps V s0 s) : Keeps V s0 (mctlWrite t0 v s) := by
  refine h.step hV ?_
  clear h hV
  have h : Keeps 65538 s s := .refl _ _
  unfold mctlWrite
  repeat' first
    | with_reducible assumption
    | decide
    | with_reducible refine Keeps.ite ?_ (fun _ => ?_)
    | with_reducible refine State.setReg_keeps ?_ ?_
    | with_reducible refine logClamp_keeps ?_ ?_
    | with_reducible refine mgrAccess_keeps ?_ ?_

theorem brgWrite_keeps {V : Nat} {t0 : Nat} {off : Nat} {v : Nat} {s0 s : State} (hV : subMask 65538 V = true)
    (h : Keeps V s0 s) : Keeps V s0 (brgWrite t0 off v s) := by
  refine h.step hV ?_
  clear h hV
  have h : Keeps 65538 s s := .refl _ _
  unfold brgWrite
  repeat' first
    | with_reducible assumption
    | decide
    | with_reducible refine Keeps.ite ?_ (fun _ => ?_)
    | with_reducible refine State.setReg_keeps ?_ ?_
    | with_reducible refine clampLog_keeps ?_ ?_
    | with_reducible refine mctlWrite_keeps ?_ ?_

theorem lockRelease_keeps {V : Nat} {f : Nat} {tok : Nat} {s0 s : State} (hV : subMask 42 V = true)
    (h : Keeps V s0 s) : Keeps V s0 (lockRelease f tok s) := by
  refine h.step hV ?_
  clear h hV
  have h : Keeps 42 s s := .refl _ _
  unfold lockRelease
  repeat' first
    | with_reducible assumption
    | decide
    | with_reducible refine Keeps.ite ?_ (fun _ => ?_)
    | with_reducible refine freeLock_keeps ?_ ?_
    | with_reducible refine setErr_keeps ?_ ?_
    | with_reducible refine Keeps.foldl _ (fun _ _ _ => ?_) ?_
    | with_reducible refine Keeps.foldl_fst _ (fun _ _ _ => ?_) ?_
    | dsimp only
    | split

theorem lockRenew_keeps {V : Nat} {f : Nat} {tok : Nat} {s0 s : State} (hV : subMask 10 V = true)
    (h : Keeps V s0 s) : Keeps V s0 (lockRenew f tok s) := by
  refine h.step hV ?_
  clear h hV
  have h : Keeps 10 s s := .refl _ _
  unfold lockRenew
  repeat' first
    | with_reducible assumption
    | decide
    | with_reducible refine Keeps.ite ?_ (fun _ => ?_)
    | with_reducible refine setErr_keeps ?_ ?_

theorem wfclr_keeps {V : Nat} {f : Nat} {v : Nat} {s0 s : State} (hV : subMask 8 V = true)
    (h : Keeps V s0 s) : Keeps V s0 (wfclr f v s) := by
  refine h.step hV ?_
  clear h hV
  have h : Keeps 8 s s := .refl _ _
  unfold wfclr
  repeat' first
    | with_reducible assumption
    | decide
    | with_reducible refine Keeps.ite ?_ (fun _ => ?_)
    | with_reducible refine State.modBridge_keeps ?_ ?_

theorem winbaseWrite_keeps {V : Nat} {f : Nat} {v : Nat} {s0 s : State} (hV : subMask 879611449769994 V = true)
    (h : Keeps V s0 s) : Keeps V s0 (winbaseWrite f v s) := by
  refine h.step hV ?_
  clear h hV
  have h : Keeps 879611449769994 s s := .refl _ _
  unfold winbaseWrite
  repeat' first
    | with_reducible assumption
    | decide
    | with_reducible refine Keeps.ite ?_ (fun _ => ?_)
    | with_reducible refine State.modBridge_keeps ?_ ?_
    | with_reducible refine endLoad_keeps ?_ ?_
    | with_reducible refine logClamp_keeps ?_ ?_
    | with_reducible refine Keeps.foldl _ (fun _ _ _ => ?_) ?_

theorem bwvWrite_keeps {V : Nat} {f : Nat} {off : Nat} {v : Nat} {s0 s : State} (hV : subMask 879611449770026 V = true)
    (h : Keeps V s0 s) : Keeps V s0 (bwvWrite f off v s) := by
  refine h.step hV ?_
  clear h hV
  have h : Keeps 879611449770026 s s := .refl _ _
  unfold bwvWrite
  repeat' first
    | with_reducible assumption
    | decide
    | with_reducible refine Keeps.ite ?_ (fun _ => ?_)
    | with_reducible refine State.setReg_keeps ?_ ?_
    | with_reducible refine clampLog_keeps ?_ ?_
    | with_reducible refine lockRelease_keeps ?_ ?_
    | with_reducible refine lockRenew_keeps ?_ ?_
    | with_reducible refine setErr_keeps ?_ ?_
    | with_reducible refine wfclr_keeps ?_ ?_
    | with_reducible refine winbaseWrite_keeps ?_ ?_

theorem masterLost_keeps {V : Nat} {s0 s : State} (hV : subMask 879611449704459 V = true)
    (h : Keeps V s0 s) : Keeps V s0 (masterLost s) := by
  refine h.step hV ?_
  clear h hV
  have h : Keeps 879611449704459 s s := .refl _ _
  unfold masterLost
  repeat' first
    | with_reducible assumption
    | decide
    | with_reducible refine Keeps.ite ?_ (fun _ => ?_)
    | with_reducible refine State.modTime_keeps ?_ ?_
    | with_reducible refine emitMgr_keeps ?_ ?_
    | with_reducible refine setErr_keeps ?_ ?_

theorem ctlEnable_keeps {V : Nat} {ty : Nat} {inst : Nat} {en : Bool} {s0 s : State} (hV : subMask 879611449704523 V = true)
    (h : Keeps V s0 s) : Keeps V s0 (ctlEnable ty inst en s) := by
  refine h.step hV ?_
  clear h hV
  have h : Keeps 879611449704523 s s := .refl _ _
  unfold ctlEnable
  repeat' first
    | with_reducible assumption
    | decide
    | with_reducible refine Keeps.ite ?_ (fun _ => ?_)
    | with_reducible refine State.modPlan_keeps ?_ ?_
    | with_reducible refine State.setReg_keeps ?_ ?_
    | with_reducible refine logClamp_keeps ?_ ?_
    | with_reducible refine masterLost_keeps ?_ ?_

theorem promoteTile_keeps {V : Nat} {t0 : Nat} {s0 s : State} (hV : subMask 879611449835530 V = true)
    (h : Keeps V s0 s) : Keeps V s0 (promoteTile t0 s) := by
  refine h.step hV ?_
  clear h hV
  have h : Keeps 879611449835530 s s := .refl _ _
  unfold promoteTile
  repeat' first
    | with_reducible assumption
    | decide
    | with_reducible refine Keeps.ite ?_ (fun _ => ?_)
    | with_reducible refine promote_keeps ?_ ?_
    | with_reducible refine Keeps.foldl _ (fun _ _ _ => ?_) ?_

theorem ctlQuiesce_keeps {V : Nat} {ty : Nat} {inst : Nat} {q : Bool} {s0 s : State} (hV : subMask 879611449835530 V = true)
    (h : Keeps V s0 s) : Keeps V s0 (ctlQuiesce ty inst q s) := by
  refine h.step hV ?_
  clear h hV
  have h : Keeps 879611449835530 s s := .refl _ _
  unfold ctlQuiesce
  repeat' first
    | with_reducible assumption
    | decide
    | with_reducible refine Keeps.ite ?_ (fun _ => ?_)
    | with_reducible refine State.setReg_keeps ?_ ?_
    | with_reducible refine logClamp_keeps ?_ ?_
    | with_reducible refine promoteTile_keeps ?_ ?_

theorem blockEffect_keeps {V : Nat} {ty : Nat} {inst : Nat} {s0 s : State} (hV : subMask 844427178278987 V = true)
    (h : Keeps V s0 s) : Keeps V s0 (blockEffect ty inst s) := by
  refine h.step hV ?_
  clear h hV
  have h : Keeps 844427178278987 s s := .refl _ _
  unfold blockEffect
  repeat' first
    | with_reducible assumption
    | decide
    | with_reducible refine Keeps.ite ?_ (fun _ => ?_)
    | with_reducible refine State.modFn_keeps ?_ ?_
    | with_reducible refine State.modFw_keeps ?_ ?_
    | with_reducible refine State.modPlan_keeps ?_ ?_
    | with_reducible refine State.modPwr_keeps ?_ ?_
    | with_reducible refine State.modSq_keeps ?_ ?_
    | with_reducible refine State.modTime_keeps ?_ ?_
    | with_reducible refine admWipe_keeps ?_ ?_
    | with_reducible refine avsCleared_keeps ?_ ?_
    | with_reducible refine ringOff_keeps ?_ ?_
    | with_reducible refine startLevel_keeps ?_ ?_
    | with_reducible refine Keeps.foldl _ (fun _ _ _ => ?_) ?_
    | with_reducible refine Keeps.foldl_fst _ (fun _ _ _ => ?_) ?_
    | dsimp only
    | split
    | with_reducible refine Keeps.set_mgt ?_ ?_

theorem fwuSettle_keeps {V : Nat} {s0 s : State} (hV : subMask 33554434 V = true)
    (h : Keeps V s0 s) : Keeps V s0 (fwuSettle s) := by
  refine h.step hV ?_
  clear h hV
  have h : Keeps 33554434 s s := .refl _ _
  unfold fwuSettle
  repeat' first
    | with_reducible assumption
    | decide
    | with_reducible refine Keeps.ite ?_ (fun _ => ?_)
    | with_reducible refine State.modFw_keeps ?_ ?_
    | with_reducible refine clearPage_keeps ?_ ?_

theorem blockReset_keeps {V : Nat} {ty : Nat} {inst : Nat} {s0 s : State} (hV : subMask 895004713156683 V = true)
    (h : Keeps V s0 s) : Keeps V s0 (blockReset ty inst s) := by
  refine h.step hV ?_
  clear h hV
  have h : Keeps 895004713156683 s s := .refl _ _
  unfold blockReset
  repeat' first
    | with_reducible assumption
    | decide
    | with_reducible refine Keeps.ite ?_ (fun _ => ?_)
    | with_reducible refine State.modFw_keeps ?_ ?_
    | with_reducible refine blockEffect_keeps ?_ ?_
    | with_reducible refine cancelStandby_keeps ?_ ?_
    | with_reducible refine clearPage_keeps ?_ ?_
    | with_reducible refine fwuSettle_keeps ?_ ?_

theorem bootEvent_keeps {V : Nat} {e0 : Event} {s0 s : State} (hV : subMask 33554432 V = true)
    (h : Keeps V s0 s) : Keeps V s0 (bootEvent e0 s) := by
  refine h.step hV ?_
  clear h hV
  have h : Keeps 33554432 s s := .refl _ _
  unfold bootEvent
  repeat' first
    | with_reducible assumption
    | decide
    | with_reducible refine Keeps.ite ?_ (fun _ => ?_)
    | with_reducible refine State.modFw_keeps ?_ ?_

theorem booted_keeps {V : Nat} {slot : Nat} {why : Nat} {recovery : Bool} {s0 s : State} (hV : subMask 33554442 V = true)
    (h : Keeps V s0 s) : Keeps V s0 (booted slot why recovery s) := by
  refine h.step hV ?_
  clear h hV
  have h : Keeps 33554442 s s := .refl _ _
  unfold booted
  repeat' first
    | with_reducible assumption
    | decide
    | with_reducible refine Keeps.ite ?_ (fun _ => ?_)
    | with_reducible refine State.modFw_keeps ?_ ?_
    | with_reducible refine bootEvent_keeps ?_ ?_
    | with_reducible refine setErr_keeps ?_ ?_

theorem packageFault_keeps {V : Nat} {s0 s : State} (hV : subMask 35165044736 V = true)
    (h : Keeps V s0 s) : Keeps V s0 (packageFault s) := by
  refine h.step hV ?_
  clear h hV
  have h : Keeps 35165044736 s s := .refl _ _
  unfold packageFault
  repeat' first
    | with_reducible assumption
    | decide
    | with_reducible refine Keeps.ite ?_ (fun _ => ?_)
    | with_reducible refine State.modPins_keeps ?_ ?_
    | with_reducible refine Keeps.foldl _ (fun _ _ _ => ?_) ?_
    | with_reducible refine Keeps.foldl_fst _ (fun _ _ _ => ?_) ?_
    | dsimp only
    | split
    | with_reducible refine Keeps.set_boot_link ?_ ?_ ?_

theorem manifestGood_keeps {V : Nat} {m : List Byte} {count : Nat} {s0 s : State} (hV : subMask 2 V = true)
    (h : Keeps V s0 s) : Keeps V s0 (manifestGood m count s).2 := by
  refine h.step hV ?_
  clear h hV
  have h : Keeps 2 s s := .refl _ _
  unfold manifestGood
  repeat' first
    | with_reducible assumption
    | decide
    | with_reducible refine Keeps.ite ?_ (fun _ => ?_)
    | with_reducible refine countReg_keeps ?_ ?_
    | with_reducible refine Keeps.foldl _ (fun _ _ _ => ?_) ?_
    | with_reducible refine Keeps.foldl_fst _ (fun _ _ _ => ?_) ?_
    | dsimp only
    | split

theorem slotGood_keeps {V : Nat} {slot : Nat} {s0 s : State} (hV : subMask 2 V = true)
    (h : Keeps V s0 s) : Keeps V s0 (slotGood slot s).2 := by
  refine h.step hV ?_
  clear h hV
  have h : Keeps 2 s s := .refl _ _
  unfold slotGood
  repeat' first
    | with_reducible assumption
    | decide
    | with_reducible refine Keeps.ite ?_ (fun _ => ?_)
    | with_reducible refine manifestGood_keeps ?_ ?_

theorem bootGolden_keeps {V : Nat} {why : Nat} {s0 s : State} (hV : subMask 35198599178 V = true)
    (h : Keeps V s0 s) : Keeps V s0 (bootGolden why s) := by
  refine h.step hV ?_
  clear h hV
  have h : Keeps 35198599178 s s := .refl _ _
  unfold bootGolden
  repeat' first
    | with_reducible assumption
    | decide
    | with_reducible refine Keeps.ite ?_ (fun _ => ?_)
    | with_reducible refine booted_keeps ?_ ?_
    | with_reducible refine packageFault_keeps ?_ ?_
    | with_reducible refine slotGood_keeps ?_ ?_

theorem bootConfirmed_keeps {V : Nat} {why : Nat} {s0 s : State} (hV : subMask 35198599178 V = true)
    (h : Keeps V s0 s) : Keeps V s0 (bootConfirmed why s) := by
  refine h.step hV ?_
  clear h hV
  have h : Keeps 35198599178 s s := .refl _ _
  unfold bootConfirmed
  repeat' first
    | with_reducible assumption
    | decide
    | with_reducible refine Keeps.ite ?_ (fun _ => ?_)
    | with_reducible refine bootGolden_keeps ?_ ?_
    | with_reducible refine booted_keeps ?_ ?_
    | with_reducible refine packageFault_keeps ?_ ?_
    | with_reducible refine slotGood_keeps ?_ ?_

theorem bootRollback_keeps {V : Nat} {reason : Nat} {why : Nat} {w : BootRec} {s0 s : State} (hV : subMask 844460128731146 V = true)
    (h : Keeps V s0 s) : Keeps V s0 (bootRollback reason why w s) := by
  refine h.step hV ?_
  clear h hV
  have h : Keeps 844460128731146 s s := .refl _ _
  unfold bootRollback
  repeat' first
    | with_reducible assumption
    | decide
    | with_reducible refine Keeps.ite ?_ (fun _ => ?_)
    | with_reducible refine bootConfirmed_keeps ?_ ?_
    | with_reducible refine bootEvent_keeps ?_ ?_
    | with_reducible refine writeBoot_keeps ?_ ?_

theorem raiseSvn_keeps {V : Nat} {svn : Nat} {s0 s : State} (hV : subMask 844424963686410 V = true)
    (h : Keeps V s0 s) : Keeps V s0 (raiseSvn svn s) := by
  refine h.step hV ?_
  clear h hV
  have h : Keeps 844424963686410 s s := .refl _ _
  unfold raiseSvn
  repeat' first
    | with_reducible assumption
    | decide
    | with_reducible refine Keeps.ite ?_ (fun _ => ?_)
    | with_reducible refine State.modFw_keeps ?_ ?_
    | with_reducible refine out_keeps ?_ ?_
    | with_reducible refine setErr_keeps ?_ ?_

theorem bootSvn_keeps {V : Nat} {s0 s : State} (hV : subMask 844424963686410 V = true)
    (h : Keeps V s0 s) : Keeps V s0 (bootSvn s) := by
  refine h.step hV ?_
  clear h hV
  have h : Keeps 844424963686410 s s := .refl _ _
  unfold bootSvn
  repeat' first
    | with_reducible assumption
    | decide
    | with_reducible refine Keeps.ite ?_ (fun _ => ?_)
    | with_reducible refine raiseSvn_keeps ?_ ?_
    | with_reducible refine Keeps.foldl _ (fun _ _ _ => ?_) ?_
    | with_reducible refine Keeps.foldl_fst _ (fun _ _ _ => ?_) ?_
    | dsimp only
    | split

theorem bootSelect_keeps {V : Nat} {s0 s : State} (hV : subMask 844460128731146 V = true)
    (h : Keeps V s0 s) : Keeps V s0 (bootSelect s) := by
  refine h.step hV ?_
  clear h hV
  have h : Keeps 844460128731146 s s := .refl _ _
  unfold bootSelect
  repeat' first
    | with_reducible assumption
    | decide
    | with_reducible refine Keeps.ite ?_ (fun _ => ?_)
    | with_reducible refine bootConfirmed_keeps ?_ ?_
    | with_reducible refine bootGolden_keeps ?_ ?_
    | with_reducible refine bootRollback_keeps ?_ ?_
    | with_reducible refine bootSvn_keeps ?_ ?_
    | with_reducible refine booted_keeps ?_ ?_
    | with_reducible refine slotGood_keeps ?_ ?_
    | with_reducible refine writeBoot_keeps ?_ ?_
    | with_reducible refine Keeps.foldl _ (fun _ _ _ => ?_) ?_
    | with_reducible refine Keeps.foldl_fst _ (fun _ _ _ => ?_) ?_
    | dsimp only
    | split

theorem replayOne_keeps {V : Nat} {r : Nat × Nat × Nat × List Byte} {s0 s : State} (hV : subMask 524320 V = true)
    (h : Keeps V s0 s) : Keeps V s0 (replayOne s r) := by
  refine h.step hV ?_
  clear h hV
  have h : Keeps 524320 s s := .refl _ _
  unfold replayOne
  repeat' first
    | with_reducible assumption
    | decide
    | with_reducible refine Keeps.ite ?_ (fun _ => ?_)
    | with_reducible refine State.modNode_keeps ?_ ?_
    | with_reducible refine Keeps.foldl _ (fun _ _ _ => ?_) ?_
    | with_reducible refine Keeps.foldl_fst _ (fun _ _ _ => ?_) ?_
    | dsimp only
    | split
    | with_reducible refine Keeps.set_quar ?_ ?_

theorem replayTables_keeps {V : Nat} {s0 s : State} (hV : subMask 63438890 V = true)
    (h : Keeps V s0 s) : Keeps V s0 (replayTables s) := by
  refine h.step hV ?_
  clear h hV
  have h : Keeps 63438890 s s := .refl _ _
  unfold replayTables
  repeat' first
    | with_reducible assumption
    | decide
    | with_reducible refine Keeps.ite ?_ (fun _ => ?_)
    | with_reducible refine State.modNode_keeps ?_ ?_
    | with_reducible refine State.putHalf_keeps ?_ ?_
    | with_reducible refine bootEvent_keeps ?_ ?_
    | with_reducible refine replayOne_keeps ?_ ?_
    | with_reducible refine setErr_keeps ?_ ?_
    | with_reducible refine Keeps.foldl _ (fun _ _ _ => ?_) ?_
    | with_reducible refine Keeps.foldl_fst _ (fun _ _ _ => ?_) ?_
    | dsimp only
    | split
    | with_reducible refine Keeps.set_half0_half1_half ?_ ?_ ?_ ?_
    | with_reducible refine Keeps.set_quar_half ?_ ?_ ?_

theorem settingsSelect_keeps {V : Nat} {s0 s : State} (hV : subMask 862017149730831 V = true)
    (h : Keeps V s0 s) : Keeps V s0 (settingsSelect s) := by
  refine h.step hV ?_
  clear h hV
  have h : Keeps 862017149730831 s s := .refl _ _
  unfold settingsSelect
  repeat' first
    | with_reducible assumption
    | decide
    | with_reducible refine Keeps.ite ?_ (fun _ => ?_)
    | with_reducible refine State.modFw_keeps ?_ ?_
    | with_reducible refine bootEvent_keeps ?_ ?_
    | with_reducible refine out_keeps ?_ ?_
    | with_reducible refine setErr_keeps ?_ ?_
    | with_reducible refine Keeps.foldl _ (fun _ _ _ => ?_) ?_
    | with_reducible refine Keeps.foldl_fst _ (fun _ _ _ => ?_) ?_
    | dsimp only
    | split
    | with_reducible refine Keeps.set_time_stored_xogate ?_ ?_ ?_ ?_

theorem bootStart_keeps {V : Nat} {straps : Nat} {flash : Bool} {s0 s : State} (hV : subMask 862052344660015 V = true)
    (h : Keeps V s0 s) : Keeps V s0 (bootStart straps flash s) := by
  refine h.step hV ?_
  clear h hV
  have h : Keeps 862052344660015 s s := .refl _ _
  unfold bootStart
  repeat' first
    | with_reducible assumption
    | decide
    | with_reducible refine Keeps.ite ?_ (fun _ => ?_)
    | with_reducible refine State.modFw_keeps ?_ ?_
    | with_reducible refine State.modPins_keeps ?_ ?_
    | with_reducible refine bootSelect_keeps ?_ ?_
    | with_reducible refine replayTables_keeps ?_ ?_
    | with_reducible refine settingsSelect_keeps ?_ ?_
    | with_reducible refine Keeps.foldl _ (fun _ _ _ => ?_) ?_
    | with_reducible refine Keeps.foldl_fst _ (fun _ _ _ => ?_) ?_
    | dsimp only
    | split
    | with_reducible refine Keeps.set_boot ?_ ?_

theorem packageReset_keeps {V : Nat} {cause : Nat} {s0 s : State} (hV : subMask 1125899906842623 V = true)
    (h : Keeps V s0 s) : Keeps V s0 (packageReset cause s) := by
  refine h.step hV ⟨?_, rfl, rfl, fun hi => ?_⟩
  · intro p hp
    cases p <;> first | rfl | exact absurd hp (by decide)
  · exact { part := hi.part, pim := rfl, regs := rfl, fns := rfl, ports := rfl, nodes := rfl, plans := rfl, lists := rfl,
            owners := rfl, points := rfl, rules := rfl, remote := rfl, chans := rfl, tile := by
              show nwf {} (nmapAll {} (fun (_ : Nat) (x : Tile) => x.kept) s.tile) = true
              exact nwf_nmapAll _
            meshFails := rfl }

theorem glbReset_keeps {V : Nat} {straps : Nat} {flash : Bool} {s0 s : State} (hV : subMask 1125899906842623 V = true)
    (h : Keeps V s0 s) : Keeps V s0 (glbReset straps flash s) := by
  refine h.step hV ?_
  clear h hV
  have h : Keeps 1125899906842623 s s := .refl _ _
  unfold glbReset
  repeat' first
    | with_reducible assumption
    | decide
    | with_reducible refine Keeps.ite ?_ (fun _ => ?_)
    | with_reducible refine bootStart_keeps ?_ ?_
    | with_reducible refine packageReset_keeps ?_ ?_

theorem clearNodeCounts_keeps {V : Nat} {g : Nat} {s0 s : State} (hV : subMask 32 V = true)
    (h : Keeps V s0 s) : Keeps V s0 (clearNodeCounts g s) := by
  refine h.step hV ?_
  clear h hV
  have h : Keeps 32 s s := .refl _ _
  unfold clearNodeCounts
  repeat' first
    | with_reducible assumption
    | decide
    | with_reducible refine Keeps.ite ?_ (fun _ => ?_)
    | with_reducible refine State.modNode_keeps ?_ ?_
    | with_reducible refine Keeps.foldl _ (fun _ _ _ => ?_) ?_

theorem releaseTree_keeps {V : Nat} {g : Nat} {s0 s : State} (hV : subMask 48 V = true)
    (h : Keeps V s0 s) : Keeps V s0 (releaseTree g s) := by
  refine h.step hV ?_
  clear h hV
  have h : Keeps 48 s s := .refl _ _
  unfold releaseTree
  repeat' first
    | with_reducible assumption
    | decide
    | with_reducible refine Keeps.ite ?_ (fun _ => ?_)
    | with_reducible refine State.modPort_keeps ?_ ?_
    | with_reducible refine makeAbsent_keeps ?_ ?_
    | with_reducible refine Keeps.foldl _ (fun _ _ _ => ?_) ?_

theorem portReset_keeps {V : Nat} {g : Nat} {s0 s : State} (hV : subMask 1020350014096698 V = true)
    (h : Keeps V s0 s) : Keeps V s0 (portReset g s) := by
  refine h.step hV ?_
  clear h hV
  have h : Keeps 1020350014096698 s s := .refl _ _
  unfold portReset
  repeat' first
    | with_reducible assumption
    | decide
    | with_reducible refine Keeps.ite ?_ (fun _ => ?_)
    | with_reducible refine State.modPort_keeps ?_ ?_
    | with_reducible refine clearNodeCounts_keeps ?_ ?_
    | with_reducible refine clearPage_keeps ?_ ?_
    | with_reducible refine emitMgr_keeps ?_ ?_
    | with_reducible refine hopDown_keeps ?_ ?_
    | with_reducible refine releaseTree_keeps ?_ ?_
    | with_reducible refine tryTrain_keeps ?_ ?_

theorem powerUp_keeps {V : Nat} {t0 : Nat} {s0 s : State} (hV : subMask 844427077615618 V = true)
    (h : Keeps V s0 s) : Keeps V s0 (powerUp t0 s) := by
  refine h.step hV ?_
  clear h hV
  have h : Keeps 844427077615618 s s := .refl _ _
  unfold powerUp
  repeat' first
    | with_reducible assumption
    | decide
    | with_reducible refine Keeps.ite ?_ (fun _ => ?_)
    | with_reducible refine State.modPwr_keeps ?_ ?_
    | with_reducible refine noteAvs_keeps ?_ ?_
    | with_reducible refine sendBus_keeps ?_ ?_

theorem startWake_keeps {V : Nat} {t0 : Nat} {cause : Nat} {port : Nat} {s0 s : State} (hV : subMask 844427346051074 V = true)
    (h : Keeps V s0 s) : Keeps V s0 (startWake t0 cause port s) := by
  refine h.step hV ?_
  clear h hV
  have h : Keeps 844427346051074 s s := .refl _ _
  unfold startWake
  repeat' first
    | with_reducible assumption
    | decide
    | with_reducible refine Keeps.ite ?_ (fun _ => ?_)
    | with_reducible refine State.modPwr_keeps ?_ ?_
    | with_reducible refine State.modTile_keeps ?_ ?_
    | with_reducible refine powerUp_keeps ?_ ?_
    | with_reducible refine Keeps.foldl _ (fun _ _ _ => ?_) ?_
    | with_reducible refine Keeps.foldl_fst _ (fun _ _ _ => ?_) ?_
    | dsimp only
    | split
    | with_reducible refine Keeps.set_pins ?_ ?_

theorem wakeSource_keeps {V : Nat} {t0 : Nat} {cause : Nat} {port : Nat} {s0 s : State} (hV : subMask 895004880928778 V = true)
    (h : Keeps V s0 s) : Keeps V s0 (wakeSource t0 cause port s) := by
  refine h.step hV ?_
  clear h hV
  have h : Keeps 895004880928778 s s := .refl _ _
  unfold wakeSource
  repeat' first
    | with_reducible assumption
    | decide
    | with_reducible refine Keeps.ite ?_ (fun _ => ?_)
    | with_reducible refine State.modPwr_keeps ?_ ?_
    | with_reducible refine cancelStandby_keeps ?_ ?_
    | with_reducible refine startWake_keeps ?_ ?_

theorem holdAcc_keeps {V : Nat} {t0 : Nat} {a : HeldAcc} {s0 s : State} (hV : subMask 895004880928778 V = true)
    (h : Keeps V s0 s) : Keeps V s0 (holdAcc t0 a s) := by
  refine h.step hV ?_
  clear h hV
  have h : Keeps 895004880928778 s s := .refl _ _
  unfold holdAcc
  repeat' first
    | with_reducible assumption
    | decide
    | with_reducible refine Keeps.ite ?_ (fun _ => ?_)
    | with_reducible refine State.modPwr_keeps ?_ ?_
    | with_reducible refine wakeSource_keeps ?_ ?_

theorem clearRules_keeps {V : Nat} {p : Nat → Bool} {s0 s : State} (hV : subMask 4096 V = true)
    (h : Keeps V s0 s) : Keeps V s0 (clearRules p s) := by
  refine h.step hV ?_
  clear h hV
  have h : Keeps 4096 s s := .refl _ _
  unfold clearRules
  repeat' first
    | with_reducible assumption
    | decide
    | with_reducible refine Keeps.ite ?_ (fun _ => ?_)
    | exact nwf_nmod _ _
    | exact nwf_nput _ _
    | exact nwf_filter _
    | exact fun _ => nwf_nmapAll _
    | exact ascKeys_nput _ _ _
    | exact ascKeys_filter _
    | exact nwf_foldl_nput _ _ _
    | exact memWrite_wf _ _ _
    | exact fun hi => nwf_nput _ _ (nwf_filter _ hi)
    | with_reducible refine Keeps.foldl _ (fun _ _ _ => ?_) ?_
    | with_reducible refine Keeps.foldl_fst _ (fun _ _ _ => ?_) ?_
    | dsimp only
    | split
    | with_reducible refine Keeps.set_rules ?_ ?_ ?_

theorem clearPortPages_keeps {V : Nat} {g : Nat} {s0 s : State} (hV : subMask 98 V = true)
    (h : Keeps V s0 s) : Keeps V s0 (clearPortPages g s) := by
  refine h.step hV ?_
  clear h hV
  have h : Keeps 98 s s := .refl _ _
  unfold clearPortPages
  repeat' first
    | with_reducible assumption
    | decide
    | with_reducible refine Keeps.ite ?_ (fun _ => ?_)
    | with_reducible refine State.modPlan_keeps ?_ ?_
    | with_reducible refine clearNodeCounts_keeps ?_ ?_
    | with_reducible refine clearPage_keeps ?_ ?_
    | with_reducible refine Keeps.foldl _ (fun _ _ _ => ?_) ?_

theorem clearTilePages_keeps {V : Nat} {t0 : Nat} {s0 s : State} (hV : subMask 98 V = true)
    (h : Keeps V s0 s) : Keeps V s0 (clearTilePages t0 s) := by
  refine h.step hV ?_
  clear h hV
  have h : Keeps 98 s s := .refl _ _
  unfold clearTilePages
  repeat' first
    | with_reducible assumption
    | decide
    | with_reducible refine Keeps.ite ?_ (fun _ => ?_)
    | with_reducible refine clearPage_keeps ?_ ?_
    | with_reducible refine clearPortPages_keeps ?_ ?_
    | with_reducible refine Keeps.foldl _ (fun _ _ _ => ?_) ?_

theorem dropIdle_keeps {V : Nat} {g : Nat} {s0 s : State} (hV : subMask 64 V = true)
    (h : Keeps V s0 s) : Keeps V s0 (dropIdle g s) := by
  refine h.step hV ?_
  clear h hV
  have h : Keeps 64 s s := .refl _ _
  unfold dropIdle
  repeat' first
    | with_reducible assumption
    | decide
    | with_reducible refine Keeps.ite ?_ (fun _ => ?_)
    | with_reducible refine State.modPlan_keeps ?_ ?_

theorem endTileWork_keeps {V : Nat} {t0 : Nat} {status : Nat} {detail : Nat} {s0 s : State} (hV : subMask 879611449704458 V = true)
    (h : Keeps V s0 s) : Keeps V s0 (endTileWork t0 status detail s) := by
  refine h.step hV ?_
  clear h hV
  have h : Keeps 879611449704458 s s := .refl _ _
  unfold endTileWork
  repeat' first
    | with_reducible assumption
    | decide
    | with_reducible refine Keeps.ite ?_ (fun _ => ?_)
    | with_reducible refine failHandle_keeps ?_ ?_
    | with_reducible refine finish_keeps ?_ ?_
    | with_reducible refine Keeps.foldl _ (fun _ _ _ => ?_) ?_

theorem loseCopies_keeps {V : Nat} {t0 : Nat} {s0 s : State} (hV : subMask 24576 V = true)
    (h : Keeps V s0 s) : Keeps V s0 (loseCopies t0 s) := by
  refine h.step hV ?_
  clear h hV
  have h : Keeps 24576 s s := .refl _ _
  unfold loseCopies
  repeat' first
    | with_reducible assumption
    | decide
    | with_reducible refine Keeps.ite ?_ (fun _ => ?_)
    | exact nwf_nmod _ _
    | exact nwf_nput _ _
    | exact nwf_filter _
    | exact fun _ => nwf_nmapAll _
    | exact ascKeys_nput _ _ _
    | exact ascKeys_filter _
    | exact nwf_foldl_nput _ _ _
    | exact memWrite_wf _ _ _
    | exact fun hi => nwf_nput _ _ (nwf_filter _ hi)
    | with_reducible refine Keeps.foldl _ (fun _ _ _ => ?_) ?_
    | with_reducible refine Keeps.foldl_fst _ (fun _ _ _ => ?_) ?_
    | dsimp only
    | split
    | with_reducible refine Keeps.set_remote_copies ?_ ?_ ?_ ?_

theorem stopPorts_keeps {V : Nat} {t0 : Nat} {status : Nat} {arm : Bool} {s0 s : State} (hV : subMask 1020350011999546 V = true)
    (h : Keeps V s0 s) : Keeps V s0 (stopPorts t0 status arm s) := by
  refine h.step hV ?_
  clear h hV
  have h : Keeps 1020350011999546 s s := .refl _ _
  unfold stopPorts
  repeat' first
    | with_reducible assumption
    | decide
    | with_reducible refine Keeps.ite ?_ (fun _ => ?_)
    | with_reducible refine State.modPort_keeps ?_ ?_
    | with_reducible refine State.modPwr_keeps ?_ ?_
    | with_reducible refine hopDown_keeps ?_ ?_
    | with_reducible refine Keeps.foldl _ (fun _ _ _ => ?_) ?_

theorem putTask_keeps {V : Nat} {t0 : Nat} {k : Task} {st : TaskSt} {s0 s : State} (hV : subMask 2147483648 V = true)
    (h : Keeps V s0 s) : Keeps V s0 (putTask t0 k st s) := by
  refine h.step hV ?_
  clear h hV
  have h : Keeps 2147483648 s s := .refl _ _
  unfold putTask
  repeat' first
    | with_reducible assumption
    | decide
    | with_reducible refine Keeps.ite ?_ (fun _ => ?_)
    | with_reducible refine State.modTile_keeps ?_ ?_

theorem takeTasks_keeps {V : Nat} {k : Nat} {t0 : Nat} {s0 s : State} (hV : subMask 2147483648 V = true)
    (h : Keeps V s0 s) : Keeps V s0 (takeTasks t0 k s) := by
  induction k generalizing s with
  | zero =>
    unfold takeTasks
    exact h
  | succ k ih =>
    unfold takeTasks
    repeat' first
      | with_reducible assumption
      | exact subMask_trans (by decide) hV
      | with_reducible refine Keeps.ite ?_ (fun _ => ?_)
      | with_reducible refine putTask_keeps ?_ ?_
      | with_reducible refine Keeps.foldl _ (fun _ _ _ => ?_) ?_
      | with_reducible refine Keeps.foldl_fst _ (fun _ _ _ => ?_) ?_
      | dsimp only
      | split
      | (with_reducible refine ih ?_)

theorem readyTask_keeps {V : Nat} {t0 : Nat} {k : Task} {s0 s : State} (hV : subMask 2147483648 V = true)
    (h : Keeps V s0 s) : Keeps V s0 (readyTask t0 k s) := by
  refine h.step hV ?_
  clear h hV
  have h : Keeps 2147483648 s s := .refl _ _
  unfold readyTask
  repeat' first
    | with_reducible assumption
    | decide
    | with_reducible refine Keeps.ite ?_ (fun _ => ?_)
    | with_reducible refine leaveDoze_keeps ?_ ?_
    | with_reducible refine putTask_keeps ?_ ?_
    | with_reducible refine takeTasks_keeps ?_ ?_

theorem freeTask_keeps {V : Nat} {t0 : Nat} {ctx : Nat} {s0 s : State} (hV : subMask 2147483648 V = true)
    (h : Keeps V s0 s) : Keeps V s0 (freeTask t0 ctx s) := by
  refine h.step hV ?_
  clear h hV
  have h : Keeps 2147483648 s s := .refl _ _
  unfold freeTask
  repeat' first
    | with_reducible assumption
    | decide
    | with_reducible refine Keeps.ite ?_ (fun _ => ?_)
    | with_reducible refine State.modTile_keeps ?_ ?_
    | with_reducible refine readyTask_keeps ?_ ?_
    | with_reducible refine Keeps.foldl _ (fun _ _ _ => ?_) ?_
    | with_reducible refine Keeps.foldl_fst _ (fun _ _ _ => ?_) ?_
    | dsimp only
    | split

theorem endTask_keeps {V : Nat} {t0 : Nat} {k : Task} {status : Nat} {detail : Nat} {s0 s : State} (hV : subMask 879611449704522 V = true)
    (h : Keeps V s0 s) : Keeps V s0 (endTask t0 k status detail s) := by
  refine h.step hV ?_
  clear h hV
  have h : Keeps 879611449704522 s s := .refl _ _
  unfold endTask
  repeat' first
    | with_reducible assumption
    | decide
    | with_reducible refine Keeps.ite ?_ (fun _ => ?_)
    | with_reducible refine dropIdle_keeps ?_ ?_
    | with_reducible refine endCommand_keeps ?_ ?_
    | with_reducible refine failHandle_keeps ?_ ?_
    | with_reducible refine freeTask_keeps ?_ ?_
    | with_reducible refine Keeps.foldl _ (fun _ _ _ => ?_) ?_
    | with_reducible refine Keeps.foldl_fst _ (fun _ _ _ => ?_) ?_
    | dsimp only
    | split

theorem stopTask_keeps {V : Nat} {t0 : Nat} {k : Task} {status : Nat} {detail : Nat} {s0 s : State} (hV : subMask 879611550367946 V = true)
    (h : Keeps V s0 s) : Keeps V s0 (stopTask t0 k status detail s) := by
  refine h.step hV ?_
  clear h hV
  have h : Keeps 879611550367946 s s := .refl _ _
  unfold stopTask
  repeat' first
    | with_reducible assumption
    | decide
    | with_reducible refine Keeps.ite ?_ (fun _ => ?_)
    | with_reducible refine endTask_keeps ?_ ?_
    | with_reducible refine undoOp_keeps ?_ ?_
    | with_reducible refine Keeps.foldl _ (fun _ _ _ => ?_) ?_

theorem tileReset_keeps {V : Nat} {t0 : Nat} {s0 s : State} (hV : subMask 1029146205713914 V = true)
    (h : Keeps V s0 s) : Keeps V s0 (tileReset t0 s) := by
  refine h.step hV ?_
  clear h hV
  have h : Keeps 1029146205713914 s s := .refl _ _
  unfold tileReset
  repeat' first
    | with_reducible assumption
    | decide
    | with_reducible refine Keeps.ite ?_ (fun _ => ?_)
    | with_reducible refine State.modChan_keeps ?_ ?_
    | with_reducible refine State.modPort_keeps ?_ ?_
    | with_reducible refine State.modPwr_keeps ?_ ?_
    | with_reducible refine State.modTile_keeps ?_ ?_
    | with_reducible refine abortDrying_keeps ?_ ?_
    | with_reducible refine clearRules_keeps ?_ ?_
    | with_reducible refine clearTilePages_keeps ?_ ?_
    | with_reducible refine dropIdle_keeps ?_ ?_
    | with_reducible refine endTileWork_keeps ?_ ?_
    | with_reducible refine failHandle_keeps ?_ ?_
    | with_reducible refine loseCopies_keeps ?_ ?_
    | with_reducible refine stopPorts_keeps ?_ ?_
    | with_reducible refine stopTask_keeps ?_ ?_
    | with_reducible refine Keeps.foldl _ (fun _ _ _ => ?_) ?_
    | with_reducible refine Keeps.foldl_fst _ (fun _ _ _ => ?_) ?_
    | dsimp only
    | split
    | with_reducible refine Keeps.set_stopping ?_ ?_

theorem tileCtlReset_keeps {V : Nat} {t0 : Nat} {s0 s : State} (hV : subMask 1035743543916026 V = true)
    (h : Keeps V s0 s) : Keeps V s0 (tileCtlReset t0 s) := by
  refine h.step hV ?_
  clear h hV
  have h : Keeps 1035743543916026 s s := .refl _ _
  unfold tileCtlReset
  repeat' first
    | with_reducible assumption
    | decide
    | with_reducible refine Keeps.ite ?_ (fun _ => ?_)
    | with_reducible refine holdAcc_keeps ?_ ?_
    | with_reducible refine tileReset_keeps ?_ ?_

theorem ctlReset_keeps {V : Nat} {ty : Nat} {inst : Nat} {s0 s : State} (hV : subMask 1125899906842623 V = true)
    (h : Keeps V s0 s) : Keeps V s0 (ctlReset ty inst s) := by
  refine h.step hV ?_
  clear h hV
  have h : Keeps 1125899906842623 s s := .refl _ _
  unfold ctlReset
  repeat' first
    | with_reducible assumption
    | decide
    | with_reducible refine Keeps.ite ?_ (fun _ => ?_)
    | with_reducible refine blockReset_keeps ?_ ?_
    | with_reducible refine glbReset_keeps ?_ ?_
    | with_reducible refine portReset_keeps ?_ ?_
    | with_reducible refine tileCtlReset_keeps ?_ ?_

theorem ctlWrite_keeps {V : Nat} {ty : Nat} {inst : Nat} {v : Nat} {s0 s : State} (hV : subMask 1125899906842623 V = true)
    (h : Keeps V s0 s) : Keeps V s0 (ctlWrite ty inst v s) := by
  refine h.step hV ?_
  clear h hV
  have h : Keeps 1125899906842623 s s := .refl _ _
  unfold ctlWrite
  repeat' first
    | with_reducible assumption
    | decide
    | with_reducible refine Keeps.ite ?_ (fun _ => ?_)
    | with_reducible refine ctlEnable_keeps ?_ ?_
    | with_reducible refine ctlQuiesce_keeps ?_ ?_
    | with_reducible refine ctlReset_keeps ?_ ?_

theorem dblSched_keeps {V : Nat} {f : Nat} {v : Nat} {s0 s : State} (hV : subMask 128 V = true)
    (h : Keeps V s0 s) : Keeps V s0 (dblSched f v s) := by
  refine h.step hV ?_
  clear h hV
  have h : Keeps 128 s s := .refl _ _
  unfold dblSched
  repeat' first
    | with_reducible assumption
    | decide
    | with_reducible refine Keeps.ite ?_ (fun _ => ?_)
    | with_reducible refine State.modList_keeps ?_ ?_

theorem ringHead_keeps {V : Nat} {f : Nat} {kind : Nat} {q : Nat} {v : Nat} {s0 s : State} (hV : subMask 879611449704458 V = true)
    (h : Keeps V s0 s) : Keeps V s0 (ringHead f kind q v s) := by
  refine h.step hV ?_
  clear h hV
  have h : Keeps 879611449704458 s s := .refl _ _
  unfold ringHead
  repeat' first
    | with_reducible assumption
    | decide
    | with_reducible refine Keeps.ite ?_ (fun _ => ?_)
    | with_reducible refine State.modRing_keeps ?_ ?_
    | with_reducible refine ringStop_keeps ?_ ?_
    | with_reducible refine setErr_keeps ?_ ?_

theorem sqTail_keeps {V : Nat} {f : Nat} {q : Nat} {v : Nat} {s0 s : State} (hV : subMask 879611449704458 V = true)
    (h : Keeps V s0 s) : Keeps V s0 (sqTail f q v s) := by
  refine h.step hV ?_
  clear h hV
  have h : Keeps 879611449704458 s s := .refl _ _
  unfold sqTail
  repeat' first
    | with_reducible assumption
    | decide
    | with_reducible refine Keeps.ite ?_ (fun _ => ?_)
    | with_reducible refine State.modSq_keeps ?_ ?_
    | with_reducible refine ringStop_keeps ?_ ?_
    | with_reducible refine setErr_keeps ?_ ?_

theorem dblWrite_keeps {V : Nat} {f : Nat} {off : Nat} {v : Nat} {s0 s : State} (hV : subMask 895004612493450 V = true)
    (h : Keeps V s0 s) : Keeps V s0 (dblWrite f off v s) := by
  refine h.step hV ?_
  clear h hV
  have h : Keeps 895004612493450 s s := .refl _ _
  unfold dblWrite
  repeat' first
    | with_reducible assumption
    | decide
    | with_reducible refine Keeps.ite ?_ (fun _ => ?_)
    | with_reducible refine State.modFn_keeps ?_ ?_
    | with_reducible refine State.setReg_keeps ?_ ?_
    | with_reducible refine clampLog_keeps ?_ ?_
    | with_reducible refine dblSched_keeps ?_ ?_
    | with_reducible refine doorbell_keeps ?_ ?_
    | with_reducible refine ringBase_keeps ?_ ?_
    | with_reducible refine ringCfg_keeps ?_ ?_
    | with_reducible refine ringHead_keeps ?_ ?_
    | with_reducible refine sqTail_keeps ?_ ?_
    | with_reducible refine Keeps.foldl _ (fun _ _ _ => ?_) ?_
    | with_reducible refine Keeps.foldl_fst _ (fun _ _ _ => ?_) ?_
    | dsimp only
    | split

theorem errWrite_keeps {V : Nat} {ty : Nat} {inst : Nat} {v : Nat} {s0 s : State} (hV : subMask 844427077615626 V = true)
    (h : Keeps V s0 s) : Keeps V s0 (errWrite ty inst v s) := by
  refine h.step hV ?_
  clear h hV
  have h : Keeps 844427077615626 s s := .refl _ _
  unfold errWrite
  repeat' first
    | with_reducible assumption
    | decide
    | with_reducible refine Keeps.ite ?_ (fun _ => ?_)
    | with_reducible refine State.modFn_keeps ?_ ?_
    | with_reducible refine State.setReg_keeps ?_ ?_
    | with_reducible refine avsCleared_keeps ?_ ?_
    | with_reducible refine Keeps.foldl _ (fun _ _ _ => ?_) ?_

theorem errmaskWrite_keeps {V : Nat} {ty : Nat} {inst : Nat} {v : Nat} {s0 s : State} (hV : subMask 10 V = true)
    (h : Keeps V s0 s) : Keeps V s0 (errmaskWrite ty inst v s) := by
  refine h.step hV ?_
  clear h hV
  have h : Keeps 10 s s := .refl _ _
  unfold errmaskWrite
  repeat' first
    | with_reducible assumption
    | decide
    | with_reducible refine Keeps.ite ?_ (fun _ => ?_)
    | with_reducible refine State.setReg_keeps ?_ ?_
    | with_reducible refine raiseNorm_keeps ?_ ?_

theorem vecmapWrite_keeps {V : Nat} {f : Nat} {w : Nat} {v : Nat} {s0 s : State} (hV : subMask 10 V = true)
    (h : Keeps V s0 s) : Keeps V s0 (vecmapWrite f w v s) := by
  refine h.step hV ?_
  clear h hV
  have h : Keeps 10 s s := .refl _ _
  unfold vecmapWrite
  repeat' first
    | with_reducible assumption
    | decide
    | with_reducible refine Keeps.ite ?_ (fun _ => ?_)
    | with_reducible refine State.joinEntry_keeps ?_ ?_
    | with_reducible refine State.modFn_keeps ?_ ?_
    | with_reducible refine clampLog_keeps ?_ ?_
    | with_reducible refine Keeps.foldl _ (fun _ _ _ => ?_) ?_

theorem fibWrite_keeps {V : Nat} {f : Nat} {off : Nat} {v : Nat} {s0 s : State} (hV : subMask 10 V = true)
    (h : Keeps V s0 s) : Keeps V s0 (fibWrite f off v s) := by
  refine h.step hV ?_
  clear h hV
  have h : Keeps 10 s s := .refl _ _
  unfold fibWrite
  repeat' first
    | with_reducible assumption
    | decide
    | with_reducible refine Keeps.ite ?_ (fun _ => ?_)
    | with_reducible refine setErr_keeps ?_ ?_
    | with_reducible refine vecmapWrite_keeps ?_ ?_

theorem fwuWrite_keeps {V : Nat} {off : Nat} {v : Nat} {s0 s : State} (hV : subMask 2 V = true)
    (h : Keeps V s0 s) : Keeps V s0 (fwuWrite off v s) := by
  refine h.step hV ?_
  clear h hV
  have h : Keeps 2 s s := .refl _ _
  unfold fwuWrite
  repeat' first
    | with_reducible assumption
    | decide
    | with_reducible refine Keeps.ite ?_ (fun _ => ?_)
    | with_reducible refine State.setSreg_keeps ?_ ?_
    | with_reducible refine clampLog_keeps ?_ ?_

theorem mgtWord_keeps {V : Nat} {off : Nat} {v : Nat} {s0 s : State} (hV : subMask 67108866 V = true)
    (h : Keeps V s0 s) : Keeps V s0 (mgtWord off v s) := by
  refine h.step hV ?_
  clear h hV
  have h : Keeps 67108866 s s := .refl _ _
  unfold mgtWord
  repeat' first
    | with_reducible assumption
    | decide
    | with_reducible refine Keeps.ite ?_ (fun _ => ?_)
    | with_reducible refine State.modMgt_keeps ?_ ?_
    | with_reducible refine State.setSreg_keeps ?_ ?_
    | with_reducible refine logClamp_keeps ?_ ?_
    | with_reducible refine Keeps.foldl _ (fun _ _ _ => ?_) ?_
    | with_reducible refine Keeps.foldl_fst _ (fun _ _ _ => ?_) ?_
    | dsimp only
    | split

theorem mgtWrite_keeps {V : Nat} {off : Nat} {v : Nat} {s0 s : State} (hV : subMask 67108866 V = true)
    (h : Keeps V s0 s) : Keeps V s0 (mgtWrite off v s) := by
  refine h.step hV ?_
  clear h hV
  have h : Keeps 67108866 s s := .refl _ _
  unfold mgtWrite
  repeat' first
    | with_reducible assumption
    | decide
    | with_reducible refine Keeps.ite ?_ (fun _ => ?_)
    | with_reducible refine State.setSreg_keeps ?_ ?_
    | with_reducible refine clampLog_keeps ?_ ?_
    | with_reducible refine mgtWord_keeps ?_ ?_

theorem miscvecWrite_keeps {V : Nat} {f : Nat} {v : Nat} {s0 s : State} (hV : subMask 10 V = true)
    (h : Keeps V s0 s) : Keeps V s0 (miscvecWrite f v s) := by
  refine h.step hV ?_
  clear h hV
  have h : Keeps 10 s s := .refl _ _
  unfold miscvecWrite
  repeat' first
    | with_reducible assumption
    | decide
    | with_reducible refine Keeps.ite ?_ (fun _ => ?_)
    | with_reducible refine State.joinEntry_keeps ?_ ?_
    | with_reducible refine State.setReg_keeps ?_ ?_
    | with_reducible refine clampLog_keeps ?_ ?_

theorem nibWrite_keeps {V : Nat} {f : Nat} {off : Nat} {v : Nat} {s0 s : State} (hV : subMask 10 V = true)
    (h : Keeps V s0 s) : Keeps V s0 (nibWrite f off v s) := by
  refine h.step hV ?_
  clear h hV
  have h : Keeps 10 s s := .refl _ _
  unfold nibWrite
  repeat' first
    | with_reducible assumption
    | decide
    | with_reducible refine Keeps.ite ?_ (fun _ => ?_)
    | with_reducible refine ackWrite_keeps ?_ ?_
    | with_reducible refine miscvecWrite_keeps ?_ ?_

theorem pimWrite_keeps {V : Nat} {t0 : Nat} {off : Nat} {v : Nat} {s0 s : State} (hV : subMask 2 V = true)
    (h : Keeps V s0 s) : Keeps V s0 (pimWrite t0 off v s) := by
  refine h.step hV ?_
  clear h hV
  have h : Keeps 2 s s := .refl _ _
  unfold pimWrite
  repeat' first
    | with_reducible assumption
    | decide
    | with_reducible refine Keeps.ite ?_ (fun _ => ?_)
    | with_reducible refine State.setReg_keeps ?_ ?_
    | with_reducible refine State.setSreg_keeps ?_ ?_

theorem pmtCtlWrite_keeps {V : Nat} {t0 : Nat} {v : Nat} {s0 s : State} (hV : subMask 2147483650 V = true)
    (h : Keeps V s0 s) : Keeps V s0 (pmtCtlWrite t0 v s) := by
  refine h.step hV ?_
  clear h hV
  have h : Keeps 2147483650 s s := .refl _ _
  unfold pmtCtlWrite
  repeat' first
    | with_reducible assumption
    | decide
    | with_reducible refine Keeps.ite ?_ (fun _ => ?_)
    | with_reducible refine State.modPwr_keeps ?_ ?_
    | with_reducible refine State.setSreg_keeps ?_ ?_
    | with_reducible refine leaveDoze_keeps ?_ ?_
    | with_reducible refine logClamp_keeps ?_ ?_
    | with_reducible refine startLevel_keeps ?_ ?_

theorem pmtWrite_keeps {V : Nat} {t0 : Nat} {off : Nat} {v : Nat} {s0 s : State} (hV : subMask 2147483650 V = true)
    (h : Keeps V s0 s) : Keeps V s0 (pmtWrite t0 off v s) := by
  refine h.step hV ?_
  clear h hV
  have h : Keeps 2147483650 s s := .refl _ _
  unfold pmtWrite
  repeat' first
    | with_reducible assumption
    | decide
    | with_reducible refine Keeps.ite ?_ (fun _ => ?_)
    | with_reducible refine State.setReg_keeps ?_ ?_
    | with_reducible refine State.setSreg_keeps ?_ ?_
    | with_reducible refine clampLog_keeps ?_ ?_
    | with_reducible refine pmtCtlWrite_keeps ?_ ?_

theorem stbyctlWrite_keeps {V : Nat} {v : Nat} {s0 s : State} (hV : subMask 895004612493322 V = true)
    (h : Keeps V s0 s) : Keeps V s0 (stbyctlWrite v s) := by
  refine h.step hV ?_
  clear h hV
  have h : Keeps 895004612493322 s s := .refl _ _
  unfold stbyctlWrite
  repeat' first
    | with_reducible assumption
    | decide
    | with_reducible refine Keeps.ite ?_ (fun _ => ?_)
    | with_reducible refine State.setSreg_keeps ?_ ?_
    | with_reducible refine cancelStandby_keeps ?_ ?_
    | with_reducible refine logClamp_keeps ?_ ?_
    | with_reducible refine Keeps.foldl _ (fun _ _ _ => ?_) ?_
    | with_reducible refine Keeps.foldl_fst _ (fun _ _ _ => ?_) ?_
    | dsimp only
    | split
    | with_reducible refine Keeps.set_stage ?_ ?_

theorem pwrWrite_keeps {V : Nat} {off : Nat} {v : Nat} {s0 s : State} (hV : subMask 895004612493322 V = true)
    (h : Keeps V s0 s) : Keeps V s0 (pwrWrite off v s) := by
  refine h.step hV ?_
  clear h hV
  have h : Keeps 895004612493322 s s := .refl _ _
  unfold pwrWrite
  repeat' first
    | with_reducible assumption
    | decide
    | with_reducible refine Keeps.ite ?_ (fun _ => ?_)
    | with_reducible refine State.setReg_keeps ?_ ?_
    | with_reducible refine stbyctlWrite_keeps ?_ ?_

theorem ptctlWrite_keeps {V : Nat} {v : Nat} {s0 s : State} (hV : subMask 3 V = true)
    (h : Keeps V s0 s) : Keeps V s0 (ptctlWrite v s) := by
  refine h.step hV ?_
  clear h hV
  have h : Keeps 3 s s := .refl _ _
  unfold ptctlWrite
  repeat' first
    | with_reducible assumption
    | decide
    | with_reducible refine Keeps.ite ?_ (fun _ => ?_)
    | with_reducible refine State.modTime_keeps ?_ ?_
    | with_reducible refine State.setReg_keeps ?_ ?_
    | with_reducible refine logClamp_keeps ?_ ?_

theorem ptrateWrite_keeps {V : Nat} {v : Nat} {s0 s : State} (hV : subMask 11 V = true)
    (h : Keeps V s0 s) : Keeps V s0 (ptrateWrite v s) := by
  refine h.step hV ?_
  clear h hV
  have h : Keeps 11 s s := .refl _ _
  unfold ptrateWrite
  repeat' first
    | with_reducible assumption
    | decide
    | with_reducible refine Keeps.ite ?_ (fun _ => ?_)
    | with_reducible refine State.modTime_keeps ?_ ?_
    | with_reducible refine logClamp_keeps ?_ ?_
    | with_reducible refine setErr_keeps ?_ ?_

theorem sampleoffWrite_keeps {V : Nat} {v : Nat} {s0 s : State} (hV : subMask 3 V = true)
    (h : Keeps V s0 s) : Keeps V s0 (sampleoffWrite v s) := by
  refine h.step hV ?_
  clear h hV
  have h : Keeps 3 s s := .refl _ _
  unfold sampleoffWrite
  repeat' first
    | with_reducible assumption
    | decide
    | with_reducible refine Keeps.ite ?_ (fun _ => ?_)
    | with_reducible refine State.modTime_keeps ?_ ?_
    | with_reducible refine logClamp_keeps ?_ ?_

theorem timecfgWrite_keeps {V : Nat} {v : Nat} {s0 s : State} (hV : subMask 11 V = true)
    (h : Keeps V s0 s) : Keeps V s0 (timecfgWrite v s) := by
  refine h.step hV ?_
  clear h hV
  have h : Keeps 11 s s := .refl _ _
  unfold timecfgWrite
  repeat' first
    | with_reducible assumption
    | decide
    | with_reducible refine Keeps.ite ?_ (fun _ => ?_)
    | with_reducible refine State.modTime_keeps ?_ ?_
    | with_reducible refine logClamp_keeps ?_ ?_
    | with_reducible refine setErr_keeps ?_ ?_

theorem timWrite_keeps {V : Nat} {off : Nat} {v : Nat} {s0 s : State} (hV : subMask 11 V = true)
    (h : Keeps V s0 s) : Keeps V s0 (timWrite off v s) := by
  refine h.step hV ?_
  clear h hV
  have h : Keeps 11 s s := .refl _ _
  unfold timWrite
  repeat' first
    | with_reducible assumption
    | decide
    | with_reducible refine Keeps.ite ?_ (fun _ => ?_)
    | with_reducible refine State.setReg_keeps ?_ ?_
    | with_reducible refine ptctlWrite_keeps ?_ ?_
    | with_reducible refine ptrateWrite_keeps ?_ ?_
    | with_reducible refine ptstepWrite_keeps ?_ ?_
    | with_reducible refine sampleoffWrite_keeps ?_ ?_
    | with_reducible refine timecfgWrite_keeps ?_ ?_

theorem imgHold_keeps {V : Nat} {f : Nat} {take : Bool} {s0 s : State} (hV : subMask 8 V = true)
    (h : Keeps V s0 s) : Keeps V s0 (imgHold f take s) := by
  refine h.step hV ?_
  clear h hV
  have h : Keeps 8 s s := .refl _ _
  unfold imgHold
  repeat' first
    | with_reducible assumption
    | decide
    | with_reducible refine Keeps.ite ?_ (fun _ => ?_)
    | with_reducible refine State.modImage_keeps ?_ ?_

theorem motionWrite_keeps {V : Nat} {f : Nat} {v : Nat} {s0 s : State} (hV : subMask 10 V = true)
    (h : Keeps V s0 s) : Keeps V s0 (motionWrite f v s) := by
  refine h.step hV ?_
  clear h hV
  have h : Keeps 10 s s := .refl _ _
  unfold motionWrite
  repeat' first
    | with_reducible assumption
    | decide
    | with_reducible refine Keeps.ite ?_ (fun _ => ?_)
    | with_reducible refine State.modFn_keeps ?_ ?_
    | with_reducible refine setErr_keeps ?_ ?_

theorem tnhWrite_keeps {V : Nat} {f : Nat} {off : Nat} {v : Nat} {s0 s : State} (hV : subMask 10 V = true)
    (h : Keeps V s0 s) : Keeps V s0 (tnhWrite f off v s) := by
  refine h.step hV ?_
  clear h hV
  have h : Keeps 10 s s := .refl _ _
  unfold tnhWrite
  repeat' first
    | with_reducible assumption
    | decide
    | with_reducible refine Keeps.ite ?_ (fun _ => ?_)
    | with_reducible refine State.modImage_keeps ?_ ?_
    | with_reducible refine imgHold_keeps ?_ ?_
    | with_reducible refine motionWrite_keeps ?_ ?_

theorem tplWrite_keeps {V : Nat} {off : Nat} {v : Nat} {s0 s : State} (hV : subMask 10 V = true)
    (h : Keeps V s0 s) : Keeps V s0 (tplWrite off v s) := by
  refine h.step hV ?_
  clear h hV
  have h : Keeps 10 s s := .refl _ _
  unfold tplWrite
  repeat' first
    | with_reducible assumption
    | decide
    | with_reducible refine Keeps.ite ?_ (fun _ => ?_)
    | with_reducible refine State.joinEntry_keeps ?_ ?_
    | with_reducible refine State.modFn_keeps ?_ ?_
    | with_reducible refine State.setReg_keeps ?_ ?_
    | with_reducible refine clampLog_keeps ?_ ?_

theorem linkcfgWrite_keeps {V : Nat} {g : Nat} {v : Nat} {s0 s : State} (hV : subMask 1020350014096698 V = true)
    (h : Keeps V s0 s) : Keeps V s0 (linkcfgWrite g v s) := by
  refine h.step hV ?_
  clear h hV
  have h : Keeps 1020350014096698 s s := .refl _ _
  unfold linkcfgWrite
  repeat' first
    | with_reducible assumption
    | decide
    | with_reducible refine Keeps.ite ?_ (fun _ => ?_)
    | with_reducible refine State.modPort_keeps ?_ ?_
    | with_reducible refine State.setReg_keeps ?_ ?_
    | with_reducible refine hopDown_keeps ?_ ?_
    | with_reducible refine logClamp_keeps ?_ ?_
    | with_reducible refine releaseTree_keeps ?_ ?_
    | with_reducible refine tryTrain_keeps ?_ ?_

theorem liftQuarantine_keeps {V : Nat} {g : Nat} {n : Nat} {s0 s : State} (hV : subMask 1020348940681274 V = true)
    (h : Keeps V s0 s) : Keeps V s0 (liftQuarantine g n s) := by
  refine h.step hV ?_
  clear h hV
  have h : Keeps 1020348940681274 s s := .refl _ _
  unfold liftQuarantine
  repeat' first
    | with_reducible assumption
    | decide
    | with_reducible refine Keeps.ite ?_ (fun _ => ?_)
    | with_reducible refine State.modNode_keeps ?_ ?_
    | with_reducible refine enumAfresh_keeps ?_ ?_
    | with_reducible refine holdBranch_keeps ?_ ?_
    | with_reducible refine makeAbsent_keeps ?_ ?_
    | with_reducible refine mgmtWrite_keeps ?_ ?_
    | with_reducible refine noteTable_keeps ?_ ?_
    | with_reducible refine setQuarPort_keeps ?_ ?_
    | with_reducible refine tryTrain_keeps ?_ ?_
    | with_reducible refine Keeps.foldl _ (fun _ _ _ => ?_) ?_
    | with_reducible refine Keeps.foldl_fst _ (fun _ _ _ => ?_) ?_
    | dsimp only
    | split
    | with_reducible refine Keeps.set_quar ?_ ?_

theorem quarportClear_keeps {V : Nat} {g : Nat} {s0 s : State} (hV : subMask 1020348940681274 V = true)
    (h : Keeps V s0 s) : Keeps V s0 (quarportClear g s) := by
  refine h.step hV ?_
  clear h hV
  have h : Keeps 1020348940681274 s s := .refl _ _
  unfold quarportClear
  repeat' first
    | with_reducible assumption
    | decide
    | with_reducible refine Keeps.ite ?_ (fun _ => ?_)
    | with_reducible refine liftQuarantine_keeps ?_ ?_
    | with_reducible refine setQuarPort_keeps ?_ ?_
    | with_reducible refine tryTrain_keeps ?_ ?_
    | with_reducible refine Keeps.foldl _ (fun _ _ _ => ?_) ?_
    | with_reducible refine Keeps.foldl_fst _ (fun _ _ _ => ?_) ?_
    | dsimp only
    | split

theorem tptWrite_keeps {V : Nat} {g : Nat} {off : Nat} {v : Nat} {s0 s : State} (hV : subMask 1020350014620986 V = true)
    (h : Keeps V s0 s) : Keeps V s0 (tptWrite g off v s) := by
  refine h.step hV ?_
  clear h hV
  have h : Keeps 1020350014620986 s s := .refl _ _
  unfold tptWrite
  repeat' first
    | with_reducible assumption
    | decide
    | with_reducible refine Keeps.ite ?_ (fun _ => ?_)
    | with_reducible refine State.setReg_keeps ?_ ?_
    | with_reducible refine State.setSreg_keeps ?_ ?_
    | with_reducible refine clampLog_keeps ?_ ?_
    | with_reducible refine linkcfgWrite_keeps ?_ ?_
    | with_reducible refine quarportClear_keeps ?_ ?_

theorem tskWrite_keeps {V : Nat} {t0 : Nat} {off : Nat} {v : Nat} {s0 s : State} (hV : subMask 2 V = true)
    (h : Keeps V s0 s) : Keeps V s0 (tskWrite t0 off v s) := by
  refine h.step hV ?_
  clear h hV
  have h : Keeps 2 s s := .refl _ _
  unfold tskWrite
  repeat' first
    | with_reducible assumption
    | decide
    | with_reducible refine Keeps.ite ?_ (fun _ => ?_)
    | with_reducible refine State.setReg_keeps ?_ ?_
    | with_reducible refine clampLog_keeps ?_ ?_

theorem pageWrite_keeps {V : Nat} {ty : Nat} {inst : Nat} {off : Nat} {v : Nat} {s0 s : State} (hV : subMask 1125899906842623 V = true)
    (h : Keeps V s0 s) : Keeps V s0 (pageWrite ty inst off v s) := by
  refine h.step hV ?_
  clear h hV
  have h : Keeps 1125899906842623 s s := .refl _ _
  unfold pageWrite
  repeat' first
    | with_reducible assumption
    | decide
    | with_reducible refine Keeps.ite ?_ (fun _ => ?_)
    | with_reducible refine State.setReg_keeps ?_ ?_
    | with_reducible refine atzWrite_keeps ?_ ?_
    | with_reducible refine bmcWrite_keeps ?_ ?_
    | with_reducible refine brgWrite_keeps ?_ ?_
    | with_reducible refine bwvWrite_keeps ?_ ?_
    | with_reducible refine ctlWrite_keeps ?_ ?_
    | with_reducible refine dblWrite_keeps ?_ ?_
    | with_reducible refine errWrite_keeps ?_ ?_
    | with_reducible refine errmaskWrite_keeps ?_ ?_
    | with_reducible refine fibWrite_keeps ?_ ?_
    | with_reducible refine fwuWrite_keeps ?_ ?_
    | with_reducible refine mgtWrite_keeps ?_ ?_
    | with_reducible refine nibWrite_keeps ?_ ?_
    | with_reducible refine pimWrite_keeps ?_ ?_
    | with_reducible refine pmtWrite_keeps ?_ ?_
    | with_reducible refine pwrWrite_keeps ?_ ?_
    | with_reducible refine timWrite_keeps ?_ ?_
    | with_reducible refine tnhWrite_keeps ?_ ?_
    | with_reducible refine tplWrite_keeps ?_ ?_
    | with_reducible refine tptWrite_keeps ?_ ?_
    | with_reducible refine tskWrite_keeps ?_ ?_

theorem writeWord_keeps {V : Nat} {f : Nat} {a : Nat} {v : Nat} {s0 s : State} (hV : subMask 1125899906842623 V = true)
    (h : Keeps V s0 s) : Keeps V s0 (writeWord f a v s) := by
  refine h.step hV ?_
  clear h hV
  have h : Keeps 1125899906842623 s s := .refl _ _
  unfold writeWord
  repeat' first
    | with_reducible assumption
    | decide
    | with_reducible refine Keeps.ite ?_ (fun _ => ?_)
    | with_reducible refine msixTableWrite_keeps ?_ ?_
    | with_reducible refine pageWrite_keeps ?_ ?_
    | with_reducible refine Keeps.foldl _ (fun _ _ _ => ?_) ?_
    | with_reducible refine Keeps.foldl_fst _ (fun _ _ _ => ?_) ?_
    | dsimp only
    | split

theorem writeLong_keeps {V : Nat} {f : Nat} {a : Nat} {v : Nat} {s0 s : State} (hV : subMask 1125899906842623 V = true)
    (h : Keeps V s0 s) : Keeps V s0 (writeLong f a v s) := by
  refine h.step hV ?_
  clear h hV
  have h : Keeps 1125899906842623 s s := .refl _ _
  unfold writeLong
  repeat' first
    | with_reducible assumption
    | decide
    | with_reducible refine Keeps.ite ?_ (fun _ => ?_)
    | with_reducible refine ackWrite_keeps ?_ ?_
    | with_reducible refine msixTableWrite_keeps ?_ ?_
    | with_reducible refine ptstepWrite_keeps ?_ ?_
    | with_reducible refine writeWord_keeps ?_ ?_
    | with_reducible refine Keeps.foldl _ (fun _ _ _ => ?_) ?_
    | with_reducible refine Keeps.foldl_fst _ (fun _ _ _ => ?_) ?_
    | dsimp only
    | split

theorem barWrite_keeps {V : Nat} {f : Nat} {bar : Nat} {a : Nat} {size : Nat} {v : Nat} {part : Bool} {s0 s : State} (hV : subMask 1125899906842623 V = true)
    (h : Keeps V s0 s) : Keeps V s0 (barWrite f bar a size v part s) := by
  refine h.step hV ?_
  clear h hV
  have h : Keeps 1125899906842623 s s := .refl _ _
  unfold barWrite
  repeat' first
    | with_reducible assumption
    | decide
    | with_reducible refine Keeps.ite ?_ (fun _ => ?_)
    | with_reducible refine dropSnap_keeps ?_ ?_
    | with_reducible refine endsDoze_keeps ?_ ?_
    | with_reducible refine partWrite_keeps ?_ ?_
    | with_reducible refine pimWindowWrite_keeps ?_ ?_
    | with_reducible refine setErr_keeps ?_ ?_
    | with_reducible refine writeLong_keeps ?_ ?_
    | with_reducible refine writeWord_keeps ?_ ?_

theorem beginEnum_keeps {V : Nat} {g : Nat} {pk : Nat} {br : Nat} {s0 s : State} (hV : subMask 1020348940156986 V = true)
    (h : Keeps V s0 s) : Keeps V s0 (beginEnum g pk br s) := by
  refine h.step hV ?_
  clear h hV
  have h : Keeps 1020348940156986 s s := .refl _ _
  unfold beginEnum
  repeat' first
    | with_reducible assumption
    | decide
    | with_reducible refine Keeps.ite ?_ (fun _ => ?_)
    | with_reducible refine enableBranch_keeps ?_ ?_
    | with_reducible refine refuseLoc_keeps ?_ ?_
    | with_reducible refine startNumber_keeps ?_ ?_
    | with_reducible refine takeNumber_keeps ?_ ?_ (by assumption)
    | with_reducible refine writeRoutes_keeps ?_ ?_
    | with_reducible refine Keeps.foldl _ (fun _ _ _ => ?_) ?_
    | with_reducible refine Keeps.foldl_fst _ (fun _ _ _ => ?_) ?_
    | dsimp only
    | split

theorem sendTrain_keeps {V : Nat} {g : Nat} {step : Nat} {preset : Nat} {s0 s : State} (hV : subMask 844424930131968 V = true)
    (h : Keeps V s0 s) : Keeps V s0 (sendTrain g step preset s) := by
  refine h.step hV ?_
  clear h hV
  have h : Keeps 844424930131968 s s := .refl _ _
  unfold sendTrain
  repeat' first
    | with_reducible assumption
    | decide
    | with_reducible refine Keeps.ite ?_ (fun _ => ?_)
    | with_reducible refine out_keeps ?_ ?_
    | with_reducible refine Keeps.foldl _ (fun _ _ _ => ?_) ?_
    | with_reducible refine Keeps.foldl_fst _ (fun _ _ _ => ?_) ?_
    | dsimp only
    | split

theorem trainDown_keeps {V : Nat} {g : Nat} {s0 s : State} (hV : subMask 985162418487312 V = true)
    (h : Keeps V s0 s) : Keeps V s0 (trainDown g s) := by
  refine h.step hV ?_
  clear h hV
  have h : Keeps 985162418487312 s s := .refl _ _
  unfold trainDown
  repeat' first
    | with_reducible assumption
    | decide
    | with_reducible refine Keeps.ite ?_ (fun _ => ?_)
    | with_reducible refine State.modPort_keeps ?_ ?_
    | with_reducible refine downLine_keeps ?_ ?_

theorem blockLockLost_keeps {V : Nat} {g : Nat} {s0 s : State} (hV : subMask 1020350011999546 V = true)
    (h : Keeps V s0 s) : Keeps V s0 (blockLockLost g s) := by
  refine h.step hV ?_
  clear h hV
  have h : Keeps 1020350011999546 s s := .refl _ _
  unfold blockLockLost
  repeat' first
    | with_reducible assumption
    | decide
    | with_reducible refine Keeps.ite ?_ (fun _ => ?_)
    | with_reducible refine State.modPort_keeps ?_ ?_
    | with_reducible refine hopDown_keeps ?_ ?_
    | with_reducible refine sendTrain_keeps ?_ ?_
    | with_reducible refine trainDown_keeps ?_ ?_

theorem blockLocked_keeps {V : Nat} {g : Nat} {s0 s : State} (hV : subMask 844424930131984 V = true)
    (h : Keeps V s0 s) : Keeps V s0 (blockLocked g s) := by
  refine h.step hV ?_
  clear h hV
  have h : Keeps 844424930131984 s s := .refl _ _
  unfold blockLocked
  repeat' first
    | with_reducible assumption
    | decide
    | with_reducible refine Keeps.ite ?_ (fun _ => ?_)
    | with_reducible refine State.modPort_keeps ?_ ?_
    | with_reducible refine sendTrain_keeps ?_ ?_
    | with_reducible refine Keeps.foldl _ (fun _ _ _ => ?_) ?_
    | with_reducible refine Keeps.foldl_fst _ (fun _ _ _ => ?_) ?_
    | dsimp only
    | split

theorem bootRelease_keeps {V : Nat} {s0 s : State} (hV : subMask 879611483258890 V = true)
    (h : Keeps V s0 s) : Keeps V s0 (bootRelease s) := by
  refine h.step hV ?_
  clear h hV
  have h : Keeps 879611483258890 s s := .refl _ _
  unfold bootRelease
  repeat' first
    | with_reducible assumption
    | decide
    | with_reducible refine Keeps.ite ?_ (fun _ => ?_)
    | with_reducible refine State.modFw_keeps ?_ ?_
    | with_reducible refine emit_keeps ?_ ?_
    | with_reducible refine Keeps.foldl _ (fun _ _ _ => ?_) ?_

theorem quarantineBranch_keeps {V : Nat} {g : Nat} {h0 : Nat} {br : Nat} {obs : Nat} {s0 s : State} (hV : subMask 1020350011999546 V = true)
    (h : Keeps V s0 s) : Keeps V s0 (quarantineBranch g h0 br obs s) := by
  refine h.step hV ?_
  clear h hV
  have h : Keeps 1020350011999546 s s := .refl _ _
  unfold quarantineBranch
  repeat' first
    | with_reducible assumption
    | decide
    | with_reducible refine Keeps.ite ?_ (fun _ => ?_)
    | with_reducible refine emit_keeps ?_ ?_
    | with_reducible refine orderGate_keeps ?_ ?_
    | with_reducible refine setErr_keeps ?_ ?_
    | with_reducible refine Keeps.foldl _ (fun _ _ _ => ?_) ?_
    | with_reducible refine Keeps.foldl_fst _ (fun _ _ _ => ?_) ?_
    | dsimp only
    | split

theorem quarantineGone_keeps {V : Nat} {g : Nat} {n : Nat} {s0 s : State} (hV : subMask 879611452325898 V = true)
    (h : Keeps V s0 s) : Keeps V s0 (quarantineGone g n s) := by
  refine h.step hV ?_
  clear h hV
  have h : Keeps 879611452325898 s s := .refl _ _
  unfold quarantineGone
  repeat' first
    | with_reducible assumption
    | decide
    | with_reducible refine Keeps.ite ?_ (fun _ => ?_)
    | with_reducible refine displaced_keeps ?_ ?_
    | with_reducible refine quarAdd_keeps ?_ ?_
    | with_reducible refine Keeps.foldl _ (fun _ _ _ => ?_) ?_
    | with_reducible refine Keeps.foldl_fst _ (fun _ _ _ => ?_) ?_
    | dsimp only
    | split

theorem startEnum_keeps {V : Nat} {g : Nat} {s0 s : State} (hV : subMask 1020348940156986 V = true)
    (h : Keeps V s0 s) : Keeps V s0 (startEnum g s) := by
  refine h.step hV ?_
  clear h hV
  have h : Keeps 1020348940156986 s s := .refl _ _
  unfold startEnum
  repeat' first
    | with_reducible assumption
    | decide
    | with_reducible refine Keeps.ite ?_ (fun _ => ?_)
    | with_reducible refine State.modPort_keeps ?_ ?_
    | with_reducible refine beginEnum_keeps ?_ ?_
    | with_reducible refine Keeps.foldl _ (fun _ _ _ => ?_) ?_
    | with_reducible refine Keeps.foldl_fst _ (fun _ _ _ => ?_) ?_
    | dsimp only
    | split

theorem branchStat_keeps {V : Nat} {g : Nat} {h0 : Nat} {b : Nat} {w0 : Nat} {w1 : Nat} {s0 s : State} (hV : subMask 1020350014620986 V = true)
    (h : Keeps V s0 s) : Keeps V s0 (branchStat g h0 b w0 w1 s) := by
  refine h.step hV ?_
  clear h hV
  have h : Keeps 1020350014620986 s s := .refl _ _
  unfold branchStat
  repeat' first
    | with_reducible assumption
    | decide
    | with_reducible refine Keeps.ite ?_ (fun _ => ?_)
    | with_reducible refine State.modNode_keeps ?_ ?_
    | with_reducible refine departNodes_keeps ?_ ?_
    | with_reducible refine holdBranch_keeps ?_ ?_
    | with_reducible refine hostile_keeps ?_ ?_
    | with_reducible refine quarantineBranch_keeps ?_ ?_
    | with_reducible refine quarantineGone_keeps ?_ ?_
    | with_reducible refine startEnum_keeps ?_ ?_
    | with_reducible refine Keeps.foldl _ (fun _ _ _ => ?_) ?_
    | with_reducible refine Keeps.foldl_fst _ (fun _ _ _ => ?_) ?_
    | dsimp only
    | split

theorem trainFailed_keeps {V : Nat} {g : Nat} {n : Nat} {s0 s : State} (hV : subMask 1020350014096698 V = true)
    (h : Keeps V s0 s) : Keeps V s0 (trainFailed g n s) := by
  refine h.step hV ?_
  clear h hV
  have h : Keeps 1020350014096698 s s := .refl _ _
  unfold trainFailed
  repeat' first
    | with_reducible assumption
    | decide
    | with_reducible refine Keeps.ite ?_ (fun _ => ?_)
    | with_reducible refine State.modPort_keeps ?_ ?_
    | with_reducible refine enableBranch_keeps ?_ ?_
    | with_reducible refine holdBranch_keeps ?_ ?_
    | with_reducible refine hopDown_keeps ?_ ?_
    | with_reducible refine makeAbsent_keeps ?_ ?_
    | with_reducible refine refuse_keeps ?_ ?_
    | with_reducible refine tryTrain_keeps ?_ ?_

theorem branchTimeout_keeps {V : Nat} {g : Nat} {s0 s : State} (hV : subMask 1020350014096698 V = true)
    (h : Keeps V s0 s) : Keeps V s0 (branchTimeout g s) := by
  refine h.step hV ?_
  clear h hV
  have h : Keeps 1020350014096698 s s := .refl _ _
  unfold branchTimeout
  repeat' first
    | with_reducible assumption
    | decide
    | with_reducible refine Keeps.ite ?_ (fun _ => ?_)
    | with_reducible refine trainFailed_keeps ?_ ?_
    | with_reducible refine Keeps.foldl _ (fun _ _ _ => ?_) ?_
    | with_reducible refine Keeps.foldl_fst _ (fun _ _ _ => ?_) ?_
    | dsimp only
    | split

theorem bridgeLeaseChange_keeps {V : Nat} {g : Nat} {n : Nat} {old : Nat} {s0 s : State} (hV : subMask 879611449770026 V = true)
    (h : Keeps V s0 s) : Keeps V s0 (bridgeLeaseChange g n old s) := by
  refine h.step hV ?_
  clear h hV
  have h : Keeps 879611449770026 s s := .refl _ _
  unfold bridgeLeaseChange
  repeat' first
    | with_reducible assumption
    | decide
    | with_reducible refine Keeps.ite ?_ (fun _ => ?_)
    | with_reducible refine State.modBridge_keeps ?_ ?_
    | with_reducible refine dropStores_keeps ?_ ?_
    | with_reducible refine freeLock_keeps ?_ ?_
    | with_reducible refine Keeps.foldl _ (fun _ _ _ => ?_) ?_
    | with_reducible refine Keeps.foldl_fst _ (fun _ _ _ => ?_) ?_
    | dsimp only
    | split
    | with_reducible refine Keeps.set_bridge ?_ ?_

theorem endAtOnce_keeps {V : Nat} {f : Nat} {off : Nat} {size : Nat} {g : Nat} {n : Nat} {addr : Nat} {status : Nat} {detail : Nat} {wide : Bool} {s0 s : State} (hV : subMask 879611449704458 V = true)
    (h : Keeps V s0 s) : Keeps V s0 (endAtOnce f off size g n addr status detail wide s) := by
  refine h.step hV ?_
  clear h hV
  have h : Keeps 879611449704458 s s := .refl _ _
  unfold endAtOnce
  repeat' first
    | with_reducible assumption
    | decide
    | with_reducible refine Keeps.ite ?_ (fun _ => ?_)
    | with_reducible refine countEnd_keeps ?_ ?_
    | with_reducible refine emit_keeps ?_ ?_
    | with_reducible refine out_keeps ?_ ?_

theorem bridgeLoad_keeps {V : Nat} {f : Nat} {off : Nat} {size : Nat} {s0 s : State} (hV : subMask 879611449769994 V = true)
    (h : Keeps V s0 s) : Keeps V s0 (bridgeLoad f off size s) := by
  refine h.step hV ?_
  clear h hV
  have h : Keeps 879611449769994 s s := .refl _ _
  unfold bridgeLoad
  repeat' first
    | with_reducible assumption
    | decide
    | with_reducible refine Keeps.ite ?_ (fun _ => ?_)
    | with_reducible refine State.modBridge_keeps ?_ ?_
    | with_reducible refine endAtOnce_keeps ?_ ?_
    | with_reducible refine out_keeps ?_ ?_
    | with_reducible refine Keeps.foldl _ (fun _ _ _ => ?_) ?_
    | with_reducible refine Keeps.foldl_fst _ (fun _ _ _ => ?_) ?_
    | dsimp only
    | split
    | with_reducible refine Keeps.set_bridge ?_ ?_

theorem regrant_keeps {V : Nat} {after : Nat} {a : BAcc} {s0 s : State} (hV : subMask 985162418487312 V = true)
    (h : Keeps V s0 s) : Keeps V s0 (regrant after a s) := by
  refine h.step hV ?_
  clear h hV
  have h : Keeps 985162418487312 s s := .refl _ _
  unfold regrant
  repeat' first
    | with_reducible assumption
    | decide
    | with_reducible refine Keeps.ite ?_ (fun _ => ?_)
    | with_reducible refine issueGrant_keeps ?_ ?_

theorem missedReply_keeps {V : Nat} {a : BAcc} {s0 s : State} (hV : subMask 1020350011868474 V = true)
    (h : Keeps V s0 s) : Keeps V s0 (missedReply a s) := by
  refine h.step hV ?_
  clear h hV
  have h : Keeps 1020350011868474 s s := .refl _ _
  unfold missedReply
  repeat' first
    | with_reducible assumption
    | decide
    | with_reducible refine Keeps.ite ?_ (fun _ => ?_)
    | with_reducible refine changeAcc_keeps ?_ ?_
    | with_reducible refine failAcc_keeps ?_ ?_
    | with_reducible refine miss_keeps ?_ ?_
    | with_reducible refine regrant_keeps ?_ ?_

theorem doneAcc_keeps {V : Nat} {d0 : Nat} {d1 : Nat} {a : BAcc} {s0 s : State} (hV : subMask 879611449769994 V = true)
    (h : Keeps V s0 s) : Keeps V s0 (doneAcc d0 d1 a s) := by
  refine h.step hV ?_
  clear h hV
  have h : Keeps 879611449769994 s s := .refl _ _
  unfold doneAcc
  repeat' first
    | with_reducible assumption
    | decide
    | with_reducible refine Keeps.ite ?_ (fun _ => ?_)
    | with_reducible refine State.setReg_keeps ?_ ?_
    | with_reducible refine emit_keeps ?_ ?_
    | with_reducible refine mgrResult_keeps ?_ ?_
    | with_reducible refine out_keeps ?_ ?_
    | with_reducible refine removeAcc_keeps ?_ ?_
    | with_reducible refine Keeps.foldl _ (fun _ _ _ => ?_) ?_
    | with_reducible refine Keeps.foldl_fst _ (fun _ _ _ => ?_) ?_
    | dsimp only
    | split

end Sys2Proof.Machine
end

