-- ==== Sys2Proof/Laws/Frames3.lean ====
section
/-!
SUPPORT. Frames, part 3 of 5: one lemma per operation of the machine, in the order in which they call each other: it
keeps every part of the state outside its mask, the queue, the part and the invariant (Laws/Keeps.lean).
-/

set_option Elab.async false
namespace Sys2Proof.Machine

theorem regrantNext_keeps {V : Nat} {a : BAcc} {s0 s : State} (hV : subMask 16 V = true)
    (h : Keeps V s0 s) : Keeps V s0 (regrantNext a s) := by
  refine h.step hV ?_
  clear h hV
  have h : Keeps 16 s s := .refl _ _
  unfold regrantNext
  repeat' first
    | with_reducible assumption
    | decide
    | with_reducible refine Keeps.ite ?_ (fun _ => ?_)
    | with_reducible refine addWish_keeps ?_ ?_
    | with_reducible refine Keeps.foldl _ (fun _ _ _ => ?_) ?_
    | with_reducible refine Keeps.foldl_fst _ (fun _ _ _ => ?_) ?_
    | dsimp only
    | split

theorem replyAcc_keeps {V : Nat} {bstatus : Nat} {d0 : Nat} {d1 : Nat} {a : BAcc} {s0 s : State} (hV : subMask 1020350011868474 V = true)
    (h : Keeps V s0 s) : Keeps V s0 (replyAcc bstatus d0 d1 a s) := by
  refine h.step hV ?_
  clear h hV
  have h : Keeps 1020350011868474 s s := .refl _ _
  unfold replyAcc
  repeat' first
    | with_reducible assumption
    | decide
    | with_reducible refine Keeps.ite ?_ (fun _ => ?_)
    | with_reducible refine changeAcc_keeps ?_ ?_
    | with_reducible refine doneAcc_keeps ?_ ?_
    | with_reducible refine failAcc_keeps ?_ ?_
    | with_reducible refine missedReply_keeps ?_ ?_
    | with_reducible refine regrantNext_keeps ?_ ?_
    | with_reducible refine Keeps.foldl _ (fun _ _ _ => ?_) ?_
    | with_reducible refine Keeps.foldl_fst _ (fun _ _ _ => ?_) ?_
    | dsimp only
    | split

theorem bridgeReply_keeps {V : Nat} {g : Nat} {k : Nat} {mis : Bool} {blocks : List RxBlock} {s0 s : State} (hV : subMask 1020350014620986 V = true)
    (h : Keeps V s0 s) : Keeps V s0 (bridgeReply g k mis blocks s) := by
  refine h.step hV ?_
  clear h hV
  have h : Keeps 1020350014620986 s s := .refl _ _
  unfold bridgeReply
  repeat' first
    | with_reducible assumption
    | decide
    | with_reducible refine Keeps.ite ?_ (fun _ => ?_)
    | with_reducible refine hostile_keeps ?_ ?_
    | with_reducible refine missedReply_keeps ?_ ?_
    | with_reducible refine receive_keeps ?_ ?_
    | with_reducible refine replyAcc_keeps ?_ ?_
    | with_reducible refine seeHeader_keeps ?_ ?_
    | with_reducible refine Keeps.foldl _ (fun _ _ _ => ?_) ?_
    | with_reducible refine Keeps.foldl_fst _ (fun _ _ _ => ?_) ?_
    | dsimp only
    | split

theorem bridgeReset_keeps {V : Nat} {f : Nat} {s0 s : State} (hV : subMask 65576 V = true)
    (h : Keeps V s0 s) : Keeps V s0 (bridgeReset f s) := by
  refine h.step hV ?_
  clear h hV
  have h : Keeps 65576 s s := .refl _ _
  unfold bridgeReset
  repeat' first
    | with_reducible assumption
    | decide
    | with_reducible refine Keeps.ite ?_ (fun _ => ?_)
    | with_reducible refine State.modFn_keeps ?_ ?_
    | with_reducible refine freeLock_keeps ?_ ?_
    | with_reducible refine Keeps.foldl _ (fun _ _ _ => ?_) ?_
    | with_reducible refine Keeps.foldl_fst _ (fun _ _ _ => ?_) ?_
    | dsimp only
    | split
    | with_reducible refine Keeps.set_bridge ?_ ?_

theorem refuseStore_keeps {V : Nat} {f : Nat} {g : Nat} {n : Nat} {status : Nat} {addr : Nat} {wide : Bool} {s0 s : State} (hV : subMask 879611449704458 V = true)
    (h : Keeps V s0 s) : Keeps V s0 (refuseStore f g n status addr wide s) := by
  refine h.step hV ?_
  clear h hV
  have h : Keeps 879611449704458 s s := .refl _ _
  unfold refuseStore
  repeat' first
    | with_reducible assumption
    | decide
    | with_reducible refine Keeps.ite ?_ (fun _ => ?_)
    | with_reducible refine dropStores_keeps ?_ ?_

theorem bridgeStore_keeps {V : Nat} {f : Nat} {off : Nat} {size : Nat} {v : Nat} {part : Bool} {s0 s : State} (hV : subMask 1020348938125322 V = true)
    (h : Keeps V s0 s) : Keeps V s0 (bridgeStore f off size v part s) := by
  refine h.step hV ?_
  clear h hV
  have h : Keeps 1020348938125322 s s := .refl _ _
  unfold bridgeStore
  repeat' first
    | with_reducible assumption
    | decide
    | with_reducible refine Keeps.ite ?_ (fun _ => ?_)
    | with_reducible refine State.draw_keeps ?_ ?_
    | with_reducible refine State.modBridge_keeps ?_ ?_
    | with_reducible refine countReg_keeps ?_ ?_
    | with_reducible refine dropStores_keeps ?_ ?_
    | with_reducible refine refuseStore_keeps ?_ ?_
    | with_reducible refine setErr_keeps ?_ ?_
    | with_reducible refine Keeps.foldl _ (fun _ _ _ => ?_) ?_
    | with_reducible refine Keeps.foldl_fst _ (fun _ _ _ => ?_) ?_
    | dsimp only
    | split
    | with_reducible refine Keeps.set_bridge ?_ ?_

theorem wishStep_keeps {V : Nat} {g : Nat} {cls : Nat} {w : Wish} {s0 s : State} (hV : subMask 985162418487312 V = true)
    (h : Keeps V s0 s) : Keeps V s0 (wishStep g cls s w) := by
  refine h.step hV ?_
  clear h hV
  have h : Keeps 985162418487312 s s := .refl _ _
  unfold wishStep
  repeat' first
    | with_reducible assumption
    | decide
    | with_reducible refine Keeps.ite ?_ (fun _ => ?_)
    | with_reducible refine addWish_keeps ?_ ?_
    | with_reducible refine tryGrant_getD_keeps ?_ ?_ ?_
    | with_reducible refine Keeps.foldl _ (fun _ _ _ => ?_) ?_
    | with_reducible refine Keeps.foldl_fst _ (fun _ _ _ => ?_) ?_
    | dsimp only
    | split

theorem grantWishes_keeps {V : Nat} {g : Nat} {cls : Nat} {s0 s : State} (hV : subMask 985162418487312 V = true)
    (h : Keeps V s0 s) : Keeps V s0 (grantWishes g cls s) := by
  refine h.step hV ?_
  clear h hV
  have h : Keeps 985162418487312 s s := .refl _ _
  unfold grantWishes
  repeat' first
    | with_reducible assumption
    | decide
    | with_reducible refine Keeps.ite ?_ (fun _ => ?_)
    | with_reducible refine State.modPort_keeps ?_ ?_
    | with_reducible refine wishStep_keeps ?_ ?_
    | with_reducible refine Keeps.foldl _ (fun _ _ _ => ?_) ?_
    | with_reducible refine Keeps.foldl_fst _ (fun _ _ _ => ?_) ?_
    | dsimp only
    | split

theorem sendAcc_keeps {V : Nat} {b : Nat} {a : BAcc} {s0 s : State} (hV : subMask 985162418552848 V = true)
    (h : Keeps V s0 s) : Keeps V s0 (sendAcc b a s) := by
  refine h.step hV ?_
  clear h hV
  have h : Keeps 985162418552848 s s := .refl _ _
  unfold sendAcc
  repeat' first
    | with_reducible assumption
    | decide
    | with_reducible refine Keeps.ite ?_ (fun _ => ?_)
    | with_reducible refine State.draw_keeps ?_ ?_
    | with_reducible refine changeAcc_keeps ?_ ?_
    | with_reducible refine out_keeps ?_ ?_
    | with_reducible refine regrant_keeps ?_ ?_

theorem sendStep_keeps {V : Nat} {a : BAcc} {s0 : State} {r : State × List BAcc} (hV : subMask 985162418552848 V = true)
    (h : Keeps V s0 r.1) : Keeps V s0 (sendStep r a).1 := by
  refine h.step hV ?_
  clear h hV
  have h : Keeps 985162418552848 r.1 r.1 := .refl _ _
  unfold sendStep
  repeat' first
    | with_reducible assumption
    | decide
    | with_reducible refine Keeps.ite ?_ (fun _ => ?_)
    | with_reducible refine sendAcc_keeps ?_ ?_
    | with_reducible refine takeDown_keeps ?_ ?_ (by assumption)
    | with_reducible refine Keeps.foldl _ (fun _ _ _ => ?_) ?_
    | with_reducible refine Keeps.foldl_fst _ (fun _ _ _ => ?_) ?_
    | dsimp only
    | split

theorem bridgeTick_keeps {V : Nat} {s0 s : State} (hV : subMask 985162418552848 V = true)
    (h : Keeps V s0 s) : Keeps V s0 (bridgeTick s) := by
  refine h.step hV ?_
  clear h hV
  have h : Keeps 985162418552848 s s := .refl _ _
  unfold bridgeTick
  repeat' first
    | with_reducible assumption
    | decide
    | with_reducible refine Keeps.ite ?_ (fun _ => ?_)
    | with_reducible refine State.modPort_keeps ?_ ?_
    | with_reducible refine grantWishes_keeps ?_ ?_
    | with_reducible refine sendStep_keeps ?_ ?_
    | with_reducible refine Keeps.foldl _ (fun _ _ _ => ?_) ?_
    | with_reducible refine Keeps.foldl_fst _ (fun _ _ _ => ?_) ?_

theorem bufferTimeout_keeps {V : Nat} {c : Nat} {s0 s : State} (hV : subMask 33554432 V = true)
    (h : Keeps V s0 s) : Keeps V s0 (bufferTimeout c s) := by
  refine h.step hV ?_
  clear h hV
  have h : Keeps 33554432 s s := .refl _ _
  unfold bufferTimeout
  repeat' first
    | with_reducible assumption
    | decide
    | with_reducible refine Keeps.ite ?_ (fun _ => ?_)
    | with_reducible refine State.modFw_keeps ?_ ?_

theorem dropBurst_keeps {V : Nat} {k : Nat} {bseq : Nat} {s0 s : State} (hV : subMask 131072 V = true)
    (h : Keeps V s0 s) : Keeps V s0 (dropBurst k bseq s) := by
  refine h.step hV ?_
  clear h hV
  have h : Keeps 131072 s s := .refl _ _
  unfold dropBurst
  repeat' first
    | with_reducible assumption
    | decide
    | with_reducible refine Keeps.ite ?_ (fun _ => ?_)
    | with_reducible refine State.modChan_keeps ?_ ?_

theorem burstError_keeps {V : Nat} {k : Nat} {bseq : Nat} {bres : Nat} {s0 s : State} (hV : subMask 879611449835530 V = true)
    (h : Keeps V s0 s) : Keeps V s0 (burstError k bseq bres s) := by
  refine h.step hV ?_
  clear h hV
  have h : Keeps 879611449835530 s s := .refl _ _
  unfold burstError
  repeat' first
    | with_reducible assumption
    | decide
    | with_reducible refine Keeps.ite ?_ (fun _ => ?_)
    | with_reducible refine dropBurst_keeps ?_ ?_
    | with_reducible refine endJob_keeps ?_ ?_
    | with_reducible refine settleChan_keeps ?_ ?_

theorem countBlocks_keeps {V : Nat} {t0 : Nat} {n : Nat} {s0 s : State} (hV : subMask 2 V = true)
    (h : Keeps V s0 s) : Keeps V s0 (countBlocks t0 n s) := by
  refine h.step hV ?_
  clear h hV
  have h : Keeps 2 s s := .refl _ _
  unfold countBlocks
  repeat' first
    | with_reducible assumption
    | decide
    | with_reducible refine Keeps.ite ?_ (fun _ => ?_)
    | with_reducible refine countReg_keeps ?_ ?_

theorem countBytes_keeps {V : Nat} {k : Nat} {n : Nat} {s0 s : State} (hV : subMask 131074 V = true)
    (h : Keeps V s0 s) : Keeps V s0 (countBytes k n s) := by
  refine h.step hV ?_
  clear h hV
  have h : Keeps 131074 s s := .refl _ _
  unfold countBytes
  repeat' first
    | with_reducible assumption
    | decide
    | with_reducible refine Keeps.ite ?_ (fun _ => ?_)
    | with_reducible refine State.modChan_keeps ?_ ?_
    | with_reducible refine countReg_keeps ?_ ?_
    | with_reducible refine Keeps.foldl _ (fun _ _ _ => ?_) ?_
    | with_reducible refine Keeps.foldl_fst _ (fun _ _ _ => ?_) ?_
    | dsimp only
    | split

theorem replyGrant_keeps {V : Nat} {k : Nat} {bseq : Nat} {after : Nat} {s0 s : State} (hV : subMask 985162418487312 V = true)
    (h : Keeps V s0 s) : Keeps V s0 (replyGrant k bseq after s) := by
  refine h.step hV ?_
  clear h hV
  have h : Keeps 985162418487312 s s := .refl _ _
  unfold replyGrant
  repeat' first
    | with_reducible assumption
    | decide
    | with_reducible refine Keeps.ite ?_ (fun _ => ?_)
    | with_reducible refine issueGrant_keeps ?_ ?_

theorem missedBurst_keeps {V : Nat} {k : Nat} {b : Burst} {s0 s : State} (hV : subMask 1020350011934010 V = true)
    (h : Keeps V s0 s) : Keeps V s0 (missedBurst k b s) := by
  refine h.step hV ?_
  clear h hV
  have h : Keeps 1020350011934010 s s := .refl _ _
  unfold missedBurst
  repeat' first
    | with_reducible assumption
    | decide
    | with_reducible refine Keeps.ite ?_ (fun _ => ?_)
    | with_reducible refine State.modChan_keeps ?_ ?_
    | with_reducible refine dropBurst_keeps ?_ ?_
    | with_reducible refine endJob_keeps ?_ ?_
    | with_reducible refine issueGrant_keeps ?_ ?_
    | with_reducible refine miss_keeps ?_ ?_
    | with_reducible refine replyGrant_keeps ?_ ?_
    | with_reducible refine settleChan_keeps ?_ ?_

theorem shortAnswer_keeps {V : Nat} {k : Nat} {ready : Bool} {s0 s : State} (hV : subMask 131074 V = true)
    (h : Keeps V s0 s) : Keeps V s0 (shortAnswer k ready s) := by
  refine h.step hV ?_
  clear h hV
  have h : Keeps 131074 s s := .refl _ _
  unfold shortAnswer
  repeat' first
    | with_reducible assumption
    | decide
    | with_reducible refine Keeps.ite ?_ (fun _ => ?_)
    | with_reducible refine State.modChan_keeps ?_ ?_
    | with_reducible refine countReg_keeps ?_ ?_

theorem burstReply_keeps {V : Nat} {k : Nat} {b : Burst} {bres : Nat} {accepted : Nat} {ready : Bool} {s0 s : State} (hV : subMask 1020350011934010 V = true)
    (h : Keeps V s0 s) : Keeps V s0 (burstReply k b bres accepted ready s) := by
  refine h.step hV ?_
  clear h hV
  have h : Keeps 1020350011934010 s s := .refl _ _
  unfold burstReply
  repeat' first
    | with_reducible assumption
    | decide
    | with_reducible refine Keeps.ite ?_ (fun _ => ?_)
    | with_reducible refine State.modChan_keeps ?_ ?_
    | with_reducible refine afterAnswer_keeps ?_ ?_
    | with_reducible refine burstError_keeps ?_ ?_
    | with_reducible refine countBlocks_keeps ?_ ?_
    | with_reducible refine countBytes_keeps ?_ ?_
    | with_reducible refine dropBurst_keeps ?_ ?_
    | with_reducible refine missedBurst_keeps ?_ ?_
    | with_reducible refine settleChan_keeps ?_ ?_
    | with_reducible refine shortAnswer_keeps ?_ ?_
    | with_reducible refine Keeps.foldl _ (fun _ _ _ => ?_) ?_
    | with_reducible refine Keeps.foldl_fst _ (fun _ _ _ => ?_) ?_
    | dsimp only
    | split

theorem bulkBurstReply_keeps {V : Nat} {t0 : Nat} {c : Nat} {bseq : Nat} {mis : Bool} {blocks : List RxBlock} {s0 s : State} (hV : subMask 1020350014620986 V = true)
    (h : Keeps V s0 s) : Keeps V s0 (bulkBurstReply t0 c bseq mis blocks s) := by
  refine h.step hV ?_
  clear h hV
  have h : Keeps 1020350014620986 s s := .refl _ _
  unfold bulkBurstReply
  repeat' first
    | with_reducible assumption
    | decide
    | with_reducible refine Keeps.ite ?_ (fun _ => ?_)
    | with_reducible refine burstReply_keeps ?_ ?_
    | with_reducible refine hostile_keeps ?_ ?_
    | with_reducible refine missedBurst_keeps ?_ ?_
    | with_reducible refine receive_keeps ?_ ?_
    | with_reducible refine seeHeader_keeps ?_ ?_
    | with_reducible refine Keeps.foldl _ (fun _ _ _ => ?_) ?_
    | with_reducible refine Keeps.foldl_fst _ (fun _ _ _ => ?_) ?_
    | dsimp only
    | split

theorem bulkForce_keeps {V : Nat} {f : Nat} {s0 s : State} (hV : subMask 879611449835530 V = true)
    (h : Keeps V s0 s) : Keeps V s0 (bulkForce f s) := by
  refine h.step hV ?_
  clear h hV
  have h : Keeps 879611449835530 s s := .refl _ _
  unfold bulkForce
  repeat' first
    | with_reducible assumption
    | decide
    | with_reducible refine Keeps.ite ?_ (fun _ => ?_)
    | with_reducible refine endJob_keeps ?_ ?_
    | with_reducible refine Keeps.foldl _ (fun _ _ _ => ?_) ?_

theorem bulkFreeze_keeps {V : Nat} {f : Nat} {s0 s : State} (hV : subMask 879611449835530 V = true)
    (h : Keeps V s0 s) : Keeps V s0 (bulkFreeze f s) := by
  refine h.step hV ?_
  clear h hV
  have h : Keeps 879611449835530 s s := .refl _ _
  unfold bulkFreeze
  repeat' first
    | with_reducible assumption
    | decide
    | with_reducible refine Keeps.ite ?_ (fun _ => ?_)
    | with_reducible refine endJobNow_keeps ?_ ?_
    | with_reducible refine Keeps.foldl _ (fun _ _ _ => ?_) ?_

theorem bulkLeaseChange_keeps {V : Nat} {g : Nat} {n : Nat} {old : Nat} {s0 s : State} (hV : subMask 879611449835530 V = true)
    (h : Keeps V s0 s) : Keeps V s0 (bulkLeaseChange g n old s) := by
  refine h.step hV ?_
  clear h hV
  have h : Keeps 879611449835530 s s := .refl _ _
  unfold bulkLeaseChange
  repeat' first
    | with_reducible assumption
    | decide
    | with_reducible refine Keeps.ite ?_ (fun _ => ?_)
    | with_reducible refine endJob_keeps ?_ ?_
    | with_reducible refine Keeps.foldl _ (fun _ _ _ => ?_) ?_

theorem requestGrant_keeps {V : Nat} {k : Nat} {b : Nat} {bseq : Nat} {n : Nat} {up : Nat} {len : Nat} {s0 s : State} (hV : subMask 844424930131984 V = true)
    (h : Keeps V s0 s) : Keeps V s0 (requestGrant k b bseq n up len s) := by
  refine h.step hV ?_
  clear h hV
  have h : Keeps 844424930131984 s s := .refl _ _
  unfold requestGrant
  repeat' first
    | with_reducible assumption
    | decide
    | with_reducible refine Keeps.ite ?_ (fun _ => ?_)
    | with_reducible refine State.modPort_keeps ?_ ?_
    | with_reducible refine out_keeps ?_ ?_
    | with_reducible refine useDown_keeps ?_ ?_

theorem sendBurst_keeps {V : Nat} {k : Nat} {b : Nat} {len : Nat} {probe : Bool} {payload : List Byte} {s0 s : State} (hV : subMask 844424930263058 V = true)
    (h : Keeps V s0 s) : Keeps V s0 (sendBurst k b len probe payload s) := by
  refine h.step hV ?_
  clear h hV
  have h : Keeps 844424930263058 s s := .refl _ _
  unfold sendBurst
  repeat' first
    | with_reducible assumption
    | decide
    | with_reducible refine Keeps.ite ?_ (fun _ => ?_)
    | with_reducible refine State.modChan_keeps ?_ ?_
    | with_reducible refine countBlocks_keeps ?_ ?_
    | with_reducible refine out_keeps ?_ ?_
    | with_reducible refine useDown_keeps ?_ ?_

theorem bulkTurn_keeps {V : Nat} {g : Nat} {k : Nat} {s0 s : State} (hV : subMask 1020348938190874 V = true)
    (h : Keeps V s0 s) : Keeps V s0 (bulkTurn g s k) := by
  refine h.step hV ?_
  clear h hV
  have h : Keeps 1020348938190874 s s := .refl _ _
  unfold bulkTurn
  repeat' first
    | with_reducible assumption
    | decide
    | with_reducible refine Keeps.ite ?_ (fun _ => ?_)
    | with_reducible refine State.modChan_keeps ?_ ?_
    | with_reducible refine State.modPort_keeps ?_ ?_
    | with_reducible refine endJob_keeps ?_ ?_
    | with_reducible refine replyGrant_keeps ?_ ?_
    | with_reducible refine requestGrant_keeps ?_ ?_
    | with_reducible refine sendBurst_keeps ?_ ?_
    | with_reducible refine Keeps.foldl _ (fun _ _ _ => ?_) ?_
    | with_reducible refine Keeps.foldl_fst _ (fun _ _ _ => ?_) ?_
    | dsimp only
    | split

theorem bulkPort_keeps {V : Nat} {g : Nat} {s0 s : State} (hV : subMask 1020348938190874 V = true)
    (h : Keeps V s0 s) : Keeps V s0 (bulkPort g s) := by
  refine h.step hV ?_
  clear h hV
  have h : Keeps 1020348938190874 s s := .refl _ _
  unfold bulkPort
  repeat' first
    | with_reducible assumption
    | decide
    | with_reducible refine Keeps.ite ?_ (fun _ => ?_)
    | with_reducible refine bulkTurn_keeps ?_ ?_
    | with_reducible refine Keeps.foldl _ (fun _ _ _ => ?_) ?_
    | with_reducible refine Keeps.foldl_fst _ (fun _ _ _ => ?_) ?_

theorem requestAnswer_keeps {V : Nat} {k : Nat} {b : Burst} {bres : Nat} {naddr : Nat} {l : Nat} {data : List Byte} {s0 s : State} (hV : subMask 1020350011934010 V = true)
    (h : Keeps V s0 s) : Keeps V s0 (requestAnswer k b bres naddr l data s) := by
  refine h.step hV ?_
  clear h hV
  have h : Keeps 1020350011934010 s s := .refl _ _
  unfold requestAnswer
  repeat' first
    | with_reducible assumption
    | decide
    | with_reducible refine Keeps.ite ?_ (fun _ => ?_)
    | with_reducible refine afterAnswer_keeps ?_ ?_
    | with_reducible refine burstError_keeps ?_ ?_
    | with_reducible refine countBlocks_keeps ?_ ?_
    | with_reducible refine countBytes_keeps ?_ ?_
    | with_reducible refine dropBurst_keeps ?_ ?_
    | with_reducible refine endJob_keeps ?_ ?_
    | with_reducible refine missedBurst_keeps ?_ ?_
    | with_reducible refine request_keeps ?_ ?_
    | with_reducible refine settleChan_keeps ?_ ?_
    | with_reducible refine shortAnswer_keeps ?_ ?_
    | with_reducible refine Keeps.foldl _ (fun _ _ _ => ?_) ?_
    | with_reducible refine Keeps.foldl_fst _ (fun _ _ _ => ?_) ?_
    | dsimp only
    | split

theorem bulkRequestAnswer_keeps {V : Nat} {t0 : Nat} {c : Nat} {bseq : Nat} {mis : Bool} {blocks : List RxBlock} {s0 s : State} (hV : subMask 1020350014620986 V = true)
    (h : Keeps V s0 s) : Keeps V s0 (bulkRequestAnswer t0 c bseq mis blocks s) := by
  refine h.step hV ?_
  clear h hV
  have h : Keeps 1020350014620986 s s := .refl _ _
  unfold bulkRequestAnswer
  repeat' first
    | with_reducible assumption
    | decide
    | with_reducible refine Keeps.ite ?_ (fun _ => ?_)
    | with_reducible refine hostile_keeps ?_ ?_
    | with_reducible refine missedBurst_keeps ?_ ?_
    | with_reducible refine receive_keeps ?_ ?_
    | with_reducible refine requestAnswer_keeps ?_ ?_
    | with_reducible refine seeHeader_keeps ?_ ?_
    | with_reducible refine Keeps.foldl _ (fun _ _ _ => ?_) ?_
    | with_reducible refine Keeps.foldl_fst _ (fun _ _ _ => ?_) ?_
    | dsimp only
    | split

theorem bulkReset_keeps {V : Nat} {f : Nat} {s0 s : State} (hV : subMask 131080 V = true)
    (h : Keeps V s0 s) : Keeps V s0 (bulkReset f s) := by
  refine h.step hV ?_
  clear h hV
  have h : Keeps 131080 s s := .refl _ _
  unfold bulkReset
  repeat' first
    | with_reducible assumption
    | decide
    | with_reducible refine Keeps.ite ?_ (fun _ => ?_)
    | with_reducible refine State.modChan_keeps ?_ ?_
    | with_reducible refine State.modFn_keeps ?_ ?_
    | with_reducible refine Keeps.foldl _ (fun _ _ _ => ?_) ?_

theorem readAhead_keeps {V : Nat} {k : Nat} {s0 s : State} (hV : subMask 879611449835530 V = true)
    (h : Keeps V s0 s) : Keeps V s0 (readAhead k s) := by
  refine h.step hV ?_
  clear h hV
  have h : Keeps 879611449835530 s s := .refl _ _
  unfold readAhead
  repeat' first
    | with_reducible assumption
    | decide
    | with_reducible refine Keeps.ite ?_ (fun _ => ?_)
    | with_reducible refine State.modChan_keeps ?_ ?_
    | with_reducible refine endJob_keeps ?_ ?_
    | with_reducible refine request_keeps ?_ ?_
    | with_reducible refine Keeps.foldl _ (fun _ _ _ => ?_) ?_
    | with_reducible refine Keeps.foldl_fst _ (fun _ _ _ => ?_) ?_
    | dsimp only
    | split

theorem bulkTick_keeps {V : Nat} {s0 s : State} (hV : subMask 1020348938190874 V = true)
    (h : Keeps V s0 s) : Keeps V s0 (bulkTick s) := by
  refine h.step hV ?_
  clear h hV
  have h : Keeps 1020348938190874 s s := .refl _ _
  unfold bulkTick
  repeat' first
    | with_reducible assumption
    | decide
    | with_reducible refine Keeps.ite ?_ (fun _ => ?_)
    | with_reducible refine bulkPort_keeps ?_ ?_
    | with_reducible refine grantWishes_keeps ?_ ?_
    | with_reducible refine promote_keeps ?_ ?_
    | with_reducible refine readAhead_keeps ?_ ?_
    | with_reducible refine Keeps.foldl _ (fun _ _ _ => ?_) ?_

theorem lateWake_keeps {V : Nat} {t0 : Nat} {s0 s : State} (hV : subMask 895004880928778 V = true)
    (h : Keeps V s0 s) : Keeps V s0 (lateWake t0 s) := by
  refine h.step hV ?_
  clear h hV
  have h : Keeps 895004880928778 s s := .refl _ _
  unfold lateWake
  repeat' first
    | with_reducible assumption
    | decide
    | with_reducible refine Keeps.ite ?_ (fun _ => ?_)
    | with_reducible refine State.modPwr_keeps ?_ ?_
    | with_reducible refine wakeSource_keeps ?_ ?_
    | with_reducible refine Keeps.foldl _ (fun _ _ _ => ?_) ?_
    | with_reducible refine Keeps.foldl_fst _ (fun _ _ _ => ?_) ?_
    | dsimp only
    | split

theorem settleOff_keeps {V : Nat} {t0 : Nat} {s0 s : State} (hV : subMask 895004880928778 V = true)
    (h : Keeps V s0 s) : Keeps V s0 (settleOff t0 s) := by
  refine h.step hV ?_
  clear h hV
  have h : Keeps 895004880928778 s s := .refl _ _
  unfold settleOff
  repeat' first
    | with_reducible assumption
    | decide
    | with_reducible refine Keeps.ite ?_ (fun _ => ?_)
    | with_reducible refine State.modPwr_keeps ?_ ?_
    | with_reducible refine lateWake_keeps ?_ ?_

theorem dropHeld_keeps {V : Nat} {t0 : Nat} {s0 s : State} (hV : subMask 844427077615626 V = true)
    (h : Keeps V s0 s) : Keeps V s0 (dropHeld t0 s) := by
  refine h.step hV ?_
  clear h hV
  have h : Keeps 844427077615626 s s := .refl _ _
  unfold dropHeld
  repeat' first
    | with_reducible assumption
    | decide
    | with_reducible refine Keeps.ite ?_ (fun _ => ?_)
    | with_reducible refine State.modPwr_keeps ?_ ?_
    | with_reducible refine out_keeps ?_ ?_
    | with_reducible refine setErr_keeps ?_ ?_
    | with_reducible refine Keeps.foldl _ (fun _ _ _ => ?_) ?_

theorem dropMesh_keeps {V : Nat} {t0 : Nat} {s0 s : State} (hV : subMask 12884901888 V = true)
    (h : Keeps V s0 s) : Keeps V s0 (dropMesh t0 s) := by
  refine h.step hV ?_
  clear h hV
  have h : Keeps 12884901888 s s := .refl _ _
  unfold dropMesh
  repeat' first
    | with_reducible assumption
    | decide
    | with_reducible refine Keeps.ite ?_ (fun _ => ?_)
    | exact nwf_nmod _ _
    | exact nwf_nput _ _
    | exact nwf_filter _
    | exact fun _ => nwf_nmapAll _
    | exact ascKeys_nput _ _ _
    | exact ascKeys_filter _
    | exact nwf_foldl_nput _ _ _
    | exact memWrite_wf _ _ _
    | exact fun hi => nwf_nput _ _ (nwf_filter _ hi)
    | with_reducible refine Keeps.foldl _ (fun _ _ _ => ?_) ?_
    | with_reducible refine Keeps.foldl_fst _ (fun _ _ _ => ?_) ?_
    | dsimp only
    | split
    | with_reducible refine Keeps.set_mesh_meshFails ?_ ?_ ?_ ?_

theorem fwTileFails_keeps {V : Nat} {t0 : Nat} {s0 s : State} (hV : subMask 33554440 V = true)
    (h : Keeps V s0 s) : Keeps V s0 (fwTileFails t0 s) := by
  refine h.step hV ?_
  clear h hV
  have h : Keeps 33554440 s s := .refl _ _
  unfold fwTileFails
  repeat' first
    | with_reducible assumption
    | decide
    | with_reducible refine Keeps.ite ?_ (fun _ => ?_)
    | with_reducible refine State.modFw_keeps ?_ ?_
    | with_reducible refine nextSwitch_keeps ?_ ?_
    | with_reducible refine Keeps.foldl _ (fun _ _ _ => ?_) ?_
    | with_reducible refine Keeps.foldl_fst _ (fun _ _ _ => ?_) ?_
    | dsimp only
    | split

theorem setTileOk_keeps {V : Nat} {t0 : Nat} {v : Nat} {s0 s : State} (hV : subMask 268435456 V = true)
    (h : Keeps V s0 s) : Keeps V s0 (setTileOk t0 v s) := by
  refine h.step hV ?_
  clear h hV
  have h : Keeps 268435456 s s := .refl _ _
  unfold setTileOk
  repeat' first
    | with_reducible assumption
    | decide
    | with_reducible refine Keeps.ite ?_ (fun _ => ?_)
    | with_reducible refine State.modPins_keeps ?_ ?_

theorem enterOff_keeps {V : Nat} {t0 : Nat} {status : Nat} {s0 s : State} (hV : subMask 1020363198891386 V = true)
    (h : Keeps V s0 s) : Keeps V s0 (enterOff t0 status s) := by
  refine h.step hV ?_
  clear h hV
  have h : Keeps 1020363198891386 s s := .refl _ _
  unfold enterOff
  repeat' first
    | with_reducible assumption
    | decide
    | with_reducible refine Keeps.ite ?_ (fun _ => ?_)
    | with_reducible refine State.modPwr_keeps ?_ ?_
    | with_reducible refine State.modTile_keeps ?_ ?_
    | with_reducible refine dropHeld_keeps ?_ ?_
    | with_reducible refine dropIdle_keeps ?_ ?_
    | with_reducible refine dropMesh_keeps ?_ ?_
    | with_reducible refine endTileWork_keeps ?_ ?_
    | with_reducible refine failHandle_keeps ?_ ?_
    | with_reducible refine fwTileFails_keeps ?_ ?_
    | with_reducible refine setErr_keeps ?_ ?_
    | with_reducible refine setTileOk_keeps ?_ ?_
    | with_reducible refine stopPorts_keeps ?_ ?_
    | with_reducible refine Keeps.foldl _ (fun _ _ _ => ?_) ?_

theorem wakeFails_keeps {V : Nat} {t0 : Nat} {item : Nat} {s0 s : State} (hV : subMask 1020398095500666 V = true)
    (h : Keeps V s0 s) : Keeps V s0 (wakeFails t0 item s) := by
  refine h.step hV ?_
  clear h hV
  have h : Keeps 1020398095500666 s s := .refl _ _
  unfold wakeFails
  repeat' first
    | with_reducible assumption
    | decide
    | with_reducible refine Keeps.ite ?_ (fun _ => ?_)
    | with_reducible refine State.modPwr_keeps ?_ ?_
    | with_reducible refine dropHeld_keeps ?_ ?_
    | with_reducible refine emitMgr_keeps ?_ ?_
    | with_reducible refine enterOff_keeps ?_ ?_
    | with_reducible refine out_keeps ?_ ?_
    | with_reducible refine packageFault_keeps ?_ ?_
    | with_reducible refine setErr_keeps ?_ ?_

theorem busDone_keeps {V : Nat} {t0 : Nat} {i : Nat} {ok : Bool} {s0 s : State} (hV : subMask 1035791258289530 V = true)
    (h : Keeps V s0 s) : Keeps V s0 (busDone t0 i ok s) := by
  refine h.step hV ?_
  clear h hV
  have h : Keeps 1035791258289530 s s := .refl _ _
  unfold busDone
  repeat' first
    | with_reducible assumption
    | decide
    | with_reducible refine Keeps.ite ?_ (fun _ => ?_)
    | with_reducible refine State.modPwr_keeps ?_ ?_
    | with_reducible refine avsEvent_keeps ?_ ?_
    | with_reducible refine out_keeps ?_ ?_
    | with_reducible refine setErr_keeps ?_ ?_
    | with_reducible refine settleOff_keeps ?_ ?_
    | with_reducible refine wakeFails_keeps ?_ ?_
    | with_reducible refine Keeps.foldl _ (fun _ _ _ => ?_) ?_
    | with_reducible refine Keeps.foldl_fst _ (fun _ _ _ => ?_) ?_
    | dsimp only
    | split

theorem busRead_keeps {V : Nat} {f : Nat} {bar : Nat} {a : Nat} {size : Nat} {s0 s : State} (hV : subMask 1035742369284202 V = true)
    (h : Keeps V s0 s) : Keeps V s0 (busRead f bar a size s) := by
  refine h.step hV ?_
  clear h hV
  have h : Keeps 1035742369284202 s s := .refl _ _
  unfold busRead
  repeat' first
    | with_reducible assumption
    | decide
    | with_reducible refine Keeps.ite ?_ (fun _ => ?_)
    | with_reducible refine barRead_keeps ?_ ?_
    | with_reducible refine dropSnap_keeps ?_ ?_
    | with_reducible refine holdAcc_keeps ?_ ?_
    | with_reducible refine out_keeps ?_ ?_
    | with_reducible refine Keeps.foldl _ (fun _ _ _ => ?_) ?_
    | with_reducible refine Keeps.foldl_fst _ (fun _ _ _ => ?_) ?_
    | dsimp only
    | split

theorem busWrite_keeps {V : Nat} {f : Nat} {bar : Nat} {a : Nat} {size : Nat} {v : Nat} {part : Bool} {s0 s : State} (hV : subMask 1125899906842623 V = true)
    (h : Keeps V s0 s) : Keeps V s0 (busWrite f bar a size v part s) := by
  refine h.step hV ?_
  clear h hV
  have h : Keeps 1125899906842623 s s := .refl _ _
  unfold busWrite
  repeat' first
    | with_reducible assumption
    | decide
    | with_reducible refine Keeps.ite ?_ (fun _ => ?_)
    | with_reducible refine barWrite_keeps ?_ ?_
    | with_reducible refine dropSnap_keeps ?_ ?_
    | with_reducible refine holdAcc_keeps ?_ ?_
    | with_reducible refine Keeps.foldl _ (fun _ _ _ => ?_) ?_
    | with_reducible refine Keeps.foldl_fst _ (fun _ _ _ => ?_) ?_
    | dsimp only
    | split

theorem cancelCreate_keeps {V : Nat} {t0 : Nat} {s0 s : State} (hV : subMask 8 V = true)
    (h : Keeps V s0 s) : Keeps V s0 (cancelCreate t0 s) := by
  refine h.step hV ?_
  clear h hV
  have h : Keeps 8 s s := .refl _ _
  unfold cancelCreate
  repeat' first
    | with_reducible assumption
    | decide
    | with_reducible refine Keeps.ite ?_ (fun _ => ?_)
    | with_reducible refine State.modFn_keeps ?_ ?_
    | with_reducible refine failHandle_keeps ?_ ?_
    | with_reducible refine Keeps.foldl _ (fun _ _ _ => ?_) ?_
    | with_reducible refine Keeps.foldl_fst _ (fun _ _ _ => ?_) ?_
    | dsimp only
    | split

theorem cancelFetch_keeps {V : Nat} {f : Nat} {g : Nat} {s0 s : State} (hV : subMask 8 V = true)
    (h : Keeps V s0 s) : Keeps V s0 (cancelFetch f g s) := by
  refine h.step hV ?_
  clear h hV
  have h : Keeps 8 s s := .refl _ _
  unfold cancelFetch
  repeat' first
    | with_reducible assumption
    | decide
    | with_reducible refine Keeps.ite ?_ (fun _ => ?_)
    | with_reducible refine dropHandle_keeps ?_ ?_

theorem capture_keeps {V : Nat} {f : Nat} {s0 s : State} (hV : subMask 879611449704458 V = true)
    (h : Keeps V s0 s) : Keeps V s0 (capture f s) := by
  refine h.step hV ?_
  clear h hV
  have h : Keeps 879611449704458 s s := .refl _ _
  unfold capture
  repeat' first
    | with_reducible assumption
    | decide
    | with_reducible refine Keeps.ite ?_ (fun _ => ?_)
    | with_reducible refine State.modImage_keeps ?_ ?_
    | with_reducible refine dmaRefused_keeps ?_ ?_
    | with_reducible refine out_keeps ?_ ?_
    | with_reducible refine setErr_keeps ?_ ?_
    | with_reducible refine Keeps.foldl _ (fun _ _ _ => ?_) ?_
    | with_reducible refine Keeps.foldl_fst _ (fun _ _ _ => ?_) ?_
    | dsimp only
    | split

theorem muteEntries_keeps {V : Nat} {g : Nat} {p : AEntry → Bool} {s0 s : State} (hV : subMask 1073743178 V = true)
    (h : Keeps V s0 s) : Keeps V s0 (muteEntries g p s) := by
  refine h.step hV ?_
  clear h hV
  have h : Keeps 1073743178 s s := .refl _ _
  unfold muteEntries
  repeat' first
    | with_reducible assumption
    | decide
    | with_reducible refine Keeps.ite ?_ (fun _ => ?_)
    | with_reducible refine State.modPlan_keeps ?_ ?_
    | with_reducible refine needCompile_keeps ?_ ?_
    | with_reducible refine stopFeeds_keeps ?_ ?_
    | with_reducible refine Keeps.foldl _ (fun _ _ _ => ?_) ?_

theorem moveLease_keeps {V : Nat} {g : Nat} {n : Nat} {w : Nat} {readers : List Nat} {s0 s : State} (hV : subMask 879612523644266 V = true)
    (h : Keeps V s0 s) : Keeps V s0 (moveLease g n w readers s) := by
  refine h.step hV ?_
  clear h hV
  have h : Keeps 879612523644266 s s := .refl _ _
  unfold moveLease
  repeat' first
    | with_reducible assumption
    | decide
    | with_reducible refine Keeps.ite ?_ (fun _ => ?_)
    | with_reducible refine State.modNode_keeps ?_ ?_
    | with_reducible refine bridgeLeaseChange_keeps ?_ ?_
    | with_reducible refine bulkLeaseChange_keeps ?_ ?_
    | with_reducible refine emit_keeps ?_ ?_
    | with_reducible refine lockPoint_keeps ?_ ?_
    | with_reducible refine muteEntries_keeps ?_ ?_
    | with_reducible refine needCompile_keeps ?_ ?_
    | with_reducible refine Keeps.foldl _ (fun _ _ _ => ?_) ?_
    | with_reducible refine Keeps.foldl_fst _ (fun _ _ _ => ?_) ?_
    | dsimp only
    | split

theorem changeLease_keeps {V : Nat} {g : Nat} {n : Nat} {w : Nat} {readers : List Nat} {s0 s : State} (hV : subMask 879612523644266 V = true)
    (h : Keeps V s0 s) : Keeps V s0 (changeLease g n w readers s) := by
  refine h.step hV ?_
  clear h hV
  have h : Keeps 879612523644266 s s := .refl _ _
  unfold changeLease
  repeat' first
    | with_reducible assumption
    | decide
    | with_reducible refine Keeps.ite ?_ (fun _ => ?_)
    | with_reducible refine moveLease_keeps ?_ ?_
    | with_reducible refine zeroAll_keeps ?_ ?_
    | with_reducible refine Keeps.foldl _ (fun _ _ _ => ?_) ?_

theorem checkPlan_keeps {V : Nat} {skip : Nat → Bool} {g : Nat} {s0 s : State} (hV : subMask 64 V = true)
    (h : Keeps V s0 s) : Keeps V s0 (checkPlan skip s g) := by
  refine h.step hV ?_
  clear h hV
  have h : Keeps 64 s s := .refl _ _
  unfold checkPlan
  repeat' first
    | with_reducible assumption
    | decide
    | with_reducible refine Keeps.ite ?_ (fun _ => ?_)
    | with_reducible refine State.modPlan_keeps ?_ ?_
    | with_reducible refine Keeps.foldl _ (fun _ _ _ => ?_) ?_
    | with_reducible refine Keeps.foldl_fst _ (fun _ _ _ => ?_) ?_
    | dsimp only
    | split

theorem checkNew_keeps {V : Nat} {t0 : Nat} {s0 s : State} (hV : subMask 64 V = true)
    (h : Keeps V s0 s) : Keeps V s0 (checkNew t0 s) := by
  refine h.step hV ?_
  clear h hV
  have h : Keeps 64 s s := .refl _ _
  unfold checkNew
  repeat' first
    | with_reducible assumption
    | decide
    | with_reducible refine Keeps.ite ?_ (fun _ => ?_)
    | with_reducible refine checkPlan_keeps ?_ ?_
    | with_reducible refine Keeps.foldl _ (fun _ _ _ => ?_) ?_
    | with_reducible refine Keeps.foldl_fst _ (fun _ _ _ => ?_) ?_
    | dsimp only
    | split

theorem chunkArrives_keeps {V : Nat} {o : ChunkFrom} {index : Nat} {d : List Byte} {s0 s : State} (hV : subMask 879611550367754 V = true)
    (h : Keeps V s0 s) : Keeps V s0 (chunkArrives o index d s) := by
  refine h.step hV ?_
  clear h hV
  have h : Keeps 879611550367754 s s := .refl _ _
  unfold chunkArrives
  repeat' first
    | with_reducible assumption
    | decide
    | with_reducible refine Keeps.ite ?_ (fun _ => ?_)
    | with_reducible refine State.modFw_keeps ?_ ?_
    | with_reducible refine pumpAll_keeps ?_ ?_

theorem cmd_keeps {V : Nat} {f : Nat} {e0 : Nat} {opc : Nat} {run : Entry → State → State} {s0 s : State} (hV : subMask 879611449704458 V = true)
    (hrun : ∀ (x0 : Entry) (t : State), Keeps V s0 t → Keeps V s0 (run x0 t)) (h : Keeps V s0 s) :
    Keeps V s0 (cmd f e0 opc run s) := by
  unfold cmd
  repeat' first
    | with_reducible assumption
    | exact subMask_trans (by decide) hV
    | with_reducible refine Keeps.ite ?_ (fun _ => ?_)
    | with_reducible refine finish_keeps ?_ ?_
    | with_reducible refine Keeps.foldl _ (fun _ _ _ => ?_) ?_
    | with_reducible refine Keeps.foldl_fst _ (fun _ _ _ => ?_) ?_
    | dsimp only
    | split
    | (with_reducible refine hrun _ _ ?_)

theorem openSession_keeps {V : Nat} {x : Entry} {pkgid : List Byte} {count : Nat} {recs : List ListRec} {s0 s : State} (hV : subMask 1020348971614218 V = true)
    (h : Keeps V s0 s) : Keeps V s0 (openSession x pkgid count recs s) := by
  refine h.step hV ?_
  clear h hV
  have h : Keeps 1020348971614218 s s := .refl _ _
  unfold openSession
  repeat' first
    | with_reducible assumption
    | decide
    | with_reducible refine Keeps.ite ?_ (fun _ => ?_)
    | with_reducible refine State.draw_keeps ?_ ?_
    | with_reducible refine State.modFw_keeps ?_ ?_
    | with_reducible refine finish_keeps ?_ ?_
    | with_reducible refine writeSession_keeps ?_ ?_

theorem fwSession_keeps {V : Nat} {f : Nat} {x : Entry} {s0 s : State} (hV : subMask 1020348971614218 V = true)
    (h : Keeps V s0 s) : Keeps V s0 (fwSession f x s) := by
  refine h.step hV ?_
  clear h hV
  have h : Keeps 1020348971614218 s s := .refl _ _
  unfold fwSession
  repeat' first
    | with_reducible assumption
    | decide
    | with_reducible refine Keeps.ite ?_ (fun _ => ?_)
    | with_reducible refine State.modFw_keeps ?_ ?_
    | with_reducible refine finish_keeps ?_ ?_
    | with_reducible refine openSession_keeps ?_ ?_
    | with_reducible refine setErr_keeps ?_ ?_
    | with_reducible refine writeSession_keeps ?_ ?_
    | with_reducible refine Keeps.foldl _ (fun _ _ _ => ?_) ?_
    | with_reducible refine Keeps.foldl_fst _ (fun _ _ _ => ?_) ?_
    | dsimp only
    | split

theorem rerunSessions_keeps {V : Nat} {ids : List Nat} {s0 s : State} (hV : subMask 1020348971614218 V = true)
    (h : Keeps V s0 s) : Keeps V s0 (rerunSessions ids s) := by
  refine h.step hV ?_
  clear h hV
  have h : Keeps 1020348971614218 s s := .refl _ _
  unfold rerunSessions
  repeat' first
    | with_reducible assumption
    | decide
    | with_reducible refine Keeps.ite ?_ (fun _ => ?_)
    | with_reducible refine cmd_keeps ?_ (fun _ _ _ => ?_) ?_
    | with_reducible refine fwSession_keeps ?_ ?_
    | with_reducible refine Keeps.foldl _ (fun _ _ _ => ?_) ?_

theorem chunkProgrammed_keeps {V : Nat} {ok : Bool} {s0 s : State} (hV : subMask 1020349038723082 V = true)
    (h : Keeps V s0 s) : Keeps V s0 (chunkProgrammed ok s) := by
  refine h.step hV ?_
  clear h hV
  have h : Keeps 1020349038723082 s s := .refl _ _
  unfold chunkProgrammed
  repeat' first
    | with_reducible assumption
    | decide
    | with_reducible refine Keeps.ite ?_ (fun _ => ?_)
    | with_reducible refine State.modFw_keeps ?_ ?_
    | with_reducible refine chunkEnds_keeps ?_ ?_
    | with_reducible refine emit_keeps ?_ ?_
    | with_reducible refine emitMgr_keeps ?_ ?_
    | with_reducible refine out_keeps ?_ ?_
    | with_reducible refine pumpAll_keeps ?_ ?_
    | with_reducible refine rerunSessions_keeps ?_ ?_
    | with_reducible refine setErr_keeps ?_ ?_
    | with_reducible refine Keeps.foldl _ (fun _ _ _ => ?_) ?_
    | with_reducible refine Keeps.foldl_fst _ (fun _ _ _ => ?_) ?_
    | dsimp only
    | split

theorem claimGranule_keeps {V : Nat} {f : Nat} {gr : Nat} {s0 s : State} (hV : subMask 1073743616 V = true)
    (h : Keeps V s0 s) : Keeps V s0 (claimGranule f gr s) := by
  refine h.step hV ?_
  clear h hV
  have h : Keeps 1073743616 s s := .refl _ _
  unfold claimGranule
  repeat' first
    | with_reducible assumption
    | decide
    | with_reducible refine Keeps.ite ?_ (fun _ => ?_)
    | with_reducible refine State.setRecord_keeps ?_ ?_
    | with_reducible refine noteChange_keeps ?_ ?_
    | exact nwf_nmod _ _
    | exact nwf_nput _ _
    | exact nwf_filter _
    | exact fun _ => nwf_nmapAll _
    | exact ascKeys_nput _ _ _
    | exact ascKeys_filter _
    | exact nwf_foldl_nput _ _ _
    | exact memWrite_wf _ _ _
    | exact fun hi => nwf_nput _ _ (nwf_filter _ hi)
    | with_reducible refine Keeps.foldl _ (fun _ _ _ => ?_) ?_
    | with_reducible refine Keeps.foldl_fst _ (fun _ _ _ => ?_) ?_
    | dsimp only
    | split
    | with_reducible refine Keeps.set_points ?_ ?_ ?_
    | with_reducible refine Keeps.set_owners ?_ ?_ ?_

theorem claimOne_keeps {V : Nat} {f gr : Nat} {s0 : State} {a : State × Nat × List ListRec} (hV : subMask 1073743616 V = true)
    (h : Keeps V s0 a.1) : Keeps V s0 (claimOne f a gr).1 := by
  refine h.step hV ?_
  clear h hV
  have h : Keeps 1073743616 a.1 a.1 := .refl _ _
  unfold claimOne
  repeat' first
    | with_reducible assumption
    | decide
    | with_reducible refine Keeps.ite ?_ (fun _ => ?_)
    | with_reducible refine claimGranule_keeps ?_ ?_
    | with_reducible refine Keeps.foldl _ (fun _ _ _ => ?_) ?_
    | with_reducible refine Keeps.foldl_fst _ (fun _ _ _ => ?_) ?_
    | dsimp only
    | split

theorem clearPages_keeps {V : Nat} {t0 : Nat} {s0 s : State} (hV : subMask 2 V = true)
    (h : Keeps V s0 s) : Keeps V s0 (clearPages t0 s) := by
  refine h.step hV ?_
  clear h hV
  have h : Keeps 2 s s := .refl _ _
  unfold clearPages
  repeat' first
    | with_reducible assumption
    | decide
    | with_reducible refine Keeps.ite ?_ (fun _ => ?_)
    | exact nwf_nmod _ _
    | exact nwf_nput _ _
    | exact nwf_filter _
    | exact fun _ => nwf_nmapAll _
    | exact ascKeys_nput _ _ _
    | exact ascKeys_filter _
    | exact nwf_foldl_nput _ _ _
    | exact memWrite_wf _ _ _
    | exact fun hi => nwf_nput _ _ (nwf_filter _ hi)
    | with_reducible refine Keeps.foldl _ (fun _ _ _ => ?_) ?_
    | with_reducible refine Keeps.foldl_fst _ (fun _ _ _ => ?_) ?_
    | dsimp only
    | split
    | with_reducible refine Keeps.set_regs ?_ ?_ ?_

theorem releaseGranule_keeps {V : Nat} {gr : Nat} {s0 s : State} (hV : subMask 3840 V = true)
    (h : Keeps V s0 s) : Keeps V s0 (releaseGranule gr s) := by
  refine h.step hV ?_
  clear h hV
  have h : Keeps 3840 s s := .refl _ _
  unfold releaseGranule
  repeat' first
    | with_reducible assumption
    | decide
    | with_reducible refine Keeps.ite ?_ (fun _ => ?_)
    | with_reducible refine State.setRecord_keeps ?_ ?_
    | exact nwf_nmod _ _
    | exact nwf_nput _ _
    | exact nwf_filter _
    | exact fun _ => nwf_nmapAll _
    | exact ascKeys_nput _ _ _
    | exact ascKeys_filter _
    | exact nwf_foldl_nput _ _ _
    | exact memWrite_wf _ _ _
    | exact fun hi => nwf_nput _ _ (nwf_filter _ hi)
    | with_reducible refine Keeps.foldl _ (fun _ _ _ => ?_) ?_
    | with_reducible refine Keeps.foldl_fst _ (fun _ _ _ => ?_) ?_
    | dsimp only
    | split
    | with_reducible refine Keeps.set_points ?_ ?_ ?_
    | with_reducible refine Keeps.set_owners_grants ?_ ?_ ?_ ?_

theorem freeGranule_keeps {V : Nat} {gr : Nat} {s0 s : State} (hV : subMask 3912 V = true)
    (h : Keeps V s0 s) : Keeps V s0 (freeGranule gr s) := by
  refine h.step hV ?_
  clear h hV
  have h : Keeps 3912 s s := .refl _ _
  unfold freeGranule
  repeat' first
    | with_reducible assumption
    | decide
    | with_reducible refine Keeps.ite ?_ (fun _ => ?_)
    | with_reducible refine releaseGranule_keeps ?_ ?_
    | with_reducible refine zeroAll_keeps ?_ ?_
    | exact nwf_nmod _ _
    | exact nwf_nput _ _
    | exact nwf_filter _
    | exact fun _ => nwf_nmapAll _
    | exact ascKeys_nput _ _ _
    | exact ascKeys_filter _
    | exact nwf_foldl_nput _ _ _
    | exact memWrite_wf _ _ _
    | exact fun hi => nwf_nput _ _ (nwf_filter _ hi)
    | with_reducible refine Keeps.foldl _ (fun _ _ _ => ?_) ?_
    | with_reducible refine Keeps.foldl_fst _ (fun _ _ _ => ?_) ?_
    | dsimp only
    | split
    | with_reducible refine Keeps.set_plans ?_ ?_ ?_

theorem commitFree_keeps {V : Nat} {f : Nat} {grs : List Nat} {s0 s : State} (hV : subMask 3912 V = true)
    (h : Keeps V s0 s) : Keeps V s0 (commitFree f grs s).1 := by
  refine h.step hV ?_
  clear h hV
  have h : Keeps 3912 s s := .refl _ _
  unfold commitFree
  repeat' first
    | with_reducible assumption
    | decide
    | with_reducible refine Keeps.ite ?_ (fun _ => ?_)
    | with_reducible refine freeGranule_keeps ?_ ?_
    | with_reducible refine Keeps.foldl _ (fun _ _ _ => ?_) ?_
    | with_reducible refine Keeps.foldl_fst _ (fun _ _ _ => ?_) ?_
    | dsimp only
    | split

theorem commitGrant_keeps {V : Nat} {f first count reader : Nat} {s0 s t : State} (hV : subMask 2048 V = true)
    (h : Keeps V s0 s) (e : commitGrant f first count reader s = some t) : Keeps V s0 t := by
  refine h.step hV ?_
  clear h hV
  have h : Keeps 2048 s s := .refl _ _
  unfold commitGrant at e
  repeat' first
    | (dsimp only at e)
    | (split at e)
    | (cases e)
  repeat' first
    | with_reducible assumption
    | decide
    | with_reducible refine Keeps.ite ?_ (fun _ => ?_)
    | with_reducible refine Keeps.foldl _ (fun _ _ _ => ?_) ?_
    | with_reducible refine Keeps.foldl_fst _ (fun _ _ _ => ?_) ?_
    | dsimp only
    | split
    | with_reducible refine Keeps.set_grants ?_ ?_

theorem commitHandle_keeps {V : Nat} {f : Nat} {seq : Nat} {s0 s : State} (hV : subMask 8 V = true)
    (h : Keeps V s0 s) : Keeps V s0 (commitHandle f seq s) := by
  refine h.step hV ?_
  clear h hV
  have h : Keeps 8 s s := .refl _ _
  unfold commitHandle
  repeat' first
    | with_reducible assumption
    | decide
    | with_reducible refine Keeps.ite ?_ (fun _ => ?_)
    | with_reducible refine endHandle_keeps ?_ ?_

theorem unlockAll_keeps {V : Nat} {c : LockCause} {s0 s : State} (hV : subMask 1073743114 V = true)
    (h : Keeps V s0 s) : Keeps V s0 (unlockAll c s) := by
  refine h.step hV ?_
  clear h hV
  have h : Keeps 1073743114 s s := .refl _ _
  unfold unlockAll
  repeat' first
    | with_reducible assumption
    | decide
    | with_reducible refine Keeps.ite ?_ (fun _ => ?_)
    | with_reducible refine unlockPoint_keeps ?_ ?_
    | with_reducible refine Keeps.foldl _ (fun _ _ _ => ?_) ?_
    | with_reducible refine Keeps.foldl_fst _ (fun _ _ _ => ?_) ?_
    | dsimp only
    | split

theorem freePoints_keeps {V : Nat} {g : Nat} {n : Nat} {s0 s : State} (hV : subMask 1073743114 V = true)
    (h : Keeps V s0 s) : Keeps V s0 (freePoints g n s) := by
  refine h.step hV ?_
  clear h hV
  have h : Keeps 1073743114 s s := .refl _ _
  unfold freePoints
  repeat' first
    | with_reducible assumption
    | decide
    | with_reducible refine Keeps.ite ?_ (fun _ => ?_)
    | with_reducible refine unlockAll_keeps ?_ ?_

theorem commitNodeOp_keeps {V : Nat} {f : Nat} {h0 : Handle} {s0 s : State} (hV : subMask 1020350011999610 V = true)
    (h : Keeps V s0 s) : Keeps V s0 (commitNodeOp f h0 s) := by
  refine h.step hV ?_
  clear h hV
  have h : Keeps 1020350011999610 s s := .refl _ _
  unfold commitNodeOp
  repeat' first
    | with_reducible assumption
    | decide
    | with_reducible refine Keeps.ite ?_ (fun _ => ?_)
    | with_reducible refine State.modNode_keeps ?_ ?_
    | with_reducible refine admitCommit_keeps ?_ ?_
    | with_reducible refine changeLease_keeps ?_ ?_
    | with_reducible refine commitHandle_keeps ?_ ?_
    | with_reducible refine failHandle_keeps ?_ ?_
    | with_reducible refine freePoints_keeps ?_ ?_
    | with_reducible refine Keeps.foldl _ (fun _ _ _ => ?_) ?_
    | with_reducible refine Keeps.foldl_fst _ (fun _ _ _ => ?_) ?_
    | dsimp only
    | split

theorem commitRevoke_keeps {V : Nat} {f : Nat} {first : Nat} {count : Nat} {reader : Nat} {s0 s : State} (hV : subMask 2056 V = true)
    (h : Keeps V s0 s) : Keeps V s0 (commitRevoke f first count reader s) := by
  refine h.step hV ?_
  clear h hV
  have h : Keeps 2056 s s := .refl _ _
  unfold commitRevoke
  repeat' first
    | with_reducible assumption
    | decide
    | with_reducible refine Keeps.ite ?_ (fun _ => ?_)
    | with_reducible refine zeroRights_keeps ?_ ?_
    | with_reducible refine Keeps.foldl _ (fun _ _ _ => ?_) ?_
    | with_reducible refine Keeps.foldl_fst _ (fun _ _ _ => ?_) ?_
    | dsimp only
    | split
    | with_reducible refine Keeps.set_grants ?_ ?_

theorem listMore_keeps {V : Nat} {f : Nat} {seq : Nat} {recs : List ListRec} {s0 s : State} (hV : subMask 879611449704458 V = true)
    (h : Keeps V s0 s) : Keeps V s0 (listMore f seq recs s) := by
  refine h.step hV ?_
  clear h hV
  have h : Keeps 879611449704458 s s := .refl _ _
  unfold listMore
  repeat' first
    | with_reducible assumption
    | decide
    | with_reducible refine Keeps.ite ?_ (fun _ => ?_)
    | with_reducible refine State.modHandle_keeps ?_ ?_
    | with_reducible refine writeList_keeps ?_ ?_
    | with_reducible refine Keeps.foldl _ (fun _ _ _ => ?_) ?_
    | with_reducible refine Keeps.foldl_fst _ (fun _ _ _ => ?_) ?_
    | dsimp only
    | split

theorem storeRule_keeps {V : Nat} {f t0 first : Nat} {x : Nat × RuleEntry} {s0 : State} {a : State × List ListRec} (hV : subMask 2147487744 V = true)
    (h : Keeps V s0 a.1) : Keeps V s0 (storeRule f t0 first a x).1 := by
  refine h.step hV ?_
  clear h hV
  have h : Keeps 2147487744 a.1 a.1 := .refl _ _
  unfold storeRule
  repeat' first
    | with_reducible assumption
    | decide
    | with_reducible refine Keeps.ite ?_ (fun _ => ?_)
    | with_reducible refine State.modTile_keeps ?_ ?_
    | exact nwf_nmod _ _
    | exact nwf_nput _ _
    | exact nwf_filter _
    | exact fun _ => nwf_nmapAll _
    | exact ascKeys_nput _ _ _
    | exact ascKeys_filter _
    | exact nwf_foldl_nput _ _ _
    | exact memWrite_wf _ _ _
    | exact fun hi => nwf_nput _ _ (nwf_filter _ hi)
    | with_reducible refine Keeps.foldl _ (fun _ _ _ => ?_) ?_
    | with_reducible refine Keeps.foldl_fst _ (fun _ _ _ => ?_) ?_
    | dsimp only
    | split
    | with_reducible refine Keeps.set_rules ?_ ?_ ?_

theorem trimCopies_keeps {V : Nat} {t0 : Nat} {s0 s : State} (hV : subMask 24576 V = true)
    (h : Keeps V s0 s) : Keeps V s0 (trimCopies t0 s) := by
  refine h.step hV ?_
  clear h hV
  have h : Keeps 24576 s s := .refl _ _
  unfold trimCopies
  repeat' first
    | with_reducible assumption
    | decide
    | with_reducible refine Keeps.ite ?_ (fun _ => ?_)
    | exact nwf_nmod _ _
    | exact nwf_nput _ _
    | exact nwf_filter _
    | exact fun _ => nwf_nmapAll _
    | exact ascKeys_nput _ _ _
    | exact ascKeys_filter _
    | exact nwf_foldl_nput _ _ _
    | exact memWrite_wf _ _ _
    | exact fun hi => nwf_nput _ _ (nwf_filter _ hi)
    | with_reducible refine Keeps.foldl _ (fun _ _ _ => ?_) ?_
    | with_reducible refine Keeps.foldl_fst _ (fun _ _ _ => ?_) ?_
    | dsimp only
    | split
    | with_reducible refine Keeps.set_remote_copies ?_ ?_ ?_ ?_

theorem commitRules_keeps {V : Nat} {f : Nat} {seq : Nat} {t0 : Nat} {first : Nat} {rules : List (Nat × RuleEntry)} {s0 s : State} (hV : subMask 879611449733130 V = true)
    (h : Keeps V s0 s) : Keeps V s0 (commitRules f seq t0 first rules s) := by
  refine h.step hV ?_
  clear h hV
  have h : Keeps 879611449733130 s s := .refl _ _
  unfold commitRules
  repeat' first
    | with_reducible assumption
    | decide
    | with_reducible refine Keeps.ite ?_ (fun _ => ?_)
    | with_reducible refine commitHandle_keeps ?_ ?_
    | with_reducible refine listMore_keeps ?_ ?_
    | with_reducible refine storeRule_keeps ?_ ?_
    | with_reducible refine trimCopies_keeps ?_ ?_
    | with_reducible refine Keeps.foldl _ (fun _ _ _ => ?_) ?_
    | with_reducible refine Keeps.foldl_fst _ (fun _ _ _ => ?_) ?_

theorem thawFn_keeps {V : Nat} {t0 : Nat} {s0 s : State} (hV : subMask 879611449704522 V = true)
    (h : Keeps V s0 s) : Keeps V s0 (thawFn t0 s) := by
  refine h.step hV ?_
  clear h hV
  have h : Keeps 879611449704522 s s := .refl _ _
  unfold thawFn
  repeat' first
    | with_reducible assumption
    | decide
    | with_reducible refine Keeps.ite ?_ (fun _ => ?_)
    | with_reducible refine State.modFn_keeps ?_ ?_
    | with_reducible refine flushAll_keeps ?_ ?_
    | with_reducible refine needCompile_keeps ?_ ?_
    | with_reducible refine Keeps.foldl _ (fun _ _ _ => ?_) ?_

theorem commitOp_keeps {V : Nat} {x : Nat × Nat} {s0 s : State} (hV : subMask 1020350012030970 V = true)
    (h : Keeps V s0 s) : Keeps V s0 (commitOp s x) := by
  refine h.step hV ?_
  clear h hV
  have h : Keeps 1020350012030970 s s := .refl _ _
  unfold commitOp
  repeat' first
    | with_reducible assumption
    | decide
    | with_reducible refine Keeps.ite ?_ (fun _ => ?_)
    | with_reducible refine State.modFn_keeps ?_ ?_
    | with_reducible refine State.modImage_keeps ?_ ?_
    | with_reducible refine applyShare_keeps ?_ ?_
    | with_reducible refine commitFree_keeps ?_ ?_
    | with_reducible refine commitGrant_keeps ?_ ?_ (by assumption)
    | with_reducible refine commitHandle_keeps ?_ ?_
    | with_reducible refine commitNodeOp_keeps ?_ ?_
    | with_reducible refine commitRevoke_keeps ?_ ?_
    | with_reducible refine commitRules_keeps ?_ ?_
    | with_reducible refine failHandle_keeps ?_ ?_
    | with_reducible refine fitViews_keeps ?_ ?_
    | with_reducible refine listMore_keeps ?_ ?_
    | with_reducible refine thawFn_keeps ?_ ?_
    | with_reducible refine Keeps.foldl _ (fun _ _ _ => ?_) ?_
    | with_reducible refine Keeps.foldl_fst _ (fun _ _ _ => ?_) ?_
    | dsimp only
    | split

theorem loadHub_keeps {V : Nat} {g : Nat} {h0 : Nat} {planid : Nat} {es : List AEntry} {s0 s : State} (hV : subMask 985164565970992 V = true)
    (h : Keeps V s0 s) : Keeps V s0 (loadHub g h0 planid es s) := by
  refine h.step hV ?_
  clear h hV
  have h : Keeps 985164565970992 s s := .refl _ _
  unfold loadHub
  repeat' first
    | with_reducible assumption
    | decide
    | with_reducible refine Keeps.ite ?_ (fun _ => ?_)
    | with_reducible refine State.modNode_keeps ?_ ?_
    | with_reducible refine mgmtWrite_keeps ?_ ?_
    | with_reducible refine Keeps.foldl _ (fun _ _ _ => ?_) ?_

theorem loadAll_keeps {V : Nat} {g : Nat} {p : Plan} {s0 s : State} (hV : subMask 985164565970992 V = true)
    (h : Keeps V s0 s) : Keeps V s0 (loadAll g p s) := by
  refine h.step hV ?_
  clear h hV
  have h : Keeps 985164565970992 s s := .refl _ _
  unfold loadAll
  repeat' first
    | with_reducible assumption
    | decide
    | with_reducible refine Keeps.ite ?_ (fun _ => ?_)
    | with_reducible refine loadHub_keeps ?_ ?_
    | with_reducible refine loadNode_keeps ?_ ?_
    | with_reducible refine Keeps.foldl _ (fun _ _ _ => ?_) ?_

theorem compileDone_keeps {V : Nat} {g : Nat} {s0 s : State} (hV : subMask 1020348938060026 V = true)
    (h : Keeps V s0 s) : Keeps V s0 (compileDone g s) := by
  refine h.step hV ?_
  clear h hV
  have h : Keeps 1020348938060026 s s := .refl _ _
  unfold compileDone
  repeat' first
    | with_reducible assumption
    | decide
    | with_reducible refine Keeps.ite ?_ (fun _ => ?_)
    | with_reducible refine State.modPlan_keeps ?_ ?_
    | with_reducible refine assignRefs_keeps ?_ ?_
    | with_reducible refine commitGeneration_keeps ?_ ?_
    | with_reducible refine loadAll_keeps ?_ ?_
    | with_reducible refine Keeps.foldl _ (fun _ _ _ => ?_) ?_

theorem spawn_keeps {V : Nat} {t0 : Nat} {level : Nat} {f : Nat} {w : Work} {s0 s : State} (hV : subMask 2147483658 V = true)
    (h : Keeps V s0 s) : Keeps V s0 (spawn t0 level f w s) := by
  refine h.step hV ?_
  clear h hV
  have h : Keeps 2147483658 s s := .refl _ _
  unfold spawn
  repeat' first
    | with_reducible assumption
    | decide
    | with_reducible refine Keeps.ite ?_ (fun _ => ?_)
    | with_reducible refine State.modTile_keeps ?_ ?_
    | with_reducible refine readyTask_keeps ?_ ?_
    | with_reducible refine setErr_keeps ?_ ?_
    | with_reducible refine Keeps.foldl _ (fun _ _ _ => ?_) ?_
    | with_reducible refine Keeps.foldl_fst _ (fun _ _ _ => ?_) ?_
    | dsimp only
    | split

theorem compileStart_keeps {V : Nat} {g : Nat} {s0 s : State} (hV : subMask 2147483722 V = true)
    (h : Keeps V s0 s) : Keeps V s0 (compileStart g s) := by
  refine h.step hV ?_
  clear h hV
  have h : Keeps 2147483722 s s := .refl _ _
  unfold compileStart
  repeat' first
    | with_reducible assumption
    | decide
    | with_reducible refine Keeps.ite ?_ (fun _ => ?_)
    | with_reducible refine State.modPlan_keeps ?_ ?_
    | with_reducible refine checkNew_keeps ?_ ?_
    | with_reducible refine spawn_keeps ?_ ?_

theorem configPoint_keeps {V : Nat} {f item : Nat} {d : List Byte} {s0 : State} {a : State × List ListRec} (hV : subMask 1073743104 V = true)
    (h : Keeps V s0 a.1) : Keeps V s0 (configPoint f item d a).1 := by
  refine h.step hV ?_
  clear h hV
  have h : Keeps 1073743104 a.1 a.1 := .refl _ _
  unfold configPoint
  repeat' first
    | with_reducible assumption
    | decide
    | with_reducible refine Keeps.ite ?_ (fun _ => ?_)
    | with_reducible refine State.modPoint_keeps ?_ ?_
    | with_reducible refine writePoint_keeps ?_ ?_
    | with_reducible refine Keeps.foldl _ (fun _ _ _ => ?_) ?_
    | with_reducible refine Keeps.foldl_fst _ (fun _ _ _ => ?_) ?_
    | dsimp only
    | split

theorem configDone_keeps {V : Nat} {f : Nat} {x : Entry} {d : List Byte} {s0 s : State} (hV : subMask 879612523447562 V = true)
    (h : Keeps V s0 s) : Keeps V s0 (configDone f x d s) := by
  refine h.step hV ?_
  clear h hV
  have h : Keeps 879612523447562 s s := .refl _ _
  unfold configDone
  repeat' first
    | with_reducible assumption
    | decide
    | with_reducible refine Keeps.ite ?_ (fun _ => ?_)
    | with_reducible refine configPoint_keeps ?_ ?_
    | with_reducible refine finish_keeps ?_ ?_
    | with_reducible refine Keeps.foldl _ (fun _ _ _ => ?_) ?_
    | with_reducible refine Keeps.foldl_fst _ (fun _ _ _ => ?_) ?_

theorem configWrite_keeps {V : Nat} {f : Nat} {what : Nat} {v : Nat} {s0 s : State} (hV : subMask 962072674312 V = true)
    (h : Keeps V s0 s) : Keeps V s0 (configWrite f what v s) := by
  refine h.step hV ?_
  clear h hV
  have h : Keeps 962072674312 s s := .refl _ _
  unfold configWrite
  repeat' first
    | with_reducible assumption
    | decide
    | with_reducible refine Keeps.ite ?_ (fun _ => ?_)
    | with_reducible refine State.joinEntry_keeps ?_ ?_
    | with_reducible refine State.modFn_keeps ?_ ?_
    | with_reducible refine Keeps.foldl _ (fun _ _ _ => ?_) ?_
    | with_reducible refine Keeps.foldl_fst _ (fun _ _ _ => ?_) ?_
    | dsimp only
    | split
    | with_reducible refine Keeps.set_vfMse ?_ ?_
    | with_reducible refine Keeps.set_numVfs ?_ ?_
    | with_reducible refine Keeps.set_ari ?_ ?_

theorem confirm_keeps {V : Nat} {by_ : Nat} {s0 s : State} (hV : subMask 879611483258890 V = true)
    (h : Keeps V s0 s) : Keeps V s0 (confirm by_ s) := by
  refine h.step hV ?_
  clear h hV
  have h : Keeps 879611483258890 s s := .refl _ _
  unfold confirm
  repeat' first
    | with_reducible assumption
    | decide
    | with_reducible refine Keeps.ite ?_ (fun _ => ?_)
    | with_reducible refine State.modFw_keeps ?_ ?_
    | with_reducible refine emitMgr_keeps ?_ ?_
    | with_reducible refine raiseSvn_keeps ?_ ?_
    | with_reducible refine writeBoot_keeps ?_ ?_
    | with_reducible refine Keeps.foldl _ (fun _ _ _ => ?_) ?_
    | with_reducible refine Keeps.foldl_fst _ (fun _ _ _ => ?_) ?_
    | dsimp only
    | split

theorem copyWritten_keeps {V : Nat} {s0 s : State} (hV : subMask 844424963686410 V = true)
    (h : Keeps V s0 s) : Keeps V s0 (copyWritten s) := by
  refine h.step hV ?_
  clear h hV
  have h : Keeps 844424963686410 s s := .refl _ _
  unfold copyWritten
  repeat' first
    | with_reducible assumption
    | decide
    | with_reducible refine Keeps.ite ?_ (fun _ => ?_)
    | with_reducible refine State.modFw_keeps ?_ ?_
    | with_reducible refine State.modHandle_keeps ?_ ?_
    | with_reducible refine countReg_keeps ?_ ?_
    | with_reducible refine endHandle_keeps ?_ ?_
    | with_reducible refine out_keeps ?_ ?_
    | with_reducible refine startWaiting_keeps ?_ ?_
    | with_reducible refine Keeps.foldl _ (fun _ _ _ => ?_) ?_
    | with_reducible refine Keeps.foldl_fst _ (fun _ _ _ => ?_) ?_
    | dsimp only
    | split

theorem createDone_keeps {V : Nat} {seq : Nat} {t0 : Nat} {d : List Byte} {s0 s : State} (hV : subMask 879611449704458 V = true)
    (h : Keeps V s0 s) : Keeps V s0 (createDone seq t0 d s) := by
  refine h.step hV ?_
  clear h hV
  have h : Keeps 879611449704458 s s := .refl _ _
  unfold createDone
  repeat' first
    | with_reducible assumption
    | decide
    | with_reducible refine Keeps.ite ?_ (fun _ => ?_)
    | with_reducible refine State.modFn_keeps ?_ ?_
    | with_reducible refine State.modHandle_keeps ?_ ?_
    | with_reducible refine failHandle_keeps ?_ ?_
    | with_reducible refine listMore_keeps ?_ ?_

theorem delaySet_keeps {V : Nat} {g : Nat} {n : Nat} {delay : Nat} {s0 s : State} (hV : subMask 32 V = true)
    (h : Keeps V s0 s) : Keeps V s0 (delaySet g n delay s) := by
  refine h.step hV ?_
  clear h hV
  have h : Keeps 32 s s := .refl _ _
  unfold delaySet
  repeat' first
    | with_reducible assumption
    | decide
    | with_reducible refine Keeps.ite ?_ (fun _ => ?_)
    | with_reducible refine State.modNode_keeps ?_ ?_

theorem delaysDue_keeps {V : Nat} {t0 : Nat} {s0 s : State} (hV : subMask 2147483648 V = true)
    (h : Keeps V s0 s) : Keeps V s0 (delaysDue t0 s) := by
  refine h.step hV ?_
  clear h hV
  have h : Keeps 2147483648 s s := .refl _ _
  unfold delaysDue
  repeat' first
    | with_reducible assumption
    | decide
    | with_reducible refine Keeps.ite ?_ (fun _ => ?_)
    | with_reducible refine leaveDoze_keeps ?_ ?_
    | with_reducible refine putTask_keeps ?_ ?_
    | with_reducible refine takeTasks_keeps ?_ ?_
    | with_reducible refine Keeps.foldl _ (fun _ _ _ => ?_) ?_

theorem destroyDone_keeps {V : Nat} {t0 : Nat} {s0 s : State} (hV : subMask 879612523644266 V = true)
    (h : Keeps V s0 s) : Keeps V s0 (destroyDone t0 s) := by
  refine h.step hV ?_
  clear h hV
  have h : Keeps 879612523644266 s s := .refl _ _
  unfold destroyDone
  repeat' first
    | with_reducible assumption
    | decide
    | with_reducible refine Keeps.ite ?_ (fun _ => ?_)
    | with_reducible refine State.modFn_keeps ?_ ?_
    | with_reducible refine changeLease_keeps ?_ ?_
    | with_reducible refine clearPages_keeps ?_ ?_
    | with_reducible refine endHandle_keeps ?_ ?_
    | exact nwf_nmod _ _
    | exact nwf_nput _ _
    | exact nwf_filter _
    | exact fun _ => nwf_nmapAll _
    | exact ascKeys_nput _ _ _
    | exact ascKeys_filter _
    | exact nwf_foldl_nput _ _ _
    | exact memWrite_wf _ _ _
    | exact fun hi => nwf_nput _ _ (nwf_filter _ hi)
    | with_reducible refine Keeps.foldl _ (fun _ _ _ => ?_) ?_
    | with_reducible refine Keeps.foldl_fst _ (fun _ _ _ => ?_) ?_
    | dsimp only
    | split
    | with_reducible refine Keeps.set_nodes ?_ ?_ ?_

theorem detachList_keeps {V : Nat} {f : Nat} {g : Nat} {s0 s : State} (hV : subMask 200 V = true)
    (h : Keeps V s0 s) : Keeps V s0 (detachList f g s) := by
  refine h.step hV ?_
  clear h hV
  have h : Keeps 200 s s := .refl _ _
  unfold detachList
  repeat' first
    | with_reducible assumption
    | decide
    | with_reducible refine Keeps.ite ?_ (fun _ => ?_)
    | with_reducible refine State.modList_keeps ?_ ?_
    | with_reducible refine State.modPlan_keeps ?_ ?_
    | with_reducible refine cancelFetch_keeps ?_ ?_

theorem deviates_keeps {V : Nat} {g : Nat} {n : Nat} {obs : Nat} {slot : Nat} {b : RxBlock} {s0 s : State} (hV : subMask 1020350014620986 V = true)
    (h : Keeps V s0 s) : Keeps V s0 (deviates g n obs slot b s) := by
  refine h.step hV ?_
  clear h hV
  have h : Keeps 1020350014620986 s s := .refl _ _
  unfold deviates
  repeat' first
    | with_reducible assumption
    | decide
    | with_reducible refine Keeps.ite ?_ (fun _ => ?_)
    | with_reducible refine hostile_keeps ?_ ?_
    | with_reducible refine miss_keeps ?_ ?_
    | with_reducible refine Keeps.foldl _ (fun _ _ _ => ?_) ?_
    | with_reducible refine Keeps.foldl_fst _ (fun _ _ _ => ?_) ?_
    | dsimp only
    | split

theorem readFailed_keeps {V : Nat} {k : Nat} {status : Nat} {detail : Nat} {s0 s : State} (hV : subMask 879611449835530 V = true)
    (h : Keeps V s0 s) : Keeps V s0 (readFailed k status detail s) := by
  refine h.step hV ?_
  clear h hV
  have h : Keeps 879611449835530 s s := .refl _ _
  unfold readFailed
  repeat' first
    | with_reducible assumption
    | decide
    | with_reducible refine Keeps.ite ?_ (fun _ => ?_)
    | with_reducible refine State.modChan_keeps ?_ ?_
    | with_reducible refine endJob_keeps ?_ ?_
    | with_reducible refine Keeps.foldl _ (fun _ _ _ => ?_) ?_
    | with_reducible refine Keeps.foldl_fst _ (fun _ _ _ => ?_) ?_
    | dsimp only
    | split

theorem hostReadTimeout_keeps {V : Nat} {k : Nat} {s0 s : State} (hV : subMask 879611449835530 V = true)
    (h : Keeps V s0 s) : Keeps V s0 (hostReadTimeout k s) := by
  refine h.step hV ?_
  clear h hV
  have h : Keeps 879611449835530 s s := .refl _ _
  unfold hostReadTimeout
  repeat' first
    | with_reducible assumption
    | decide
    | with_reducible refine Keeps.ite ?_ (fun _ => ?_)
    | with_reducible refine State.modChan_keeps ?_ ?_
    | with_reducible refine readFailed_keeps ?_ ?_

theorem leaseReadDone_keeps {V : Nat} {g : Nat} {n : Nat} {err : Nat} {d : List Byte} {s0 s : State} (hV : subMask 1020350011999546 V = true)
    (h : Keeps V s0 s) : Keeps V s0 (leaseReadDone g n err d s) := by
  refine h.step hV ?_
  clear h hV
  have h : Keeps 1020350011999546 s s := .refl _ _
  unfold leaseReadDone
  repeat' first
    | with_reducible assumption
    | decide
    | with_reducible refine Keeps.ite ?_ (fun _ => ?_)
    | with_reducible refine State.modNode_keeps ?_ ?_
    | with_reducible refine dmaRead_keeps ?_ ?_
    | with_reducible refine engineWork_keeps ?_ ?_
    | with_reducible refine leaseGiven_keeps ?_ ?_
    | with_reducible refine prospect_keeps ?_ ?_
    | with_reducible refine Keeps.foldl _ (fun _ _ _ => ?_) ?_
    | with_reducible refine Keeps.foldl_fst _ (fun _ _ _ => ?_) ?_
    | dsimp only
    | split

theorem listStop_keeps {V : Nat} {f : Nat} {g : Nat} {reason : Nat} {err : Nat} {seg : Nat} {idx : Nat} {s0 s : State} (hV : subMask 879611449704586 V = true)
    (h : Keeps V s0 s) : Keeps V s0 (listStop f g reason err seg idx s) := by
  refine h.step hV ?_
  clear h hV
  have h : Keeps 879611449704586 s s := .refl _ _
  unfold listStop
  repeat' first
    | with_reducible assumption
    | decide
    | with_reducible refine Keeps.ite ?_ (fun _ => ?_)
    | with_reducible refine State.modList_keeps ?_ ?_
    | with_reducible refine cancelFetch_keeps ?_ ?_
    | with_reducible refine emit_keeps ?_ ?_

theorem listReadTimeout_keeps {V : Nat} {f : Nat} {g : Nat} {seg : Nat} {idx : Nat} {s0 s : State} (hV : subMask 879611449704586 V = true)
    (h : Keeps V s0 s) : Keeps V s0 (listReadTimeout f g seg idx s) := by
  refine h.step hV ?_
  clear h hV
  have h : Keeps 879611449704586 s s := .refl _ _
  unfold listReadTimeout
  repeat' first
    | with_reducible assumption
    | decide
    | with_reducible refine Keeps.ite ?_ (fun _ => ?_)
    | with_reducible refine listStop_keeps ?_ ?_

theorem outputReadTimeout_keeps {V : Nat} {f : Nat} {s0 s : State} (hV : subMask 879611449704458 V = true)
    (h : Keeps V s0 s) : Keeps V s0 (outputReadTimeout f s) := by
  refine h.step hV ?_
  clear h hV
  have h : Keeps 879611449704458 s s := .refl _ _
  unfold outputReadTimeout
  repeat' first
    | with_reducible assumption
    | decide
    | with_reducible refine Keeps.ite ?_ (fun _ => ?_)
    | with_reducible refine State.modImage_keeps ?_ ?_
    | with_reducible refine emit_keeps ?_ ?_
    | with_reducible refine Keeps.foldl _ (fun _ _ _ => ?_) ?_
    | with_reducible refine Keeps.foldl_fst _ (fun _ _ _ => ?_) ?_
    | dsimp only
    | split

theorem sqEntryTimeout_keeps {V : Nat} {f : Nat} {q : Nat} {s0 s : State} (hV : subMask 879611449704458 V = true)
    (h : Keeps V s0 s) : Keeps V s0 (sqEntryTimeout f q s) := by
  refine h.step hV ?_
  clear h hV
  have h : Keeps 879611449704458 s s := .refl _ _
  unfold sqEntryTimeout
  repeat' first
    | with_reducible assumption
    | decide
    | with_reducible refine Keeps.ite ?_ (fun _ => ?_)
    | with_reducible refine State.modFn_keeps ?_ ?_
    | with_reducible refine ringStop_keeps ?_ ?_
    | with_reducible refine settleDrain_keeps ?_ ?_
    | with_reducible refine Keeps.foldl _ (fun _ _ _ => ?_) ?_
    | with_reducible refine Keeps.foldl_fst _ (fun _ _ _ => ?_) ?_
    | dsimp only
    | split

theorem imageDone_keeps {V : Nat} {f : Nat} {seq : Nat} {d : List Byte} {s0 s : State} (hV : subMask 879611449704458 V = true)
    (h : Keeps V s0 s) : Keeps V s0 (imageDone f seq d s) := by
  refine h.step hV ?_
  clear h hV
  have h : Keeps 879611449704458 s s := .refl _ _
  unfold imageDone
  repeat' first
    | with_reducible assumption
    | decide
    | with_reducible refine Keeps.ite ?_ (fun _ => ?_)
    | with_reducible refine State.modHandle_keeps ?_ ?_
    | with_reducible refine failHandle_keeps ?_ ?_
    | with_reducible refine listMore_keeps ?_ ?_

theorem restorePoint_keeps {V : Nat} {p : Nat × Nat × Bool × Nat × Nat × Nat} {s0 s : State} (hV : subMask 1073743104 V = true)
    (h : Keeps V s0 s) : Keeps V s0 (restorePoint s p) := by
  refine h.step hV ?_
  clear h hV
  have h : Keeps 1073743104 s s := .refl _ _
  unfold restorePoint
  repeat' first
    | with_reducible assumption
    | decide
    | with_reducible refine Keeps.ite ?_ (fun _ => ?_)
    | with_reducible refine State.modPoint_keeps ?_ ?_
    | with_reducible refine setStale_keeps ?_ ?_
    | with_reducible refine writePoint_keeps ?_ ?_

theorem restoreRule_keeps {V : Nat} {f : Nat} {y : (Nat × Nat × Rule) × Nat} {s0 : State} {a : State × List ListRec} (hV : subMask 4096 V = true)
    (h : Keeps V s0 a.1) : Keeps V s0 (restoreRule f a y).1 := by
  refine h.step hV ?_
  clear h hV
  have h : Keeps 4096 a.1 a.1 := .refl _ _
  unfold restoreRule
  repeat' first
    | with_reducible assumption
    | decide
    | with_reducible refine Keeps.ite ?_ (fun _ => ?_)
    | exact nwf_nmod _ _
    | exact nwf_nput _ _
    | exact nwf_filter _
    | exact fun _ => nwf_nmapAll _
    | exact ascKeys_nput _ _ _
    | exact ascKeys_filter _
    | exact nwf_foldl_nput _ _ _
    | exact memWrite_wf _ _ _
    | exact fun hi => nwf_nput _ _ (nwf_filter _ hi)
    | with_reducible refine Keeps.foldl _ (fun _ _ _ => ?_) ?_
    | with_reducible refine Keeps.foldl_fst _ (fun _ _ _ => ?_) ?_
    | dsimp only
    | split
    | with_reducible refine Keeps.set_rules ?_ ?_ ?_

theorem restoreView_keeps {V : Nat} {t0 : Nat} {w : Nat × Nat × JobSet × Bool} {s0 s : State} (hV : subMask 131080 V = true)
    (h : Keeps V s0 s) : Keeps V s0 (restoreView t0 s w) := by
  refine h.step hV ?_
  clear h hV
  have h : Keeps 131080 s s := .refl _ _
  unfold restoreView
  repeat' first
    | with_reducible assumption
    | decide
    | with_reducible refine Keeps.ite ?_ (fun _ => ?_)
    | with_reducible refine State.modChan_keeps ?_ ?_
    | with_reducible refine State.modFn_keeps ?_ ?_
    | with_reducible refine Keeps.foldl _ (fun _ _ _ => ?_) ?_
    | with_reducible refine Keeps.foldl_fst _ (fun _ _ _ => ?_) ?_
    | dsimp only
    | split

theorem restoreCommit_keeps {V : Nat} {seq : Nat} {t0 : Nat} {v : Saved} {s0 s : State} (hV : subMask 1020350014038010 V = true)
    (h : Keeps V s0 s) : Keeps V s0 (restoreCommit seq t0 v s) := by
  refine h.step hV ?_
  clear h hV
  have h : Keeps 1020350014038010 s s := .refl _ _
  unfold restoreCommit
  repeat' first
    | with_reducible assumption
    | decide
    | with_reducible refine Keeps.ite ?_ (fun _ => ?_)
    | with_reducible refine State.modFn_keeps ?_ ?_
    | with_reducible refine State.modPlan_keeps ?_ ?_
    | with_reducible refine State.setReg_keeps ?_ ?_
    | with_reducible refine allowSet_keeps ?_ ?_
    | with_reducible refine claimGranule_keeps ?_ ?_
    | with_reducible refine commitHandle_keeps ?_ ?_
    | with_reducible refine listMore_keeps ?_ ?_
    | with_reducible refine restorePoint_keeps ?_ ?_
    | with_reducible refine restoreRule_keeps ?_ ?_
    | with_reducible refine restoreView_keeps ?_ ?_
    | exact nwf_nmod _ _
    | exact nwf_nput _ _
    | exact nwf_filter _
    | exact fun _ => nwf_nmapAll _
    | exact ascKeys_nput _ _ _
    | exact ascKeys_filter _
    | exact nwf_foldl_nput _ _ _
    | exact memWrite_wf _ _ _
    | exact fun hi => nwf_nput _ _ (nwf_filter _ hi)
    | with_reducible refine Keeps.foldl _ (fun _ _ _ => ?_) ?_
    | with_reducible refine Keeps.foldl_fst _ (fun _ _ _ => ?_) ?_
    | dsimp only
    | split
    | with_reducible refine Keeps.set_lists_grants ?_ ?_ ?_ ?_

theorem restoreDone_keeps {V : Nat} {seq : Nat} {t0 : Nat} {d : List Byte} {s0 s : State} (hV : subMask 1020350014038010 V = true)
    (h : Keeps V s0 s) : Keeps V s0 (restoreDone seq t0 d s) := by
  refine h.step hV ?_
  clear h hV
  have h : Keeps 1020350014038010 s s := .refl _ _
  unfold restoreDone
  repeat' first
    | with_reducible assumption
    | decide
    | with_reducible refine Keeps.ite ?_ (fun _ => ?_)
    | with_reducible refine State.modFn_keeps ?_ ?_
    | with_reducible refine failHandle_keeps ?_ ?_
    | with_reducible refine listMore_keeps ?_ ?_
    | with_reducible refine restoreCommit_keeps ?_ ?_
    | with_reducible refine Keeps.foldl _ (fun _ _ _ => ?_) ?_
    | with_reducible refine Keeps.foldl_fst _ (fun _ _ _ => ?_) ?_
    | dsimp only
    | split

theorem ruleDone_keeps {V : Nat} {f : Nat} {seq : Nat} {t0 : Nat} {first : Nat} {count : Nat} {d : List Byte} {s0 s : State} (hV : subMask 879611449704458 V = true)
    (h : Keeps V s0 s) : Keeps V s0 (ruleDone f seq t0 first count d s) := by
  refine h.step hV ?_
  clear h hV
  have h : Keeps 879611449704458 s s := .refl _ _
  unfold ruleDone
  repeat' first
    | with_reducible assumption
    | decide
    | with_reducible refine Keeps.ite ?_ (fun _ => ?_)
    | with_reducible refine State.modHandle_keeps ?_ ?_
    | with_reducible refine listMore_keeps ?_ ?_

theorem shareDone_keeps {V : Nat} {seq : Nat} {t0 : Nat} {d : List Byte} {s0 s : State} (hV : subMask 879611449704458 V = true)
    (h : Keeps V s0 s) : Keeps V s0 (shareDone seq t0 d s) := by
  refine h.step hV ?_
  clear h hV
  have h : Keeps 879611449704458 s s := .refl _ _
  unfold shareDone
  repeat' first
    | with_reducible assumption
    | decide
    | with_reducible refine Keeps.ite ?_ (fun _ => ?_)
    | with_reducible refine State.modFn_keeps ?_ ?_
    | with_reducible refine State.modHandle_keeps ?_ ?_
    | with_reducible refine failHandle_keeps ?_ ?_
    | with_reducible refine listMore_keeps ?_ ?_

theorem longReadDone_keeps {V : Nat} {f : Nat} {h0 : Handle} {d : List Byte} {s0 s : State} (hV : subMask 1020350014038010 V = true)
    (h : Keeps V s0 s) : Keeps V s0 (longReadDone f h0 d s) := by
  refine h.step hV ?_
  clear h hV
  have h : Keeps 1020350014038010 s s := .refl _ _
  unfold longReadDone
  repeat' first
    | with_reducible assumption
    | decide
    | with_reducible refine Keeps.ite ?_ (fun _ => ?_)
    | with_reducible refine createDone_keeps ?_ ?_
    | with_reducible refine imageDone_keeps ?_ ?_
    | with_reducible refine restoreDone_keeps ?_ ?_
    | with_reducible refine ruleDone_keeps ?_ ?_
    | with_reducible refine shareDone_keeps ?_ ?_
    | with_reducible refine Keeps.foldl _ (fun _ _ _ => ?_) ?_
    | with_reducible refine Keeps.foldl_fst _ (fun _ _ _ => ?_) ?_
    | dsimp only
    | split

theorem longReadFails_keeps {V : Nat} {f : Nat} {h0 : Handle} {status : Nat} {detail : Nat} {s0 s : State} (hV : subMask 879611550367946 V = true)
    (h : Keeps V s0 s) : Keeps V s0 (longReadFails f h0 status detail s) := by
  refine h.step hV ?_
  clear h hV
  have h : Keeps 879611550367946 s s := .refl _ _
  unfold longReadFails
  repeat' first
    | with_reducible assumption
    | decide
    | with_reducible refine Keeps.ite ?_ (fun _ => ?_)
    | with_reducible refine failHandle_keeps ?_ ?_
    | with_reducible refine undoOp_keeps ?_ ?_

theorem policyDone_keeps {V : Nat} {f : Nat} {x : Entry} {d : List Byte} {s0 s : State} (hV : subMask 879611450753066 V = true)
    (h : Keeps V s0 s) : Keeps V s0 (policyDone f x d s) := by
  refine h.step hV ?_
  clear h hV
  have h : Keeps 879611450753066 s s := .refl _ _
  unfold policyDone
  repeat' first
    | with_reducible assumption
    | decide
    | with_reducible refine Keeps.ite ?_ (fun _ => ?_)
    | with_reducible refine State.modNode_keeps ?_ ?_
    | with_reducible refine finish_keeps ?_ ?_
    | with_reducible refine leaseRead_keeps ?_ ?_
    | with_reducible refine Keeps.foldl _ (fun _ _ _ => ?_) ?_
    | with_reducible refine Keeps.foldl_fst _ (fun _ _ _ => ?_) ?_
    | dsimp only
    | split
    | with_reducible refine Keeps.set_policy ?_ ?_

theorem shortReadDone_keeps {V : Nat} {f : Nat} {e0 : Entry} {d : List Byte} {s0 s : State} (hV : subMask 1020350115611962 V = true)
    (h : Keeps V s0 s) : Keeps V s0 (shortReadDone f e0 d s) := by
  refine h.step hV ?_
  clear h hV
  have h : Keeps 1020350115611962 s s := .refl _ _
  unfold shortReadDone
  repeat' first
    | with_reducible assumption
    | decide
    | with_reducible refine Keeps.ite ?_ (fun _ => ?_)
    | with_reducible refine allowlistDone_keeps ?_ ?_
    | with_reducible refine chunkArrives_keeps ?_ ?_
    | with_reducible refine configDone_keeps ?_ ?_
    | with_reducible refine policyDone_keeps ?_ ?_

theorem wakeTask_keeps {V : Nat} {w : Work} {s0 s : State} (hV : subMask 2147483648 V = true)
    (h : Keeps V s0 s) : Keeps V s0 (wakeTask w s) := by
  refine h.step hV ?_
  clear h hV
  have h : Keeps 2147483648 s s := .refl _ _
  unfold wakeTask
  repeat' first
    | with_reducible assumption
    | decide
    | with_reducible refine Keeps.ite ?_ (fun _ => ?_)
    | with_reducible refine readyTask_keeps ?_ ?_
    | with_reducible refine Keeps.foldl _ (fun _ _ _ => ?_) ?_
    | with_reducible refine Keeps.foldl_fst _ (fun _ _ _ => ?_) ?_
    | dsimp only
    | split

theorem structRead_keeps {V : Nat} {f : Nat} {long : Bool} {id : Nat} {status : Nat} {detail : Nat} {d : List Byte} {s0 s : State} (hV : subMask 1020350115749882 V = true)
    (h : Keeps V s0 s) : Keeps V s0 (structRead f long id status detail d s) := by
  refine h.step hV ?_
  clear h hV
  have h : Keeps 1020350115749882 s s := .refl _ _
  unfold structRead
  repeat' first
    | with_reducible assumption
    | decide
    | with_reducible refine Keeps.ite ?_ (fun _ => ?_)
    | with_reducible refine finish_keeps ?_ ?_
    | with_reducible refine longReadDone_keeps ?_ ?_
    | with_reducible refine longReadFails_keeps ?_ ?_
    | with_reducible refine shortReadDone_keeps ?_ ?_
    | with_reducible refine wakeTask_keeps ?_ ?_
    | with_reducible refine Keeps.foldl _ (fun _ _ _ => ?_) ?_
    | with_reducible refine Keeps.foldl_fst _ (fun _ _ _ => ?_) ?_
    | dsimp only
    | split

theorem dmaReadTimeout_keeps {V : Nat} {what : Nat} {a : Nat} {b : Nat} {seg : Nat} {idx : Nat} {s0 s : State} (hV : subMask 1020350116077562 V = true)
    (h : Keeps V s0 s) : Keeps V s0 (dmaReadTimeout what a b seg idx s) := by
  refine h.step hV ?_
  clear h hV
  have h : Keeps 1020350116077562 s s := .refl _ _
  unfold dmaReadTimeout
  repeat' first
    | with_reducible assumption
    | decide
    | with_reducible refine Keeps.ite ?_ (fun _ => ?_)
    | with_reducible refine allowlistReadDone_keeps ?_ ?_
    | with_reducible refine hostReadTimeout_keeps ?_ ?_
    | with_reducible refine leaseReadDone_keeps ?_ ?_
    | with_reducible refine listReadTimeout_keeps ?_ ?_
    | with_reducible refine outputReadTimeout_keeps ?_ ?_
    | with_reducible refine sqEntryTimeout_keeps ?_ ?_
    | with_reducible refine structRead_keeps ?_ ?_
    | with_reducible refine Keeps.foldl _ (fun _ _ _ => ?_) ?_
    | with_reducible refine Keeps.foldl_fst _ (fun _ _ _ => ?_) ?_
    | dsimp only
    | split

theorem dozeEntry_keeps {V : Nat} {t0 : Nat} {s0 s : State} (hV : subMask 2147483650 V = true)
    (h : Keeps V s0 s) : Keeps V s0 (dozeEntry t0 s) := by
  refine h.step hV ?_
  clear h hV
  have h : Keeps 2147483650 s s := .refl _ _
  unfold dozeEntry
  repeat' first
    | with_reducible assumption
    | decide
    | with_reducible refine Keeps.ite ?_ (fun _ => ?_)
    | with_reducible refine State.modTile_keeps ?_ ?_
    | with_reducible refine countReg_keeps ?_ ?_

theorem dozeTick_keeps {V : Nat} {t0 : Nat} {s0 s : State} (hV : subMask 2147483650 V = true)
    (h : Keeps V s0 s) : Keeps V s0 (dozeTick s t0) := by
  refine h.step hV ?_
  clear h hV
  have h : Keeps 2147483650 s s := .refl _ _
  unfold dozeTick
  repeat' first
    | with_reducible assumption
    | decide
    | with_reducible refine Keeps.ite ?_ (fun _ => ?_)
    | with_reducible refine State.modPwr_keeps ?_ ?_
    | with_reducible refine countReg_keeps ?_ ?_

theorem drainTimeout_keeps {V : Nat} {t0 : Nat} {s0 s : State} (hV : subMask 879611449704522 V = true)
    (h : Keeps V s0 s) : Keeps V s0 (drainTimeout t0 s) := by
  refine h.step hV ?_
  clear h hV
  have h : Keeps 879611449704522 s s := .refl _ _
  unfold drainTimeout
  repeat' first
    | with_reducible assumption
    | decide
    | with_reducible refine Keeps.ite ?_ (fun _ => ?_)
    | with_reducible refine State.modPwr_keeps ?_ ?_
    | with_reducible refine State.modTile_keeps ?_ ?_
    | with_reducible refine dropIdle_keeps ?_ ?_
    | with_reducible refine endCommand_keeps ?_ ?_
    | with_reducible refine endTask_keeps ?_ ?_
    | with_reducible refine Keeps.foldl _ (fun _ _ _ => ?_) ?_
    | with_reducible refine Keeps.foldl_fst _ (fun _ _ _ => ?_) ?_
    | dsimp only
    | split

theorem dropGrants_keeps {V : Nat} {f : Nat} {s0 s : State} (hV : subMask 2056 V = true)
    (h : Keeps V s0 s) : Keeps V s0 (dropGrants f s) := by
  refine h.step hV ?_
  clear h hV
  have h : Keeps 2056 s s := .refl _ _
  unfold dropGrants
  repeat' first
    | with_reducible assumption
    | decide
    | with_reducible refine Keeps.ite ?_ (fun _ => ?_)
    | with_reducible refine zeroRights_keeps ?_ ?_
    | with_reducible refine Keeps.foldl _ (fun _ _ _ => ?_) ?_
    | with_reducible refine Keeps.foldl_fst _ (fun _ _ _ => ?_) ?_
    | dsimp only
    | split
    | with_reducible refine Keeps.set_grants ?_ ?_

theorem dropRetry_keeps {V : Nat} {g : Nat} {r : Retry} {s0 s : State} (hV : subMask 16 V = true)
    (h : Keeps V s0 s) : Keeps V s0 (dropRetry g r s) := by
  refine h.step hV ?_
  clear h hV
  have h : Keeps 16 s s := .refl _ _
  unfold dropRetry
  repeat' first
    | with_reducible assumption
    | decide
    | with_reducible refine Keeps.ite ?_ (fun _ => ?_)
    | with_reducible refine State.modPort_keeps ?_ ?_

theorem dropRules_keeps {V : Nat} {f : Nat} {s0 s : State} (hV : subMask 2147512320 V = true)
    (h : Keeps V s0 s) : Keeps V s0 (dropRules f s) := by
  refine h.step hV ?_
  clear h hV
  have h : Keeps 2147512320 s s := .refl _ _
  unfold dropRules
  repeat' first
    | with_reducible assumption
    | decide
    | with_reducible refine Keeps.ite ?_ (fun _ => ?_)
    | with_reducible refine State.modTile_keeps ?_ ?_
    | with_reducible refine trimCopies_keeps ?_ ?_
    | exact nwf_nmod _ _
    | exact nwf_nput _ _
    | exact nwf_filter _
    | exact fun _ => nwf_nmapAll _
    | exact ascKeys_nput _ _ _
    | exact ascKeys_filter _
    | exact nwf_foldl_nput _ _ _
    | exact memWrite_wf _ _ _
    | exact fun hi => nwf_nput _ _ (nwf_filter _ hi)
    | with_reducible refine Keeps.foldl _ (fun _ _ _ => ?_) ?_
    | with_reducible refine Keeps.foldl_fst _ (fun _ _ _ => ?_) ?_
    | dsimp only
    | split
    | with_reducible refine Keeps.set_rules ?_ ?_ ?_

theorem dryBoundary_keeps {V : Nat} {t0 : Nat} {s0 s : State} (hV : subMask 1020350011999546 V = true)
    (h : Keeps V s0 s) : Keeps V s0 (dryBoundary s t0) := by
  refine h.step hV ?_
  clear h hV
  have h : Keeps 1020350011999546 s s := .refl _ _
  unfold dryBoundary
  repeat' first
    | with_reducible assumption
    | decide
    | with_reducible refine Keeps.ite ?_ (fun _ => ?_)
    | with_reducible refine State.modPwr_keeps ?_ ?_
    | with_reducible refine lockPoint_keeps ?_ ?_
    | with_reducible refine stopPorts_keeps ?_ ?_
    | with_reducible refine Keeps.foldl _ (fun _ _ _ => ?_) ?_

theorem tileFail_keeps {V : Nat} {t0 : Nat} {s0 s : State} (hV : subMask 1020398095500666 V = true)
    (h : Keeps V s0 s) : Keeps V s0 (tileFail t0 s) := by
  refine h.step hV ?_
  clear h hV
  have h : Keeps 1020398095500666 s s := .refl _ _
  unfold tileFail
  repeat' first
    | with_reducible assumption
    | decide
    | with_reducible refine Keeps.ite ?_ (fun _ => ?_)
    | with_reducible refine emitMgr_keeps ?_ ?_
    | with_reducible refine enterOff_keeps ?_ ?_
    | with_reducible refine packageFault_keeps ?_ ?_

theorem failLost_keeps {V : Nat} {k : Nat}  {s0 s : State} (hV : subMask 1020398095500666 V = true)
    (h : Keeps V s0 s) : Keeps V s0 (failLost k s) := by
  induction k generalizing s with
  | zero =>
    unfold failLost
    exact h
  | succ k ih =>
    unfold failLost
    repeat' first
      | with_reducible assumption
      | exact subMask_trans (by decide) hV
      | with_reducible refine Keeps.ite ?_ (fun _ => ?_)
      | with_reducible refine tileFail_keeps ?_ ?_
      | with_reducible refine Keeps.foldl _ (fun _ _ _ => ?_) ?_
      | with_reducible refine Keeps.foldl_fst _ (fun _ _ _ => ?_) ?_
      | dsimp only
      | split
      | (with_reducible refine ih ?_)

theorem isolate_keeps {V : Nat} {t0 : Nat} {s0 s : State} (hV : subMask 844439962517504 V = true)
    (h : Keeps V s0 s) : Keeps V s0 (isolate t0 s) := by
  refine h.step hV ?_
  clear h hV
  have h : Keeps 844439962517504 s s := .refl _ _
  unfold isolate
  repeat' first
    | with_reducible assumption
    | decide
    | with_reducible refine Keeps.ite ?_ (fun _ => ?_)
    | with_reducible refine State.modPwr_keeps ?_ ?_
    | with_reducible refine State.modTile_keeps ?_ ?_
    | with_reducible refine dropMesh_keeps ?_ ?_
    | with_reducible refine sendBus_keeps ?_ ?_

theorem tileState_keeps {V : Nat} {t0 : Nat} {st : Nat} {cause : Nat} {port : Nat} {dur : Nat} {s0 s : State} (hV : subMask 879611449704458 V = true)
    (h : Keeps V s0 s) : Keeps V s0 (tileState t0 st cause port dur s) := by
  refine h.step hV ?_
  clear h hV
  have h : Keeps 879611449704458 s s := .refl _ _
  unfold tileState
  repeat' first
    | with_reducible assumption
    | decide
    | with_reducible refine Keeps.ite ?_ (fun _ => ?_)
    | with_reducible refine emitMgr_keeps ?_ ?_

theorem drydownDrained_keeps {V : Nat} {t0 : Nat} {s0 s : State} (hV : subMask 1020398095500666 V = true)
    (h : Keeps V s0 s) : Keeps V s0 (drydownDrained t0 s) := by
  refine h.step hV ?_
  clear h hV
  have h : Keeps 1020398095500666 s s := .refl _ _
  unfold drydownDrained
  repeat' first
    | with_reducible assumption
    | decide
    | with_reducible refine Keeps.ite ?_ (fun _ => ?_)
    | with_reducible refine commitHandle_keeps ?_ ?_
    | with_reducible refine failLost_keeps ?_ ?_
    | with_reducible refine isolate_keeps ?_ ?_
    | with_reducible refine tileState_keeps ?_ ?_
    | with_reducible refine Keeps.foldl _ (fun _ _ _ => ?_) ?_
    | with_reducible refine Keeps.foldl_fst _ (fun _ _ _ => ?_) ?_
    | dsimp only
    | split

theorem lostRecord_keeps {V : Nat} {p : Nat} {seq : Nat} {s0 s : State} (hV : subMask 1073743104 V = true)
    (h : Keeps V s0 s) : Keeps V s0 (lostRecord p seq s) := by
  refine h.step hV ?_
  clear h hV
  have h : Keeps 1073743104 s s := .refl _ _
  unfold lostRecord
  repeat' first
    | with_reducible assumption
    | decide
    | with_reducible refine Keeps.ite ?_ (fun _ => ?_)
    | with_reducible refine State.modPoint_keeps ?_ ?_
    | with_reducible refine State.setRecord_keeps ?_ ?_
    | with_reducible refine noteChange_keeps ?_ ?_

theorem eccUncorrectable_keeps {V : Nat} {p : Nat} {s0 s : State} (hV : subMask 879612523447562 V = true)
    (h : Keeps V s0 s) : Keeps V s0 (eccUncorrectable p s) := by
  refine h.step hV ?_
  clear h hV
  have h : Keeps 879612523447562 s s := .refl _ _
  unfold eccUncorrectable
  repeat' first
    | with_reducible assumption
    | decide
    | with_reducible refine Keeps.ite ?_ (fun _ => ?_)
    | with_reducible refine State.setReg_keeps ?_ ?_
    | with_reducible refine countReg_keeps ?_ ?_
    | with_reducible refine emitMgr_keeps ?_ ?_
    | with_reducible refine lostRecord_keeps ?_ ?_
    | with_reducible refine setErr_keeps ?_ ?_

theorem writeDelay_keeps {V : Nat} {g : Nat} {n : Nat} {d : Nat} {s0 s : State} (hV : subMask 985164565970960 V = true)
    (h : Keeps V s0 s) : Keeps V s0 (writeDelay g n d s) := by
  refine h.step hV ?_
  clear h hV
  have h : Keeps 985164565970960 s s := .refl _ _
  unfold writeDelay
  repeat' first
    | with_reducible assumption
    | decide
    | with_reducible refine Keeps.ite ?_ (fun _ => ?_)
    | with_reducible refine mgmtWrite_keeps ?_ ?_

theorem echoGood_keeps {V : Nat} {g : Nat} {n : Nat} {rt : Nat} {s0 s : State} (hV : subMask 1020348938059834 V = true)
    (h : Keeps V s0 s) : Keeps V s0 (echoGood g n rt s) := by
  refine h.step hV ?_
  clear h hV
  have h : Keeps 1020348938059834 s s := .refl _ _
  unfold echoGood
  repeat' first
    | with_reducible assumption
    | decide
    | with_reducible refine Keeps.ite ?_ (fun _ => ?_)
    | with_reducible refine State.modNode_keeps ?_ ?_
    | with_reducible refine State.modPort_keeps ?_ ?_
    | with_reducible refine emitMgr_keeps ?_ ?_
    | with_reducible refine heard_keeps ?_ ?_
    | with_reducible refine setErr_keeps ?_ ?_
    | with_reducible refine writeDelay_keeps ?_ ?_
    | with_reducible refine Keeps.foldl _ (fun _ _ _ => ?_) ?_
    | with_reducible refine Keeps.foldl_fst _ (fun _ _ _ => ?_) ?_
    | dsimp only
    | split

theorem echoMissed_keeps {V : Nat} {g : Nat} {n : Nat} {s0 s : State} (hV : subMask 879612523644218 V = true)
    (h : Keeps V s0 s) : Keeps V s0 (echoMissed g n s) := by
  refine h.step hV ?_
  clear h hV
  have h : Keeps 879612523644218 s s := .refl _ _
  unfold echoMissed
  repeat' first
    | with_reducible assumption
    | decide
    | with_reducible refine Keeps.ite ?_ (fun _ => ?_)
    | with_reducible refine State.modNode_keeps ?_ ?_
    | with_reducible refine State.modPort_keeps ?_ ?_
    | with_reducible refine departNodes_keeps ?_ ?_
    | with_reducible refine miss_keeps ?_ ?_

theorem echoReceived_keeps {V : Nat} {g : Nat} {span : Nat} {mis : Bool} {b : RxBlock} {s0 s : State} (hV : subMask 1020350011999546 V = true)
    (h : Keeps V s0 s) : Keeps V s0 (echoReceived g span mis b s) := by
  refine h.step hV ?_
  clear h hV
  have h : Keeps 1020350011999546 s s := .refl _ _
  unfold echoReceived
  repeat' first
    | with_reducible assumption
    | decide
    | with_reducible refine Keeps.ite ?_ (fun _ => ?_)
    | with_reducible refine countBlk_keeps ?_ ?_
    | with_reducible refine countMis_keeps ?_ ?_
    | with_reducible refine echoGood_keeps ?_ ?_
    | with_reducible refine echoMissed_keeps ?_ ?_
    | with_reducible refine Keeps.foldl _ (fun _ _ _ => ?_) ?_
    | with_reducible refine Keeps.foldl_fst _ (fun _ _ _ => ?_) ?_
    | dsimp only
    | split

theorem endRejects_keeps {V : Nat} {s0 s : State} (hV : subMask 879611483258890 V = true)
    (h : Keeps V s0 s) : Keeps V s0 (endRejects s) := by
  refine h.step hV ?_
  clear h hV
  have h : Keeps 879611483258890 s s := .refl _ _
  unfold endRejects
  repeat' first
    | with_reducible assumption
    | decide
    | with_reducible refine Keeps.ite ?_ (fun _ => ?_)
    | with_reducible refine State.modFw_keeps ?_ ?_
    | with_reducible refine endCommand_keeps ?_ ?_
    | with_reducible refine Keeps.foldl _ (fun _ _ _ => ?_) ?_
    | with_reducible refine Keeps.foldl_fst _ (fun _ _ _ => ?_) ?_
    | dsimp only
    | split

theorem endTasks_keeps {V : Nat} {f : Nat} {s0 s : State} (hV : subMask 2147483648 V = true)
    (h : Keeps V s0 s) : Keeps V s0 (endTasks f s) := by
  refine h.step hV ?_
  clear h hV
  have h : Keeps 2147483648 s s := .refl _ _
  unfold endTasks
  repeat' first
    | with_reducible assumption
    | decide
    | with_reducible refine Keeps.ite ?_ (fun _ => ?_)
    | with_reducible refine State.modTile_keeps ?_ ?_
    | with_reducible refine freeTask_keeps ?_ ?_
    | with_reducible refine Keeps.foldl _ (fun _ _ _ => ?_) ?_

theorem tileOut_keeps {V : Nat} {t0 : Nat} {s0 s : State} (hV : subMask 1020398095500666 V = true)
    (h : Keeps V s0 s) : Keeps V s0 (tileOut t0 s) := by
  refine h.step hV ?_
  clear h hV
  have h : Keeps 1020398095500666 s s := .refl _ _
  unfold tileOut
  repeat' first
    | with_reducible assumption
    | decide
    | with_reducible refine Keeps.ite ?_ (fun _ => ?_)
    | with_reducible refine failLost_keeps ?_ ?_
    | with_reducible refine tileFail_keeps ?_ ?_

theorem engineFault_keeps {V : Nat} {t0 : Nat} {e0 : Nat} {us : Nat} {s0 s : State} (hV : subMask 1020398162609658 V = true)
    (h : Keeps V s0 s) : Keeps V s0 (engineFault t0 e0 us s) := by
  refine h.step hV ?_
  clear h hV
  have h : Keeps 1020398162609658 s s := .refl _ _
  unfold engineFault
  repeat' first
    | with_reducible assumption
    | decide
    | with_reducible refine Keeps.ite ?_ (fun _ => ?_)
    | with_reducible refine State.modFw_keeps ?_ ?_
    | with_reducible refine State.modTile_keeps ?_ ?_
    | with_reducible refine countReg_keeps ?_ ?_
    | with_reducible refine emitMgr_keeps ?_ ?_
    | with_reducible refine setErr_keeps ?_ ?_
    | with_reducible refine stopTask_keeps ?_ ?_
    | with_reducible refine tileOut_keeps ?_ ?_
    | with_reducible refine Keeps.foldl _ (fun _ _ _ => ?_) ?_
    | with_reducible refine Keeps.foldl_fst _ (fun _ _ _ => ?_) ?_
    | dsimp only
    | split

theorem enumUpCheck_keeps {V : Nat} {g : Nat} {s0 s : State} (hV : subMask 985164565970960 V = true)
    (h : Keeps V s0 s) : Keeps V s0 (enumUpCheck g s) := by
  refine h.step hV ?_
  clear h hV
  have h : Keeps 985164565970960 s s := .refl _ _
  unfold enumUpCheck
  repeat' first
    | with_reducible assumption
    | decide
    | with_reducible refine Keeps.ite ?_ (fun _ => ?_)
    | with_reducible refine mgmtRead_keeps ?_ ?_
    | with_reducible refine Keeps.foldl _ (fun _ _ _ => ?_) ?_
    | with_reducible refine Keeps.foldl_fst _ (fun _ _ _ => ?_) ?_
    | dsimp only
    | split

theorem eqEnds_keeps {V : Nat} {g : Nat} {preset : Nat} {s0 s : State} (hV : subMask 844424930131984 V = true)
    (h : Keeps V s0 s) : Keeps V s0 (eqEnds g preset s) := by
  refine h.step hV ?_
  clear h hV
  have h : Keeps 844424930131984 s s := .refl _ _
  unfold eqEnds
  repeat' first
    | with_reducible assumption
    | decide
    | with_reducible refine Keeps.ite ?_ (fun _ => ?_)
    | with_reducible refine State.modPort_keeps ?_ ?_
    | with_reducible refine modRx_keeps ?_ ?_
    | with_reducible refine sendTrain_keeps ?_ ?_
    | with_reducible refine Keeps.foldl _ (fun _ _ _ => ?_) ?_
    | with_reducible refine Keeps.foldl_fst _ (fun _ _ _ => ?_) ?_
    | dsimp only
    | split

theorem eqBlock_keeps {V : Nat} {g : Nat} {h0 : Nat} {v : Nat} {good : Bool} {s0 s : State} (hV : subMask 844424930131984 V = true)
    (h : Keeps V s0 s) : Keeps V s0 (eqBlock g h0 v good s) := by
  refine h.step hV ?_
  clear h hV
  have h : Keeps 844424930131984 s s := .refl _ _
  unfold eqBlock
  repeat' first
    | with_reducible assumption
    | decide
    | with_reducible refine Keeps.ite ?_ (fun _ => ?_)
    | with_reducible refine State.modPort_keeps ?_ ?_
    | with_reducible refine eqEnds_keeps ?_ ?_
    | with_reducible refine modRx_keeps ?_ ?_
    | with_reducible refine sendTrain_keeps ?_ ?_
    | with_reducible refine Keeps.foldl _ (fun _ _ _ => ?_) ?_
    | with_reducible refine Keeps.foldl_fst _ (fun _ _ _ => ?_) ?_
    | dsimp only
    | split

theorem marginAlarm_keeps {V : Nat} {g : Nat} {key : Nat} {h0 : Nat} {s0 s : State} (hV : subMask 879611449704474 V = true)
    (h : Keeps V s0 s) : Keeps V s0 (marginAlarm g key h0 s) := by
  refine h.step hV ?_
  clear h hV
  have h : Keeps 879611449704474 s s := .refl _ _
  unfold marginAlarm
  repeat' first
    | with_reducible assumption
    | decide
    | with_reducible refine Keeps.ite ?_ (fun _ => ?_)
    | with_reducible refine emitMgr_keeps ?_ ?_
    | with_reducible refine modRx_keeps ?_ ?_
    | with_reducible refine setErr_keeps ?_ ?_

theorem sendPreset_keeps {V : Nat} {g : Nat} {key : Nat} {p : Nat} {s0 s : State} (hV : subMask 985164565970960 V = true)
    (h : Keeps V s0 s) : Keeps V s0 (sendPreset g key p s) := by
  refine h.step hV ?_
  clear h hV
  have h : Keeps 985164565970960 s s := .refl _ _
  unfold sendPreset
  repeat' first
    | with_reducible assumption
    | decide
    | with_reducible refine Keeps.ite ?_ (fun _ => ?_)
    | with_reducible refine mgmtWrite_keeps ?_ ?_
    | with_reducible refine modRx_keeps ?_ ?_
    | with_reducible refine Keeps.foldl _ (fun _ _ _ => ?_) ?_
    | with_reducible refine Keeps.foldl_fst _ (fun _ _ _ => ?_) ?_
    | dsimp only
    | split

theorem stepPreset_keeps {V : Nat} {g : Nat} {key : Nat} {p : Nat} {from_ : Option Nat} {s0 s : State} (hV : subMask 985164565970960 V = true)
    (h : Keeps V s0 s) : Keeps V s0 (stepPreset g key p from_ s) := by
  refine h.step hV ?_
  clear h hV
  have h : Keeps 985164565970960 s s := .refl _ _
  unfold stepPreset
  repeat' first
    | with_reducible assumption
    | decide
    | with_reducible refine Keeps.ite ?_ (fun _ => ?_)
    | with_reducible refine modRx_keeps ?_ ?_
    | with_reducible refine sendPreset_keeps ?_ ?_
    | with_reducible refine Keeps.foldl _ (fun _ _ _ => ?_) ?_
    | with_reducible refine Keeps.foldl_fst _ (fun _ _ _ => ?_) ?_
    | dsimp only
    | split

theorem marginSeen_keeps {V : Nat} {g : Nat} {key : Nat} {h0 : Nat} {v : Nat} {s0 s : State} (hV : subMask 1020348938059802 V = true)
    (h : Keeps V s0 s) : Keeps V s0 (marginSeen g key h0 v s) := by
  refine h.step hV ?_
  clear h hV
  have h : Keeps 1020348938059802 s s := .refl _ _
  unfold marginSeen
  repeat' first
    | with_reducible assumption
    | decide
    | with_reducible refine Keeps.ite ?_ (fun _ => ?_)
    | with_reducible refine State.modPort_keeps ?_ ?_
    | with_reducible refine marginAlarm_keeps ?_ ?_
    | with_reducible refine modRx_keeps ?_ ?_
    | with_reducible refine stepPreset_keeps ?_ ?_
    | with_reducible refine Keeps.foldl _ (fun _ _ _ => ?_) ?_
    | with_reducible refine Keeps.foldl_fst _ (fun _ _ _ => ?_) ?_
    | dsimp only
    | split

theorem readMargins_keeps {V : Nat} {g : Nat} {n : Nat} {s0 s : State} (hV : subMask 985164565970960 V = true)
    (h : Keeps V s0 s) : Keeps V s0 (readMargins g s n) := by
  refine h.step hV ?_
  clear h hV
  have h : Keeps 985164565970960 s s := .refl _ _
  unfold readMargins
  repeat' first
    | with_reducible assumption
    | decide
    | with_reducible refine Keeps.ite ?_ (fun _ => ?_)
    | with_reducible refine mgmtRead_keeps ?_ ?_
    | with_reducible refine Keeps.foldl _ (fun _ _ _ => ?_) ?_
    | with_reducible refine Keeps.foldl_fst _ (fun _ _ _ => ?_) ?_
    | dsimp only
    | split

theorem eqPeriod_keeps {V : Nat} {g : Nat} {h0 : Nat} {v : Nat} {s0 s : State} (hV : subMask 1020348938059802 V = true)
    (h : Keeps V s0 s) : Keeps V s0 (eqPeriod g h0 v s) := by
  refine h.step hV ?_
  clear h hV
  have h : Keeps 1020348938059802 s s := .refl _ _
  unfold eqPeriod
  repeat' first
    | with_reducible assumption
    | decide
    | with_reducible refine Keeps.ite ?_ (fun _ => ?_)
    | with_reducible refine State.modPort_keeps ?_ ?_
    | with_reducible refine marginSeen_keeps ?_ ?_
    | with_reducible refine readMargins_keeps ?_ ?_
    | with_reducible refine Keeps.foldl _ (fun _ _ _ => ?_) ?_
    | with_reducible refine Keeps.foldl_fst _ (fun _ _ _ => ?_) ?_
    | dsimp only
    | split

theorem escalate_keeps {V : Nat} {g : Nat} {h0 : Nat} {s0 s : State} (hV : subMask 1020350014620986 V = true)
    (h : Keeps V s0 s) : Keeps V s0 (escalate g h0 s) := by
  refine h.step hV ?_
  clear h hV
  have h : Keeps 1020350014620986 s s := .refl _ _
  unfold escalate
  repeat' first
    | with_reducible assumption
    | decide
    | with_reducible refine Keeps.ite ?_ (fun _ => ?_)
    | with_reducible refine State.modNode_keeps ?_ ?_
    | with_reducible refine emit_keeps ?_ ?_
    | with_reducible refine quarantine_keeps ?_ ?_
    | with_reducible refine setErr_keeps ?_ ?_

theorem rightsEvent_keeps {V : Nat} {k : Nat} {r : Rule} {s0 s : State} (hV : subMask 879611449704458 V = true)
    (h : Keeps V s0 s) : Keeps V s0 (rightsEvent k r s) := by
  refine h.step hV ?_
  clear h hV
  have h : Keeps 879611449704458 s s := .refl _ _
  unfold rightsEvent
  repeat' first
    | with_reducible assumption
    | decide
    | with_reducible refine Keeps.ite ?_ (fun _ => ?_)
    | with_reducible refine emit_keeps ?_ ?_
    | with_reducible refine setErr_keeps ?_ ?_

theorem evalRule_keeps {V : Nat} {s00 : State} {t0 : Nat} {x : Nat × Rule} {s0 : State} {a : State × List RuleWrite} (hV : subMask 879611449708554 V = true)
    (h : Keeps V s0 a.1) : Keeps V s0 (evalRule s00 t0 a x).1 := by
  refine h.step hV ?_
  clear h hV
  have h : Keeps 879611449708554 a.1 a.1 := .refl _ _
  unfold evalRule
  repeat' first
    | with_reducible assumption
    | decide
    | with_reducible refine Keeps.ite ?_ (fun _ => ?_)
    | with_reducible refine alertTo_keeps ?_ ?_
    | with_reducible refine rfxLost_keeps ?_ ?_
    | with_reducible refine rightsEvent_keeps ?_ ?_
    | exact nwf_nmod _ _
    | exact nwf_nput _ _
    | exact nwf_filter _
    | exact fun _ => nwf_nmapAll _
    | exact ascKeys_nput _ _ _
    | exact ascKeys_filter _
    | exact nwf_foldl_nput _ _ _
    | exact memWrite_wf _ _ _
    | exact fun hi => nwf_nput _ _ (nwf_filter _ hi)
    | with_reducible refine Keeps.foldl _ (fun _ _ _ => ?_) ?_
    | with_reducible refine Keeps.foldl_fst _ (fun _ _ _ => ?_) ?_
    | dsimp only
    | split
    | with_reducible refine Keeps.set_rules ?_ ?_ ?_

theorem execAbort_keeps (f : Nat) (e0 : Nat) (s t : State) (e : execAbort f e0 s = .next t) :
    Keeps 879611550367946 s t := by
  have h : Keeps 879611550367946 s s := .refl _ _
  unfold execAbort at e
  cases e
  repeat' first
    | with_reducible assumption
    | decide
    | with_reducible refine Keeps.ite ?_ (fun _ => ?_)
    | with_reducible refine abort_keeps ?_ ?_
    | with_reducible refine cmd_keeps ?_ (fun _ _ _ => ?_) ?_

theorem execAccordReady_keeps (g : Nat) (s t : State) (e : execAccordReady g s = .next t) :
    Keeps 64 s t := by
  have h : Keeps 64 s s := .refl _ _
  unfold execAccordReady at e
  cases e
  repeat' first
    | with_reducible assumption
    | decide
    | with_reducible refine Keeps.ite ?_ (fun _ => ?_)
    | with_reducible refine accordReady_keeps ?_ ?_

theorem resetDone_keeps {V : Nat} {f : Nat} {s0 s : State} (hV : subMask 879611449708298 V = true)
    (h : Keeps V s0 s) : Keeps V s0 (resetDone f s) := by
  refine h.step hV ?_
  clear h hV
  have h : Keeps 879611449708298 s s := .refl _ _
  unfold resetDone
  repeat' first
    | with_reducible assumption
    | decide
    | with_reducible refine Keeps.ite ?_ (fun _ => ?_)
    | with_reducible refine State.modFn_keeps ?_ ?_
    | with_reducible refine emitMgr_keeps ?_ ?_
    | with_reducible refine releaseGranule_keeps ?_ ?_
    | with_reducible refine Keeps.foldl _ (fun _ _ _ => ?_) ?_

theorem finishPurges_keeps {V : Nat} {s0 s : State} (hV : subMask 879611449708298 V = true)
    (h : Keeps V s0 s) : Keeps V s0 (finishPurges s) := by
  refine h.step hV ?_
  clear h hV
  have h : Keeps 879611449708298 s s := .refl _ _
  unfold finishPurges
  repeat' first
    | with_reducible assumption
    | decide
    | with_reducible refine Keeps.ite ?_ (fun _ => ?_)
    | with_reducible refine resetDone_keeps ?_ ?_
    | with_reducible refine Keeps.foldl _ (fun _ _ _ => ?_) ?_

theorem settleResets_keeps {V : Nat} {s0 s : State} (hV : subMask 879612523646826 V = true)
    (h : Keeps V s0 s) : Keeps V s0 (settleResets s) := by
  refine h.step hV ?_
  clear h hV
  have h : Keeps 879612523646826 s s := .refl _ _
  unfold settleResets
  repeat' first
    | with_reducible assumption
    | decide
    | with_reducible refine Keeps.ite ?_ (fun _ => ?_)
    | with_reducible refine destroyDone_keeps ?_ ?_
    | with_reducible refine finishPurges_keeps ?_ ?_
    | with_reducible refine Keeps.foldl _ (fun _ _ _ => ?_) ?_

theorem execAccordSwap_keeps (g : Nat) (s t : State) (e : execAccordSwap g s = .next t) :
    Keeps 879612523646955 s t := by
  have h : Keeps 879612523646955 s s := .refl _ _
  unfold execAccordSwap at e
  cases e
  repeat' first
    | with_reducible assumption
    | decide
    | with_reducible refine Keeps.ite ?_ (fun _ => ?_)
    | with_reducible refine accordSwap_keeps ?_ ?_
    | with_reducible refine settleResets_keeps ?_ ?_

theorem execActivationStaged_keeps (motion : BitVec 8) (holdup : BitVec 8) (vin : Option (BitVec 16)) (s t : State) (e : execActivationStaged motion holdup vin s = .next t) :
    Keeps 879611550367754 s t := by
  have h : Keeps 879611550367754 s s := .refl _ _
  unfold execActivationStaged at e
  cases e
  repeat' first
    | with_reducible assumption
    | decide
    | with_reducible refine Keeps.ite ?_ (fun _ => ?_)
    | with_reducible refine activationStaged_keeps ?_ ?_

theorem execAlertBind_keeps (f : Nat) (e0 : Nat) (s t : State) (e : execAlertBind f e0 s = .next t) :
    Keeps 879611449704458 s t := by
  have h : Keeps 879611449704458 s s := .refl _ _
  unfold execAlertBind at e
  cases e
  repeat' first
    | with_reducible assumption
    | decide
    | with_reducible refine Keeps.ite ?_ (fun _ => ?_)
    | with_reducible refine alertBind_keeps ?_ ?_
    | with_reducible refine cmd_keeps ?_ (fun _ _ _ => ?_) ?_

theorem execAlertReceived_keeps (g : Nat) (blk : Nat) (mis : Bool) (w : W64) (s t : State) (e : execAlertReceived g blk mis w s = .next t) :
    Keeps 1020350014620986 s t := by
  have h : Keeps 1020350014620986 s s := .refl _ _
  unfold execAlertReceived at e
  cases e
  repeat' first
    | with_reducible assumption
    | decide
    | with_reducible refine Keeps.ite ?_ (fun _ => ?_)
    | with_reducible refine alertReceived_keeps ?_ ?_

theorem execAlignMeasurement_keeps (t0 : Nat) (ps : Int) (s t : State) (e : execAlignMeasurement t0 ps s = .next t) :
    Keeps 879611449704458 s t := by
  have h : Keeps 879611449704458 s s := .refl _ _
  unfold execAlignMeasurement at e
  cases e
  repeat' first
    | with_reducible assumption
    | decide
    | with_reducible refine Keeps.ite ?_ (fun _ => ?_)
    | with_reducible refine alignMeasurement_keeps ?_ ?_

theorem execAllowlistReadDone_keeps (g : Nat) (n : Nat) (err : Nat) (d : List Byte) (s t : State) (e : execAllowlistReadDone g n err d s = .next t) :
    Keeps 1020350014358842 s t := by
  have h : Keeps 1020350014358842 s s := .refl _ _
  unfold execAllowlistReadDone at e
  cases e
  repeat' first
    | with_reducible assumption
    | decide
    | with_reducible refine Keeps.ite ?_ (fun _ => ?_)
    | with_reducible refine allowlistReadDone_keeps ?_ ?_

theorem execAllowlistSet_keeps (f : Nat) (e0 : Nat) (s t : State) (e : execAllowlistSet f e0 s = .next t) :
    Keeps 1020348940156986 s t := by
  have h : Keeps 1020348940156986 s s := .refl _ _
  unfold execAllowlistSet at e
  cases e
  repeat' first
    | with_reducible assumption
    | decide
    | with_reducible refine Keeps.ite ?_ (fun _ => ?_)
    | with_reducible refine allowlistSet_keeps ?_ ?_
    | with_reducible refine cmd_keeps ?_ (fun _ _ _ => ?_) ?_

theorem execAllowlistTimeout_keeps (g : Nat) (n : Nat) (s t : State) (e : execAllowlistTimeout g n s = .next t) :
    Keeps 1020350011999546 s t := by
  have h : Keeps 1020350011999546 s s := .refl _ _
  unfold execAllowlistTimeout at e
  cases e
  repeat' first
    | with_reducible assumption
    | decide
    | with_reducible refine Keeps.ite ?_ (fun _ => ?_)
    | with_reducible refine refuse_keeps ?_ ?_

theorem execAnnounceReceiptTimeout_keeps (s t : State) (e : execAnnounceReceiptTimeout s = .next t) :
    Keeps 879611449704459 s t := by
  have h : Keeps 879611449704459 s s := .refl _ _
  unfold execAnnounceReceiptTimeout at e
  cases e
  repeat' first
    | with_reducible assumption
    | decide
    | with_reducible refine Keeps.ite ?_ (fun _ => ?_)
    | with_reducible refine masterLost_keeps ?_ ?_

theorem execAssemblyBufferTimeout_keeps (c : Nat) (s t : State) (e : execAssemblyBufferTimeout c s = .next t) :
    Keeps 33554432 s t := by
  have h : Keeps 33554432 s s := .refl _ _
  unfold execAssemblyBufferTimeout at e
  cases e
  repeat' first
    | with_reducible assumption
    | decide
    | with_reducible refine Keeps.ite ?_ (fun _ => ?_)
    | with_reducible refine bufferTimeout_keeps ?_ ?_

theorem execAttentionPoll_keeps (g : Nat) (n : Nat) (s t : State) (e : execAttentionPoll g n s = .next t) :
    Keeps 985164565970960 s t := by
  have h : Keeps 985164565970960 s s := .refl _ _
  unfold execAttentionPoll at e
  cases e
  repeat' first
    | with_reducible assumption
    | decide
    | with_reducible refine Keeps.ite ?_ (fun _ => ?_)
    | with_reducible refine attentionPoll_keeps ?_ ?_

theorem execAttentionPollReply_keeps (g : Nat) (n : Nat) (mis : Bool) (blocks : List RxBlock) (s t : State) (e : execAttentionPollReply g n mis blocks s = .next t) :
    Keeps 1020350014620986 s t := by
  have h : Keeps 1020350014620986 s s := .refl _ _
  unfold execAttentionPollReply at e
  cases e
  repeat' first
    | with_reducible assumption
    | decide
    | with_reducible refine Keeps.ite ?_ (fun _ => ?_)
    | with_reducible refine attentionReply_keeps ?_ ?_

theorem execAuthstatPoll_keeps (g : Nat) (n : Nat) (s t : State) (e : execAuthstatPoll g n s = .next t) :
    Keeps 985164565970960 s t := by
  have h : Keeps 985164565970960 s s := .refl _ _
  unfold execAuthstatPoll at e
  cases e
  repeat' first
    | with_reducible assumption
    | decide
    | with_reducible refine Keeps.ite ?_ (fun _ => ?_)
    | with_reducible refine mgmtRead_keeps ?_ ?_

theorem execAvsLoopPeriod_keeps (t0 : Nat) (m : Nat) (s t : State) (e : execAvsLoopPeriod t0 m s = .next t) :
    Keeps 879611449704458 s t := by
  have h : Keeps 879611449704458 s s := .refl _ _
  unfold execAvsLoopPeriod at e
  cases e
  repeat' first
    | with_reducible assumption
    | decide
    | with_reducible refine Keeps.ite ?_ (fun _ => ?_)
    | with_reducible refine avsPeriod_keeps ?_ ?_

theorem mmio_keeps {V : Nat} {f : Nat} {b : Nat} {u : State → State} {s0 s : State} (hV : subMask 8 V = true)
    (hu : ∀  (t : State), Keeps V s0 t → Keeps V s0 (u  t)) (h : Keeps V s0 s) :
    Keeps V s0 (mmio f b u s) := by
  unfold mmio
  repeat' first
    | with_reducible assumption
    | exact subMask_trans (by decide) hV
    | with_reducible refine Keeps.ite ?_ (fun _ => ?_)
    | with_reducible refine dropSnap_keeps ?_ ?_
    | with_reducible refine Keeps.foldl _ (fun _ _ _ => ?_) ?_
    | with_reducible refine Keeps.foldl_fst _ (fun _ _ _ => ?_) ?_
    | dsimp only
    | split
    | (with_reducible refine hu _ ?_)

theorem execBcqHeadDoorbell_keeps (f : Nat) (v : BitVec 16) (s t : State) (e : execBcqHeadDoorbell f v s = .next t) :
    Keeps 895004612493322 s t := by
  have h : Keeps 895004612493322 s s := .refl _ _
  unfold execBcqHeadDoorbell at e
  cases e
  repeat' first
    | with_reducible assumption
    | decide
    | with_reducible refine Keeps.ite ?_ (fun _ => ?_)
    | with_reducible refine bcqHead_keeps ?_ ?_
    | with_reducible refine doorbell_keeps ?_ ?_
    | with_reducible refine mmio_keeps ?_ (fun _ _ => ?_) ?_

theorem execBlockLockAcquired_keeps (g : Nat) (s t : State) (e : execBlockLockAcquired g s = .next t) :
    Keeps 844424930131984 s t := by
  have h : Keeps 844424930131984 s s := .refl _ _
  unfold execBlockLockAcquired at e
  cases e
  repeat' first
    | with_reducible assumption
    | decide
    | with_reducible refine Keeps.ite ?_ (fun _ => ?_)
    | with_reducible refine blockLocked_keeps ?_ ?_

theorem execBlockLockLost_keeps (g : Nat) (s t : State) (e : execBlockLockLost g s = .next t) :
    Keeps 1020350011999546 s t := by
  have h : Keeps 1020350011999546 s s := .refl _ _
  unfold execBlockLockLost at e
  cases e
  repeat' first
    | with_reducible assumption
    | decide
    | with_reducible refine Keeps.ite ?_ (fun _ => ?_)
    | with_reducible refine blockLockLost_keeps ?_ ?_

theorem tileMmio_keeps {V : Nat} {t0 : Nat} {a : HeldAcc} {u : State → State} {s0 s : State} (hV : subMask 895004880928778 V = true)
    (hu : ∀  (t : State), Keeps V s0 t → Keeps V s0 (u  t)) (h : Keeps V s0 s) :
    Keeps V s0 (tileMmio t0 a u s) := by
  unfold tileMmio
  repeat' first
    | with_reducible assumption
    | exact subMask_trans (by decide) hV
    | with_reducible refine Keeps.ite ?_ (fun _ => ?_)
    | with_reducible refine holdAcc_keeps ?_ ?_
    | with_reducible refine mmio_keeps ?_ (fun _ _ => ?_) ?_
    | with_reducible refine Keeps.foldl _ (fun _ _ _ => ?_) ?_
    | with_reducible refine Keeps.foldl_fst _ (fun _ _ _ => ?_) ?_
    | dsimp only
    | split
    | (with_reducible refine hu _ ?_)

theorem execBlockReset_keeps (ty : Nat) (inst : Nat) (s t : State) (e : execBlockReset ty inst s = .next t) :
    Keeps 895004981592139 s t := by
  have h : Keeps 895004981592139 s s := .refl _ _
  unfold execBlockReset at e
  cases e
  repeat' first
    | with_reducible assumption
    | decide
    | with_reducible refine Keeps.ite ?_ (fun _ => ?_)
    | with_reducible refine blockReset_keeps ?_ ?_
    | with_reducible refine mmio_keeps ?_ (fun _ _ => ?_) ?_
    | with_reducible refine tileMmio_keeps ?_ (fun _ _ => ?_) ?_
    | with_reducible refine Keeps.foldl _ (fun _ _ _ => ?_) ?_
    | with_reducible refine Keeps.foldl_fst _ (fun _ _ _ => ?_) ?_
    | dsimp only
    | split

theorem execBranchTrainTimeout_keeps (g : Nat) (s t : State) (e : execBranchTrainTimeout g s = .next t) :
    Keeps 1020350014096698 s t := by
  have h : Keeps 1020350014096698 s s := .refl _ _
  unfold execBranchTrainTimeout at e
  cases e
  repeat' first
    | with_reducible assumption
    | decide
    | with_reducible refine Keeps.ite ?_ (fun _ => ?_)
    | with_reducible refine branchTimeout_keeps ?_ ?_

theorem execBrgMctlLoad_keeps (t0 : Nat) (s t : State) (e : execBrgMctlLoad t0 s = .next t) :
    Keeps 895004880994314 s t := by
  have h : Keeps 895004880994314 s s := .refl _ _
  unfold execBrgMctlLoad at e
  cases e
  repeat' first
    | with_reducible assumption
    | decide
    | with_reducible refine Keeps.ite ?_ (fun _ => ?_)
    | with_reducible refine mctlWrite_keeps ?_ ?_
    | with_reducible refine tileMmio_keeps ?_ (fun _ _ => ?_) ?_

theorem execBrgMctlStore_keeps (t0 : Nat) (s t : State) (e : execBrgMctlStore t0 s = .next t) :
    Keeps 895004880994314 s t := by
  have h : Keeps 895004880994314 s s := .refl _ _
  unfold execBrgMctlStore at e
  cases e
  repeat' first
    | with_reducible assumption
    | decide
    | with_reducible refine Keeps.ite ?_ (fun _ => ?_)
    | with_reducible refine mctlWrite_keeps ?_ ?_
    | with_reducible refine tileMmio_keeps ?_ (fun _ _ => ?_) ?_

theorem execBridgeAnswerLimit_keeps (g : Nat) (k : Nat) (s t : State) (e : execBridgeAnswerLimit g k s = .next t) :
    Keeps 879611449769994 s t := by
  have h : Keeps 879611449769994 s s := .refl _ _
  unfold execBridgeAnswerLimit at e
  cases e
  repeat' first
    | with_reducible assumption
    | decide
    | with_reducible refine Keeps.ite ?_ (fun _ => ?_)
    | with_reducible refine answerLimit_keeps ?_ ?_

theorem holdLimit_keeps {V : Nat} {f : Nat} {tag : Nat} {s0 s : State} (hV : subMask 879611449769994 V = true)
    (h : Keeps V s0 s) : Keeps V s0 (holdLimit f tag s) := by
  refine h.step hV ?_
  clear h hV
  have h : Keeps 879611449769994 s s := .refl _ _
  unfold holdLimit
  repeat' first
    | with_reducible assumption
    | decide
    | with_reducible refine Keeps.ite ?_ (fun _ => ?_)
    | with_reducible refine endLoad_keeps ?_ ?_
    | with_reducible refine Keeps.foldl _ (fun _ _ _ => ?_) ?_
    | with_reducible refine Keeps.foldl_fst _ (fun _ _ _ => ?_) ?_
    | dsimp only
    | split

theorem execBridgeHoldLimit_keeps (f : Nat) (tag : Nat) (s t : State) (e : execBridgeHoldLimit f tag s = .next t) :
    Keeps 879611449769994 s t := by
  have h : Keeps 879611449769994 s s := .refl _ _
  unfold execBridgeHoldLimit at e
  cases e
  repeat' first
    | with_reducible assumption
    | decide
    | with_reducible refine Keeps.ite ?_ (fun _ => ?_)
    | with_reducible refine holdLimit_keeps ?_ ?_

theorem execBridgeLoad_keeps (f : Nat) (off : Nat) (size : Nat) (s t : State) (e : execBridgeLoad f off size s = .next t) :
    Keeps 879611449769994 s t := by
  have h : Keeps 879611449769994 s s := .refl _ _
  unfold execBridgeLoad at e
  cases e
  repeat' first
    | with_reducible assumption
    | decide
    | with_reducible refine Keeps.ite ?_ (fun _ => ?_)
    | with_reducible refine bridgeLoad_keeps ?_ ?_

theorem execBridgeReply_keeps (g : Nat) (k : Nat) (mis : Bool) (blocks : List RxBlock) (s t : State) (e : execBridgeReply g k mis blocks s = .next t) :
    Keeps 1020350014620986 s t := by
  have h : Keeps 1020350014620986 s s := .refl _ _
  unfold execBridgeReply at e
  cases e
  repeat' first
    | with_reducible assumption
    | decide
    | with_reducible refine Keeps.ite ?_ (fun _ => ?_)
    | with_reducible refine bridgeReply_keeps ?_ ?_

theorem execBridgeStore_keeps (f : Nat) (off : Nat) (size : Nat) (v : W64) (part : Bool) (s t : State) (e : execBridgeStore f off size v part s = .next t) :
    Keeps 1020348938125322 s t := by
  have h : Keeps 1020348938125322 s s := .refl _ _
  unfold execBridgeStore at e
  cases e
  repeat' first
    | with_reducible assumption
    | decide
    | with_reducible refine Keeps.ite ?_ (fun _ => ?_)
    | with_reducible refine bridgeStore_keeps ?_ ?_

theorem execBulkBurstReply_keeps (t0 : Nat) (c : Nat) (bseq : Nat) (mis : Bool) (blocks : List RxBlock) (s t : State) (e : execBulkBurstReply t0 c bseq mis blocks s = .next t) :
    Keeps 1020350014620986 s t := by
  have h : Keeps 1020350014620986 s s := .refl _ _
  unfold execBulkBurstReply at e
  cases e
  repeat' first
    | with_reducible assumption
    | decide
    | with_reducible refine Keeps.ite ?_ (fun _ => ?_)
    | with_reducible refine bulkBurstReply_keeps ?_ ?_

theorem execBulkCancel_keeps (f : Nat) (v : Nat) (s t : State) (e : execBulkCancel f v s = .next t) :
    Keeps 131080 s t := by
  have h : Keeps 131080 s s := .refl _ _
  unfold execBulkCancel at e
  cases e
  repeat' first
    | with_reducible assumption
    | decide
    | with_reducible refine Keeps.ite ?_ (fun _ => ?_)
    | with_reducible refine bulkCancel_keeps ?_ ?_
    | with_reducible refine mmio_keeps ?_ (fun _ _ => ?_) ?_

theorem hostReadDone_keeps {V : Nat} {t0 : Nat} {c : Nat} {err : Nat} {data : List Byte} {s0 s : State} (hV : subMask 879611449835530 V = true)
    (h : Keeps V s0 s) : Keeps V s0 (hostReadDone t0 c err data s) := by
  refine h.step hV ?_
  clear h hV
  have h : Keeps 879611449835530 s s := .refl _ _
  unfold hostReadDone
  repeat' first
    | with_reducible assumption
    | decide
    | with_reducible refine Keeps.ite ?_ (fun _ => ?_)
    | with_reducible refine State.modChan_keeps ?_ ?_
    | with_reducible refine readFailed_keeps ?_ ?_
    | with_reducible refine Keeps.foldl _ (fun _ _ _ => ?_) ?_
    | with_reducible refine Keeps.foldl_fst _ (fun _ _ _ => ?_) ?_
    | dsimp only
    | split

theorem execBulkHostReadDone_keeps (t0 : Nat) (c : Nat) (err : Nat) (data : List Byte) (s t : State) (e : execBulkHostReadDone t0 c err data s = .next t) :
    Keeps 879611449835530 s t := by
  have h : Keeps 879611449835530 s s := .refl _ _
  unfold execBulkHostReadDone at e
  cases e
  repeat' first
    | with_reducible assumption
    | decide
    | with_reducible refine Keeps.ite ?_ (fun _ => ?_)
    | with_reducible refine hostReadDone_keeps ?_ ?_

theorem probeDue_keeps {V : Nat} {t0 : Nat} {c : Nat} {s0 s : State} (hV : subMask 985162418618386 V = true)
    (h : Keeps V s0 s) : Keeps V s0 (probeDue t0 c s) := by
  refine h.step hV ?_
  clear h hV
  have h : Keeps 985162418618386 s s := .refl _ _
  unfold probeDue
  repeat' first
    | with_reducible assumption
    | decide
    | with_reducible refine Keeps.ite ?_ (fun _ => ?_)
    | with_reducible refine State.modChan_keeps ?_ ?_
    | with_reducible refine replyGrant_keeps ?_ ?_
    | with_reducible refine sendBurst_keeps ?_ ?_

theorem execBulkProbeDue_keeps (t0 : Nat) (c : Nat) (s t : State) (e : execBulkProbeDue t0 c s = .next t) :
    Keeps 985162418618386 s t := by
  have h : Keeps 985162418618386 s s := .refl _ _
  unfold execBulkProbeDue at e
  cases e
  repeat' first
    | with_reducible assumption
    | decide
    | with_reducible refine Keeps.ite ?_ (fun _ => ?_)
    | with_reducible refine probeDue_keeps ?_ ?_

theorem recordRelease_keeps {V : Nat} {f : Nat} {s0 s : State} (hV : subMask 879611449835530 V = true)
    (h : Keeps V s0 s) : Keeps V s0 (recordRelease f s) := by
  refine h.step hV ?_
  clear h hV
  have h : Keeps 879611449835530 s s := .refl _ _
  unfold recordRelease
  repeat' first
    | with_reducible assumption
    | decide
    | with_reducible refine Keeps.ite ?_ (fun _ => ?_)
    | with_reducible refine promote_keeps ?_ ?_
    | with_reducible refine putBulkRecord_keeps ?_ ?_
    | with_reducible refine Keeps.foldl _ (fun _ _ _ => ?_) ?_
    | with_reducible refine Keeps.foldl_fst _ (fun _ _ _ => ?_) ?_
    | dsimp only
    | split

theorem execBulkRecordRelease_keeps (f : Nat) (s t : State) (e : execBulkRecordRelease f s = .next t) :
    Keeps 879611449835530 s t := by
  have h : Keeps 879611449835530 s s := .refl _ _
  unfold execBulkRecordRelease at e
  cases e
  repeat' first
    | with_reducible assumption
    | decide
    | with_reducible refine Keeps.ite ?_ (fun _ => ?_)
    | with_reducible refine recordRelease_keeps ?_ ?_

theorem execBulkRequestAnswer_keeps (t0 : Nat) (c : Nat) (bseq : Nat) (mis : Bool) (blocks : List RxBlock) (s t : State) (e : execBulkRequestAnswer t0 c bseq mis blocks s = .next t) :
    Keeps 1020350014620986 s t := by
  have h : Keeps 1020350014620986 s s := .refl _ _
  unfold execBulkRequestAnswer at e
  cases e
  repeat' first
    | with_reducible assumption
    | decide
    | with_reducible refine Keeps.ite ?_ (fun _ => ?_)
    | with_reducible refine bulkRequestAnswer_keeps ?_ ?_

theorem execBulkStop_keeps (f : Nat) (v : Nat) (s t : State) (e : execBulkStop f v s = .next t) :
    Keeps 879611449835530 s t := by
  have h : Keeps 879611449835530 s s := .refl _ _
  unfold execBulkStop at e
  cases e
  repeat' first
    | with_reducible assumption
    | decide
    | with_reducible refine Keeps.ite ?_ (fun _ => ?_)
    | with_reducible refine bulkStop_keeps ?_ ?_
    | with_reducible refine mmio_keeps ?_ (fun _ _ => ?_) ?_

end Sys2Proof.Machine
end

