-- ==== Sys2Proof/Laws/Frames4.lean ====
section
/-!
SUPPORT. Frames, part 4 of 5: one lemma per operation of the machine, in the order in which they call each other: it
keeps every part of the state outside its mask, the queue, the part and the invariant (Laws/Keeps.lean).
-/

set_option Elab.async false
namespace Sys2Proof.Machine

theorem waitLimit_keeps {V : Nat} {t0 : Nat} {c : Nat} {s0 s : State} (hV : subMask 879611449835530 V = true)
    (h : Keeps V s0 s) : Keeps V s0 (waitLimit t0 c s) := by
  refine h.step hV ?_
  clear h hV
  have h : Keeps 879611449835530 s s := .refl _ _
  unfold waitLimit
  repeat' first
    | with_reducible assumption
    | decide
    | with_reducible refine Keeps.ite ?_ (fun _ => ?_)
    | with_reducible refine endJobNow_keeps ?_ ?_
    | with_reducible refine Keeps.foldl _ (fun _ _ _ => ?_) ?_
    | with_reducible refine Keeps.foldl_fst _ (fun _ _ _ => ?_) ?_
    | dsimp only
    | split

theorem execBulkWaitLimit_keeps (t0 : Nat) (c : Nat) (s t : State) (e : execBulkWaitLimit t0 c s = .next t) :
    Keeps 879611449835530 s t := by
  have h : Keeps 879611449835530 s s := .refl _ _
  unfold execBulkWaitLimit at e
  cases e
  repeat' first
    | with_reducible assumption
    | decide
    | with_reducible refine Keeps.ite ?_ (fun _ => ?_)
    | with_reducible refine waitLimit_keeps ?_ ?_

theorem execBusStuckTimeout_keeps (t0 : Nat) (k : Nat) (s t : State) (e : execBusStuckTimeout t0 k s = .next t) :
    Keeps 1035791258289530 s t := by
  have h : Keeps 1035791258289530 s s := .refl _ _
  unfold execBusStuckTimeout at e
  cases e
  repeat' first
    | with_reducible assumption
    | decide
    | with_reducible refine Keeps.ite ?_ (fun _ => ?_)
    | with_reducible refine busDone_keeps ?_ ?_

theorem execBusTransactionComplete_keeps (t0 : Nat) (k : Nat) (ok : Bool) (s t : State) (e : execBusTransactionComplete t0 k ok s = .next t) :
    Keeps 1035791258289530 s t := by
  have h : Keeps 1035791258289530 s s := .refl _ _
  unfold execBusTransactionComplete at e
  cases e
  repeat' first
    | with_reducible assumption
    | decide
    | with_reducible refine Keeps.ite ?_ (fun _ => ?_)
    | with_reducible refine busDone_keeps ?_ ?_

theorem lockAcquire_keeps {V : Nat} {f : Nat} {s0 s : State} (hV : subMask 985162418487328 V = true)
    (h : Keeps V s0 s) : Keeps V s0 (lockAcquire f s) := by
  refine h.step hV ?_
  clear h hV
  have h : Keeps 985162418487328 s s := .refl _ _
  unfold lockAcquire
  repeat' first
    | with_reducible assumption
    | decide
    | with_reducible refine Keeps.ite ?_ (fun _ => ?_)
    | with_reducible refine out_keeps ?_ ?_
    | with_reducible refine takeLock_keeps ?_ ?_

theorem execBwvLockAcquire_keeps (f : Nat) (s t : State) (e : execBwvLockAcquire f s = .next t) :
    Keeps 985162418487336 s t := by
  have h : Keeps 985162418487336 s s := .refl _ _
  unfold execBwvLockAcquire at e
  cases e
  repeat' first
    | with_reducible assumption
    | decide
    | with_reducible refine Keeps.ite ?_ (fun _ => ?_)
    | with_reducible refine lockAcquire_keeps ?_ ?_
    | with_reducible refine mmio_keeps ?_ (fun _ _ => ?_) ?_

theorem execBwvLockRelease_keeps (f : Nat) (tok : BitVec 16) (s t : State) (e : execBwvLockRelease f tok s = .next t) :
    Keeps 42 s t := by
  have h : Keeps 42 s s := .refl _ _
  unfold execBwvLockRelease at e
  cases e
  repeat' first
    | with_reducible assumption
    | decide
    | with_reducible refine Keeps.ite ?_ (fun _ => ?_)
    | with_reducible refine lockRelease_keeps ?_ ?_
    | with_reducible refine mmio_keeps ?_ (fun _ _ => ?_) ?_

theorem execBwvLockRenew_keeps (f : Nat) (tok : BitVec 16) (s t : State) (e : execBwvLockRenew f tok s = .next t) :
    Keeps 10 s t := by
  have h : Keeps 10 s s := .refl _ _
  unfold execBwvLockRenew at e
  cases e
  repeat' first
    | with_reducible assumption
    | decide
    | with_reducible refine Keeps.ite ?_ (fun _ => ?_)
    | with_reducible refine lockRenew_keeps ?_ ?_
    | with_reducible refine mmio_keeps ?_ (fun _ _ => ?_) ?_

theorem execBwvWfclrWrite_keeps (f : Nat) (v : W32) (s t : State) (e : execBwvWfclrWrite f v s = .next t) :
    Keeps 8 s t := by
  have h : Keeps 8 s s := .refl _ _
  unfold execBwvWfclrWrite at e
  cases e
  repeat' first
    | with_reducible assumption
    | decide
    | with_reducible refine Keeps.ite ?_ (fun _ => ?_)
    | with_reducible refine mmio_keeps ?_ (fun _ _ => ?_) ?_
    | with_reducible refine wfclr_keeps ?_ ?_

theorem execBwvWinbaseWrite_keeps (f : Nat) (v : W32) (s t : State) (e : execBwvWinbaseWrite f v s = .next t) :
    Keeps 879611449769994 s t := by
  have h : Keeps 879611449769994 s s := .refl _ _
  unfold execBwvWinbaseWrite at e
  cases e
  repeat' first
    | with_reducible assumption
    | decide
    | with_reducible refine Keeps.ite ?_ (fun _ => ?_)
    | with_reducible refine mmio_keeps ?_ (fun _ _ => ?_) ?_
    | with_reducible refine winbaseWrite_keeps ?_ ?_

theorem execChallengeTimeout_keeps (g : Nat) (n : Nat) (s t : State) (e : execChallengeTimeout g n s = .next t) :
    Keeps 1020350012261690 s t := by
  have h : Keeps 1020350012261690 s s := .refl _ _
  unfold execChallengeTimeout at e
  cases e
  repeat' first
    | with_reducible assumption
    | decide
    | with_reducible refine Keeps.ite ?_ (fun _ => ?_)
    | with_reducible refine refuse_keeps ?_ ?_
    | with_reducible refine sendNonce_keeps ?_ ?_

theorem execChunkProgrammed_keeps (ok : Bool) (s t : State) (e : execChunkProgrammed ok s = .next t) :
    Keeps 1020349038723082 s t := by
  have h : Keeps 1020349038723082 s s := .refl _ _
  unfold execChunkProgrammed at e
  cases e
  repeat' first
    | with_reducible assumption
    | decide
    | with_reducible refine Keeps.ite ?_ (fun _ => ?_)
    | with_reducible refine chunkProgrammed_keeps ?_ ?_

theorem execCommandStructureReadDone_keeps (f : Nat) (long : Bool) (id : Nat) (err : Nat) (data : List Byte) (s t : State) (e : execCommandStructureReadDone f long id err data s = .next t) :
    Keeps 1020350115749882 s t := by
  have h : Keeps 1020350115749882 s s := .refl _ _
  unfold execCommandStructureReadDone at e
  cases e
  repeat' first
    | with_reducible assumption
    | decide
    | with_reducible refine Keeps.ite ?_ (fun _ => ?_)
    | with_reducible refine structRead_keeps ?_ ?_

theorem execCompileDone_keeps (g : Nat) (s t : State) (e : execCompileDone g s = .next t) :
    Keeps 1020348938060026 s t := by
  have h : Keeps 1020348938060026 s s := .refl _ _
  unfold execCompileDone at e
  cases e
  repeat' first
    | with_reducible assumption
    | decide
    | with_reducible refine Keeps.ite ?_ (fun _ => ?_)
    | with_reducible refine compileDone_keeps ?_ ?_

theorem execCompileStart_keeps (g : Nat) (s t : State) (e : execCompileStart g s = .next t) :
    Keeps 2147483722 s t := by
  have h : Keeps 2147483722 s s := .refl _ _
  unfold execCompileStart at e
  cases e
  repeat' first
    | with_reducible assumption
    | decide
    | with_reducible refine Keeps.ite ?_ (fun _ => ?_)
    | with_reducible refine compileStart_keeps ?_ ?_

theorem execConfigSpaceWrite_keeps (f : Nat) (what : Nat) (v : Nat) (s t : State) (e : execConfigSpaceWrite f what v s = .next t) :
    Keeps 962072674312 s t := by
  have h : Keeps 962072674312 s s := .refl _ _
  unfold execConfigSpaceWrite at e
  cases e
  repeat' first
    | with_reducible assumption
    | decide
    | with_reducible refine Keeps.ite ?_ (fun _ => ?_)
    | with_reducible refine configWrite_keeps ?_ ?_

theorem execCqHeadDoorbell_keeps (f : Nat) (q : Nat) (v : BitVec 16) (s t : State) (e : execCqHeadDoorbell f q v s = .next t) :
    Keeps 895004612493322 s t := by
  have h : Keeps 895004612493322 s s := .refl _ _
  unfold execCqHeadDoorbell at e
  cases e
  repeat' first
    | with_reducible assumption
    | decide
    | with_reducible refine Keeps.ite ?_ (fun _ => ?_)
    | with_reducible refine doorbell_keeps ?_ ?_
    | with_reducible refine mmio_keeps ?_ (fun _ _ => ?_) ?_
    | with_reducible refine ringHead_keeps ?_ ?_

theorem pageBusWrite_keeps {V : Nat} {ty : Nat} {inst : Nat} {off : Nat} {v : Nat} {s0 s : State} (hV : subMask 1125899906842623 V = true)
    (h : Keeps V s0 s) : Keeps V s0 (pageBusWrite ty inst off v s) := by
  refine h.step hV ?_
  clear h hV
  have h : Keeps 1125899906842623 s s := .refl _ _
  unfold pageBusWrite
  repeat' first
    | with_reducible assumption
    | decide
    | with_reducible refine Keeps.ite ?_ (fun _ => ?_)
    | with_reducible refine busWrite_keeps ?_ ?_

theorem execCtlEnableWrite_keeps (ty : Nat) (inst : Nat) (en : Bool) (s t : State) (e : execCtlEnableWrite ty inst en s = .next t) :
    Keeps 1125899906842623 s t := by
  have h : Keeps 1125899906842623 s s := .refl _ _
  unfold execCtlEnableWrite at e
  cases e
  repeat' first
    | with_reducible assumption
    | decide
    | with_reducible refine Keeps.ite ?_ (fun _ => ?_)
    | with_reducible refine pageBusWrite_keeps ?_ ?_

theorem execCtlQuiesceWrite_keeps (ty : Nat) (inst : Nat) (q : Bool) (s t : State) (e : execCtlQuiesceWrite ty inst q s = .next t) :
    Keeps 1125899906842623 s t := by
  have h : Keeps 1125899906842623 s s := .refl _ _
  unfold execCtlQuiesceWrite at e
  cases e
  repeat' first
    | with_reducible assumption
    | decide
    | with_reducible refine Keeps.ite ?_ (fun _ => ?_)
    | with_reducible refine pageBusWrite_keeps ?_ ?_

theorem execDblSchedWrite_keeps (f : Nat) (v : W32) (s t : State) (e : execDblSchedWrite f v s = .next t) :
    Keeps 895004612493450 s t := by
  have h : Keeps 895004612493450 s s := .refl _ _
  unfold execDblSchedWrite at e
  cases e
  repeat' first
    | with_reducible assumption
    | decide
    | with_reducible refine Keeps.ite ?_ (fun _ => ?_)
    | with_reducible refine dblSched_keeps ?_ ?_
    | with_reducible refine doorbell_keeps ?_ ?_
    | with_reducible refine mmio_keeps ?_ (fun _ _ => ?_) ?_

theorem execDlDown_keeps (straps : BitVec 4) (flash : Bool) (s t : State) (e : execDlDown straps flash s = .next t) :
    Keeps 1125899906842623 s t := by
  have h : Keeps 1125899906842623 s s := .refl _ _
  unfold execDlDown at e
  cases e
  repeat' first
    | with_reducible assumption
    | decide
    | with_reducible refine Keeps.ite ?_ (fun _ => ?_)
    | with_reducible refine bootStart_keeps ?_ ?_
    | with_reducible refine packageReset_keeps ?_ ?_

theorem execDmaReadTimeout_keeps (what : Nat) (a : Nat) (b : Nat) (seg : Nat) (idx : Nat) (s t : State) (e : execDmaReadTimeout what a b seg idx s = .next t) :
    Keeps 1020350116077562 s t := by
  have h : Keeps 1020350116077562 s s := .refl _ _
  unfold execDmaReadTimeout at e
  cases e
  repeat' first
    | with_reducible assumption
    | decide
    | with_reducible refine Keeps.ite ?_ (fun _ => ?_)
    | with_reducible refine dmaReadTimeout_keeps ?_ ?_

theorem execDozeEntry_keeps (t0 : Nat) (s t : State) (e : execDozeEntry t0 s = .next t) :
    Keeps 2147483650 s t := by
  have h : Keeps 2147483650 s s := .refl _ _
  unfold execDozeEntry at e
  cases e
  repeat' first
    | with_reducible assumption
    | decide
    | with_reducible refine Keeps.ite ?_ (fun _ => ?_)
    | with_reducible refine dozeEntry_keeps ?_ ?_

theorem execDrydownDrainTimeout_keeps (t0 : Nat) (s t : State) (e : execDrydownDrainTimeout t0 s = .next t) :
    Keeps 879611449704522 s t := by
  have h : Keeps 879611449704522 s s := .refl _ _
  unfold execDrydownDrainTimeout at e
  cases e
  repeat' first
    | with_reducible assumption
    | decide
    | with_reducible refine Keeps.ite ?_ (fun _ => ?_)
    | with_reducible refine drainTimeout_keeps ?_ ?_

theorem execDrydownDrained_keeps (t0 : Nat) (s t : State) (e : execDrydownDrained t0 s = .next t) :
    Keeps 1020398095500666 s t := by
  have h : Keeps 1020398095500666 s s := .refl _ _
  unfold execDrydownDrained at e
  cases e
  repeat' first
    | with_reducible assumption
    | decide
    | with_reducible refine Keeps.ite ?_ (fun _ => ?_)
    | with_reducible refine drydownDrained_keeps ?_ ?_

theorem execEchoReceived_keeps (g : Nat) (span : Nat) (mis : Bool) (b : RxBlock) (s t : State) (e : execEchoReceived g span mis b s = .next t) :
    Keeps 1020350011999546 s t := by
  have h : Keeps 1020350011999546 s s := .refl _ _
  unfold execEchoReceived at e
  cases e
  repeat' first
    | with_reducible assumption
    | decide
    | with_reducible refine Keeps.ite ?_ (fun _ => ?_)
    | with_reducible refine echoReceived_keeps ?_ ?_

theorem execEngineFault_keeps (t0 : Nat) (e0 : Nat) (us : Nat) (s t : State) (e : execEngineFault t0 e0 us s = .next t) :
    Keeps 1020398162609658 s t := by
  have h : Keeps 1020398162609658 s s := .refl _ _
  unfold execEngineFault at e
  cases e
  repeat' first
    | with_reducible assumption
    | decide
    | with_reducible refine Keeps.ite ?_ (fun _ => ?_)
    | with_reducible refine engineFault_keeps ?_ ?_

theorem execEngineReloadDone_keeps (t0 : Nat) (e0 : Nat) (s t : State) (e : execEngineReloadDone t0 e0 s = .next t) :
    Keeps 2147483648 s t := by
  have h : Keeps 2147483648 s s := .refl _ _
  unfold execEngineReloadDone at e
  cases e
  repeat' first
    | with_reducible assumption
    | decide
    | with_reducible refine Keeps.ite ?_ (fun _ => ?_)
    | with_reducible refine State.modTile_keeps ?_ ?_
    | with_reducible refine takeTasks_keeps ?_ ?_

theorem execEnumUpCheck_keeps (g : Nat) (s t : State) (e : execEnumUpCheck g s = .next t) :
    Keeps 985164565970960 s t := by
  have h : Keeps 985164565970960 s s := .refl _ _
  unfold execEnumUpCheck at e
  cases e
  repeat' first
    | with_reducible assumption
    | decide
    | with_reducible refine Keeps.ite ?_ (fun _ => ?_)
    | with_reducible refine enumUpCheck_keeps ?_ ?_

theorem execEqHeadDoorbell_keeps (f : Nat) (e0 : Nat) (v : BitVec 16) (s t : State) (e : execEqHeadDoorbell f e0 v s = .next t) :
    Keeps 895004612493322 s t := by
  have h : Keeps 895004612493322 s s := .refl _ _
  unfold execEqHeadDoorbell at e
  cases e
  repeat' first
    | with_reducible assumption
    | decide
    | with_reducible refine Keeps.ite ?_ (fun _ => ?_)
    | with_reducible refine doorbell_keeps ?_ ?_
    | with_reducible refine mmio_keeps ?_ (fun _ _ => ?_) ?_
    | with_reducible refine ringHead_keeps ?_ ?_

theorem execEqLoopPeriod_keeps (g : Nat) (h0 : Nat) (v : Nat) (s t : State) (e : execEqLoopPeriod g h0 v s = .next t) :
    Keeps 1020348938059802 s t := by
  have h : Keeps 1020348938059802 s s := .refl _ _
  unfold execEqLoopPeriod at e
  cases e
  repeat' first
    | with_reducible assumption
    | decide
    | with_reducible refine Keeps.ite ?_ (fun _ => ?_)
    | with_reducible refine eqPeriod_keeps ?_ ?_

theorem execErrmaskWrite_keeps (ty : Nat) (inst : Nat) (v : W32) (s t : State) (e : execErrmaskWrite ty inst v s = .next t) :
    Keeps 1125899906842623 s t := by
  have h : Keeps 1125899906842623 s s := .refl _ _
  unfold execErrmaskWrite at e
  cases e
  repeat' first
    | with_reducible assumption
    | decide
    | with_reducible refine Keeps.ite ?_ (fun _ => ?_)
    | with_reducible refine pageBusWrite_keeps ?_ ?_

theorem execFibAckWrite_keeps (f : Nat) (v : W64) (whole : Bool) (s t : State) (e : execFibAckWrite f v whole s = .next t) :
    Keeps 10 s t := by
  have h : Keeps 10 s s := .refl _ _
  unfold execFibAckWrite at e
  cases e
  repeat' first
    | with_reducible assumption
    | decide
    | with_reducible refine Keeps.ite ?_ (fun _ => ?_)
    | with_reducible refine ackWrite_keeps ?_ ?_
    | with_reducible refine mmio_keeps ?_ (fun _ _ => ?_) ?_
    | with_reducible refine setErr_keeps ?_ ?_

theorem resetTables_keeps {V : Nat} {t0 : Nat} {s0 s : State} (hV : subMask 35184372089536 V = true)
    (h : Keeps V s0 s) : Keeps V s0 (resetTables t0 s) := by
  refine h.step hV ?_
  clear h hV
  have h : Keeps 35184372089536 s s := .refl _ _
  unfold resetTables
  repeat' first
    | with_reducible assumption
    | decide
    | with_reducible refine Keeps.ite ?_ (fun _ => ?_)
    | exact nwf_nmod _ _
    | exact nwf_nput _ _
    | exact nwf_filter _
    | exact fun _ => nwf_nmapAll _
    | exact ascKeys_nput _ _ _
    | exact ascKeys_filter _
    | exact nwf_foldl_nput _ _ _
    | exact memWrite_wf _ _ _
    | exact fun hi => nwf_nput _ _ (nwf_filter _ hi)
    | with_reducible refine Keeps.foldl _ (fun _ _ _ => ?_) ?_
    | with_reducible refine Keeps.foldl_fst _ (fun _ _ _ => ?_) ?_
    | dsimp only
    | split
    | with_reducible refine Keeps.set_plans_lists_owners_evHeld ?_ ?_ ?_ ?_ ?_ ?_ ?_ ?_

theorem resetFn_keeps {V : Nat} {t0 : Nat} {cause : Nat} {s0 s : State} (hV : subMask 895005954899946 V = true)
    (h : Keeps V s0 s) : Keeps V s0 (resetFn t0 cause s) := by
  refine h.step hV ?_
  clear h hV
  have h : Keeps 895005954899946 s s := .refl _ _
  unfold resetFn
  repeat' first
    | with_reducible assumption
    | decide
    | with_reducible refine Keeps.ite ?_ (fun _ => ?_)
    | with_reducible refine State.modFn_keeps ?_ ?_
    | with_reducible refine bridgeReset_keeps ?_ ?_
    | with_reducible refine bulkReset_keeps ?_ ?_
    | with_reducible refine dropGrants_keeps ?_ ?_
    | with_reducible refine dropRules_keeps ?_ ?_
    | with_reducible refine emitMgr_keeps ?_ ?_
    | with_reducible refine endTasks_keeps ?_ ?_
    | with_reducible refine failHandle_keeps ?_ ?_
    | with_reducible refine lockPoint_keeps ?_ ?_
    | with_reducible refine resetTables_keeps ?_ ?_
    | with_reducible refine wakeSource_keeps ?_ ?_
    | with_reducible refine Keeps.foldl _ (fun _ _ _ => ?_) ?_
    | with_reducible refine Keeps.foldl_fst _ (fun _ _ _ => ?_) ?_
    | dsimp only
    | split

theorem execFlrInitiate_keeps (f : Nat) (s t : State) (e : execFlrInitiate f s = .next t) :
    Keeps 895005954899946 s t := by
  have h : Keeps 895005954899946 s s := .refl _ _
  unfold execFlrInitiate at e
  cases e
  repeat' first
    | with_reducible assumption
    | decide
    | with_reducible refine Keeps.ite ?_ (fun _ => ?_)
    | with_reducible refine resetFn_keeps ?_ ?_

theorem readHeaders_keeps {V : Nat} {f : Nat} {s0 s : State} (hV : subMask 879611449704586 V = true)
    (h : Keeps V s0 s) : Keeps V s0 (readHeaders f s) := by
  refine h.step hV ?_
  clear h hV
  have h : Keeps 879611449704586 s s := .refl _ _
  unfold readHeaders
  repeat' first
    | with_reducible assumption
    | decide
    | with_reducible refine Keeps.ite ?_ (fun _ => ?_)
    | with_reducible refine State.modList_keeps ?_ ?_
    | with_reducible refine dmaRefused_keeps ?_ ?_
    | with_reducible refine engineWork_keeps ?_ ?_
    | with_reducible refine listStop_keeps ?_ ?_
    | with_reducible refine out_keeps ?_ ?_
    | with_reducible refine Keeps.foldl _ (fun _ _ _ => ?_) ?_

theorem fnFrame_keeps {V : Nat} {f : Nat} {s0 s : State} (hV : subMask 879611449704586 V = true)
    (h : Keeps V s0 s) : Keeps V s0 (fnFrame s f) := by
  refine h.step hV ?_
  clear h hV
  have h : Keeps 879611449704586 s s := .refl _ _
  unfold fnFrame
  repeat' first
    | with_reducible assumption
    | decide
    | with_reducible refine Keeps.ite ?_ (fun _ => ?_)
    | with_reducible refine State.modFn_keeps ?_ ?_
    | with_reducible refine readHeaders_keeps ?_ ?_

theorem muteDue_keeps {V : Nat} {g : Nat} {s0 s : State} (hV : subMask 1073743178 V = true)
    (h : Keeps V s0 s) : Keeps V s0 (muteDue s g) := by
  refine h.step hV ?_
  clear h hV
  have h : Keeps 1073743178 s s := .refl _ _
  unfold muteDue
  repeat' first
    | with_reducible assumption
    | decide
    | with_reducible refine Keeps.ite ?_ (fun _ => ?_)
    | with_reducible refine muteEntries_keeps ?_ ?_

theorem frameStart_keeps {V : Nat} {s0 s : State} (hV : subMask 1073743179 V = true)
    (h : Keeps V s0 s) : Keeps V s0 (frameStart s) := by
  refine h.step hV ?_
  clear h hV
  have h : Keeps 1073743179 s s := .refl _ _
  unfold frameStart
  repeat' first
    | with_reducible assumption
    | decide
    | with_reducible refine Keeps.ite ?_ (fun _ => ?_)
    | with_reducible refine State.modTime_keeps ?_ ?_
    | with_reducible refine muteDue_keeps ?_ ?_
    | with_reducible refine needCompile_keeps ?_ ?_
    | with_reducible refine Keeps.foldl _ (fun _ _ _ => ?_) ?_

theorem drawMoves_keeps {V : Nat} {g k : Nat} {l : List AEntry} {ms : List (Nat × Nat × Nat × Nat × Nat)}
    {s0 s : State} (hV : subMask 140737488355328 V = true) (h : Keeps V s0 s) : Keeps V s0 (drawMoves g k l ms s).2.2 := by
  induction k generalizing l ms s with
  | zero => exact h
  | succ k ih =>
    unfold drawMoves
    split
    · exact h
    · dsimp only
      split <;> exact ih (State.draw_keeps hV (State.draw_keeps hV (State.draw_keeps hV h)))

theorem renewProposal_keeps {V : Nat} {g : Nat} {s0 s : State} (hV : subMask 140737488355392 V = true)
    (h : Keeps V s0 s) : Keeps V s0 (renewProposal g s) := by
  refine h.step hV ?_
  clear h hV
  have h : Keeps 140737488355392 s s := .refl _ _
  unfold renewProposal
  repeat' first
    | with_reducible assumption
    | decide
    | with_reducible refine Keeps.ite ?_ (fun _ => ?_)
    | with_reducible refine State.modPlan_keeps ?_ ?_
    | with_reducible refine drawMoves_keeps ?_ ?_

theorem retryLoads_keeps {V : Nat} {g : Nat} {s0 s : State} (hV : subMask 985164565970992 V = true)
    (h : Keeps V s0 s) : Keeps V s0 (retryLoads g s) := by
  refine h.step hV ?_
  clear h hV
  have h : Keeps 985164565970992 s s := .refl _ _
  unfold retryLoads
  repeat' first
    | with_reducible assumption
    | decide
    | with_reducible refine Keeps.ite ?_ (fun _ => ?_)
    | with_reducible refine loadHub_keeps ?_ ?_
    | with_reducible refine loadNode_keeps ?_ ?_
    | with_reducible refine Keeps.foldl _ (fun _ _ _ => ?_) ?_

theorem planFrame_keeps {V : Nat} {g : Nat} {s0 s : State} (hV : subMask 985164565971056 V = true)
    (h : Keeps V s0 s) : Keeps V s0 (planFrame s g) := by
  refine h.step hV ?_
  clear h hV
  have h : Keeps 985164565971056 s s := .refl _ _
  unfold planFrame
  repeat' first
    | with_reducible assumption
    | decide
    | with_reducible refine Keeps.ite ?_ (fun _ => ?_)
    | with_reducible refine State.modPlan_keeps ?_ ?_
    | with_reducible refine atomizerCause_keeps ?_ ?_
    | with_reducible refine renewProposal_keeps ?_ ?_
    | with_reducible refine retryLoads_keeps ?_ ?_

theorem unlockDry_keeps {V : Nat} {t0 : Nat} {s0 s : State} (hV : subMask 1073743114 V = true)
    (h : Keeps V s0 s) : Keeps V s0 (unlockDry t0 s) := by
  refine h.step hV ?_
  clear h hV
  have h : Keeps 1073743114 s s := .refl _ _
  unfold unlockDry
  repeat' first
    | with_reducible assumption
    | decide
    | with_reducible refine Keeps.ite ?_ (fun _ => ?_)
    | with_reducible refine unlockPoint_keeps ?_ ?_
    | with_reducible refine Keeps.foldl _ (fun _ _ _ => ?_) ?_

theorem resumePorts_keeps {V : Nat} {t0 : Nat} {s0 s : State} (hV : subMask 1020350013900090 V = true)
    (h : Keeps V s0 s) : Keeps V s0 (resumePorts s t0) := by
  refine h.step hV ?_
  clear h hV
  have h : Keeps 1020350013900090 s s := .refl _ _
  unfold resumePorts
  repeat' first
    | with_reducible assumption
    | decide
    | with_reducible refine Keeps.ite ?_ (fun _ => ?_)
    | with_reducible refine State.modPort_keeps ?_ ?_
    | with_reducible refine State.modPwr_keeps ?_ ?_
    | with_reducible refine tryTrain_keeps ?_ ?_
    | with_reducible refine unlockDry_keeps ?_ ?_
    | with_reducible refine Keeps.foldl _ (fun _ _ _ => ?_) ?_

theorem standbyBoundary_keeps {V : Nat} {s0 s : State} (hV : subMask 1029146105021754 V = true)
    (h : Keeps V s0 s) : Keeps V s0 (standbyBoundary s) := by
  refine h.step hV ?_
  clear h hV
  have h : Keeps 1029146105021754 s s := .refl _ _
  unfold standbyBoundary
  repeat' first
    | with_reducible assumption
    | decide
    | with_reducible refine Keeps.ite ?_ (fun _ => ?_)
    | with_reducible refine State.modPwr_keeps ?_ ?_
    | with_reducible refine State.modTile_keeps ?_ ?_
    | with_reducible refine dryBoundary_keeps ?_ ?_
    | with_reducible refine Keeps.foldl _ (fun _ _ _ => ?_) ?_
    | with_reducible refine Keeps.foldl_fst _ (fun _ _ _ => ?_) ?_
    | dsimp only
    | split
    | with_reducible refine Keeps.set_stopping ?_ ?_

theorem genCheck_keeps {V : Nat} {s0 s : State} (hV : subMask 879611449704458 V = true)
    (h : Keeps V s0 s) : Keeps V s0 (genCheck s) := by
  refine h.step hV ?_
  clear h hV
  have h : Keeps 879611449704458 s s := .refl _ _
  unfold genCheck
  repeat' first
    | with_reducible assumption
    | decide
    | with_reducible refine Keeps.ite ?_ (fun _ => ?_)
    | with_reducible refine State.modFn_keeps ?_ ?_
    | with_reducible refine dmaRead_keeps ?_ ?_
    | with_reducible refine Keeps.foldl _ (fun _ _ _ => ?_) ?_

theorem nodeFrame_keeps {V : Nat} {key : Nat} {s0 s : State} (hV : subMask 1020350014621050 V = true)
    (h : Keeps V s0 s) : Keeps V s0 (nodeFrame s key) := by
  refine h.step hV ?_
  clear h hV
  have h : Keeps 1020350014621050 s s := .refl _ _
  unfold nodeFrame
  repeat' first
    | with_reducible assumption
    | decide
    | with_reducible refine Keeps.ite ?_ (fun _ => ?_)
    | with_reducible refine State.modNode_keeps ?_ ?_
    | with_reducible refine changeLease_keeps ?_ ?_
    | with_reducible refine emitMgr_keeps ?_ ?_
    | with_reducible refine freePoints_keeps ?_ ?_
    | with_reducible refine hostile_keeps ?_ ?_
    | with_reducible refine leaseRead_keeps ?_ ?_
    | with_reducible refine lookRead_keeps ?_ ?_
    | with_reducible refine Keeps.foldl _ (fun _ _ _ => ?_) ?_
    | with_reducible refine Keeps.foldl_fst _ (fun _ _ _ => ?_) ?_
    | dsimp only
    | split

theorem treeFrame_keeps {V : Nat} {s0 s : State} (hV : subMask 1020350014621050 V = true)
    (h : Keeps V s0 s) : Keeps V s0 (treeFrame s) := by
  refine h.step hV ?_
  clear h hV
  have h : Keeps 1020350014621050 s s := .refl _ _
  unfold treeFrame
  repeat' first
    | with_reducible assumption
    | decide
    | with_reducible refine Keeps.ite ?_ (fun _ => ?_)
    | with_reducible refine genCheck_keeps ?_ ?_
    | with_reducible refine nodeFrame_keeps ?_ ?_
    | with_reducible refine Keeps.foldl _ (fun _ _ _ => ?_) ?_

theorem frameBoundary_keeps {V : Nat} {s0 s : State} (hV : subMask 1029146107674619 V = true)
    (h : Keeps V s0 s) : Keeps V s0 (frameBoundary s) := by
  refine h.step hV ?_
  clear h hV
  have h : Keeps 1029146107674619 s s := .refl _ _
  unfold frameBoundary
  repeat' first
    | with_reducible assumption
    | decide
    | with_reducible refine Keeps.ite ?_ (fun _ => ?_)
    | with_reducible refine State.modTime_keeps ?_ ?_
    | with_reducible refine capture_keeps ?_ ?_
    | with_reducible refine commitOp_keeps ?_ ?_
    | with_reducible refine dryBoundary_keeps ?_ ?_
    | with_reducible refine fnFrame_keeps ?_ ?_
    | with_reducible refine frameStart_keeps ?_ ?_
    | with_reducible refine planFrame_keeps ?_ ?_
    | with_reducible refine resumePorts_keeps ?_ ?_
    | with_reducible refine settleResets_keeps ?_ ?_
    | with_reducible refine standbyBoundary_keeps ?_ ?_
    | with_reducible refine treeFrame_keeps ?_ ?_
    | with_reducible refine Keeps.foldl _ (fun _ _ _ => ?_) ?_

theorem execFrameBoundary_keeps (s t : State) (e : execFrameBoundary s = .next t) :
    Keeps 1029146107674619 s t := by
  have h : Keeps 1029146107674619 s s := .refl _ _
  unfold execFrameBoundary at e
  cases e
  repeat' first
    | with_reducible assumption
    | decide
    | with_reducible refine Keeps.ite ?_ (fun _ => ?_)
    | with_reducible refine frameBoundary_keeps ?_ ?_

theorem freezeCommit_keeps {V : Nat} {t0 : Nat} {s0 s : State} (hV : subMask 2147483656 V = true)
    (h : Keeps V s0 s) : Keeps V s0 (freezeCommit t0 s) := by
  refine h.step hV ?_
  clear h hV
  have h : Keeps 2147483656 s s := .refl _ _
  unfold freezeCommit
  repeat' first
    | with_reducible assumption
    | decide
    | with_reducible refine Keeps.ite ?_ (fun _ => ?_)
    | with_reducible refine State.modFn_keeps ?_ ?_
    | with_reducible refine commitHandle_keeps ?_ ?_
    | with_reducible refine wakeTask_keeps ?_ ?_
    | with_reducible refine Keeps.foldl _ (fun _ _ _ => ?_) ?_
    | with_reducible refine Keeps.foldl_fst _ (fun _ _ _ => ?_) ?_
    | dsimp only
    | split

theorem execFreezeDrainComplete_keeps (t0 : Nat) (s t : State) (e : execFreezeDrainComplete t0 s = .next t) :
    Keeps 2147483656 s t := by
  have h : Keeps 2147483656 s s := .refl _ _
  unfold execFreezeDrainComplete at e
  cases e
  repeat' first
    | with_reducible assumption
    | decide
    | with_reducible refine Keeps.ite ?_ (fun _ => ?_)
    | with_reducible refine freezeCommit_keeps ?_ ?_

theorem freezeTimeout_keeps {V : Nat} {t0 : Nat} {s0 s : State} (hV : subMask 879611550499018 V = true)
    (h : Keeps V s0 s) : Keeps V s0 (freezeTimeout t0 s) := by
  refine h.step hV ?_
  clear h hV
  have h : Keeps 879611550499018 s s := .refl _ _
  unfold freezeTimeout
  repeat' first
    | with_reducible assumption
    | decide
    | with_reducible refine Keeps.ite ?_ (fun _ => ?_)
    | with_reducible refine abortOp_keeps ?_ ?_
    | with_reducible refine bulkForce_keeps ?_ ?_
    | with_reducible refine freezeCommit_keeps ?_ ?_
    | with_reducible refine Keeps.foldl _ (fun _ _ _ => ?_) ?_

theorem execFreezeTimeout_keeps (t0 : Nat) (s t : State) (e : execFreezeTimeout t0 s = .next t) :
    Keeps 879611550499018 s t := by
  have h : Keeps 879611550499018 s s := .refl _ _
  unfold execFreezeTimeout at e
  cases e
  repeat' first
    | with_reducible assumption
    | decide
    | with_reducible refine Keeps.ite ?_ (fun _ => ?_)
    | with_reducible refine freezeTimeout_keeps ?_ ?_

theorem startLong_keeps {V : Nat} {f : Nat} {e0 : Entry} {op : LongOp} {ready : Bool} {recs : List ListRec} {k : Nat → State → State} {s0 s : State} (hV : subMask 949980193882122 V = true)
    (hk : ∀ (x0 : Nat) (t : State), Keeps V s0 t → Keeps V s0 (k x0 t)) (h : Keeps V s0 s) :
    Keeps V s0 (startLong f e0 op ready recs k s) := by
  unfold startLong
  repeat' first
    | with_reducible assumption
    | exact subMask_trans (by decide) hV
    | with_reducible refine Keeps.ite ?_ (fun _ => ?_)
    | with_reducible refine State.modHandle_keeps ?_ ?_
    | with_reducible refine finish_keeps ?_ ?_
    | with_reducible refine newHandle_keeps ?_ ?_ (by assumption)
    | with_reducible refine Keeps.foldl _ (fun _ _ _ => ?_) ?_
    | with_reducible refine Keeps.foldl_fst _ (fun _ _ _ => ?_) ?_
    | dsimp only
    | split
    | (with_reducible refine hk _ _ ?_)

theorem fwActivate_keeps {V : Nat} {motion : BitVec 8} {holdup : BitVec 8} {vin : Option (BitVec 16)} {f : Nat} {x : Entry} {s0 s : State} (hV : subMask 949980227436554 V = true)
    (h : Keeps V s0 s) : Keeps V s0 (fwActivate motion holdup vin f x s) := by
  refine h.step hV ?_
  clear h hV
  have h : Keeps 949980227436554 s s := .refl _ _
  unfold fwActivate
  repeat' first
    | with_reducible assumption
    | decide
    | with_reducible refine Keeps.ite ?_ (fun _ => ?_)
    | with_reducible refine State.modFw_keeps ?_ ?_
    | with_reducible refine finish_keeps ?_ ?_
    | with_reducible refine startLong_keeps ?_ (fun _ _ _ => ?_) ?_
    | with_reducible refine startWaiting_keeps ?_ ?_
    | with_reducible refine Keeps.foldl _ (fun _ _ _ => ?_) ?_
    | with_reducible refine Keeps.foldl_fst _ (fun _ _ _ => ?_) ?_
    | dsimp only
    | split

theorem execFwActivate_keeps (f : Nat) (e0 : Nat) (motion : BitVec 8) (holdup : BitVec 8) (vin : Option (BitVec 16)) (s t : State) (e : execFwActivate f e0 motion holdup vin s = .next t) :
    Keeps 949980227436554 s t := by
  have h : Keeps 949980227436554 s s := .refl _ _
  unfold execFwActivate at e
  cases e
  repeat' first
    | with_reducible assumption
    | decide
    | with_reducible refine Keeps.ite ?_ (fun _ => ?_)
    | with_reducible refine cmd_keeps ?_ (fun _ _ _ => ?_) ?_
    | with_reducible refine fwActivate_keeps ?_ ?_

theorem execFwChunk_keeps (f : Nat) (e0 : Nat) (s t : State) (e : execFwChunk f e0 s = .next t) :
    Keeps 879611449704458 s t := by
  have h : Keeps 879611449704458 s s := .refl _ _
  unfold execFwChunk at e
  cases e
  repeat' first
    | with_reducible assumption
    | decide
    | with_reducible refine Keeps.ite ?_ (fun _ => ?_)
    | with_reducible refine cmd_keeps ?_ (fun _ _ _ => ?_) ?_
    | with_reducible refine readStruct_keeps ?_ ?_

theorem rollbackDue_keeps {V : Nat} {reason : Nat} {s0 s : State} (hV : subMask 33554432 V = true)
    (h : Keeps V s0 s) : Keeps V s0 (rollbackDue reason s) := by
  refine h.step hV ?_
  clear h hV
  have h : Keeps 33554432 s s := .refl _ _
  unfold rollbackDue
  repeat' first
    | with_reducible assumption
    | decide
    | with_reducible refine Keeps.ite ?_ (fun _ => ?_)
    | with_reducible refine State.modFw_keeps ?_ ?_

theorem fwConfirm_keeps {V : Nat} {f : Nat} {x : Entry} {s0 s : State} (hV : subMask 879611483258890 V = true)
    (h : Keeps V s0 s) : Keeps V s0 (fwConfirm f x s) := by
  refine h.step hV ?_
  clear h hV
  have h : Keeps 879611483258890 s s := .refl _ _
  unfold fwConfirm
  repeat' first
    | with_reducible assumption
    | decide
    | with_reducible refine Keeps.ite ?_ (fun _ => ?_)
    | with_reducible refine State.modFw_keeps ?_ ?_
    | with_reducible refine confirm_keeps ?_ ?_
    | with_reducible refine endRejects_keeps ?_ ?_
    | with_reducible refine finish_keeps ?_ ?_
    | with_reducible refine rollbackDue_keeps ?_ ?_

theorem execFwConfirm_keeps (f : Nat) (e0 : Nat) (s t : State) (e : execFwConfirm f e0 s = .next t) :
    Keeps 879611483258890 s t := by
  have h : Keeps 879611483258890 s s := .refl _ _
  unfold execFwConfirm at e
  cases e
  repeat' first
    | with_reducible assumption
    | decide
    | with_reducible refine Keeps.ite ?_ (fun _ => ?_)
    | with_reducible refine cmd_keeps ?_ (fun _ _ _ => ?_) ?_
    | with_reducible refine fwConfirm_keeps ?_ ?_

theorem execFwSession_keeps (f : Nat) (e0 : Nat) (s t : State) (e : execFwSession f e0 s = .next t) :
    Keeps 1020348971614218 s t := by
  have h : Keeps 1020348971614218 s s := .refl _ _
  unfold execFwSession at e
  cases e
  repeat' first
    | with_reducible assumption
    | decide
    | with_reducible refine Keeps.ite ?_ (fun _ => ?_)
    | with_reducible refine cmd_keeps ?_ (fun _ _ _ => ?_) ?_
    | with_reducible refine fwSession_keeps ?_ ?_

theorem rxDropped_keeps {V : Nat} {s0 s : State} (hV : subMask 2 V = true)
    (h : Keeps V s0 s) : Keeps V s0 (rxDropped s) := by
  refine h.step hV ?_
  clear h hV
  have h : Keeps 2 s s := .refl _ _
  unfold rxDropped
  repeat' first
    | with_reducible assumption
    | decide
    | with_reducible refine Keeps.ite ?_ (fun _ => ?_)
    | with_reducible refine countReg_keeps ?_ ?_

theorem rxServed_keeps {V : Nat} {s0 s : State} (hV : subMask 2 V = true)
    (h : Keeps V s0 s) : Keeps V s0 (rxServed s) := by
  refine h.step hV ?_
  clear h hV
  have h : Keeps 2 s s := .refl _ _
  unfold rxServed
  repeat' first
    | with_reducible assumption
    | decide
    | with_reducible refine Keeps.ite ?_ (fun _ => ?_)
    | with_reducible refine countReg_keeps ?_ ?_

theorem udpDrop_keeps {V : Nat} {s0 s : State} (hV : subMask 2 V = true)
    (h : Keeps V s0 s) : Keeps V s0 (udpDrop s) := by
  refine h.step hV ?_
  clear h hV
  have h : Keeps 2 s s := .refl _ _
  unfold udpDrop
  repeat' first
    | with_reducible assumption
    | decide
    | with_reducible refine Keeps.ite ?_ (fun _ => ?_)
    | with_reducible refine countReg_keeps ?_ ?_

theorem udpQuery_keeps {V : Nat} {src : Nat} {d : List Byte} {s0 s : State} (hV : subMask 844424997240834 V = true)
    (h : Keeps V s0 s) : Keeps V s0 (udpQuery src d s) := by
  refine h.step hV ?_
  clear h hV
  have h : Keeps 844424997240834 s s := .refl _ _
  unfold udpQuery
  repeat' first
    | with_reducible assumption
    | decide
    | with_reducible refine Keeps.ite ?_ (fun _ => ?_)
    | with_reducible refine mgtSend_keeps ?_ ?_
    | with_reducible refine rxDropped_keeps ?_ ?_
    | with_reducible refine rxServed_keeps ?_ ?_
    | with_reducible refine udpDrop_keeps ?_ ?_
    | with_reducible refine Keeps.foldl _ (fun _ _ _ => ?_) ?_
    | with_reducible refine Keeps.foldl_fst _ (fun _ _ _ => ?_) ?_
    | dsimp only
    | split

theorem execFwUdpQuery_keeps (src : Nat) (d : List Byte) (s t : State) (e : execFwUdpQuery src d s = .next t) :
    Keeps 844424997240834 s t := by
  have h : Keeps 844424997240834 s s := .refl _ _
  unfold execFwUdpQuery at e
  cases e
  repeat' first
    | with_reducible assumption
    | decide
    | with_reducible refine Keeps.ite ?_ (fun _ => ?_)
    | with_reducible refine udpQuery_keeps ?_ ?_

theorem udpSegment_keeps {V : Nat} {src : Nat} {d : List Byte} {s0 s : State} (hV : subMask 879611550367754 V = true)
    (h : Keeps V s0 s) : Keeps V s0 (udpSegment src d s) := by
  refine h.step hV ?_
  clear h hV
  have h : Keeps 879611550367754 s s := .refl _ _
  unfold udpSegment
  repeat' first
    | with_reducible assumption
    | decide
    | with_reducible refine Keeps.ite ?_ (fun _ => ?_)
    | with_reducible refine State.modFw_keeps ?_ ?_
    | with_reducible refine chunkArrives_keeps ?_ ?_
    | with_reducible refine rxDropped_keeps ?_ ?_
    | with_reducible refine rxServed_keeps ?_ ?_
    | with_reducible refine udpDrop_keeps ?_ ?_
    | with_reducible refine Keeps.foldl _ (fun _ _ _ => ?_) ?_
    | with_reducible refine Keeps.foldl_fst _ (fun _ _ _ => ?_) ?_
    | dsimp only
    | split

theorem execFwUdpSegment_keeps (src : Nat) (d : List Byte) (s t : State) (e : execFwUdpSegment src d s = .next t) :
    Keeps 879611550367754 s t := by
  have h : Keeps 879611550367754 s s := .refl _ _
  unfold execFwUdpSegment at e
  cases e
  repeat' first
    | with_reducible assumption
    | decide
    | with_reducible refine Keeps.ite ?_ (fun _ => ?_)
    | with_reducible refine udpSegment_keeps ?_ ?_

theorem fwVerify_keeps {V : Nat} {f : Nat} {x : Entry} {s0 s : State} (hV : subMask 949980227436554 V = true)
    (h : Keeps V s0 s) : Keeps V s0 (fwVerify f x s) := by
  refine h.step hV ?_
  clear h hV
  have h : Keeps 949980227436554 s s := .refl _ _
  unfold fwVerify
  repeat' first
    | with_reducible assumption
    | decide
    | with_reducible refine Keeps.ite ?_ (fun _ => ?_)
    | with_reducible refine State.modFw_keeps ?_ ?_
    | with_reducible refine finish_keeps ?_ ?_
    | with_reducible refine startLong_keeps ?_ (fun _ _ _ => ?_) ?_
    | with_reducible refine Keeps.foldl _ (fun _ _ _ => ?_) ?_
    | with_reducible refine Keeps.foldl_fst _ (fun _ _ _ => ?_) ?_
    | dsimp only
    | split

theorem execFwVerify_keeps (f : Nat) (e0 : Nat) (s t : State) (e : execFwVerify f e0 s = .next t) :
    Keeps 949980227436554 s t := by
  have h : Keeps 949980227436554 s s := .refl _ _
  unfold execFwVerify at e
  cases e
  repeat' first
    | with_reducible assumption
    | decide
    | with_reducible refine Keeps.ite ?_ (fun _ => ?_)
    | with_reducible refine cmd_keeps ?_ (fun _ _ _ => ?_) ?_
    | with_reducible refine fwVerify_keeps ?_ ?_

theorem execGlbCtlReset_keeps (straps : BitVec 4) (flash : Bool) (s t : State) (e : execGlbCtlReset straps flash s = .next t) :
    Keeps 1125899906842623 s t := by
  have h : Keeps 1125899906842623 s s := .refl _ _
  unfold execGlbCtlReset at e
  cases e
  repeat' first
    | with_reducible assumption
    | decide
    | with_reducible refine Keeps.ite ?_ (fun _ => ?_)
    | with_reducible refine glbReset_keeps ?_ ?_
    | with_reducible refine mmio_keeps ?_ (fun _ _ => ?_) ?_

theorem handleCompletion_keeps {V : Nat} {f : Nat} {seq : Nat} {s0 s : State} (hV : subMask 879611449704458 V = true)
    (h : Keeps V s0 s) : Keeps V s0 (handleCompletion f seq s) := by
  refine h.step hV ?_
  clear h hV
  have h : Keeps 879611449704458 s s := .refl _ _
  unfold handleCompletion
  repeat' first
    | with_reducible assumption
    | decide
    | with_reducible refine Keeps.ite ?_ (fun _ => ?_)
    | with_reducible refine flushHandles_keeps ?_ ?_

theorem execHandleCompletion_keeps (f : Nat) (seq : Nat) (s t : State) (e : execHandleCompletion f seq s = .next t) :
    Keeps 879611449704458 s t := by
  have h : Keeps 879611449704458 s s := .refl _ _
  unfold execHandleCompletion at e
  cases e
  repeat' first
    | with_reducible assumption
    | decide
    | with_reducible refine Keeps.ite ?_ (fun _ => ?_)
    | with_reducible refine handleCompletion_keeps ?_ ?_

theorem releaseHeld_keeps {V : Nat} {k : Nat} {f : Nat} {q : Nat} {s0 s : State} (hV : subMask 879611449704458 V = true)
    (h : Keeps V s0 s) : Keeps V s0 (releaseHeld k f q s) := by
  induction k generalizing s with
  | zero =>
    unfold releaseHeld
    exact h
  | succ k ih =>
    unfold releaseHeld
    repeat' first
      | with_reducible assumption
      | exact subMask_trans (by decide) hV
      | with_reducible refine Keeps.ite ?_ (fun _ => ?_)
      | with_reducible refine State.modFn_keeps ?_ ?_
      | with_reducible refine writeCompletion_keeps ?_ ?_
      | with_reducible refine Keeps.foldl _ (fun _ _ _ => ?_) ?_
      | with_reducible refine Keeps.foldl_fst _ (fun _ _ _ => ?_) ?_
      | dsimp only
      | split
      | (with_reducible refine ih ?_)

theorem heldRelease_keeps {V : Nat} {f : Nat} {q : Nat} {s0 s : State} (hV : subMask 879611449704458 V = true)
    (h : Keeps V s0 s) : Keeps V s0 (heldRelease f q s) := by
  refine h.step hV ?_
  clear h hV
  have h : Keeps 879611449704458 s s := .refl _ _
  unfold heldRelease
  repeat' first
    | with_reducible assumption
    | decide
    | with_reducible refine Keeps.ite ?_ (fun _ => ?_)
    | with_reducible refine State.modFn_keeps ?_ ?_
    | with_reducible refine admitFinished_keeps ?_ ?_
    | with_reducible refine releaseHeld_keeps ?_ ?_

theorem execHeldCompletionRelease_keeps (f : Nat) (q : Nat) (s t : State) (e : execHeldCompletionRelease f q s = .next t) :
    Keeps 879611449704458 s t := by
  have h : Keeps 879611449704458 s s := .refl _ _
  unfold execHeldCompletionRelease at e
  cases e
  repeat' first
    | with_reducible assumption
    | decide
    | with_reducible refine Keeps.ite ?_ (fun _ => ?_)
    | with_reducible refine heldRelease_keeps ?_ ?_

theorem flushTlps_keeps {V : Nat} {s0 s : State} (hV : subMask 844424930131968 V = true)
    (h : Keeps V s0 s) : Keeps V s0 (flushTlps s) := by
  refine h.step hV ?_
  clear h hV
  have h : Keeps 844424930131968 s s := .refl _ _
  unfold flushTlps
  repeat' first
    | with_reducible assumption
    | decide
    | with_reducible refine Keeps.ite ?_ (fun _ => ?_)
    | with_reducible refine Keeps.foldl _ (fun _ _ _ => ?_) ?_
    | with_reducible refine Keeps.foldl_fst _ (fun _ _ _ => ?_) ?_
    | dsimp only
    | split
    | with_reducible refine Keeps.set_tlpHeld_wire ?_ ?_ ?_

theorem linkL0_keeps {V : Nat} {s0 s : State} (hV : subMask 895038972231690 V = true)
    (h : Keeps V s0 s) : Keeps V s0 (linkL0 s) := by
  refine h.step hV ?_
  clear h hV
  have h : Keeps 895038972231690 s s := .refl _ _
  unfold linkL0
  repeat' first
    | with_reducible assumption
    | decide
    | with_reducible refine Keeps.ite ?_ (fun _ => ?_)
    | with_reducible refine cancelStandby_keeps ?_ ?_
    | with_reducible refine flushTlps_keeps ?_ ?_
    | with_reducible refine out_keeps ?_ ?_
    | with_reducible refine Keeps.foldl _ (fun _ _ _ => ?_) ?_
    | with_reducible refine Keeps.foldl_fst _ (fun _ _ _ => ?_) ?_
    | dsimp only
    | split
    | with_reducible refine Keeps.set_link ?_ ?_

theorem execHostLinkReachesL0_keeps (s t : State) (e : execHostLinkReachesL0 s = .next t) :
    Keeps 895038972231690 s t := by
  have h : Keeps 895038972231690 s s := .refl _ _
  unfold execHostLinkReachesL0 at e
  cases e
  repeat' first
    | with_reducible assumption
    | decide
    | with_reducible refine Keeps.ite ?_ (fun _ => ?_)
    | with_reducible refine linkL0_keeps ?_ ?_

theorem execHotReset_keeps (straps : BitVec 4) (flash : Bool) (s t : State) (e : execHotReset straps flash s = .next t) :
    Keeps 1125899906842623 s t := by
  have h : Keeps 1125899906842623 s s := .refl _ _
  unfold execHotReset at e
  cases e
  repeat' first
    | with_reducible assumption
    | decide
    | with_reducible refine Keeps.ite ?_ (fun _ => ?_)
    | with_reducible refine bootStart_keeps ?_ ?_
    | with_reducible refine packageReset_keeps ?_ ?_

theorem hubPoll_keeps {V : Nat} {g : Nat} {s0 s : State} (hV : subMask 985164565970960 V = true)
    (h : Keeps V s0 s) : Keeps V s0 (hubPoll g s) := by
  refine h.step hV ?_
  clear h hV
  have h : Keeps 985164565970960 s s := .refl _ _
  unfold hubPoll
  repeat' first
    | with_reducible assumption
    | decide
    | with_reducible refine Keeps.ite ?_ (fun _ => ?_)
    | with_reducible refine State.modPort_keeps ?_ ?_
    | with_reducible refine engineWork_keeps ?_ ?_
    | with_reducible refine issueGrant_keeps ?_ ?_
    | with_reducible refine Keeps.foldl _ (fun _ _ _ => ?_) ?_
    | with_reducible refine Keeps.foldl_fst _ (fun _ _ _ => ?_) ?_
    | dsimp only
    | split

theorem execHubPoll_keeps (g : Nat) (s t : State) (e : execHubPoll g s = .next t) :
    Keeps 985164565970960 s t := by
  have h : Keeps 985164565970960 s s := .refl _ _
  unfold execHubPoll at e
  cases e
  repeat' first
    | with_reducible assumption
    | decide
    | with_reducible refine Keeps.ite ?_ (fun _ => ?_)
    | with_reducible refine hubPoll_keeps ?_ ?_

theorem imageSet_keeps {V : Nat} {f : Nat} {x : Entry} {s0 s : State} (hV : subMask 949980193882122 V = true)
    (h : Keeps V s0 s) : Keeps V s0 (imageSet f x s) := by
  refine h.step hV ?_
  clear h hV
  have h : Keeps 949980193882122 s s := .refl _ _
  unfold imageSet
  repeat' first
    | with_reducible assumption
    | decide
    | with_reducible refine Keeps.ite ?_ (fun _ => ?_)
    | with_reducible refine dmaRead_keeps ?_ ?_
    | with_reducible refine failHandle_keeps ?_ ?_
    | with_reducible refine startLong_keeps ?_ (fun _ _ _ => ?_) ?_

theorem execImageSet_keeps (f : Nat) (e0 : Nat) (s t : State) (e : execImageSet f e0 s = .next t) :
    Keeps 949980193882122 s t := by
  have h : Keeps 949980193882122 s s := .refl _ _
  unfold execImageSet at e
  cases e
  repeat' first
    | with_reducible assumption
    | decide
    | with_reducible refine Keeps.ite ?_ (fun _ => ?_)
    | with_reducible refine cmd_keeps ?_ (fun _ _ _ => ?_) ?_
    | with_reducible refine imageSet_keeps ?_ ?_

theorem execImgHoldRelease_keeps (f : Nat) (s t : State) (e : execImgHoldRelease f s = .next t) :
    Keeps 8 s t := by
  have h : Keeps 8 s s := .refl _ _
  unfold execImgHoldRelease at e
  cases e
  repeat' first
    | with_reducible assumption
    | decide
    | with_reducible refine Keeps.ite ?_ (fun _ => ?_)
    | with_reducible refine imgHold_keeps ?_ ?_
    | with_reducible refine mmio_keeps ?_ (fun _ _ => ?_) ?_

theorem execImgHoldTake_keeps (f : Nat) (s t : State) (e : execImgHoldTake f s = .next t) :
    Keeps 8 s t := by
  have h : Keeps 8 s s := .refl _ _
  unfold execImgHoldTake at e
  cases e
  repeat' first
    | with_reducible assumption
    | decide
    | with_reducible refine Keeps.ite ?_ (fun _ => ?_)
    | with_reducible refine imgHold_keeps ?_ ?_
    | with_reducible refine mmio_keeps ?_ (fun _ _ => ?_) ?_

theorem interruptCommit_keeps {V : Nat} {f : Nat} {fast : Bool} {s0 s : State} (hV : subMask 844424930131978 V = true)
    (h : Keeps V s0 s) : Keeps V s0 (interruptCommit f fast s) := by
  refine h.step hV ?_
  clear h hV
  have h : Keeps 844424930131978 s s := .refl _ _
  unfold interruptCommit
  repeat' first
    | with_reducible assumption
    | decide
    | with_reducible refine Keeps.ite ?_ (fun _ => ?_)
    | with_reducible refine State.joinEntry_keeps ?_ ?_
    | with_reducible refine State.modFn_keeps ?_ ?_
    | with_reducible refine State.setReg_keeps ?_ ?_
    | with_reducible refine out_keeps ?_ ?_
    | with_reducible refine Keeps.foldl _ (fun _ _ _ => ?_) ?_
    | with_reducible refine Keeps.foldl_fst _ (fun _ _ _ => ?_) ?_
    | dsimp only
    | split

theorem execInterruptCommit_keeps (f : Nat) (fast : Bool) (s t : State) (e : execInterruptCommit f fast s = .next t) :
    Keeps 844424930131978 s t := by
  have h : Keeps 844424930131978 s s := .refl _ _
  unfold execInterruptCommit at e
  cases e
  repeat' first
    | with_reducible assumption
    | decide
    | with_reducible refine Keeps.ite ?_ (fun _ => ?_)
    | with_reducible refine interruptCommit_keeps ?_ ?_

theorem noteQueue_keeps {V : Nat} {n : Nat} {s0 s : State} (hV : subMask 10 V = true)
    (h : Keeps V s0 s) : Keeps V s0 (noteQueue n s) := by
  refine h.step hV ?_
  clear h hV
  have h : Keeps 10 s s := .refl _ _
  unfold noteQueue
  repeat' first
    | with_reducible assumption
    | decide
    | with_reducible refine Keeps.ite ?_ (fun _ => ?_)
    | with_reducible refine State.setReg_keeps ?_ ?_
    | with_reducible refine setErr_keeps ?_ ?_

theorem interruptEntry_keeps {V : Nat} {f : Nat} {fast : Bool} {s0 s : State} (hV : subMask 1099511627786 V = true)
    (h : Keeps V s0 s) : Keeps V s0 (interruptEntry f fast s) := by
  refine h.step hV ?_
  clear h hV
  have h : Keeps 1099511627786 s s := .refl _ _
  unfold interruptEntry
  repeat' first
    | with_reducible assumption
    | decide
    | with_reducible refine Keeps.ite ?_ (fun _ => ?_)
    | with_reducible refine State.modFn_keeps ?_ ?_
    | with_reducible refine noteQueue_keeps ?_ ?_
    | with_reducible refine Keeps.foldl _ (fun _ _ _ => ?_) ?_
    | with_reducible refine Keeps.foldl_fst _ (fun _ _ _ => ?_) ?_
    | dsimp only
    | split
    | with_reducible refine Keeps.set_stamp ?_ ?_

theorem execInterruptEntry_keeps (f : Nat) (fast : Bool) (s t : State) (e : execInterruptEntry f fast s = .next t) :
    Keeps 1099511627786 s t := by
  have h : Keeps 1099511627786 s s := .refl _ _
  unfold execInterruptEntry at e
  cases e
  repeat' first
    | with_reducible assumption
    | decide
    | with_reducible refine Keeps.ite ?_ (fun _ => ?_)
    | with_reducible refine interruptEntry_keeps ?_ ?_

theorem jtagIr_keeps {V : Nat} {code : Nat} {u : JtagSt → JtagSt} {s0 s : State} (hV : subMask 134217728 V = true)
    (h : Keeps V s0 s) : Keeps V s0 (jtagIr code u s) := by
  refine h.step hV ?_
  clear h hV
  have h : Keeps 134217728 s s := .refl _ _
  unfold jtagIr
  repeat' first
    | with_reducible assumption
    | decide
    | with_reducible refine Keeps.ite ?_ (fun _ => ?_)
    | with_reducible refine State.modJtag_keeps ?_ ?_

theorem execJtagBypass_keeps (code : BitVec 8) (s t : State) (e : execJtagBypass code s = .next t) :
    Keeps 134217728 s t := by
  have h : Keeps 134217728 s s := .refl _ _
  unfold execJtagBypass at e
  cases e
  repeat' first
    | with_reducible assumption
    | decide
    | with_reducible refine Keeps.ite ?_ (fun _ => ?_)
    | with_reducible refine jtagIr_keeps ?_ ?_

theorem execJtagClamp_keeps (s t : State) (e : execJtagClamp s = .next t) :
    Keeps 134217728 s t := by
  have h : Keeps 134217728 s s := .refl _ _
  unfold execJtagClamp at e
  cases e
  repeat' first
    | with_reducible assumption
    | decide
    | with_reducible refine Keeps.ite ?_ (fun _ => ?_)
    | with_reducible refine jtagIr_keeps ?_ ?_

theorem execJtagExtest_keeps (v : Nat) (s t : State) (e : execJtagExtest v s = .next t) :
    Keeps 134217728 s t := by
  have h : Keeps 134217728 s s := .refl _ _
  unfold execJtagExtest at e
  cases e
  repeat' first
    | with_reducible assumption
    | decide
    | with_reducible refine Keeps.ite ?_ (fun _ => ?_)
    | with_reducible refine jtagIr_keeps ?_ ?_

theorem execJtagHighz_keeps (s t : State) (e : execJtagHighz s = .next t) :
    Keeps 134217728 s t := by
  have h : Keeps 134217728 s s := .refl _ _
  unfold execJtagHighz at e
  cases e
  repeat' first
    | with_reducible assumption
    | decide
    | with_reducible refine Keeps.ite ?_ (fun _ => ?_)
    | with_reducible refine jtagIr_keeps ?_ ?_

theorem execJtagIdcode_keeps (s t : State) (e : execJtagIdcode s = .next t) :
    Keeps 844425064349696 s t := by
  have h : Keeps 844425064349696 s s := .refl _ _
  unfold execJtagIdcode at e
  cases e
  repeat' first
    | with_reducible assumption
    | decide
    | with_reducible refine Keeps.ite ?_ (fun _ => ?_)
    | with_reducible refine jtagIr_keeps ?_ ?_
    | with_reducible refine out_keeps ?_ ?_

theorem execJtagSamplePreload_keeps (v : Nat) (s t : State) (e : execJtagSamplePreload v s = .next t) :
    Keeps 134217728 s t := by
  have h : Keeps 134217728 s s := .refl _ _
  unfold execJtagSamplePreload at e
  cases e
  repeat' first
    | with_reducible assumption
    | decide
    | with_reducible refine Keeps.ite ?_ (fun _ => ?_)
    | with_reducible refine jtagIr_keeps ?_ ?_

theorem l12Entry_keeps {V : Nat} {s0 s : State} (hV : subMask 844474590691329 V = true)
    (h : Keeps V s0 s) : Keeps V s0 (l12Entry s) := by
  refine h.step hV ?_
  clear h hV
  have h : Keeps 844474590691329 s s := .refl _ _
  unfold l12Entry
  repeat' first
    | with_reducible assumption
    | decide
    | with_reducible refine Keeps.ite ?_ (fun _ => ?_)
    | with_reducible refine State.modPins_keeps ?_ ?_
    | with_reducible refine State.modPwr_keeps ?_ ?_
    | with_reducible refine State.modTime_keeps ?_ ?_
    | with_reducible refine isolate_keeps ?_ ?_
    | with_reducible refine Keeps.foldl _ (fun _ _ _ => ?_) ?_
    | with_reducible refine Keeps.foldl_fst _ (fun _ _ _ => ?_) ?_
    | dsimp only
    | split
    | with_reducible refine Keeps.set_link ?_ ?_

theorem execL12Entry_keeps (s t : State) (e : execL12Entry s = .next t) :
    Keeps 844474590691329 s t := by
  have h : Keeps 844474590691329 s s := .refl _ _
  unfold execL12Entry at e
  cases e
  repeat' first
    | with_reducible assumption
    | decide
    | with_reducible refine Keeps.ite ?_ (fun _ => ?_)
    | with_reducible refine l12Entry_keeps ?_ ?_

theorem l12Exit_keeps {V : Nat} {s0 s : State} (hV : subMask 895039240667146 V = true)
    (h : Keeps V s0 s) : Keeps V s0 (l12Exit s) := by
  refine h.step hV ?_
  clear h hV
  have h : Keeps 895039240667146 s s := .refl _ _
  unfold l12Exit
  repeat' first
    | with_reducible assumption
    | decide
    | with_reducible refine Keeps.ite ?_ (fun _ => ?_)
    | with_reducible refine cancelStandby_keeps ?_ ?_
    | with_reducible refine wakeSource_keeps ?_ ?_
    | with_reducible refine Keeps.foldl _ (fun _ _ _ => ?_) ?_
    | with_reducible refine Keeps.foldl_fst _ (fun _ _ _ => ?_) ?_
    | dsimp only
    | split
    | with_reducible refine Keeps.set_link ?_ ?_

theorem execL12Exit_keeps (s t : State) (e : execL12Exit s = .next t) :
    Keeps 895039240667146 s t := by
  have h : Keeps 895039240667146 s s := .refl _ _
  unfold execL12Exit at e
  cases e
  repeat' first
    | with_reducible assumption
    | decide
    | with_reducible refine Keeps.ite ?_ (fun _ => ?_)
    | with_reducible refine l12Exit_keeps ?_ ?_

theorem leaseTimeout_keeps {V : Nat} {g : Nat} {n : Nat} {s0 s : State} (hV : subMask 1020350011999546 V = true)
    (h : Keeps V s0 s) : Keeps V s0 (leaseTimeout g n s) := by
  refine h.step hV ?_
  clear h hV
  have h : Keeps 1020350011999546 s s := .refl _ _
  unfold leaseTimeout
  repeat' first
    | with_reducible assumption
    | decide
    | with_reducible refine Keeps.ite ?_ (fun _ => ?_)
    | with_reducible refine leaseGiven_keeps ?_ ?_
    | with_reducible refine prospect_keeps ?_ ?_

theorem execLeaseResolveTimeout_keeps (g : Nat) (n : Nat) (s t : State) (e : execLeaseResolveTimeout g n s = .next t) :
    Keeps 1020350011999546 s t := by
  have h : Keeps 1020350011999546 s s := .refl _ _
  unfold execLeaseResolveTimeout at e
  cases e
  repeat' first
    | with_reducible assumption
    | decide
    | with_reducible refine Keeps.ite ?_ (fun _ => ?_)
    | with_reducible refine leaseTimeout_keeps ?_ ?_

theorem leaseSet_keeps {V : Nat} {f : Nat} {x : Entry} {s0 s : State} (hV : subMask 949980193882122 V = true)
    (h : Keeps V s0 s) : Keeps V s0 (leaseSet f x s) := by
  refine h.step hV ?_
  clear h hV
  have h : Keeps 949980193882122 s s := .refl _ _
  unfold leaseSet
  repeat' first
    | with_reducible assumption
    | decide
    | with_reducible refine Keeps.ite ?_ (fun _ => ?_)
    | with_reducible refine onNode_keeps ?_ (fun _ _ _ _ => ?_) ?_
    | with_reducible refine startLong_keeps ?_ (fun _ _ _ => ?_) ?_

theorem execLeaseSet_keeps (f : Nat) (e0 : Nat) (s t : State) (e : execLeaseSet f e0 s = .next t) :
    Keeps 949980193882122 s t := by
  have h : Keeps 949980193882122 s s := .refl _ _
  unfold execLeaseSet at e
  cases e
  repeat' first
    | with_reducible assumption
    | decide
    | with_reducible refine Keeps.ite ?_ (fun _ => ?_)
    | with_reducible refine cmd_keeps ?_ (fun _ _ _ => ?_) ?_
    | with_reducible refine leaseSet_keeps ?_ ?_

theorem execLeasepolicyReadDone_keeps (g : Nat) (n : Nat) (err : Nat) (d : List Byte) (s t : State) (e : execLeasepolicyReadDone g n err d s = .next t) :
    Keeps 1020350011999546 s t := by
  have h : Keeps 1020350011999546 s s := .refl _ _
  unfold execLeasepolicyReadDone at e
  cases e
  repeat' first
    | with_reducible assumption
    | decide
    | with_reducible refine Keeps.ite ?_ (fun _ => ?_)
    | with_reducible refine leaseReadDone_keeps ?_ ?_

theorem execLeasepolicySet_keeps (f : Nat) (e0 : Nat) (s t : State) (e : execLeasepolicySet f e0 s = .next t) :
    Keeps 879611449704458 s t := by
  have h : Keeps 879611449704458 s s := .refl _ _
  unfold execLeasepolicySet at e
  cases e
  repeat' first
    | with_reducible assumption
    | decide
    | with_reducible refine Keeps.ite ?_ (fun _ => ?_)
    | with_reducible refine cmd_keeps ?_ (fun _ _ _ => ?_) ?_
    | with_reducible refine readStruct_keeps ?_ ?_

theorem levelStepDone_keeps {V : Nat} {t0 : Nat} {s0 s : State} (hV : subMask 844427077615618 V = true)
    (h : Keeps V s0 s) : Keeps V s0 (levelStepDone t0 s) := by
  refine h.step hV ?_
  clear h hV
  have h : Keeps 844427077615618 s s := .refl _ _
  unfold levelStepDone
  repeat' first
    | with_reducible assumption
    | decide
    | with_reducible refine Keeps.ite ?_ (fun _ => ?_)
    | with_reducible refine State.modPwr_keeps ?_ ?_
    | with_reducible refine noteAvs_keeps ?_ ?_
    | with_reducible refine sendLevel_keeps ?_ ?_
    | with_reducible refine startLevel_keeps ?_ ?_
    | with_reducible refine Keeps.foldl _ (fun _ _ _ => ?_) ?_
    | with_reducible refine Keeps.foldl_fst _ (fun _ _ _ => ?_) ?_
    | dsimp only
    | split

theorem execLevelStepDone_keeps (t0 : Nat) (s t : State) (e : execLevelStepDone t0 s = .next t) :
    Keeps 844427077615618 s t := by
  have h : Keeps 844427077615618 s s := .refl _ _
  unfold execLevelStepDone at e
  cases e
  repeat' first
    | with_reducible assumption
    | decide
    | with_reducible refine Keeps.ite ?_ (fun _ => ?_)
    | with_reducible refine levelStepDone_keeps ?_ ?_

theorem execLevelWrite_keeps (t0 : Nat) (v : W32) (s t : State) (e : execLevelWrite t0 v s = .next t) :
    Keeps 895004880928778 s t := by
  have h : Keeps 895004880928778 s s := .refl _ _
  unfold execLevelWrite at e
  cases e
  repeat' first
    | with_reducible assumption
    | decide
    | with_reducible refine Keeps.ite ?_ (fun _ => ?_)
    | with_reducible refine pmtCtlWrite_keeps ?_ ?_
    | with_reducible refine tileMmio_keeps ?_ (fun _ _ => ?_) ?_

theorem onPort_keeps {V : Nat} {f : Nat} {x : Entry} {k : Nat → State → State} {s0 s : State} (hV : subMask 879611449704458 V = true)
    (hk : ∀ (x0 : Nat) (t : State), Keeps V s0 t → Keeps V s0 (k x0 t)) (h : Keeps V s0 s) :
    Keeps V s0 (onPort f x k s) := by
  unfold onPort
  repeat' first
    | with_reducible assumption
    | exact subMask_trans (by decide) hV
    | with_reducible refine Keeps.ite ?_ (fun _ => ?_)
    | with_reducible refine finish_keeps ?_ ?_
    | with_reducible refine Keeps.foldl _ (fun _ _ _ => ?_) ?_
    | with_reducible refine Keeps.foldl_fst _ (fun _ _ _ => ?_) ?_
    | dsimp only
    | split
    | (with_reducible refine hk _ _ ?_)

theorem listAttach_keeps {V : Nat} {f : Nat} {x : Entry} {s0 s : State} (hV : subMask 879611449704586 V = true)
    (h : Keeps V s0 s) : Keeps V s0 (listAttach f x s) := by
  refine h.step hV ?_
  clear h hV
  have h : Keeps 879611449704586 s s := .refl _ _
  unfold listAttach
  repeat' first
    | with_reducible assumption
    | decide
    | with_reducible refine Keeps.ite ?_ (fun _ => ?_)
    | with_reducible refine State.modList_keeps ?_ ?_
    | with_reducible refine cancelFetch_keeps ?_ ?_
    | with_reducible refine finish_keeps ?_ ?_
    | with_reducible refine onPort_keeps ?_ (fun _ _ _ => ?_) ?_

theorem execListAttach_keeps (f : Nat) (e0 : Nat) (s t : State) (e : execListAttach f e0 s = .next t) :
    Keeps 879611449704586 s t := by
  have h : Keeps 879611449704586 s s := .refl _ _
  unfold execListAttach at e
  cases e
  repeat' first
    | with_reducible assumption
    | decide
    | with_reducible refine Keeps.ite ?_ (fun _ => ?_)
    | with_reducible refine cmd_keeps ?_ (fun _ _ _ => ?_) ?_
    | with_reducible refine listAttach_keeps ?_ ?_

theorem execListDetach_keeps (f : Nat) (e0 : Nat) (s t : State) (e : execListDetach f e0 s = .next t) :
    Keeps 879611449704650 s t := by
  have h : Keeps 879611449704650 s s := .refl _ _
  unfold execListDetach at e
  cases e
  repeat' first
    | with_reducible assumption
    | decide
    | with_reducible refine Keeps.ite ?_ (fun _ => ?_)
    | with_reducible refine cmd_keeps ?_ (fun _ _ _ => ?_) ?_
    | with_reducible refine detachList_keeps ?_ ?_
    | with_reducible refine finish_keeps ?_ ?_
    | with_reducible refine onPort_keeps ?_ (fun _ _ _ => ?_) ?_

theorem listReads_keeps {V : Nat} {f : Nat} {l : List (Nat × Nat × Nat)} {s0 s : State} (hV : subMask 879611449704458 V = true)
    (h : Keeps V s0 s) : Keeps V s0 (listReads f l s).1 := by
  induction l generalizing s with
  | nil => exact h
  | cons x r ih =>
    obtain ⟨a, n, i⟩ := x
    unfold listReads
    dsimp only
    split
    · exact ih h
    · split
      · exact ih (dmaRead_keeps (subMask_trans (by decide) hV) h)
      · exact dmaRead_keeps (subMask_trans (by decide) hV) h

theorem listFetchDone_keeps {V : Nat} {f : Nat} {g : Nat} {err : Nat} {seg : Nat} {idx : Nat} {heads : List (List Byte)} {bodies : List (List Byte)} {pmap : List Byte} {gen2 : Nat} {s0 s : State} (hV : subMask 879611449704650 V = true)
    (h : Keeps V s0 s) : Keeps V s0 (listFetchDone f g err seg idx heads bodies pmap gen2 s) := by
  refine h.step hV ?_
  clear h hV
  have h : Keeps 879611449704650 s s := .refl _ _
  unfold listFetchDone
  repeat' first
    | with_reducible assumption
    | decide
    | with_reducible refine Keeps.ite ?_ (fun _ => ?_)
    | with_reducible refine State.modFn_keeps ?_ ?_
    | with_reducible refine State.modList_keeps ?_ ?_
    | with_reducible refine acceptFetched_keeps ?_ ?_
    | with_reducible refine dmaRefused_keeps ?_ ?_
    | with_reducible refine engineWork_keeps ?_ ?_
    | with_reducible refine listReads_keeps ?_ ?_
    | with_reducible refine listStop_keeps ?_ ?_
    | with_reducible refine Keeps.foldl _ (fun _ _ _ => ?_) ?_
    | with_reducible refine Keeps.foldl_fst _ (fun _ _ _ => ?_) ?_
    | dsimp only
    | split

theorem execListFetchDone_keeps (f : Nat) (g : Nat) (err : Nat) (seg : Nat) (idx : Nat) (heads : List (List Byte)) (bodies : List (List Byte)) (pmap : List Byte) (gen2 : Nat) (s t : State) (e : execListFetchDone f g err seg idx heads bodies pmap gen2 s = .next t) :
    Keeps 879611449704650 s t := by
  have h : Keeps 879611449704650 s s := .refl _ _
  unfold execListFetchDone at e
  cases e
  repeat' first
    | with_reducible assumption
    | decide
    | with_reducible refine Keeps.ite ?_ (fun _ => ?_)
    | with_reducible refine listFetchDone_keeps ?_ ?_

theorem listHeaderDone_keeps {V : Nat} {f : Nat} {g : Nat} {err : Nat} {d : List Byte} {s0 s : State} (hV : subMask 949980193882314 V = true)
    (h : Keeps V s0 s) : Keeps V s0 (listHeaderDone f g err d s) := by
  refine h.step hV ?_
  clear h hV
  have h : Keeps 949980193882314 s s := .refl _ _
  unfold listHeaderDone
  repeat' first
    | with_reducible assumption
    | decide
    | with_reducible refine Keeps.ite ?_ (fun _ => ?_)
    | with_reducible refine State.modList_keeps ?_ ?_
    | with_reducible refine acceptEmpty_keeps ?_ ?_
    | with_reducible refine engineWork_keeps ?_ ?_
    | with_reducible refine listReads_keeps ?_ ?_
    | with_reducible refine listStop_keeps ?_ ?_
    | with_reducible refine newHandle_keeps ?_ ?_ (by assumption)
    | with_reducible refine Keeps.foldl _ (fun _ _ _ => ?_) ?_
    | with_reducible refine Keeps.foldl_fst _ (fun _ _ _ => ?_) ?_
    | dsimp only
    | split

theorem execListHeaderReadDone_keeps (f : Nat) (g : Nat) (err : Nat) (d : List Byte) (s t : State) (e : execListHeaderReadDone f g err d s = .next t) :
    Keeps 949980193882314 s t := by
  have h : Keeps 949980193882314 s s := .refl _ _
  unfold execListHeaderReadDone at e
  cases e
  repeat' first
    | with_reducible assumption
    | decide
    | with_reducible refine Keeps.ite ?_ (fun _ => ?_)
    | with_reducible refine listHeaderDone_keeps ?_ ?_

theorem lockExpiry_keeps {V : Nat} {g : Nat} {n : Nat} {s0 s : State} (hV : subMask 879611449704490 V = true)
    (h : Keeps V s0 s) : Keeps V s0 (lockExpiry g n s) := by
  refine h.step hV ?_
  clear h hV
  have h : Keeps 879611449704490 s s := .refl _ _
  unfold lockExpiry
  repeat' first
    | with_reducible assumption
    | decide
    | with_reducible refine Keeps.ite ?_ (fun _ => ?_)
    | with_reducible refine emit_keeps ?_ ?_
    | with_reducible refine freeLock_keeps ?_ ?_
    | with_reducible refine Keeps.foldl _ (fun _ _ _ => ?_) ?_
    | with_reducible refine Keeps.foldl_fst _ (fun _ _ _ => ?_) ?_
    | dsimp only
    | split

theorem execLockLeaseExpiry_keeps (g : Nat) (n : Nat) (s t : State) (e : execLockLeaseExpiry g n s = .next t) :
    Keeps 879611449704490 s t := by
  have h : Keeps 879611449704490 s s := .refl _ _
  unfold execLockLeaseExpiry at e
  cases e
  repeat' first
    | with_reducible assumption
    | decide
    | with_reducible refine Keeps.ite ?_ (fun _ => ?_)
    | with_reducible refine lockExpiry_keeps ?_ ?_

theorem execMalformedRegisterAccess_keeps (f : Nat) (bar : Nat) (a : Nat) (size : Nat) (write : Bool) (s t : State) (e : execMalformedRegisterAccess f bar a size write s = .next t) :
    Keeps 1125899906842623 s t := by
  have h : Keeps 1125899906842623 s s := .refl _ _
  unfold execMalformedRegisterAccess at e
  cases e
  repeat' first
    | with_reducible assumption
    | decide
    | with_reducible refine Keeps.ite ?_ (fun _ => ?_)
    | with_reducible refine busRead_keeps ?_ ?_
    | with_reducible refine busWrite_keeps ?_ ?_

theorem marginRead_keeps {V : Nat} {g : Nat} {key : Nat} {ws : List Nat} {s0 s : State} (hV : subMask 1020348938059802 V = true)
    (h : Keeps V s0 s) : Keeps V s0 (marginRead g key ws s) := by
  refine h.step hV ?_
  clear h hV
  have h : Keeps 1020348938059802 s s := .refl _ _
  unfold marginRead
  repeat' first
    | with_reducible assumption
    | decide
    | with_reducible refine Keeps.ite ?_ (fun _ => ?_)
    | with_reducible refine marginSeen_keeps ?_ ?_
    | with_reducible refine Keeps.foldl _ (fun _ _ _ => ?_) ?_
    | with_reducible refine Keeps.foldl_fst _ (fun _ _ _ => ?_) ?_
    | dsimp only
    | split

theorem mgmtDone_keeps {V : Nat} {g : Nat} {r : MReq} {ws : List Nat} {s0 s : State} (hV : subMask 1020350014620986 V = true)
    (h : Keeps V s0 s) : Keeps V s0 (mgmtDone g r ws s) := by
  refine h.step hV ?_
  clear h hV
  have h : Keeps 1020350014620986 s s := .refl _ _
  unfold mgmtDone
  repeat' first
    | with_reducible assumption
    | decide
    | with_reducible refine Keeps.ite ?_ (fun _ => ?_)
    | with_reducible refine State.modNode_keeps ?_ ?_
    | with_reducible refine State.modPort_keeps ?_ ?_
    | with_reducible refine admitCheck_keeps ?_ ?_
    | with_reducible refine assign_keeps ?_ ?_
    | with_reducible refine branchStat_keeps ?_ ?_
    | with_reducible refine delaySet_keeps ?_ ?_
    | with_reducible refine marginRead_keeps ?_ ?_
    | with_reducible refine mgmtRead_keeps ?_ ?_
    | with_reducible refine refuse_keeps ?_ ?_
    | with_reducible refine startEnum_keeps ?_ ?_
    | with_reducible refine Keeps.foldl _ (fun _ _ _ => ?_) ?_
    | with_reducible refine Keeps.foldl_fst _ (fun _ _ _ => ?_) ?_
    | dsimp only
    | split

theorem mgmtFailed_keeps {V : Nat} {g : Nat} {r : MReq} {s0 s : State} (hV : subMask 1020350014620986 V = true)
    (h : Keeps V s0 s) : Keeps V s0 (mgmtFailed g r s) := by
  refine h.step hV ?_
  clear h hV
  have h : Keeps 1020350014620986 s s := .refl _ _
  unfold mgmtFailed
  repeat' first
    | with_reducible assumption
    | decide
    | with_reducible refine Keeps.ite ?_ (fun _ => ?_)
    | with_reducible refine State.modNode_keeps ?_ ?_
    | with_reducible refine escalate_keeps ?_ ?_
    | with_reducible refine trainFailed_keeps ?_ ?_
    | with_reducible refine Keeps.foldl _ (fun _ _ _ => ?_) ?_
    | with_reducible refine Keeps.foldl_fst _ (fun _ _ _ => ?_) ?_
    | dsimp only
    | split

theorem mgmtMissing_keeps {V : Nat} {g : Nat} {r : MReq} {s0 s : State} (hV : subMask 1020350014620986 V = true)
    (h : Keeps V s0 s) : Keeps V s0 (mgmtMissing g r s) := by
  refine h.step hV ?_
  clear h hV
  have h : Keeps 1020350014620986 s s := .refl _ _
  unfold mgmtMissing
  repeat' first
    | with_reducible assumption
    | decide
    | with_reducible refine Keeps.ite ?_ (fun _ => ?_)
    | with_reducible refine State.modPort_keeps ?_ ?_
    | with_reducible refine mgmtFailed_keeps ?_ ?_
    | with_reducible refine miss_keeps ?_ ?_
    | with_reducible refine sendReq_keeps ?_ ?_

theorem managementAnswer_keeps {V : Nat} {g : Nat} {m : Nat} {mis : Bool} {blocks : List RxBlock} {s0 s : State} (hV : subMask 1020350014620986 V = true)
    (h : Keeps V s0 s) : Keeps V s0 (managementAnswer g m mis blocks s) := by
  refine h.step hV ?_
  clear h hV
  have h : Keeps 1020350014620986 s s := .refl _ _
  unfold managementAnswer
  repeat' first
    | with_reducible assumption
    | decide
    | with_reducible refine Keeps.ite ?_ (fun _ => ?_)
    | with_reducible refine State.modPort_keeps ?_ ?_
    | with_reducible refine hostile_keeps ?_ ?_
    | with_reducible refine mgmtDone_keeps ?_ ?_
    | with_reducible refine mgmtFailed_keeps ?_ ?_
    | with_reducible refine mgmtMissing_keeps ?_ ?_
    | with_reducible refine receive_keeps ?_ ?_
    | with_reducible refine seeHeader_keeps ?_ ?_
    | with_reducible refine Keeps.foldl _ (fun _ _ _ => ?_) ?_
    | with_reducible refine Keeps.foldl_fst _ (fun _ _ _ => ?_) ?_
    | dsimp only
    | split

theorem execManagementAnswer_keeps (g : Nat) (m : Nat) (mis : Bool) (blocks : List RxBlock) (s t : State) (e : execManagementAnswer g m mis blocks s = .next t) :
    Keeps 1020350014620986 s t := by
  have h : Keeps 1020350014620986 s s := .refl _ _
  unfold execManagementAnswer at e
  cases e
  repeat' first
    | with_reducible assumption
    | decide
    | with_reducible refine Keeps.ite ?_ (fun _ => ?_)
    | with_reducible refine managementAnswer_keeps ?_ ?_

theorem execManagerAccessSleepingTile_keeps (bar : Nat) (a : Nat) (size : Nat) (write : Bool) (v : W64) (part : Bool) (s t : State) (e : execManagerAccessSleepingTile bar a size write v part s = .next t) :
    Keeps 1125899906842623 s t := by
  have h : Keeps 1125899906842623 s s := .refl _ _
  unfold execManagerAccessSleepingTile at e
  cases e
  repeat' first
    | with_reducible assumption
    | decide
    | with_reducible refine Keeps.ite ?_ (fun _ => ?_)
    | with_reducible refine busRead_keeps ?_ ?_
    | with_reducible refine busWrite_keeps ?_ ?_
    | with_reducible refine Keeps.foldl _ (fun _ _ _ => ?_) ?_
    | with_reducible refine Keeps.foldl_fst _ (fun _ _ _ => ?_) ?_
    | dsimp only
    | split

theorem meshEvent_keeps {V : Nat} {x : Nat × Nat × Nat} {up : Bool} {s0 s : State} (hV : subMask 879611449704458 V = true)
    (h : Keeps V s0 s) : Keeps V s0 (meshEvent x up s) := by
  refine h.step hV ?_
  clear h hV
  have h : Keeps 879611449704458 s s := .refl _ _
  unfold meshEvent
  repeat' first
    | with_reducible assumption
    | decide
    | with_reducible refine Keeps.ite ?_ (fun _ => ?_)
    | with_reducible refine emitMgr_keeps ?_ ?_

theorem setMesh_keeps {V : Nat} {b : Nat} {up : Bool} {s0 s : State} (hV : subMask 12884901888 V = true)
    (h : Keeps V s0 s) : Keeps V s0 (setMesh b up s) := by
  refine h.step hV ?_
  clear h hV
  have h : Keeps 12884901888 s s := .refl _ _
  unfold setMesh
  repeat' first
    | with_reducible assumption
    | decide
    | with_reducible refine Keeps.ite ?_ (fun _ => ?_)
    | exact nwf_nmod _ _
    | exact nwf_nput _ _
    | exact nwf_filter _
    | exact fun _ => nwf_nmapAll _
    | exact ascKeys_nput _ _ _
    | exact ascKeys_filter _
    | exact nwf_foldl_nput _ _ _
    | exact memWrite_wf _ _ _
    | exact fun hi => nwf_nput _ _ (nwf_filter _ hi)
    | with_reducible refine Keeps.foldl _ (fun _ _ _ => ?_) ?_
    | with_reducible refine Keeps.foldl_fst _ (fun _ _ _ => ?_) ?_
    | dsimp only
    | split
    | with_reducible refine Keeps.set_mesh_meshFails ?_ ?_ ?_ ?_

theorem meshRetrain_keeps {V : Nat} {b : Nat} {trains : Bool} {s0 s : State} (hV : subMask 879624334606346 V = true)
    (h : Keeps V s0 s) : Keeps V s0 (meshRetrain b trains s) := by
  refine h.step hV ?_
  clear h hV
  have h : Keeps 879624334606346 s s := .refl _ _
  unfold meshRetrain
  repeat' first
    | with_reducible assumption
    | decide
    | with_reducible refine Keeps.ite ?_ (fun _ => ?_)
    | with_reducible refine meshEvent_keeps ?_ ?_
    | with_reducible refine setMesh_keeps ?_ ?_
    | with_reducible refine Keeps.foldl _ (fun _ _ _ => ?_) ?_
    | with_reducible refine Keeps.foldl_fst _ (fun _ _ _ => ?_) ?_
    | dsimp only
    | split

theorem execMeshLinkRetrain_keeps (b : Nat) (trains : Bool) (s t : State) (e : execMeshLinkRetrain b trains s = .next t) :
    Keeps 879624334606346 s t := by
  have h : Keeps 879624334606346 s s := .refl _ _
  unfold execMeshLinkRetrain at e
  cases e
  repeat' first
    | with_reducible assumption
    | decide
    | with_reducible refine Keeps.ite ?_ (fun _ => ?_)
    | with_reducible refine meshRetrain_keeps ?_ ?_

theorem meshTransfer_keeps {V : Nat} {b : Nat} {good : Bool} {s0 s : State} (hV : subMask 1020398095500666 V = true)
    (h : Keeps V s0 s) : Keeps V s0 (meshTransfer b good s) := by
  refine h.step hV ?_
  clear h hV
  have h : Keeps 1020398095500666 s s := .refl _ _
  unfold meshTransfer
  repeat' first
    | with_reducible assumption
    | decide
    | with_reducible refine Keeps.ite ?_ (fun _ => ?_)
    | with_reducible refine failLost_keeps ?_ ?_
    | with_reducible refine meshEvent_keeps ?_ ?_
    | with_reducible refine out_keeps ?_ ?_
    | with_reducible refine setErr_keeps ?_ ?_
    | with_reducible refine setMesh_keeps ?_ ?_
    | exact nwf_nmod _ _
    | exact nwf_nput _ _
    | exact nwf_filter _
    | exact fun _ => nwf_nmapAll _
    | exact ascKeys_nput _ _ _
    | exact ascKeys_filter _
    | exact nwf_foldl_nput _ _ _
    | exact memWrite_wf _ _ _
    | exact fun hi => nwf_nput _ _ (nwf_filter _ hi)
    | with_reducible refine Keeps.foldl _ (fun _ _ _ => ?_) ?_
    | with_reducible refine Keeps.foldl_fst _ (fun _ _ _ => ?_) ?_
    | dsimp only
    | split
    | with_reducible refine Keeps.set_meshFails ?_ ?_ ?_

theorem execMeshTransferReceived_keeps (b : Nat) (good : Bool) (s t : State) (e : execMeshTransferReceived b good s = .next t) :
    Keeps 1020398095500666 s t := by
  have h : Keeps 1020398095500666 s s := .refl _ _
  unfold execMeshTransferReceived at e
  cases e
  repeat' first
    | with_reducible assumption
    | decide
    | with_reducible refine Keeps.ite ?_ (fun _ => ?_)
    | with_reducible refine meshTransfer_keeps ?_ ?_

theorem mgtAddress_keeps {V : Nat} {off : Nat} {size : Nat} {v : Nat} {s0 s : State} (hV : subMask 67108866 V = true)
    (h : Keeps V s0 s) : Keeps V s0 (mgtAddress off size v s) := by
  refine h.step hV ?_
  clear h hV
  have h : Keeps 67108866 s s := .refl _ _
  unfold mgtAddress
  repeat' first
    | with_reducible assumption
    | decide
    | with_reducible refine Keeps.ite ?_ (fun _ => ?_)
    | with_reducible refine mgtWord_keeps ?_ ?_

theorem execMgtAddressWrite_keeps (off : Nat) (size : Nat) (v : W64) (s t : State) (e : execMgtAddressWrite off size v s = .next t) :
    Keeps 67108874 s t := by
  have h : Keeps 67108874 s s := .refl _ _
  unfold execMgtAddressWrite at e
  cases e
  repeat' first
    | with_reducible assumption
    | decide
    | with_reducible refine Keeps.ite ?_ (fun _ => ?_)
    | with_reducible refine mgtAddress_keeps ?_ ?_
    | with_reducible refine mmio_keeps ?_ (fun _ _ => ?_) ?_

theorem execMgtArpRequest_keeps (target : Nat) (src : Nat) (s t : State) (e : execMgtArpRequest target src s = .next t) :
    Keeps 844424930131970 s t := by
  have h : Keeps 844424930131970 s s := .refl _ _
  unfold execMgtArpRequest at e
  cases e
  repeat' first
    | with_reducible assumption
    | decide
    | with_reducible refine Keeps.ite ?_ (fun _ => ?_)
    | with_reducible refine out_keeps ?_ ?_
    | with_reducible refine rxDropped_keeps ?_ ?_
    | with_reducible refine rxServed_keeps ?_ ?_

theorem execMgtEchoRequest_keeps (v6 : Bool) (dst : Nat) (src : Nat) (data : List Byte) (s t : State) (e : execMgtEchoRequest v6 dst src data s = .next t) :
    Keeps 844424997240834 s t := by
  have h : Keeps 844424997240834 s s := .refl _ _
  unfold execMgtEchoRequest at e
  cases e
  repeat' first
    | with_reducible assumption
    | decide
    | with_reducible refine Keeps.ite ?_ (fun _ => ?_)
    | with_reducible refine mgtSend_keeps ?_ ?_
    | with_reducible refine rxDropped_keeps ?_ ?_
    | with_reducible refine rxServed_keeps ?_ ?_

theorem mgtLink_keeps {V : Nat} {up : Bool} {speed : Nat} {duplex : Bool} {s0 s : State} (hV : subMask 67108874 V = true)
    (h : Keeps V s0 s) : Keeps V s0 (mgtLink up speed duplex s) := by
  refine h.step hV ?_
  clear h hV
  have h : Keeps 67108874 s s := .refl _ _
  unfold mgtLink
  repeat' first
    | with_reducible assumption
    | decide
    | with_reducible refine Keeps.ite ?_ (fun _ => ?_)
    | with_reducible refine State.modMgt_keeps ?_ ?_
    | with_reducible refine setErr_keeps ?_ ?_

theorem execMgtLinkStatus_keeps (up : Bool) (speed : Nat) (duplex : Bool) (s t : State) (e : execMgtLinkStatus up speed duplex s = .next t) :
    Keeps 67108874 s t := by
  have h : Keeps 67108874 s s := .refl _ _
  unfold execMgtLinkStatus at e
  cases e
  repeat' first
    | with_reducible assumption
    | decide
    | with_reducible refine Keeps.ite ?_ (fun _ => ?_)
    | with_reducible refine mgtLink_keeps ?_ ?_

theorem execMgtNeighborExpiry_keeps (v6 : Bool) (ip : Nat) (s t : State) (e : execMgtNeighborExpiry v6 ip s = .next t) :
    Keeps 67108864 s t := by
  have h : Keeps 67108864 s s := .refl _ _
  unfold execMgtNeighborExpiry at e
  cases e
  repeat' first
    | with_reducible assumption
    | decide
    | with_reducible refine Keeps.ite ?_ (fun _ => ?_)
    | with_reducible refine State.modMgt_keeps ?_ ?_

theorem execMgtNeighborSolicitation_keeps (target : Nat) (src : Nat) (s t : State) (e : execMgtNeighborSolicitation target src s = .next t) :
    Keeps 844424930131970 s t := by
  have h : Keeps 844424930131970 s s := .refl _ _
  unfold execMgtNeighborSolicitation at e
  cases e
  repeat' first
    | with_reducible assumption
    | decide
    | with_reducible refine Keeps.ite ?_ (fun _ => ?_)
    | with_reducible refine out_keeps ?_ ?_
    | with_reducible refine rxDropped_keeps ?_ ?_
    | with_reducible refine rxServed_keeps ?_ ?_

theorem execMgtUnwantedFrame_keeps (bad : Bool) (s t : State) (e : execMgtUnwantedFrame bad s = .next t) :
    Keeps 2 s t := by
  have h : Keeps 2 s s := .refl _ _
  unfold execMgtUnwantedFrame at e
  cases e
  repeat' first
    | with_reducible assumption
    | decide
    | with_reducible refine Keeps.ite ?_ (fun _ => ?_)
    | with_reducible refine countReg_keeps ?_ ?_
    | with_reducible refine rxDropped_keeps ?_ ?_

theorem msixControlWrite_keeps {V : Nat} {f : Nat} {en : Bool} {mask : Bool} {s0 s : State} (hV : subMask 8 V = true)
    (h : Keeps V s0 s) : Keeps V s0 (msixControlWrite f en mask s) := by
  refine h.step hV ?_
  clear h hV
  have h : Keeps 8 s s := .refl _ _
  unfold msixControlWrite
  repeat' first
    | with_reducible assumption
    | decide
    | with_reducible refine Keeps.ite ?_ (fun _ => ?_)
    | with_reducible refine State.joinEntry_keeps ?_ ?_
    | with_reducible refine State.modFn_keeps ?_ ?_

theorem execMsixControlWrite_keeps (f : Nat) (en : Bool) (mask : Bool) (s t : State) (e : execMsixControlWrite f en mask s = .next t) :
    Keeps 8 s t := by
  have h : Keeps 8 s s := .refl _ _
  unfold execMsixControlWrite at e
  cases e
  repeat' first
    | with_reducible assumption
    | decide
    | with_reducible refine Keeps.ite ?_ (fun _ => ?_)
    | with_reducible refine msixControlWrite_keeps ?_ ?_

theorem execMsixTableWrite_keeps (f : Nat) (k : Nat) (off : Nat) (size : Nat) (v : W64) (s t : State) (e : execMsixTableWrite f k off size v s = .next t) :
    Keeps 8 s t := by
  have h : Keeps 8 s s := .refl _ _
  unfold execMsixTableWrite at e
  cases e
  repeat' first
    | with_reducible assumption
    | decide
    | with_reducible refine Keeps.ite ?_ (fun _ => ?_)
    | with_reducible refine mmio_keeps ?_ (fun _ _ => ?_) ?_
    | with_reducible refine msixTableWrite_keeps ?_ ?_

theorem learnHop_keeps {V : Nat} {v6 : Bool} {ip : Nat} {mac : Nat} {s0 s : State} (hV : subMask 844424997240832 V = true)
    (h : Keeps V s0 s) : Keeps V s0 (learnHop v6 ip mac s) := by
  refine h.step hV ?_
  clear h hV
  have h : Keeps 844424997240832 s s := .refl _ _
  unfold learnHop
  repeat' first
    | with_reducible assumption
    | decide
    | with_reducible refine Keeps.ite ?_ (fun _ => ?_)
    | with_reducible refine State.modMgt_keeps ?_ ?_
    | with_reducible refine out_keeps ?_ ?_
    | with_reducible refine Keeps.foldl _ (fun _ _ _ => ?_) ?_

theorem execNextHopResolutionReply_keeps (v6 : Bool) (ip : Nat) (mac : Nat) (s t : State) (e : execNextHopResolutionReply v6 ip mac s = .next t) :
    Keeps 844424997240834 s t := by
  have h : Keeps 844424997240834 s s := .refl _ _
  unfold execNextHopResolutionReply at e
  cases e
  repeat' first
    | with_reducible assumption
    | decide
    | with_reducible refine Keeps.ite ?_ (fun _ => ?_)
    | with_reducible refine learnHop_keeps ?_ ?_
    | with_reducible refine rxDropped_keeps ?_ ?_
    | with_reducible refine rxServed_keeps ?_ ?_

theorem execNibAckWrite_keeps (f : Nat) (v : W32) (s t : State) (e : execNibAckWrite f v s = .next t) :
    Keeps 10 s t := by
  have h : Keeps 10 s s := .refl _ _
  unfold execNibAckWrite at e
  cases e
  repeat' first
    | with_reducible assumption
    | decide
    | with_reducible refine Keeps.ite ?_ (fun _ => ?_)
    | with_reducible refine ackWrite_keeps ?_ ?_
    | with_reducible refine mmio_keeps ?_ (fun _ _ => ?_) ?_

theorem wrongState_keeps {V : Nat} {f : Nat} {x : Entry} {g : Nat} {n : Nat} {s0 s : State} (hV : subMask 879611449704458 V = true)
    (h : Keeps V s0 s) : Keeps V s0 (wrongState f x g n s) := by
  refine h.step hV ?_
  clear h hV
  have h : Keeps 879611449704458 s s := .refl _ _
  unfold wrongState
  repeat' first
    | with_reducible assumption
    | decide
    | with_reducible refine Keeps.ite ?_ (fun _ => ?_)
    | with_reducible refine finish_keeps ?_ ?_

theorem nodeAdmit_keeps {V : Nat} {f : Nat} {x : Entry} {s0 s : State} (hV : subMask 949980193882122 V = true)
    (h : Keeps V s0 s) : Keeps V s0 (nodeAdmit f x s) := by
  refine h.step hV ?_
  clear h hV
  have h : Keeps 949980193882122 s s := .refl _ _
  unfold nodeAdmit
  repeat' first
    | with_reducible assumption
    | decide
    | with_reducible refine Keeps.ite ?_ (fun _ => ?_)
    | with_reducible refine onNode_keeps ?_ (fun _ _ _ _ => ?_) ?_
    | with_reducible refine startLong_keeps ?_ (fun _ _ _ => ?_) ?_
    | with_reducible refine wrongState_keeps ?_ ?_

theorem execNodeAdmit_keeps (f : Nat) (e0 : Nat) (s t : State) (e : execNodeAdmit f e0 s = .next t) :
    Keeps 949980193882122 s t := by
  have h : Keeps 949980193882122 s s := .refl _ _
  unfold execNodeAdmit at e
  cases e
  repeat' first
    | with_reducible assumption
    | decide
    | with_reducible refine Keeps.ite ?_ (fun _ => ?_)
    | with_reducible refine cmd_keeps ?_ (fun _ _ _ => ?_) ?_
    | with_reducible refine nodeAdmit_keeps ?_ ?_

theorem nodePromote_keeps {V : Nat} {f : Nat} {x : Entry} {s0 s : State} (hV : subMask 949980193882122 V = true)
    (h : Keeps V s0 s) : Keeps V s0 (nodePromote f x s) := by
  refine h.step hV ?_
  clear h hV
  have h : Keeps 949980193882122 s s := .refl _ _
  unfold nodePromote
  repeat' first
    | with_reducible assumption
    | decide
    | with_reducible refine Keeps.ite ?_ (fun _ => ?_)
    | with_reducible refine finish_keeps ?_ ?_
    | with_reducible refine onNode_keeps ?_ (fun _ _ _ _ => ?_) ?_
    | with_reducible refine startLong_keeps ?_ (fun _ _ _ => ?_) ?_
    | with_reducible refine wrongState_keeps ?_ ?_

theorem execNodePromote_keeps (f : Nat) (e0 : Nat) (s t : State) (e : execNodePromote f e0 s = .next t) :
    Keeps 949980193882122 s t := by
  have h : Keeps 949980193882122 s s := .refl _ _
  unfold execNodePromote at e
  cases e
  repeat' first
    | with_reducible assumption
    | decide
    | with_reducible refine Keeps.ite ?_ (fun _ => ?_)
    | with_reducible refine cmd_keeps ?_ (fun _ _ _ => ?_) ?_
    | with_reducible refine nodePromote_keeps ?_ ?_

theorem nodeRelease_keeps {V : Nat} {f : Nat} {x : Entry} {s0 s : State} (hV : subMask 1020348940681274 V = true)
    (h : Keeps V s0 s) : Keeps V s0 (nodeRelease f x s) := by
  refine h.step hV ?_
  clear h hV
  have h : Keeps 1020348940681274 s s := .refl _ _
  unfold nodeRelease
  repeat' first
    | with_reducible assumption
    | decide
    | with_reducible refine Keeps.ite ?_ (fun _ => ?_)
    | with_reducible refine enumAfresh_keeps ?_ ?_
    | with_reducible refine finish_keeps ?_ ?_
    | with_reducible refine liftQuarantine_keeps ?_ ?_
    | with_reducible refine onNode_keeps ?_ (fun _ _ _ _ => ?_) ?_
    | with_reducible refine wrongState_keeps ?_ ?_

theorem execNodeRelease_keeps (f : Nat) (e0 : Nat) (s t : State) (e : execNodeRelease f e0 s = .next t) :
    Keeps 1020348940681274 s t := by
  have h : Keeps 1020348940681274 s s := .refl _ _
  unfold execNodeRelease at e
  cases e
  repeat' first
    | with_reducible assumption
    | decide
    | with_reducible refine Keeps.ite ?_ (fun _ => ?_)
    | with_reducible refine cmd_keeps ?_ (fun _ _ _ => ?_) ?_
    | with_reducible refine nodeRelease_keeps ?_ ?_

theorem journalWrite_keeps {V : Nat} {whole : Bool} {s0 s : State} (hV : subMask 844424961589248 V = true)
    (h : Keeps V s0 s) : Keeps V s0 (journalWrite whole s) := by
  refine h.step hV ?_
  clear h hV
  have h : Keeps 844424961589248 s s := .refl _ _
  unfold journalWrite
  repeat' first
    | with_reducible assumption
    | decide
    | with_reducible refine Keeps.ite ?_ (fun _ => ?_)
    | with_reducible refine State.putHalf_keeps ?_ ?_
    | with_reducible refine out_keeps ?_ ?_
    | with_reducible refine Keeps.foldl _ (fun _ _ _ => ?_) ?_
    | with_reducible refine Keeps.foldl_fst _ (fun _ _ _ => ?_) ?_
    | dsimp only
    | split
    | with_reducible refine Keeps.set_journal ?_ ?_
    | with_reducible refine Keeps.set_half ?_ ?_
    | with_reducible refine Keeps.set_journal_half ?_ ?_ ?_

theorem execNodeTableJournalWrite_keeps (whole : Bool) (s t : State) (e : execNodeTableJournalWrite whole s = .next t) :
    Keeps 844424961589248 s t := by
  have h : Keeps 844424961589248 s s := .refl _ _
  unfold execNodeTableJournalWrite at e
  cases e
  repeat' first
    | with_reducible assumption
    | decide
    | with_reducible refine Keeps.ite ?_ (fun _ => ?_)
    | with_reducible refine journalWrite_keeps ?_ ?_

theorem nodeUnbind_keeps {V : Nat} {f : Nat} {x : Entry} {s0 s : State} (hV : subMask 1020348940156986 V = true)
    (h : Keeps V s0 s) : Keeps V s0 (nodeUnbind f x s) := by
  refine h.step hV ?_
  clear h hV
  have h : Keeps 1020348940156986 s s := .refl _ _
  unfold nodeUnbind
  repeat' first
    | with_reducible assumption
    | decide
    | with_reducible refine Keeps.ite ?_ (fun _ => ?_)
    | with_reducible refine finish_keeps ?_ ?_
    | with_reducible refine onNode_keeps ?_ (fun _ _ _ _ => ?_) ?_
    | with_reducible refine unbind_keeps ?_ ?_

theorem execNodeUnbind_keeps (f : Nat) (e0 : Nat) (s t : State) (e : execNodeUnbind f e0 s = .next t) :
    Keeps 1020348940156986 s t := by
  have h : Keeps 1020348940156986 s s := .refl _ _
  unfold execNodeUnbind at e
  cases e
  repeat' first
    | with_reducible assumption
    | decide
    | with_reducible refine Keeps.ite ?_ (fun _ => ?_)
    | with_reducible refine cmd_keeps ?_ (fun _ _ _ => ?_) ?_
    | with_reducible refine nodeUnbind_keeps ?_ ?_

theorem execNop_keeps (f : Nat) (e0 : Nat) (s t : State) (e : execNop f e0 s = .next t) :
    Keeps 879611449704458 s t := by
  have h : Keeps 879611449704458 s s := .refl _ _
  unfold execNop at e
  cases e
  repeat' first
    | with_reducible assumption
    | decide
    | with_reducible refine Keeps.ite ?_ (fun _ => ?_)
    | with_reducible refine cmd_keeps ?_ (fun _ _ _ => ?_) ?_
    | with_reducible refine finish_keeps ?_ ?_

theorem execNxtArm_keeps (f : Nat) (v : Nat) (ctl : W32) (s t : State) (e : execNxtArm f v ctl s = .next t) :
    Keeps 879611449835530 s t := by
  have h : Keeps 879611449835530 s s := .refl _ _
  unfold execNxtArm at e
  cases e
  repeat' first
    | with_reducible assumption
    | decide
    | with_reducible refine Keeps.ite ?_ (fun _ => ?_)
    | with_reducible refine mmio_keeps ?_ (fun _ _ => ?_) ?_
    | with_reducible refine nxtArm_keeps ?_ ?_

theorem execOscillatorReady_keeps (s t : State) (e : execOscillatorReady s = .next t) :
    Keeps 2147483648 s t := by
  have h : Keeps 2147483648 s s := .refl _ _
  unfold execOscillatorReady at e
  cases e
  repeat' first
    | with_reducible assumption
    | decide
    | with_reducible refine Keeps.ite ?_ (fun _ => ?_)
    | with_reducible refine State.modPwr_keeps ?_ ?_

theorem outputReadDone_keeps {V : Nat} {f : Nat} {err : Nat} {data : List (List Byte)} {s0 s : State} (hV : subMask 879611449704458 V = true)
    (h : Keeps V s0 s) : Keeps V s0 (outputReadDone f err data s) := by
  refine h.step hV ?_
  clear h hV
  have h : Keeps 879611449704458 s s := .refl _ _
  unfold outputReadDone
  repeat' first
    | with_reducible assumption
    | decide
    | with_reducible refine Keeps.ite ?_ (fun _ => ?_)
    | with_reducible refine State.modImage_keeps ?_ ?_
    | with_reducible refine emit_keeps ?_ ?_
    | with_reducible refine Keeps.foldl _ (fun _ _ _ => ?_) ?_
    | with_reducible refine Keeps.foldl_fst _ (fun _ _ _ => ?_) ?_
    | dsimp only
    | split

theorem execOutputImageReadDone_keeps (f : Nat) (err : Nat) (data : List (List Byte)) (s t : State) (e : execOutputImageReadDone f err data s = .next t) :
    Keeps 879611449704458 s t := by
  have h : Keeps 879611449704458 s s := .refl _ _
  unfold execOutputImageReadDone at e
  cases e
  repeat' first
    | with_reducible assumption
    | decide
    | with_reducible refine Keeps.ite ?_ (fun _ => ?_)
    | with_reducible refine outputReadDone_keeps ?_ ?_

theorem outputReadStart_keeps {V : Nat} {f : Nat} {s0 s : State} (hV : subMask 879611449704458 V = true)
    (h : Keeps V s0 s) : Keeps V s0 (outputReadStart f s) := by
  refine h.step hV ?_
  clear h hV
  have h : Keeps 879611449704458 s s := .refl _ _
  unfold outputReadStart
  repeat' first
    | with_reducible assumption
    | decide
    | with_reducible refine Keeps.ite ?_ (fun _ => ?_)
    | with_reducible refine State.modImage_keeps ?_ ?_
    | with_reducible refine dmaRefused_keeps ?_ ?_
    | with_reducible refine emit_keeps ?_ ?_
    | with_reducible refine out_keeps ?_ ?_
    | with_reducible refine Keeps.foldl _ (fun _ _ _ => ?_) ?_
    | with_reducible refine Keeps.foldl_fst _ (fun _ _ _ => ?_) ?_
    | dsimp only
    | split

theorem execOutputImageReadStart_keeps (f : Nat) (s t : State) (e : execOutputImageReadStart f s = .next t) :
    Keeps 879611449704458 s t := by
  have h : Keeps 879611449704458 s s := .refl _ _
  unfold execOutputImageReadStart at e
  cases e
  repeat' first
    | with_reducible assumption
    | decide
    | with_reducible refine Keeps.ite ?_ (fun _ => ?_)
    | with_reducible refine outputReadStart_keeps ?_ ?_

theorem packageReady_keeps {V : Nat} {ms : Nat} {links : Nat} {s0 s : State} (hV : subMask 1020415277467002 V = true)
    (h : Keeps V s0 s) : Keeps V s0 (packageReady ms links s) := by
  refine h.step hV ?_
  clear h hV
  have h : Keeps 1020415277467002 s s := .refl _ _
  unfold packageReady
  repeat' first
    | with_reducible assumption
    | decide
    | with_reducible refine Keeps.ite ?_ (fun _ => ?_)
    | with_reducible refine State.modPwr_keeps ?_ ?_
    | with_reducible refine State.modTile_keeps ?_ ?_
    | with_reducible refine failLost_keeps ?_ ?_
    | with_reducible refine setTileOk_keeps ?_ ?_
    | with_reducible refine tryTrain_keeps ?_ ?_
    | with_reducible refine Keeps.foldl _ (fun _ _ _ => ?_) ?_
    | with_reducible refine Keeps.foldl_fst _ (fun _ _ _ => ?_) ?_
    | dsimp only
    | split
    | with_reducible refine Keeps.set_boot_mesh_ready ?_ ?_ ?_ ?_

theorem execPackageReady_keeps (ms : Nat) (links : Nat) (s t : State) (e : execPackageReady ms links s = .next t) :
    Keeps 1020415277467002 s t := by
  have h : Keeps 1020415277467002 s s := .refl _ _
  unfold execPackageReady at e
  cases e
  repeat' first
    | with_reducible assumption
    | decide
    | with_reducible refine Keeps.ite ?_ (fun _ => ?_)
    | with_reducible refine packageReady_keeps ?_ ?_

theorem gateLeak_keeps {V : Nat} {g : Nat} {n : Nat} {s0 s : State} (hV : subMask 1020350014620986 V = true)
    (h : Keeps V s0 s) : Keeps V s0 (gateLeak g n s) := by
  refine h.step hV ?_
  clear h hV
  have h : Keeps 1020350014620986 s s := .refl _ _
  unfold gateLeak
  repeat' first
    | with_reducible assumption
    | decide
    | with_reducible refine Keeps.ite ?_ (fun _ => ?_)
    | with_reducible refine State.modPort_keeps ?_ ?_
    | with_reducible refine escalate_keeps ?_ ?_
    | with_reducible refine Keeps.foldl _ (fun _ _ _ => ?_) ?_
    | with_reducible refine Keeps.foldl_fst _ (fun _ _ _ => ?_) ?_
    | dsimp only
    | split

theorem faulty_keeps {V : Nat} {g : Nat} {e0 : AEntry} {tseq : Option Nat} {s0 s : State} (hV : subMask 879612523447610 V = true)
    (h : Keeps V s0 s) : Keeps V s0 (faulty g e0 tseq s) := by
  refine h.step hV ?_
  clear h hV
  have h : Keeps 879612523447610 s s := .refl _ _
  unfold faulty
  repeat' first
    | with_reducible assumption
    | decide
    | with_reducible refine Keeps.ite ?_ (fun _ => ?_)
    | with_reducible refine State.modPort_keeps ?_ ?_
    | with_reducible refine miss_keeps ?_ ?_

theorem runReceived_keeps {V : Nat} {g : Nat} {e0 : AEntry} {mis : Bool} {blocks : List RxBlock} {s0 s : State} (hV : subMask 1020350014653754 V = true)
    (h : Keeps V s0 s) : Keeps V s0 (runReceived g e0 mis blocks s) := by
  refine h.step hV ?_
  clear h hV
  have h : Keeps 1020350014653754 s s := .refl _ _
  unfold runReceived
  repeat' first
    | with_reducible assumption
    | decide
    | with_reducible refine Keeps.ite ?_ (fun _ => ?_)
    | with_reducible refine accept_keeps ?_ ?_
    | with_reducible refine countMis_keeps ?_ ?_
    | with_reducible refine countRun_keeps ?_ ?_
    | with_reducible refine deviates_keeps ?_ ?_
    | with_reducible refine faulty_keeps ?_ ?_
    | with_reducible refine gateLeak_keeps ?_ ?_
    | with_reducible refine miss_keeps ?_ ?_
    | with_reducible refine receive_keeps ?_ ?_
    | with_reducible refine Keeps.foldl _ (fun _ _ _ => ?_) ?_
    | with_reducible refine Keeps.foldl_fst _ (fun _ _ _ => ?_) ?_
    | dsimp only
    | split

theorem stray_keeps {V : Nat} {g : Nat} {n : Nat} {slot : Nat} {b : RxBlock} {s0 s : State} (hV : subMask 1020350014620986 V = true)
    (h : Keeps V s0 s) : Keeps V s0 (stray g n slot b s) := by
  refine h.step hV ?_
  clear h hV
  have h : Keeps 1020350014620986 s s := .refl _ _
  unfold stray
  repeat' first
    | with_reducible assumption
    | decide
    | with_reducible refine Keeps.ite ?_ (fun _ => ?_)
    | with_reducible refine deviates_keeps ?_ ?_
    | with_reducible refine miss_keeps ?_ ?_
    | with_reducible refine Keeps.foldl _ (fun _ _ _ => ?_) ?_
    | with_reducible refine Keeps.foldl_fst _ (fun _ _ _ => ?_) ?_
    | dsimp only
    | split

theorem periodicReceived_keeps {V : Nat} {g : Nat} {slot : Nat} {mis : Bool} {blocks : List RxBlock} {s0 s : State} (hV : subMask 1020350014653754 V = true)
    (h : Keeps V s0 s) : Keeps V s0 (periodicReceived g slot mis blocks s) := by
  refine h.step hV ?_
  clear h hV
  have h : Keeps 1020350014653754 s s := .refl _ _
  unfold periodicReceived
  repeat' first
    | with_reducible assumption
    | decide
    | with_reducible refine Keeps.ite ?_ (fun _ => ?_)
    | with_reducible refine countMis_keeps ?_ ?_
    | with_reducible refine countRun_keeps ?_ ?_
    | with_reducible refine deviates_keeps ?_ ?_
    | with_reducible refine gateLeak_keeps ?_ ?_
    | with_reducible refine miss_keeps ?_ ?_
    | with_reducible refine runReceived_keeps ?_ ?_
    | with_reducible refine stray_keeps ?_ ?_
    | with_reducible refine windowBabble_keeps ?_ ?_
    | with_reducible refine Keeps.foldl _ (fun _ _ _ => ?_) ?_
    | with_reducible refine Keeps.foldl_fst _ (fun _ _ _ => ?_) ?_
    | dsimp only
    | split

theorem execPeriodicTransferReceived_keeps (g : Nat) (slot : Nat) (mis : Bool) (blocks : List RxBlock) (s t : State) (e : execPeriodicTransferReceived g slot mis blocks s = .next t) :
    Keeps 1020350014653754 s t := by
  have h : Keeps 1020350014653754 s s := .refl _ _
  unfold execPeriodicTransferReceived at e
  cases e
  repeat' first
    | with_reducible assumption
    | decide
    | with_reducible refine Keeps.ite ?_ (fun _ => ?_)
    | with_reducible refine periodicReceived_keeps ?_ ?_

theorem execPerstAssert_keeps (s t : State) (e : execPerstAssert s = .next t) :
    Keeps 1125899906842623 s t := by
  have h : Keeps 1125899906842623 s s := .refl _ _
  unfold execPerstAssert at e
  cases e
  repeat' first
    | with_reducible assumption
    | decide
    | with_reducible refine Keeps.ite ?_ (fun _ => ?_)
    | with_reducible refine State.modPins_keeps ?_ ?_
    | with_reducible refine packageReset_keeps ?_ ?_

theorem execPerstRelease_keeps (straps : BitVec 4) (flash : Bool) (s t : State) (e : execPerstRelease straps flash s = .next t) :
    Keeps 862052344660015 s t := by
  have h : Keeps 862052344660015 s s := .refl _ _
  unfold execPerstRelease at e
  cases e
  repeat' first
    | with_reducible assumption
    | decide
    | with_reducible refine Keeps.ite ?_ (fun _ => ?_)
    | with_reducible refine State.modPins_keeps ?_ ?_
    | with_reducible refine bootStart_keeps ?_ ?_

theorem pgoodLost_keeps {V : Nat} {t0 : Nat} {rail : Nat} {s0 s : State} (hV : subMask 1020398095500666 V = true)
    (h : Keeps V s0 s) : Keeps V s0 (pgoodLost t0 rail s) := by
  refine h.step hV ?_
  clear h hV
  have h : Keeps 1020398095500666 s s := .refl _ _
  unfold pgoodLost
  repeat' first
    | with_reducible assumption
    | decide
    | with_reducible refine Keeps.ite ?_ (fun _ => ?_)
    | with_reducible refine State.modPwr_keeps ?_ ?_
    | with_reducible refine tileOut_keeps ?_ ?_

theorem execPgoodLost_keeps (t0 : Nat) (rail : Nat) (s t : State) (e : execPgoodLost t0 rail s = .next t) :
    Keeps 1020398095500666 s t := by
  have h : Keeps 1020398095500666 s s := .refl _ _
  unfold execPgoodLost at e
  cases e
  repeat' first
    | with_reducible assumption
    | decide
    | with_reducible refine Keeps.ite ?_ (fun _ => ?_)
    | with_reducible refine pgoodLost_keeps ?_ ?_

theorem pimScrub_keeps {V : Nat} {p : Nat} {errs : Nat} {scrub : Bool} {s0 s : State} (hV : subMask 879612523447562 V = true)
    (h : Keeps V s0 s) : Keeps V s0 (pimScrub p errs scrub s) := by
  refine h.step hV ?_
  clear h hV
  have h : Keeps 879612523447562 s s := .refl _ _
  unfold pimScrub
  repeat' first
    | with_reducible assumption
    | decide
    | with_reducible refine Keeps.ite ?_ (fun _ => ?_)
    | with_reducible refine countReg_keeps ?_ ?_
    | with_reducible refine eccUncorrectable_keeps ?_ ?_

theorem execPimScrub_keeps (p : Nat) (errs : Nat) (scrub : Bool) (s t : State) (e : execPimScrub p errs scrub s = .next t) :
    Keeps 879612523447562 s t := by
  have h : Keeps 879612523447562 s s := .refl _ _
  unfold execPimScrub at e
  cases e
  repeat' first
    | with_reducible assumption
    | decide
    | with_reducible refine Keeps.ite ?_ (fun _ => ?_)
    | with_reducible refine pimScrub_keeps ?_ ?_

theorem execPimWindowWrite_keeps (off : Nat) (size : Nat) (v : W64) (part : Bool) (s t : State) (e : execPimWindowWrite off size v part s = .next t) :
    Keeps 895005954671882 s t := by
  have h : Keeps 895005954671882 s s := .refl _ _
  unfold execPimWindowWrite at e
  cases e
  repeat' first
    | with_reducible assumption
    | decide
    | with_reducible refine Keeps.ite ?_ (fun _ => ?_)
    | with_reducible refine pimWindowWrite_keeps ?_ ?_
    | with_reducible refine tileMmio_keeps ?_ (fun _ _ => ?_) ?_

theorem onPoint_keeps {V : Nat} {f : Nat} {x : Entry} {k : State → State} {s0 s : State} (hV : subMask 879611449704458 V = true)
    (hk : ∀  (t : State), Keeps V s0 t → Keeps V s0 (k  t)) (h : Keeps V s0 s) :
    Keeps V s0 (onPoint f x k s) := by
  unfold onPoint
  repeat' first
    | with_reducible assumption
    | exact subMask_trans (by decide) hV
    | with_reducible refine Keeps.ite ?_ (fun _ => ?_)
    | with_reducible refine finish_keeps ?_ ?_
    | with_reducible refine Keeps.foldl _ (fun _ _ _ => ?_) ?_
    | with_reducible refine Keeps.foldl_fst _ (fun _ _ _ => ?_) ?_
    | dsimp only
    | split
    | (with_reducible refine hk _ ?_)

theorem pointAlloc_keeps {V : Nat} {f : Nat} {x : Entry} {s0 s : State} (hV : subMask 879612523448074 V = true)
    (h : Keeps V s0 s) : Keeps V s0 (pointAlloc f x s) := by
  refine h.step hV ?_
  clear h hV
  have h : Keeps 879612523448074 s s := .refl _ _
  unfold pointAlloc
  repeat' first
    | with_reducible assumption
    | decide
    | with_reducible refine Keeps.ite ?_ (fun _ => ?_)
    | with_reducible refine claimOne_keeps ?_ ?_
    | with_reducible refine finish_keeps ?_ ?_
    | with_reducible refine onPoint_keeps ?_ (fun _ _ => ?_) ?_
    | with_reducible refine Keeps.foldl _ (fun _ _ _ => ?_) ?_
    | with_reducible refine Keeps.foldl_fst _ (fun _ _ _ => ?_) ?_

theorem execPointAlloc_keeps (f : Nat) (e0 : Nat) (s t : State) (e : execPointAlloc f e0 s = .next t) :
    Keeps 879612523448074 s t := by
  have h : Keeps 879612523448074 s s := .refl _ _
  unfold execPointAlloc at e
  cases e
  repeat' first
    | with_reducible assumption
    | decide
    | with_reducible refine Keeps.ite ?_ (fun _ => ?_)
    | with_reducible refine cmd_keeps ?_ (fun _ _ _ => ?_) ?_
    | with_reducible refine pointAlloc_keeps ?_ ?_

theorem execPointConfig_keeps (f : Nat) (e0 : Nat) (s t : State) (e : execPointConfig f e0 s = .next t) :
    Keeps 879611449704458 s t := by
  have h : Keeps 879611449704458 s s := .refl _ _
  unfold execPointConfig at e
  cases e
  repeat' first
    | with_reducible assumption
    | decide
    | with_reducible refine Keeps.ite ?_ (fun _ => ?_)
    | with_reducible refine cmd_keeps ?_ (fun _ _ _ => ?_) ?_
    | with_reducible refine readStruct_keeps ?_ ?_

end Sys2Proof.Machine
end

