-- ==== Sys2Proof/Laws/Frames5.lean ====
section
/-!
SUPPORT. Frames, part 5 of 5: one lemma per operation of the machine, in the order in which they call each other: it
keeps every part of the state outside its mask, the queue, the part and the invariant (Laws/Keeps.lean).
-/

set_option Elab.async false
namespace Sys2Proof.Machine

theorem pointFree_keeps {V : Nat} {f : Nat} {x : Entry} {s0 s : State} (hV : subMask 949980193882122 V = true)
    (h : Keeps V s0 s) : Keeps V s0 (pointFree f x s) := by
  refine h.step hV ?_
  clear h hV
  have h : Keeps 949980193882122 s s := .refl _ _
  unfold pointFree
  repeat' first
    | with_reducible assumption
    | decide
    | with_reducible refine Keeps.ite ?_ (fun _ => ?_)
    | with_reducible refine onPoint_keeps ?_ (fun _ _ => ?_) ?_
    | with_reducible refine startLong_keeps ?_ (fun _ _ _ => ?_) ?_

theorem execPointFree_keeps (f : Nat) (e0 : Nat) (s t : State) (e : execPointFree f e0 s = .next t) :
    Keeps 949980193882122 s t := by
  have h : Keeps 949980193882122 s s := .refl _ _
  unfold execPointFree at e
  cases e
  repeat' first
    | with_reducible assumption
    | decide
    | with_reducible refine Keeps.ite ?_ (fun _ => ?_)
    | with_reducible refine cmd_keeps ?_ (fun _ _ _ => ?_) ?_
    | with_reducible refine pointFree_keeps ?_ ?_

theorem pointShare_keeps {V : Nat} {f : Nat} {x : Entry} {s0 s : State} (hV : subMask 949980193882122 V = true)
    (h : Keeps V s0 s) : Keeps V s0 (pointShare f x s) := by
  refine h.step hV ?_
  clear h hV
  have h : Keeps 949980193882122 s s := .refl _ _
  unfold pointShare
  repeat' first
    | with_reducible assumption
    | decide
    | with_reducible refine Keeps.ite ?_ (fun _ => ?_)
    | with_reducible refine onPoint_keeps ?_ (fun _ _ => ?_) ?_
    | with_reducible refine startLong_keeps ?_ (fun _ _ _ => ?_) ?_

theorem execPointShare_keeps (f : Nat) (e0 : Nat) (s t : State) (e : execPointShare f e0 s = .next t) :
    Keeps 949980193882122 s t := by
  have h : Keeps 949980193882122 s s := .refl _ _
  unfold execPointShare at e
  cases e
  repeat' first
    | with_reducible assumption
    | decide
    | with_reducible refine Keeps.ite ?_ (fun _ => ?_)
    | with_reducible refine cmd_keeps ?_ (fun _ _ _ => ?_) ?_
    | with_reducible refine pointShare_keeps ?_ ?_

theorem topoSeen_keeps {V : Nat} {g : Nat} {n : Nat} {word : Nat} {s0 s : State} (hV : subMask 985164565970992 V = true)
    (h : Keeps V s0 s) : Keeps V s0 (topoSeen g n word s) := by
  refine h.step hV ?_
  clear h hV
  have h : Keeps 985164565970992 s s := .refl _ _
  unfold topoSeen
  repeat' first
    | with_reducible assumption
    | decide
    | with_reducible refine Keeps.ite ?_ (fun _ => ?_)
    | with_reducible refine State.modNode_keeps ?_ ?_
    | with_reducible refine mgmtRead_keeps ?_ ?_
    | with_reducible refine Keeps.foldl _ (fun _ _ _ => ?_) ?_
    | with_reducible refine Keeps.foldl_fst _ (fun _ _ _ => ?_) ?_
    | dsimp only
    | split

theorem pollAnswer_keeps {V : Nat} {g : Nat} {n : Nat} {mis : Bool} {blocks : List RxBlock} {s0 s : State} (hV : subMask 1020350014620986 V = true)
    (h : Keeps V s0 s) : Keeps V s0 (pollAnswer g n mis blocks s) := by
  refine h.step hV ?_
  clear h hV
  have h : Keeps 1020350014620986 s s := .refl _ _
  unfold pollAnswer
  repeat' first
    | with_reducible assumption
    | decide
    | with_reducible refine Keeps.ite ?_ (fun _ => ?_)
    | with_reducible refine hostile_keeps ?_ ?_
    | with_reducible refine receive_keeps ?_ ?_
    | with_reducible refine seeHeader_keeps ?_ ?_
    | with_reducible refine topoSeen_keeps ?_ ?_
    | with_reducible refine Keeps.foldl _ (fun _ _ _ => ?_) ?_
    | with_reducible refine Keeps.foldl_fst _ (fun _ _ _ => ?_) ?_
    | dsimp only
    | split

theorem execPollAnswer_keeps (g : Nat) (n : Nat) (mis : Bool) (blocks : List RxBlock) (s t : State) (e : execPollAnswer g n mis blocks s = .next t) :
    Keeps 1020350014620986 s t := by
  have h : Keeps 1020350014620986 s s := .refl _ _
  unfold execPollAnswer at e
  cases e
  repeat' first
    | with_reducible assumption
    | decide
    | with_reducible refine Keeps.ite ?_ (fun _ => ?_)
    | with_reducible refine pollAnswer_keeps ?_ ?_

theorem portCtlReset_keeps {V : Nat} {g : Nat} {s0 s : State} (hV : subMask 1035743445321018 V = true)
    (h : Keeps V s0 s) : Keeps V s0 (portCtlReset g s) := by
  refine h.step hV ?_
  clear h hV
  have h : Keeps 1035743445321018 s s := .refl _ _
  unfold portCtlReset
  repeat' first
    | with_reducible assumption
    | decide
    | with_reducible refine Keeps.ite ?_ (fun _ => ?_)
    | with_reducible refine holdAcc_keeps ?_ ?_
    | with_reducible refine portReset_keeps ?_ ?_
    | with_reducible refine Keeps.foldl _ (fun _ _ _ => ?_) ?_
    | with_reducible refine Keeps.foldl_fst _ (fun _ _ _ => ?_) ?_
    | dsimp only
    | split

theorem execPortReset_keeps (g : Nat) (s t : State) (e : execPortReset g s = .next t) :
    Keeps 1035743445321018 s t := by
  have h : Keeps 1035743445321018 s s := .refl _ _
  unfold execPortReset at e
  cases e
  repeat' first
    | with_reducible assumption
    | decide
    | with_reducible refine Keeps.ite ?_ (fun _ => ?_)
    | with_reducible refine mmio_keeps ?_ (fun _ _ => ?_) ?_
    | with_reducible refine portCtlReset_keeps ?_ ?_

theorem execPowerOn_keeps (s t : State) (e : execPowerOn s = .next t) :
    Keeps 1125899906842623 s t := by
  have h : Keeps 1125899906842623 s s := .refl _ _
  unfold execPowerOn at e
  cases e
  repeat' first
    | with_reducible assumption
    | decide
    | with_reducible refine Keeps.ite ?_ (fun _ => ?_)
    | with_reducible refine State.modPins_keeps ?_ ?_
    | with_reducible refine packageReset_keeps ?_ ?_
    | with_reducible refine Keeps.foldl _ (fun _ _ _ => ?_) ?_
    | with_reducible refine Keeps.foldl_fst _ (fun _ _ _ => ?_) ?_
    | dsimp only
    | split
    | with_reducible refine Keeps.set_jtag ?_ ?_

theorem startDrying_keeps {V : Nat} {t0 : Nat} {seq : Nat} {s0 s : State} (hV : subMask 2147483648 V = true)
    (h : Keeps V s0 s) : Keeps V s0 (startDrying t0 seq s) := by
  refine h.step hV ?_
  clear h hV
  have h : Keeps 2147483648 s s := .refl _ _
  unfold startDrying
  repeat' first
    | with_reducible assumption
    | decide
    | with_reducible refine Keeps.ite ?_ (fun _ => ?_)
    | with_reducible refine State.modPwr_keeps ?_ ?_
    | with_reducible refine State.modTile_keeps ?_ ?_

theorem powerDown_keeps {V : Nat} {f : Nat} {t0 : Nat} {x : Entry} {recs : List ListRec} {s0 s : State} (hV : subMask 949980193882122 V = true)
    (h : Keeps V s0 s) : Keeps V s0 (powerDown f t0 x recs s) := by
  refine h.step hV ?_
  clear h hV
  have h : Keeps 949980193882122 s s := .refl _ _
  unfold powerDown
  repeat' first
    | with_reducible assumption
    | decide
    | with_reducible refine Keeps.ite ?_ (fun _ => ?_)
    | with_reducible refine State.modPwr_keeps ?_ ?_
    | with_reducible refine finish_keeps ?_ ?_
    | with_reducible refine startDrying_keeps ?_ ?_
    | with_reducible refine startLong_keeps ?_ (fun _ _ _ => ?_) ?_
    | with_reducible refine Keeps.foldl _ (fun _ _ _ => ?_) ?_
    | with_reducible refine Keeps.foldl_fst _ (fun _ _ _ => ?_) ?_
    | dsimp only
    | split

theorem powerWake_keeps {V : Nat} {f : Nat} {t0 : Nat} {x : Entry} {recs : List ListRec} {s0 s : State} (hV : subMask 965373625106442 V = true)
    (h : Keeps V s0 s) : Keeps V s0 (powerWake f t0 x recs s) := by
  refine h.step hV ?_
  clear h hV
  have h : Keeps 965373625106442 s s := .refl _ _
  unfold powerWake
  repeat' first
    | with_reducible assumption
    | decide
    | with_reducible refine Keeps.ite ?_ (fun _ => ?_)
    | with_reducible refine State.modHandle_keeps ?_ ?_
    | with_reducible refine State.modPwr_keeps ?_ ?_
    | with_reducible refine finish_keeps ?_ ?_
    | with_reducible refine startLong_keeps ?_ (fun _ _ _ => ?_) ?_
    | with_reducible refine wakeSource_keeps ?_ ?_
    | with_reducible refine Keeps.foldl _ (fun _ _ _ => ?_) ?_
    | with_reducible refine Keeps.foldl_fst _ (fun _ _ _ => ?_) ?_
    | dsimp only
    | split

theorem powerSet_keeps {V : Nat} {f : Nat} {x : Entry} {s0 s : State} (hV : subMask 965373625106442 V = true)
    (h : Keeps V s0 s) : Keeps V s0 (powerSet f x s) := by
  refine h.step hV ?_
  clear h hV
  have h : Keeps 965373625106442 s s := .refl _ _
  unfold powerSet
  repeat' first
    | with_reducible assumption
    | decide
    | with_reducible refine Keeps.ite ?_ (fun _ => ?_)
    | with_reducible refine finish_keeps ?_ ?_
    | with_reducible refine powerDown_keeps ?_ ?_
    | with_reducible refine powerWake_keeps ?_ ?_

theorem execPowerSet_keeps (f : Nat) (e0 : Nat) (s t : State) (e : execPowerSet f e0 s = .next t) :
    Keeps 965373625106442 s t := by
  have h : Keeps 965373625106442 s s := .refl _ _
  unfold execPowerSet at e
  cases e
  repeat' first
    | with_reducible assumption
    | decide
    | with_reducible refine Keeps.ite ?_ (fun _ => ?_)
    | with_reducible refine cmd_keeps ?_ (fun _ _ _ => ?_) ?_
    | with_reducible refine powerSet_keeps ?_ ?_

theorem presetApply_keeps {V : Nat} {g : Nat} {key : Nat} {s0 s : State} (hV : subMask 16 V = true)
    (h : Keeps V s0 s) : Keeps V s0 (presetApply g key s) := by
  refine h.step hV ?_
  clear h hV
  have h : Keeps 16 s s := .refl _ _
  unfold presetApply
  repeat' first
    | with_reducible assumption
    | decide
    | with_reducible refine Keeps.ite ?_ (fun _ => ?_)
    | with_reducible refine modRx_keeps ?_ ?_
    | with_reducible refine Keeps.foldl _ (fun _ _ _ => ?_) ?_
    | with_reducible refine Keeps.foldl_fst _ (fun _ _ _ => ?_) ?_
    | dsimp only
    | split

theorem execPresetApply_keeps (g : Nat) (key : Nat) (s t : State) (e : execPresetApply g key s = .next t) :
    Keeps 16 s t := by
  have h : Keeps 16 s s := .refl _ _
  unfold execPresetApply at e
  cases e
  repeat' first
    | with_reducible assumption
    | decide
    | with_reducible refine Keeps.ite ?_ (fun _ => ?_)
    | with_reducible refine presetApply_keeps ?_ ?_

theorem execPtctlWrite_keeps (v : W32) (s t : State) (e : execPtctlWrite v s = .next t) :
    Keeps 11 s t := by
  have h : Keeps 11 s s := .refl _ _
  unfold execPtctlWrite at e
  cases e
  repeat' first
    | with_reducible assumption
    | decide
    | with_reducible refine Keeps.ite ?_ (fun _ => ?_)
    | with_reducible refine mmio_keeps ?_ (fun _ _ => ?_) ?_
    | with_reducible refine ptctlWrite_keeps ?_ ?_

theorem selectMaster_keeps {V : Nat} {source : Nat} {ds : Nat} {s0 s : State} (hV : subMask 879611449704459 V = true)
    (h : Keeps V s0 s) : Keeps V s0 (selectMaster source ds s) := by
  refine h.step hV ?_
  clear h hV
  have h : Keeps 879611449704459 s s := .refl _ _
  unfold selectMaster
  repeat' first
    | with_reducible assumption
    | decide
    | with_reducible refine Keeps.ite ?_ (fun _ => ?_)
    | with_reducible refine State.modTime_keeps ?_ ?_
    | with_reducible refine emitMgr_keeps ?_ ?_
    | with_reducible refine Keeps.foldl _ (fun _ _ _ => ?_) ?_
    | with_reducible refine Keeps.foldl_fst _ (fun _ _ _ => ?_) ?_
    | dsimp only
    | split

theorem ptpAnnounce_keeps {V : Nat} {domain : Nat} {source : Nat} {ds : Nat} {s0 s : State} (hV : subMask 879611449704459 V = true)
    (h : Keeps V s0 s) : Keeps V s0 (ptpAnnounce domain source ds s) := by
  refine h.step hV ?_
  clear h hV
  have h : Keeps 879611449704459 s s := .refl _ _
  unfold ptpAnnounce
  repeat' first
    | with_reducible assumption
    | decide
    | with_reducible refine Keeps.ite ?_ (fun _ => ?_)
    | with_reducible refine State.modTime_keeps ?_ ?_
    | with_reducible refine selectMaster_keeps ?_ ?_

theorem execPtpAnnounce_keeps (domain : Nat) (source : BitVec 80) (ds : BitVec 128) (s t : State) (e : execPtpAnnounce domain source ds s = .next t) :
    Keeps 879611449704459 s t := by
  have h : Keeps 879611449704459 s s := .refl _ _
  unfold execPtpAnnounce at e
  cases e
  repeat' first
    | with_reducible assumption
    | decide
    | with_reducible refine Keeps.ite ?_ (fun _ => ?_)
    | with_reducible refine ptpAnnounce_keeps ?_ ?_

theorem ptpDelayRequestDue_keeps {V : Nat} {tx : Int} {s0 s : State} (hV : subMask 844424930131969 V = true)
    (h : Keeps V s0 s) : Keeps V s0 (ptpDelayRequestDue tx s) := by
  refine h.step hV ?_
  clear h hV
  have h : Keeps 844424930131969 s s := .refl _ _
  unfold ptpDelayRequestDue
  repeat' first
    | with_reducible assumption
    | decide
    | with_reducible refine Keeps.ite ?_ (fun _ => ?_)
    | with_reducible refine State.modTime_keeps ?_ ?_
    | with_reducible refine out_keeps ?_ ?_

theorem execPtpDelayRequestDue_keeps (tx : Int) (s t : State) (e : execPtpDelayRequestDue tx s = .next t) :
    Keeps 844424930131969 s t := by
  have h : Keeps 844424930131969 s s := .refl _ _
  unfold execPtpDelayRequestDue at e
  cases e
  repeat' first
    | with_reducible assumption
    | decide
    | with_reducible refine Keeps.ite ?_ (fun _ => ?_)
    | with_reducible refine ptpDelayRequestDue_keeps ?_ ?_

theorem ptpDelayResponse_keeps {V : Nat} {domain : Nat} {source : Nat} {twoStep : Bool} {ts : Int} {arrival : Int} {s0 s : State} (hV : subMask 1 V = true)
    (h : Keeps V s0 s) : Keeps V s0 (ptpDelayResponse domain source twoStep ts arrival s) := by
  refine h.step hV ?_
  clear h hV
  have h : Keeps 1 s s := .refl _ _
  unfold ptpDelayResponse
  repeat' first
    | with_reducible assumption
    | decide
    | with_reducible refine Keeps.ite ?_ (fun _ => ?_)
    | with_reducible refine State.modTime_keeps ?_ ?_
    | with_reducible refine Keeps.foldl _ (fun _ _ _ => ?_) ?_
    | with_reducible refine Keeps.foldl_fst _ (fun _ _ _ => ?_) ?_
    | dsimp only
    | split

theorem execPtpDelayResponse_keeps (domain : Nat) (source : Nat) (twoStep : Bool) (ts : Int) (arrival : Int) (s t : State) (e : execPtpDelayResponse domain source twoStep ts arrival s = .next t) :
    Keeps 1 s t := by
  have h : Keeps 1 s s := .refl _ _
  unfold execPtpDelayResponse at e
  cases e
  repeat' first
    | with_reducible assumption
    | decide
    | with_reducible refine Keeps.ite ?_ (fun _ => ?_)
    | with_reducible refine ptpDelayResponse_keeps ?_ ?_

theorem servo_keeps {V : Nat} {off : Int} {s0 s : State} (hV : subMask 140737488355329 V = true)
    (h : Keeps V s0 s) : Keeps V s0 (servo off s) := by
  refine h.step hV ?_
  clear h hV
  have h : Keeps 140737488355329 s s := .refl _ _
  unfold servo
  repeat' first
    | with_reducible assumption
    | decide
    | with_reducible refine Keeps.ite ?_ (fun _ => ?_)
    | with_reducible refine State.draw_keeps ?_ ?_
    | with_reducible refine State.modTime_keeps ?_ ?_

theorem ptpFollowUp_keeps {V : Nat} {domain : Nat} {source : Nat} {peer : Bool} {ts : Int} {s0 s : State} (hV : subMask 140737488355329 V = true)
    (h : Keeps V s0 s) : Keeps V s0 (ptpFollowUp domain source peer ts s) := by
  refine h.step hV ?_
  clear h hV
  have h : Keeps 140737488355329 s s := .refl _ _
  unfold ptpFollowUp
  repeat' first
    | with_reducible assumption
    | decide
    | with_reducible refine Keeps.ite ?_ (fun _ => ?_)
    | with_reducible refine State.modTime_keeps ?_ ?_
    | with_reducible refine servo_keeps ?_ ?_
    | with_reducible refine Keeps.foldl _ (fun _ _ _ => ?_) ?_
    | with_reducible refine Keeps.foldl_fst _ (fun _ _ _ => ?_) ?_
    | dsimp only
    | split

theorem execPtpFollowUp_keeps (domain : Nat) (source : Nat) (peer : Bool) (ts : Int) (s t : State) (e : execPtpFollowUp domain source peer ts s = .next t) :
    Keeps 140737488355329 s t := by
  have h : Keeps 140737488355329 s s := .refl _ _
  unfold execPtpFollowUp at e
  cases e
  repeat' first
    | with_reducible assumption
    | decide
    | with_reducible refine Keeps.ite ?_ (fun _ => ?_)
    | with_reducible refine ptpFollowUp_keeps ?_ ?_

theorem ptpSync_keeps {V : Nat} {domain : Nat} {source : Nat} {twoStep : Bool} {origin : Int} {rx : Int} {corr : Int} {s0 s : State} (hV : subMask 140737488355329 V = true)
    (h : Keeps V s0 s) : Keeps V s0 (ptpSync domain source twoStep origin rx corr s) := by
  refine h.step hV ?_
  clear h hV
  have h : Keeps 140737488355329 s s := .refl _ _
  unfold ptpSync
  repeat' first
    | with_reducible assumption
    | decide
    | with_reducible refine Keeps.ite ?_ (fun _ => ?_)
    | with_reducible refine State.modTime_keeps ?_ ?_
    | with_reducible refine servo_keeps ?_ ?_

theorem execPtpSync_keeps (domain : Nat) (source : Nat) (twoStep : Bool) (origin : Int) (rx : Int) (corr : Int) (s t : State) (e : execPtpSync domain source twoStep origin rx corr s = .next t) :
    Keeps 140737488355329 s t := by
  have h : Keeps 140737488355329 s s := .refl _ _
  unfold execPtpSync at e
  cases e
  repeat' first
    | with_reducible assumption
    | decide
    | with_reducible refine Keeps.ite ?_ (fun _ => ?_)
    | with_reducible refine ptpSync_keeps ?_ ?_

theorem execPtrateWrite_keeps (v : W32) (s t : State) (e : execPtrateWrite v s = .next t) :
    Keeps 11 s t := by
  have h : Keeps 11 s s := .refl _ _
  unfold execPtrateWrite at e
  cases e
  repeat' first
    | with_reducible assumption
    | decide
    | with_reducible refine Keeps.ite ?_ (fun _ => ?_)
    | with_reducible refine mmio_keeps ?_ (fun _ _ => ?_) ?_
    | with_reducible refine ptrateWrite_keeps ?_ ?_

theorem execPtstepWrite_keeps (v : W64) (whole : Bool) (s t : State) (e : execPtstepWrite v whole s = .next t) :
    Keeps 11 s t := by
  have h : Keeps 11 s s := .refl _ _
  unfold execPtstepWrite at e
  cases e
  repeat' first
    | with_reducible assumption
    | decide
    | with_reducible refine Keeps.ite ?_ (fun _ => ?_)
    | with_reducible refine mmio_keeps ?_ (fun _ _ => ?_) ?_
    | with_reducible refine ptstepWrite_keeps ?_ ?_

theorem execPttickRead_keeps (size : Nat) (s t : State) (e : execPttickRead size s = .next t) :
    Keeps 1035742369284202 s t := by
  have h : Keeps 1035742369284202 s s := .refl _ _
  unfold execPttickRead at e
  cases e
  repeat' first
    | with_reducible assumption
    | decide
    | with_reducible refine Keeps.ite ?_ (fun _ => ?_)
    | with_reducible refine busRead_keeps ?_ ?_

theorem publicationComplete_keeps {V : Nat} {f : Nat} {s0 s : State} (hV : subMask 879611449704458 V = true)
    (h : Keeps V s0 s) : Keeps V s0 (publicationComplete f s) := by
  refine h.step hV ?_
  clear h hV
  have h : Keeps 879611449704458 s s := .refl _ _
  unfold publicationComplete
  repeat' first
    | with_reducible assumption
    | decide
    | with_reducible refine Keeps.ite ?_ (fun _ => ?_)
    | with_reducible refine State.modImage_keeps ?_ ?_
    | with_reducible refine dmaRefused_keeps ?_ ?_
    | with_reducible refine out_keeps ?_ ?_
    | with_reducible refine raiseNorm_keeps ?_ ?_
    | with_reducible refine Keeps.foldl _ (fun _ _ _ => ?_) ?_
    | with_reducible refine Keeps.foldl_fst _ (fun _ _ _ => ?_) ?_
    | dsimp only
    | split

theorem execPublicationComplete_keeps (f : Nat) (s t : State) (e : execPublicationComplete f s = .next t) :
    Keeps 879611449704458 s t := by
  have h : Keeps 879611449704458 s s := .refl _ _
  unfold execPublicationComplete at e
  cases e
  repeat' first
    | with_reducible assumption
    | decide
    | with_reducible refine Keeps.ite ?_ (fun _ => ?_)
    | with_reducible refine publicationComplete_keeps ?_ ?_

theorem execQuarportClear_keeps (g : Nat) (s t : State) (e : execQuarportClear g s = .next t) :
    Keeps 1035742371905594 s t := by
  have h : Keeps 1035742371905594 s s := .refl _ _
  unfold execQuarportClear at e
  cases e
  repeat' first
    | with_reducible assumption
    | decide
    | with_reducible refine Keeps.ite ?_ (fun _ => ?_)
    | with_reducible refine quarportClear_keeps ?_ ?_
    | with_reducible refine tileMmio_keeps ?_ (fun _ _ => ?_) ?_

theorem execRcCounterRead_keeps (f : Nat) (a : Nat) (size : Nat) (s t : State) (e : execRcCounterRead f a size s = .next t) :
    Keeps 1035742369284202 s t := by
  have h : Keeps 1035742369284202 s s := .refl _ _
  unfold execRcCounterRead at e
  cases e
  repeat' first
    | with_reducible assumption
    | decide
    | with_reducible refine Keeps.ite ?_ (fun _ => ?_)
    | with_reducible refine busRead_keeps ?_ ?_
    | with_reducible refine Keeps.foldl _ (fun _ _ _ => ?_) ?_
    | with_reducible refine Keeps.foldl_fst _ (fun _ _ _ => ?_) ?_
    | dsimp only
    | split

theorem landWrite_keeps {V : Nat} {t0 : Nat} {w : RuleWrite} {s0 s : State} (hV : subMask 140738562098442 V = true)
    (h : Keeps V s0 s) : Keeps V s0 (landWrite t0 s w) := by
  refine h.step hV ?_
  clear h hV
  have h : Keeps 140738562098442 s s := .refl _ _
  unfold landWrite
  repeat' first
    | with_reducible assumption
    | decide
    | with_reducible refine Keeps.ite ?_ (fun _ => ?_)
    | with_reducible refine State.draw_keeps ?_ ?_
    | with_reducible refine State.modPoint_keeps ?_ ?_
    | with_reducible refine rfxLost_keeps ?_ ?_
    | with_reducible refine sourceWrite_keeps ?_ ?_

theorem sendCopies_keeps {V : Nat} {t0 : Nat} {s0 s : State} (hV : subMask 844424930148352 V = true)
    (h : Keeps V s0 s) : Keeps V s0 (sendCopies t0 s) := by
  refine h.step hV ?_
  clear h hV
  have h : Keeps 844424930148352 s s := .refl _ _
  unfold sendCopies
  repeat' first
    | with_reducible assumption
    | decide
    | with_reducible refine Keeps.ite ?_ (fun _ => ?_)
    | with_reducible refine out_keeps ?_ ?_
    | with_reducible refine Keeps.foldl _ (fun _ _ _ => ?_) ?_
    | with_reducible refine Keeps.foldl_fst _ (fun _ _ _ => ?_) ?_
    | dsimp only
    | split
    | with_reducible refine Keeps.set_copies ?_ ?_

theorem reflexWindow_keeps {V : Nat} {t0 : Nat} {s0 s : State} (hV : subMask 1020350011823370 V = true)
    (h : Keeps V s0 s) : Keeps V s0 (reflexWindow t0 s) := by
  refine h.step hV ?_
  clear h hV
  have h : Keeps 1020350011823370 s s := .refl _ _
  unfold reflexWindow
  repeat' first
    | with_reducible assumption
    | decide
    | with_reducible refine Keeps.ite ?_ (fun _ => ?_)
    | with_reducible refine State.modTile_keeps ?_ ?_
    | with_reducible refine evalRule_keeps ?_ ?_
    | with_reducible refine landWrite_keeps ?_ ?_
    | with_reducible refine rfxLost_keeps ?_ ?_
    | with_reducible refine sendCopies_keeps ?_ ?_
    | with_reducible refine Keeps.foldl _ (fun _ _ _ => ?_) ?_
    | with_reducible refine Keeps.foldl_fst _ (fun _ _ _ => ?_) ?_

theorem execReflexWindow_keeps (t0 : Nat) (s t : State) (e : execReflexWindow t0 s = .next t) :
    Keeps 1020350011823370 s t := by
  have h : Keeps 1020350011823370 s s := .refl _ _
  unfold execReflexWindow at e
  cases e
  repeat' first
    | with_reducible assumption
    | decide
    | with_reducible refine Keeps.ite ?_ (fun _ => ?_)
    | with_reducible refine reflexWindow_keeps ?_ ?_

theorem execRegisterWrite_keeps (f : Nat) (bar : Nat) (a : Nat) (size : Nat) (v : W64) (part : Bool) (s t : State) (e : execRegisterWrite f bar a size v part s = .next t) :
    Keeps 1125899906842623 s t := by
  have h : Keeps 1125899906842623 s s := .refl _ _
  unfold execRegisterWrite at e
  cases e
  repeat' first
    | with_reducible assumption
    | decide
    | with_reducible refine Keeps.ite ?_ (fun _ => ?_)
    | with_reducible refine busWrite_keeps ?_ ?_

theorem remoteCopy_keeps {V : Nat} {t0 : Nat} {p : Nat} {s0 s : State} (hV : subMask 24586 V = true)
    (h : Keeps V s0 s) : Keeps V s0 (remoteCopy t0 p s) := by
  refine h.step hV ?_
  clear h hV
  have h : Keeps 24586 s s := .refl _ _
  unfold remoteCopy
  repeat' first
    | with_reducible assumption
    | decide
    | with_reducible refine Keeps.ite ?_ (fun _ => ?_)
    | with_reducible refine countReg_keeps ?_ ?_
    | with_reducible refine setErr_keeps ?_ ?_
    | exact nwf_nmod _ _
    | exact nwf_nput _ _
    | exact nwf_filter _
    | exact fun _ => nwf_nmapAll _
    | exact ascKeys_nput _ _ _
    | exact ascKeys_filter _
    | exact nwf_foldl_nput _ _ _
    | exact memWrite_wf _ _ _
    | exact fun hi => nwf_nput _ _ (nwf_filter _ hi)
    | with_reducible refine Keeps.foldl _ (fun _ _ _ => ?_) ?_
    | with_reducible refine Keeps.foldl_fst _ (fun _ _ _ => ?_) ?_
    | dsimp only
    | split
    | with_reducible refine Keeps.set_remote_copies ?_ ?_ ?_ ?_

theorem execRemoteInputCopy_keeps (t0 : Nat) (p : Nat) (s t : State) (e : execRemoteInputCopy t0 p s = .next t) :
    Keeps 24586 s t := by
  have h : Keeps 24586 s s := .refl _ _
  unfold execRemoteInputCopy at e
  cases e
  repeat' first
    | with_reducible assumption
    | decide
    | with_reducible refine Keeps.ite ?_ (fun _ => ?_)
    | with_reducible refine remoteCopy_keeps ?_ ?_

theorem execResetHoldEnd_keeps (straps : BitVec 4) (flash : Bool) (s t : State) (e : execResetHoldEnd straps flash s = .next t) :
    Keeps 862052344660015 s t := by
  have h : Keeps 862052344660015 s s := .refl _ _
  unfold execResetHoldEnd at e
  cases e
  repeat' first
    | with_reducible assumption
    | decide
    | with_reducible refine Keeps.ite ?_ (fun _ => ?_)
    | with_reducible refine State.modPins_keeps ?_ ?_
    | with_reducible refine bootStart_keeps ?_ ?_

theorem retryFailed_keeps {V : Nat} {g : Nat} {r : Retry} {e0 : AEntry} {s0 s : State} (hV : subMask 879612523447610 V = true)
    (h : Keeps V s0 s) : Keeps V s0 (retryFailed g r e0 s) := by
  refine h.step hV ?_
  clear h hV
  have h : Keeps 879612523447610 s s := .refl _ _
  unfold retryFailed
  repeat' first
    | with_reducible assumption
    | decide
    | with_reducible refine Keeps.ite ?_ (fun _ => ?_)
    | with_reducible refine State.modPort_keeps ?_ ?_
    | with_reducible refine dropRetry_keeps ?_ ?_
    | with_reducible refine miss_keeps ?_ ?_

theorem retryReceived_keeps {V : Nat} {g : Nat} {n : Nat} {xid : Nat} {mis : Bool} {blocks : List RxBlock} {s0 s : State} (hV : subMask 1020350014653754 V = true)
    (h : Keeps V s0 s) : Keeps V s0 (retryReceived g n xid mis blocks s) := by
  refine h.step hV ?_
  clear h hV
  have h : Keeps 1020350014653754 s s := .refl _ _
  unfold retryReceived
  repeat' first
    | with_reducible assumption
    | decide
    | with_reducible refine Keeps.ite ?_ (fun _ => ?_)
    | with_reducible refine State.modNode_keeps ?_ ?_
    | with_reducible refine dropRetry_keeps ?_ ?_
    | with_reducible refine hostile_keeps ?_ ?_
    | with_reducible refine receive_keeps ?_ ?_
    | with_reducible refine retryFailed_keeps ?_ ?_
    | with_reducible refine seeHeader_keeps ?_ ?_
    | with_reducible refine writeUp_keeps ?_ ?_
    | with_reducible refine Keeps.foldl _ (fun _ _ _ => ?_) ?_
    | with_reducible refine Keeps.foldl_fst _ (fun _ _ _ => ?_) ?_
    | dsimp only
    | split

theorem execRetryReceived_keeps (g : Nat) (n : Nat) (xid : Nat) (mis : Bool) (blocks : List RxBlock) (s t : State) (e : execRetryReceived g n xid mis blocks s = .next t) :
    Keeps 1020350014653754 s t := by
  have h : Keeps 1020350014653754 s s := .refl _ _
  unfold execRetryReceived at e
  cases e
  repeat' first
    | with_reducible assumption
    | decide
    | with_reducible refine Keeps.ite ?_ (fun _ => ?_)
    | with_reducible refine retryReceived_keeps ?_ ?_

theorem execRingDisable_keeps (f : Nat) (kind : Nat) (q : Nat) (v : W32) (s t : State) (e : execRingDisable f kind q v s = .next t) :
    Keeps 10 s t := by
  have h : Keeps 10 s s := .refl _ _
  unfold execRingDisable at e
  cases e
  repeat' first
    | with_reducible assumption
    | decide
    | with_reducible refine Keeps.ite ?_ (fun _ => ?_)
    | with_reducible refine mmio_keeps ?_ (fun _ _ => ?_) ?_
    | with_reducible refine ringCfg_keeps ?_ ?_

theorem execRingEnable_keeps (f : Nat) (kind : Nat) (q : Nat) (v : W32) (s t : State) (e : execRingEnable f kind q v s = .next t) :
    Keeps 10 s t := by
  have h : Keeps 10 s s := .refl _ _
  unfold execRingEnable at e
  cases e
  repeat' first
    | with_reducible assumption
    | decide
    | with_reducible refine Keeps.ite ?_ (fun _ => ?_)
    | with_reducible refine mmio_keeps ?_ (fun _ _ => ?_) ?_
    | with_reducible refine ringCfg_keeps ?_ ?_

theorem rngTest_keeps {V : Nat} {good : Bool} {s0 s : State} (hV : subMask 1020348971876410 V = true)
    (h : Keeps V s0 s) : Keeps V s0 (rngTest good s) := by
  refine h.step hV ?_
  clear h hV
  have h : Keeps 1020348971876410 s s := .refl _ _
  unfold rngTest
  repeat' first
    | with_reducible assumption
    | decide
    | with_reducible refine Keeps.ite ?_ (fun _ => ?_)
    | with_reducible refine State.setReg_keeps ?_ ?_
    | with_reducible refine rerunSessions_keeps ?_ ?_
    | with_reducible refine sendNonce_keeps ?_ ?_
    | with_reducible refine setErr_keeps ?_ ?_
    | with_reducible refine Keeps.foldl _ (fun _ _ _ => ?_) ?_

theorem execRngHealthTest_keeps (good : Bool) (s t : State) (e : execRngHealthTest good s = .next t) :
    Keeps 1020348971876410 s t := by
  have h : Keeps 1020348971876410 s s := .refl _ _
  unfold execRngHealthTest at e
  cases e
  repeat' first
    | with_reducible assumption
    | decide
    | with_reducible refine Keeps.ite ?_ (fun _ => ?_)
    | with_reducible refine rngTest_keeps ?_ ?_

theorem writeRollback_keeps {V : Nat} {reason : Nat} {s0 s : State} (hV : subMask 879611483258890 V = true)
    (h : Keeps V s0 s) : Keeps V s0 (writeRollback reason s) := by
  refine h.step hV ?_
  clear h hV
  have h : Keeps 879611483258890 s s := .refl _ _
  unfold writeRollback
  repeat' first
    | with_reducible assumption
    | decide
    | with_reducible refine Keeps.ite ?_ (fun _ => ?_)
    | with_reducible refine emit_keeps ?_ ?_
    | with_reducible refine writeBoot_keeps ?_ ?_
    | with_reducible refine Keeps.foldl _ (fun _ _ _ => ?_) ?_
    | with_reducible refine Keeps.foldl_fst _ (fun _ _ _ => ?_) ?_
    | dsimp only
    | split

theorem rollbackCheck_keeps {V : Nat} {holdup : BitVec 8} {vin : Option (BitVec 16)} {s0 s : State} (hV : subMask 879611483258890 V = true)
    (h : Keeps V s0 s) : Keeps V s0 (rollbackCheck holdup vin s) := by
  refine h.step hV ?_
  clear h hV
  have h : Keeps 879611483258890 s s := .refl _ _
  unfold rollbackCheck
  repeat' first
    | with_reducible assumption
    | decide
    | with_reducible refine Keeps.ite ?_ (fun _ => ?_)
    | with_reducible refine State.modFw_keeps ?_ ?_
    | with_reducible refine endRejects_keeps ?_ ?_
    | with_reducible refine startSwitches_keeps ?_ ?_
    | with_reducible refine writeRollback_keeps ?_ ?_
    | with_reducible refine Keeps.foldl _ (fun _ _ _ => ?_) ?_
    | with_reducible refine Keeps.foldl_fst _ (fun _ _ _ => ?_) ?_
    | dsimp only
    | split

theorem execRollbackHoldupCheck_keeps (holdup : BitVec 8) (vin : Option (BitVec 16)) (s t : State) (e : execRollbackHoldupCheck holdup vin s = .next t) :
    Keeps 879611483258890 s t := by
  have h : Keeps 879611483258890 s s := .refl _ _
  unfold execRollbackHoldupCheck at e
  cases e
  repeat' first
    | with_reducible assumption
    | decide
    | with_reducible refine Keeps.ite ?_ (fun _ => ?_)
    | with_reducible refine rollbackCheck_keeps ?_ ?_

theorem onTile_keeps {V : Nat} {f : Nat} {t0 : Nat} {x : Entry} {k : State → State} {s0 s : State} (hV : subMask 879611449704458 V = true)
    (hk : ∀  (t : State), Keeps V s0 t → Keeps V s0 (k  t)) (h : Keeps V s0 s) :
    Keeps V s0 (onTile f t0 x k s) := by
  unfold onTile
  repeat' first
    | with_reducible assumption
    | exact subMask_trans (by decide) hV
    | with_reducible refine Keeps.ite ?_ (fun _ => ?_)
    | with_reducible refine finish_keeps ?_ ?_
    | with_reducible refine Keeps.foldl _ (fun _ _ _ => ?_) ?_
    | with_reducible refine Keeps.foldl_fst _ (fun _ _ _ => ?_) ?_
    | dsimp only
    | split
    | (with_reducible refine hk _ ?_)

theorem ruleSet_keeps {V : Nat} {f : Nat} {x : Entry} {s0 s : State} (hV : subMask 949980193882122 V = true)
    (h : Keeps V s0 s) : Keeps V s0 (ruleSet f x s) := by
  refine h.step hV ?_
  clear h hV
  have h : Keeps 949980193882122 s s := .refl _ _
  unfold ruleSet
  repeat' first
    | with_reducible assumption
    | decide
    | with_reducible refine Keeps.ite ?_ (fun _ => ?_)
    | with_reducible refine dmaRead_keeps ?_ ?_
    | with_reducible refine failHandle_keeps ?_ ?_
    | with_reducible refine onTile_keeps ?_ (fun _ _ => ?_) ?_
    | with_reducible refine startLong_keeps ?_ (fun _ _ _ => ?_) ?_

theorem execRuleSet_keeps (f : Nat) (e0 : Nat) (s t : State) (e : execRuleSet f e0 s = .next t) :
    Keeps 949980193882122 s t := by
  have h : Keeps 949980193882122 s s := .refl _ _
  unfold execRuleSet at e
  cases e
  repeat' first
    | with_reducible assumption
    | decide
    | with_reducible refine Keeps.ite ?_ (fun _ => ?_)
    | with_reducible refine cmd_keeps ?_ (fun _ _ _ => ?_) ?_
    | with_reducible refine ruleSet_keeps ?_ ?_

theorem execSampleoffWrite_keeps (v : W32) (s t : State) (e : execSampleoffWrite v s = .next t) :
    Keeps 11 s t := by
  have h : Keeps 11 s s := .refl _ _
  unfold execSampleoffWrite at e
  cases e
  repeat' first
    | with_reducible assumption
    | decide
    | with_reducible refine Keeps.ite ?_ (fun _ => ?_)
    | with_reducible refine mmio_keeps ?_ (fun _ _ => ?_) ?_
    | with_reducible refine sampleoffWrite_keeps ?_ ?_

theorem execSettingsCopyWritten_keeps (s t : State) (e : execSettingsCopyWritten s = .next t) :
    Keeps 844424963686410 s t := by
  have h : Keeps 844424963686410 s s := .refl _ _
  unfold execSettingsCopyWritten at e
  cases e
  repeat' first
    | with_reducible assumption
    | decide
    | with_reducible refine Keeps.ite ?_ (fun _ => ?_)
    | with_reducible refine copyWritten_keeps ?_ ?_

theorem execSettingsGenerationWaitEnd_keeps (s t : State) (e : execSettingsGenerationWaitEnd s = .next t) :
    Keeps 33554432 s t := by
  have h : Keeps 33554432 s s := .refl _ _
  unfold execSettingsGenerationWaitEnd at e
  cases e
  repeat' first
    | with_reducible assumption
    | decide
    | with_reducible refine Keeps.ite ?_ (fun _ => ?_)
    | with_reducible refine startWaiting_keeps ?_ ?_

theorem settingsSave_keeps {V : Nat} {f : Nat} {x : Entry} {s0 s : State} (hV : subMask 949980227436554 V = true)
    (h : Keeps V s0 s) : Keeps V s0 (settingsSave f x s) := by
  refine h.step hV ?_
  clear h hV
  have h : Keeps 949980227436554 s s := .refl _ _
  unfold settingsSave
  repeat' first
    | with_reducible assumption
    | decide
    | with_reducible refine Keeps.ite ?_ (fun _ => ?_)
    | with_reducible refine State.modFw_keeps ?_ ?_
    | with_reducible refine finish_keeps ?_ ?_
    | with_reducible refine startLong_keeps ?_ (fun _ _ _ => ?_) ?_
    | with_reducible refine startWaiting_keeps ?_ ?_
    | with_reducible refine Keeps.foldl _ (fun _ _ _ => ?_) ?_
    | with_reducible refine Keeps.foldl_fst _ (fun _ _ _ => ?_) ?_
    | dsimp only
    | split

theorem execSettingsSave_keeps (f : Nat) (e0 : Nat) (s t : State) (e : execSettingsSave f e0 s = .next t) :
    Keeps 949980227436554 s t := by
  have h : Keeps 949980227436554 s s := .refl _ _
  unfold execSettingsSave at e
  cases e
  repeat' first
    | with_reducible assumption
    | decide
    | with_reducible refine Keeps.ite ?_ (fun _ => ?_)
    | with_reducible refine cmd_keeps ?_ (fun _ _ _ => ?_) ?_
    | with_reducible refine settingsSave_keeps ?_ ?_

theorem shrinkDeadline_keeps {V : Nat} {f : Nat} {g : Nat} {s0 s : State} (hV : subMask 879612523447754 V = true)
    (h : Keeps V s0 s) : Keeps V s0 (shrinkDeadline f g s) := by
  refine h.step hV ?_
  clear h hV
  have h : Keeps 879612523447754 s s := .refl _ _
  unfold shrinkDeadline
  repeat' first
    | with_reducible assumption
    | decide
    | with_reducible refine Keeps.ite ?_ (fun _ => ?_)
    | with_reducible refine State.modList_keeps ?_ ?_
    | with_reducible refine dmaWrite_keeps ?_ ?_
    | with_reducible refine emit_keeps ?_ ?_
    | with_reducible refine muteEntries_keeps ?_ ?_
    | with_reducible refine Keeps.foldl _ (fun _ _ _ => ?_) ?_
    | with_reducible refine Keeps.foldl_fst _ (fun _ _ _ => ?_) ?_
    | dsimp only
    | split

theorem execShrinkDeadline_keeps (f : Nat) (g : Nat) (s t : State) (e : execShrinkDeadline f g s = .next t) :
    Keeps 879612523447754 s t := by
  have h : Keeps 879612523447754 s s := .refl _ _
  unfold execShrinkDeadline at e
  cases e
  repeat' first
    | with_reducible assumption
    | decide
    | with_reducible refine Keeps.ite ?_ (fun _ => ?_)
    | with_reducible refine shrinkDeadline_keeps ?_ ?_

theorem execSignalDetect_keeps (g : Nat) (s t : State) (e : execSignalDetect g s = .next t) :
    Keeps 1020348940156986 s t := by
  have h : Keeps 1020348940156986 s s := .refl _ _
  unfold execSignalDetect at e
  cases e
  repeat' first
    | with_reducible assumption
    | decide
    | with_reducible refine Keeps.ite ?_ (fun _ => ?_)
    | with_reducible refine State.modPort_keeps ?_ ?_
    | with_reducible refine tryTrain_keeps ?_ ?_

theorem signatureVerified_keeps {V : Nat} {g : Nat} {n : Nat} {s0 s : State} (hV : subMask 1020350014620986 V = true)
    (h : Keeps V s0 s) : Keeps V s0 (signatureVerified g n s) := by
  refine h.step hV ?_
  clear h hV
  have h : Keeps 1020350014620986 s s := .refl _ _
  unfold signatureVerified
  repeat' first
    | with_reducible assumption
    | decide
    | with_reducible refine Keeps.ite ?_ (fun _ => ?_)
    | with_reducible refine State.modNode_keeps ?_ ?_
    | with_reducible refine countReg_keeps ?_ ?_
    | with_reducible refine hostile_keeps ?_ ?_
    | with_reducible refine passed_keeps ?_ ?_

theorem execSignatureVerified_keeps (g : Nat) (n : Nat) (s t : State) (e : execSignatureVerified g n s = .next t) :
    Keeps 1020350014620986 s t := by
  have h : Keeps 1020350014620986 s s := .refl _ _
  unfold execSignatureVerified at e
  cases e
  repeat' first
    | with_reducible assumption
    | decide
    | with_reducible refine Keeps.ite ?_ (fun _ => ?_)
    | with_reducible refine signatureVerified_keeps ?_ ?_

theorem execSplitReadSnapshot_keeps (f : Nat) (bar : Nat) (a : Nat) (size : Nat) (s t : State) (e : execSplitReadSnapshot f bar a size s = .next t) :
    Keeps 1035742369284202 s t := by
  have h : Keeps 1035742369284202 s s := .refl _ _
  unfold execSplitReadSnapshot at e
  cases e
  repeat' first
    | with_reducible assumption
    | decide
    | with_reducible refine Keeps.ite ?_ (fun _ => ?_)
    | with_reducible refine busRead_keeps ?_ ?_

theorem noteFetch_keeps {V : Nat} {f : Nat} {s0 s : State} (hV : subMask 33554432 V = true)
    (h : Keeps V s0 s) : Keeps V s0 (noteFetch f s) := by
  refine h.step hV ?_
  clear h hV
  have h : Keeps 33554432 s s := .refl _ _
  unfold noteFetch
  repeat' first
    | with_reducible assumption
    | decide
    | with_reducible refine Keeps.ite ?_ (fun _ => ?_)
    | with_reducible refine Keeps.foldl _ (fun _ _ _ => ?_) ?_
    | with_reducible refine Keeps.foldl_fst _ (fun _ _ _ => ?_) ?_
    | dsimp only
    | split
    | with_reducible refine Keeps.set_fw ?_ ?_

theorem rejectBad_keeps {V : Nat} {f : Nat} {s0 s : State} (hV : subMask 879611449704458 V = true)
    (h : Keeps V s0 s) : Keeps V s0 (rejectBad f s) := by
  refine h.step hV ?_
  clear h hV
  have h : Keeps 879611449704458 s s := .refl _ _
  unfold rejectBad
  repeat' first
    | with_reducible assumption
    | decide
    | with_reducible refine Keeps.ite ?_ (fun _ => ?_)
    | with_reducible refine finish_keeps ?_ ?_
    | with_reducible refine Keeps.foldl _ (fun _ _ _ => ?_) ?_
    | with_reducible refine Keeps.foldl_fst _ (fun _ _ _ => ?_) ?_
    | dsimp only
    | split

theorem startTask_keeps {V : Nat} {f : Nat} {e0 : Entry} {s0 s : State} (hV : subMask 895004880928778 V = true)
    (h : Keeps V s0 s) : Keeps V s0 (startTask f e0 s) := by
  refine h.step hV ?_
  clear h hV
  have h : Keeps 895004880928778 s s := .refl _ _
  unfold startTask
  repeat' first
    | with_reducible assumption
    | decide
    | with_reducible refine Keeps.ite ?_ (fun _ => ?_)
    | with_reducible refine spawn_keeps ?_ ?_
    | with_reducible refine wakeSource_keeps ?_ ?_

theorem sqEntryReadDone_keeps {V : Nat} {f : Nat} {q : Nat} {err : Nat} {d : List Byte} {s0 s : State} (hV : subMask 895004914483210 V = true)
    (h : Keeps V s0 s) : Keeps V s0 (sqEntryReadDone f q err d s) := by
  refine h.step hV ?_
  clear h hV
  have h : Keeps 895004914483210 s s := .refl _ _
  unfold sqEntryReadDone
  repeat' first
    | with_reducible assumption
    | decide
    | with_reducible refine Keeps.ite ?_ (fun _ => ?_)
    | with_reducible refine State.modFn_keeps ?_ ?_
    | with_reducible refine State.modSq_keeps ?_ ?_
    | with_reducible refine noteFetch_keeps ?_ ?_
    | with_reducible refine rejectBad_keeps ?_ ?_
    | with_reducible refine ringStop_keeps ?_ ?_
    | with_reducible refine settleDrain_keeps ?_ ?_
    | with_reducible refine startTask_keeps ?_ ?_
    | with_reducible refine Keeps.foldl _ (fun _ _ _ => ?_) ?_
    | with_reducible refine Keeps.foldl_fst _ (fun _ _ _ => ?_) ?_
    | dsimp only
    | split

theorem execSqEntryReadDone_keeps (f : Nat) (q : Nat) (err : Nat) (d : List Byte) (s t : State) (e : execSqEntryReadDone f q err d s = .next t) :
    Keeps 895004914483210 s t := by
  have h : Keeps 895004914483210 s s := .refl _ _
  unfold execSqEntryReadDone at e
  cases e
  repeat' first
    | with_reducible assumption
    | decide
    | with_reducible refine Keeps.ite ?_ (fun _ => ?_)
    | with_reducible refine sqEntryReadDone_keeps ?_ ?_

theorem sqFetch_keeps {V : Nat} {f : Nat} {s0 s : State} (hV : subMask 879611449704458 V = true)
    (h : Keeps V s0 s) : Keeps V s0 (sqFetch f s) := by
  refine h.step hV ?_
  clear h hV
  have h : Keeps 879611449704458 s s := .refl _ _
  unfold sqFetch
  repeat' first
    | with_reducible assumption
    | decide
    | with_reducible refine Keeps.ite ?_ (fun _ => ?_)
    | with_reducible refine State.modFn_keeps ?_ ?_
    | with_reducible refine dmaRefused_keeps ?_ ?_
    | with_reducible refine engineWork_keeps ?_ ?_
    | with_reducible refine out_keeps ?_ ?_
    | with_reducible refine ringStop_keeps ?_ ?_
    | with_reducible refine Keeps.foldl _ (fun _ _ _ => ?_) ?_
    | with_reducible refine Keeps.foldl_fst _ (fun _ _ _ => ?_) ?_
    | dsimp only
    | split

theorem execSqFetch_keeps (f : Nat) (s t : State) (e : execSqFetch f s = .next t) :
    Keeps 879611449704458 s t := by
  have h : Keeps 879611449704458 s s := .refl _ _
  unfold execSqFetch at e
  cases e
  repeat' first
    | with_reducible assumption
    | decide
    | with_reducible refine Keeps.ite ?_ (fun _ => ?_)
    | with_reducible refine sqFetch_keeps ?_ ?_

theorem execSqTailDoorbell_keeps (f : Nat) (q : Nat) (v : BitVec 16) (s t : State) (e : execSqTailDoorbell f q v s = .next t) :
    Keeps 895004612493322 s t := by
  have h : Keeps 895004612493322 s s := .refl _ _
  unfold execSqTailDoorbell at e
  cases e
  repeat' first
    | with_reducible assumption
    | decide
    | with_reducible refine Keeps.ite ?_ (fun _ => ?_)
    | with_reducible refine doorbell_keeps ?_ ?_
    | with_reducible refine mmio_keeps ?_ (fun _ _ => ?_) ?_
    | with_reducible refine sqTail_keeps ?_ ?_

theorem execStandbyArm_keeps (v : W32) (s t : State) (e : execStandbyArm v s = .next t) :
    Keeps 895004612493322 s t := by
  have h : Keeps 895004612493322 s s := .refl _ _
  unfold execStandbyArm at e
  cases e
  repeat' first
    | with_reducible assumption
    | decide
    | with_reducible refine Keeps.ite ?_ (fun _ => ?_)
    | with_reducible refine mmio_keeps ?_ (fun _ _ => ?_) ?_
    | with_reducible refine stbyctlWrite_keeps ?_ ?_

theorem execStandbyDisarm_keeps (v : W32) (s t : State) (e : execStandbyDisarm v s = .next t) :
    Keeps 895004612493322 s t := by
  have h : Keeps 895004612493322 s s := .refl _ _
  unfold execStandbyDisarm at e
  cases e
  repeat' first
    | with_reducible assumption
    | decide
    | with_reducible refine Keeps.ite ?_ (fun _ => ?_)
    | with_reducible refine mmio_keeps ?_ (fun _ _ => ?_) ?_
    | with_reducible refine stbyctlWrite_keeps ?_ ?_

theorem standbyStopDone_keeps {V : Nat} {calib : Nat} {s0 s : State} (hV : subMask 846623953387521 V = true)
    (h : Keeps V s0 s) : Keeps V s0 (standbyStopDone calib s) := by
  refine h.step hV ?_
  clear h hV
  have h : Keeps 846623953387521 s s := .refl _ _
  unfold standbyStopDone
  repeat' first
    | with_reducible assumption
    | decide
    | with_reducible refine Keeps.ite ?_ (fun _ => ?_)
    | with_reducible refine State.modTime_keeps ?_ ?_
    | with_reducible refine out_keeps ?_ ?_
    | with_reducible refine Keeps.foldl _ (fun _ _ _ => ?_) ?_
    | with_reducible refine Keeps.foldl_fst _ (fun _ _ _ => ?_) ?_
    | dsimp only
    | split
    | with_reducible refine Keeps.set_stage ?_ ?_

theorem execStandbyStopDone_keeps (calib : Nat) (s t : State) (e : execStandbyStopDone calib s = .next t) :
    Keeps 846623953387521 s t := by
  have h : Keeps 846623953387521 s s := .refl _ _
  unfold execStandbyStopDone at e
  cases e
  repeat' first
    | with_reducible assumption
    | decide
    | with_reducible refine Keeps.ite ?_ (fun _ => ?_)
    | with_reducible refine standbyStopDone_keeps ?_ ?_

theorem execStandbyWaitTimeout_keeps (s t : State) (e : execStandbyWaitTimeout s = .next t) :
    Keeps 895004612493322 s t := by
  have h : Keeps 895004612493322 s s := .refl _ _
  unfold execStandbyWaitTimeout at e
  cases e
  repeat' first
    | with_reducible assumption
    | decide
    | with_reducible refine Keeps.ite ?_ (fun _ => ?_)
    | with_reducible refine cancelStandby_keeps ?_ ?_

theorem takeTimecfg_keeps {V : Nat} {s0 s : State} (hV : subMask 11 V = true)
    (h : Keeps V s0 s) : Keeps V s0 (takeTimecfg s) := by
  refine h.step hV ?_
  clear h hV
  have h : Keeps 11 s s := .refl _ _
  unfold takeTimecfg
  repeat' first
    | with_reducible assumption
    | decide
    | with_reducible refine Keeps.ite ?_ (fun _ => ?_)
    | with_reducible refine State.modFn_keeps ?_ ?_
    | with_reducible refine State.modTime_keeps ?_ ?_
    | with_reducible refine logClamp_keeps ?_ ?_
    | with_reducible refine Keeps.foldl _ (fun _ _ _ => ?_) ?_

theorem standbyWake_keeps {V : Nat} {count : Nat} {s0 s : State} (hV : subMask 890641999463691 V = true)
    (h : Keeps V s0 s) : Keeps V s0 (standbyWake count s) := by
  refine h.step hV ?_
  clear h hV
  have h : Keeps 890641999463691 s s := .refl _ _
  unfold standbyWake
  repeat' first
    | with_reducible assumption
    | decide
    | with_reducible refine Keeps.ite ?_ (fun _ => ?_)
    | with_reducible refine State.modTime_keeps ?_ ?_
    | with_reducible refine State.setReg_keeps ?_ ?_
    | with_reducible refine State.setSreg_keeps ?_ ?_
    | with_reducible refine ageBy_keeps ?_ ?_
    | with_reducible refine emit_keeps ?_ ?_
    | with_reducible refine emitMgr_keeps ?_ ?_
    | with_reducible refine flushTlps_keeps ?_ ?_
    | with_reducible refine out_keeps ?_ ?_
    | with_reducible refine raiseNorm_keeps ?_ ?_
    | with_reducible refine takeTimecfg_keeps ?_ ?_
    | with_reducible refine Keeps.foldl _ (fun _ _ _ => ?_) ?_
    | with_reducible refine Keeps.foldl_fst _ (fun _ _ _ => ?_) ?_
    | dsimp only
    | split
    | with_reducible refine Keeps.set_link ?_ ?_
    | with_reducible refine Keeps.set_stage_stopping ?_ ?_ ?_

theorem execStandbyWake_keeps (count : Nat) (s t : State) (e : execStandbyWake count s = .next t) :
    Keeps 890641999463691 s t := by
  have h : Keeps 890641999463691 s s := .refl _ _
  unfold execStandbyWake at e
  cases e
  repeat' first
    | with_reducible assumption
    | decide
    | with_reducible refine Keeps.ite ?_ (fun _ => ?_)
    | with_reducible refine standbyWake_keeps ?_ ?_

theorem raiseMax_keeps {V : Nat} {ty : Nat} {inst : Nat} {off : Nat} {n : Nat} {v : Nat} {s0 s : State} (hV : subMask 2 V = true)
    (h : Keeps V s0 s) : Keeps V s0 (raiseMax ty inst off n v s) := by
  refine h.step hV ?_
  clear h hV
  have h : Keeps 2 s s := .refl _ _
  unfold raiseMax
  repeat' first
    | with_reducible assumption
    | decide
    | with_reducible refine Keeps.ite ?_ (fun _ => ?_)
    | with_reducible refine State.setReg_keeps ?_ ?_

theorem stepOverrun_keeps {V : Nat} {t0 : Nat} {e0 : Nat} {dur : Nat} {s0 s : State} (hV : subMask 10 V = true)
    (h : Keeps V s0 s) : Keeps V s0 (stepOverrun t0 e0 dur s) := by
  refine h.step hV ?_
  clear h hV
  have h : Keeps 10 s s := .refl _ _
  unfold stepOverrun
  repeat' first
    | with_reducible assumption
    | decide
    | with_reducible refine Keeps.ite ?_ (fun _ => ?_)
    | with_reducible refine countReg_keeps ?_ ?_
    | with_reducible refine raiseMax_keeps ?_ ?_
    | with_reducible refine setErr_keeps ?_ ?_

theorem execStepOverrun_keeps (t0 : Nat) (e0 : Nat) (dur : Nat) (s t : State) (e : execStepOverrun t0 e0 dur s = .next t) :
    Keeps 10 s t := by
  have h : Keeps 10 s s := .refl _ _
  unfold execStepOverrun at e
  cases e
  repeat' first
    | with_reducible assumption
    | decide
    | with_reducible refine Keeps.ite ?_ (fun _ => ?_)
    | with_reducible refine stepOverrun_keeps ?_ ?_

theorem execSupplyDrop_keeps (s t : State) (e : execSupplyDrop s = .next t) :
    Keeps 1125899906842623 s t := by
  have h : Keeps 1125899906842623 s s := .refl _ _
  unfold execSupplyDrop at e
  cases e
  repeat' first
    | with_reducible assumption
    | decide
    | with_reducible refine Keeps.ite ?_ (fun _ => ?_)
    | with_reducible refine State.modPins_keeps ?_ ?_
    | with_reducible refine packageReset_keeps ?_ ?_
    | with_reducible refine Keeps.foldl _ (fun _ _ _ => ?_) ?_
    | with_reducible refine Keeps.foldl_fst _ (fun _ _ _ => ?_) ?_
    | dsimp only
    | split
    | with_reducible refine Keeps.set_jtag ?_ ?_

theorem swapFixed_keeps {V : Nat} {g : Nat} {s0 s : State} (hV : subMask 64 V = true)
    (h : Keeps V s0 s) : Keeps V s0 (swapFixed g s) := by
  refine h.step hV ?_
  clear h hV
  have h : Keeps 64 s s := .refl _ _
  unfold swapFixed
  repeat' first
    | with_reducible assumption
    | decide
    | with_reducible refine Keeps.ite ?_ (fun _ => ?_)
    | with_reducible refine State.modPlan_keeps ?_ ?_

theorem execSwapTickFixed_keeps (g : Nat) (s t : State) (e : execSwapTickFixed g s = .next t) :
    Keeps 64 s t := by
  have h : Keeps 64 s s := .refl _ _
  unfold execSwapTickFixed at e
  cases e
  repeat' first
    | with_reducible assumption
    | decide
    | with_reducible refine Keeps.ite ?_ (fun _ => ?_)
    | with_reducible refine swapFixed_keeps ?_ ?_

theorem writeSave_keeps {V : Nat} {seq : Nat} {t0 : Nat} {addr : Nat} {s0 s : State} (hV : subMask 844424930131976 V = true)
    (h : Keeps V s0 s) : Keeps V s0 (writeSave seq t0 addr s) := by
  refine h.step hV ?_
  clear h hV
  have h : Keeps 844424930131976 s s := .refl _ _
  unfold writeSave
  repeat' first
    | with_reducible assumption
    | decide
    | with_reducible refine Keeps.ite ?_ (fun _ => ?_)
    | with_reducible refine commitHandle_keeps ?_ ?_
    | with_reducible refine out_keeps ?_ ?_

theorem runSaves_keeps {V : Nat} {eid : Nat} {s0 s : State} (hV : subMask 844424930131976 V = true)
    (h : Keeps V s0 s) : Keeps V s0 (runSaves eid s) := by
  refine h.step hV ?_
  clear h hV
  have h : Keeps 844424930131976 s s := .refl _ _
  unfold runSaves
  repeat' first
    | with_reducible assumption
    | decide
    | with_reducible refine Keeps.ite ?_ (fun _ => ?_)
    | with_reducible refine writeSave_keeps ?_ ?_
    | with_reducible refine Keeps.foldl _ (fun _ _ _ => ?_) ?_
    | with_reducible refine Keeps.foldl_fst _ (fun _ _ _ => ?_) ?_
    | dsimp only
    | split

theorem stepOutcome_keeps {V : Nat} {t0 : Nat} {k : Task} {wake : Option Nat} {s0 s : State} (hV : subMask 879611550367946 V = true)
    (h : Keeps V s0 s) : Keeps V s0 (stepOutcome t0 k wake s) := by
  refine h.step hV ?_
  clear h hV
  have h : Keeps 879611550367946 s s := .refl _ _
  unfold stepOutcome
  repeat' first
    | with_reducible assumption
    | decide
    | with_reducible refine Keeps.ite ?_ (fun _ => ?_)
    | with_reducible refine freeTask_keeps ?_ ?_
    | with_reducible refine putTask_keeps ?_ ?_
    | with_reducible refine stopTask_keeps ?_ ?_
    | with_reducible refine Keeps.foldl _ (fun _ _ _ => ?_) ?_
    | with_reducible refine Keeps.foldl_fst _ (fun _ _ _ => ?_) ?_
    | dsimp only
    | split

theorem taskStepEnd_keeps {V : Nat} {t0 : Nat} {e0 : Nat} {wake : Option Nat} {dur : Nat} {wait : Nat} {s0 s : State} (hV : subMask 879611550367946 V = true)
    (h : Keeps V s0 s) : Keeps V s0 (taskStepEnd t0 e0 wake dur wait s) := by
  refine h.step hV ?_
  clear h hV
  have h : Keeps 879611550367946 s s := .refl _ _
  unfold taskStepEnd
  repeat' first
    | with_reducible assumption
    | decide
    | with_reducible refine Keeps.ite ?_ (fun _ => ?_)
    | with_reducible refine countReg_keeps ?_ ?_
    | with_reducible refine raiseMax_keeps ?_ ?_
    | with_reducible refine rejectBad_keeps ?_ ?_
    | with_reducible refine runSaves_keeps ?_ ?_
    | with_reducible refine stepOutcome_keeps ?_ ?_
    | with_reducible refine takeTasks_keeps ?_ ?_
    | with_reducible refine Keeps.foldl _ (fun _ _ _ => ?_) ?_
    | with_reducible refine Keeps.foldl_fst _ (fun _ _ _ => ?_) ?_
    | dsimp only
    | split

theorem execTaskStepEnd_keeps (t0 : Nat) (e0 : Nat) (wake : Option Nat) (dur : Nat) (wait : Nat) (s t : State) (e : execTaskStepEnd t0 e0 wake dur wait s = .next t) :
    Keeps 879611550367946 s t := by
  have h : Keeps 879611550367946 s s := .refl _ _
  unfold execTaskStepEnd at e
  cases e
  repeat' first
    | with_reducible assumption
    | decide
    | with_reducible refine Keeps.ite ?_ (fun _ => ?_)
    | with_reducible refine taskStepEnd_keeps ?_ ?_

theorem onTenant_keeps {V : Nat} {x : Entry} {fresh : Bool} {k : Nat → State → State} {s0 s : State} (hV : subMask 879611449704458 V = true)
    (hk : ∀ (x0 : Nat) (t : State), Keeps V s0 t → Keeps V s0 (k x0 t)) (h : Keeps V s0 s) :
    Keeps V s0 (onTenant x fresh k s) := by
  unfold onTenant
  repeat' first
    | with_reducible assumption
    | exact subMask_trans (by decide) hV
    | with_reducible refine Keeps.ite ?_ (fun _ => ?_)
    | with_reducible refine finish_keeps ?_ ?_
    | with_reducible refine Keeps.foldl _ (fun _ _ _ => ?_) ?_
    | with_reducible refine Keeps.foldl_fst _ (fun _ _ _ => ?_) ?_
    | dsimp only
    | split
    | (with_reducible refine hk _ _ ?_)

theorem readFor_keeps {V : Nat} {f : Nat} {seq : Nat} {addr : Nat} {len : Nat} {s0 s : State} (hV : subMask 879611449704458 V = true)
    (h : Keeps V s0 s) : Keeps V s0 (readFor f seq addr len s) := by
  refine h.step hV ?_
  clear h hV
  have h : Keeps 879611449704458 s s := .refl _ _
  unfold readFor
  repeat' first
    | with_reducible assumption
    | decide
    | with_reducible refine Keeps.ite ?_ (fun _ => ?_)
    | with_reducible refine dmaRead_keeps ?_ ?_
    | with_reducible refine failHandle_keeps ?_ ?_

theorem tenantCreate_keeps {V : Nat} {f : Nat} {x : Entry} {s0 s : State} (hV : subMask 949980193882122 V = true)
    (h : Keeps V s0 s) : Keeps V s0 (tenantCreate f x s) := by
  refine h.step hV ?_
  clear h hV
  have h : Keeps 949980193882122 s s := .refl _ _
  unfold tenantCreate
  repeat' first
    | with_reducible assumption
    | decide
    | with_reducible refine Keeps.ite ?_ (fun _ => ?_)
    | with_reducible refine State.modFn_keeps ?_ ?_
    | with_reducible refine finish_keeps ?_ ?_
    | with_reducible refine onTenant_keeps ?_ (fun _ _ _ => ?_) ?_
    | with_reducible refine readFor_keeps ?_ ?_
    | with_reducible refine startLong_keeps ?_ (fun _ _ _ => ?_) ?_

theorem execTenantCreate_keeps (f : Nat) (e0 : Nat) (s t : State) (e : execTenantCreate f e0 s = .next t) :
    Keeps 949980193882122 s t := by
  have h : Keeps 949980193882122 s s := .refl _ _
  unfold execTenantCreate at e
  cases e
  repeat' first
    | with_reducible assumption
    | decide
    | with_reducible refine Keeps.ite ?_ (fun _ => ?_)
    | with_reducible refine cmd_keeps ?_ (fun _ _ _ => ?_) ?_
    | with_reducible refine tenantCreate_keeps ?_ ?_

theorem tenantDestroy_keeps {V : Nat} {f : Nat} {x : Entry} {s0 s : State} (hV : subMask 965374699077610 V = true)
    (h : Keeps V s0 s) : Keeps V s0 (tenantDestroy f x s) := by
  refine h.step hV ?_
  clear h hV
  have h : Keeps 965374699077610 s s := .refl _ _
  unfold tenantDestroy
  repeat' first
    | with_reducible assumption
    | decide
    | with_reducible refine Keeps.ite ?_ (fun _ => ?_)
    | with_reducible refine onTenant_keeps ?_ (fun _ _ _ => ?_) ?_
    | with_reducible refine resetFn_keeps ?_ ?_
    | with_reducible refine startLong_keeps ?_ (fun _ _ _ => ?_) ?_

theorem execTenantDestroy_keeps (f : Nat) (e0 : Nat) (s t : State) (e : execTenantDestroy f e0 s = .next t) :
    Keeps 965374699077610 s t := by
  have h : Keeps 965374699077610 s s := .refl _ _
  unfold execTenantDestroy at e
  cases e
  repeat' first
    | with_reducible assumption
    | decide
    | with_reducible refine Keeps.ite ?_ (fun _ => ?_)
    | with_reducible refine cmd_keeps ?_ (fun _ _ _ => ?_) ?_
    | with_reducible refine tenantDestroy_keeps ?_ ?_

theorem freezeFn_keeps {V : Nat} {t0 : Nat} {s0 s : State} (hV : subMask 879611449835530 V = true)
    (h : Keeps V s0 s) : Keeps V s0 (freezeFn t0 s) := by
  refine h.step hV ?_
  clear h hV
  have h : Keeps 879611449835530 s s := .refl _ _
  unfold freezeFn
  repeat' first
    | with_reducible assumption
    | decide
    | with_reducible refine Keeps.ite ?_ (fun _ => ?_)
    | with_reducible refine State.modFn_keeps ?_ ?_
    | with_reducible refine bulkFreeze_keeps ?_ ?_

theorem tenantFreeze_keeps {V : Nat} {f : Nat} {x : Entry} {s0 s : State} (hV : subMask 949980194013194 V = true)
    (h : Keeps V s0 s) : Keeps V s0 (tenantFreeze f x s) := by
  refine h.step hV ?_
  clear h hV
  have h : Keeps 949980194013194 s s := .refl _ _
  unfold tenantFreeze
  repeat' first
    | with_reducible assumption
    | decide
    | with_reducible refine Keeps.ite ?_ (fun _ => ?_)
    | with_reducible refine finish_keeps ?_ ?_
    | with_reducible refine freezeFn_keeps ?_ ?_
    | with_reducible refine onTenant_keeps ?_ (fun _ _ _ => ?_) ?_
    | with_reducible refine startLong_keeps ?_ (fun _ _ _ => ?_) ?_

theorem execTenantFreeze_keeps (f : Nat) (e0 : Nat) (s t : State) (e : execTenantFreeze f e0 s = .next t) :
    Keeps 949980194013194 s t := by
  have h : Keeps 949980194013194 s s := .refl _ _
  unfold execTenantFreeze at e
  cases e
  repeat' first
    | with_reducible assumption
    | decide
    | with_reducible refine Keeps.ite ?_ (fun _ => ?_)
    | with_reducible refine cmd_keeps ?_ (fun _ _ _ => ?_) ?_
    | with_reducible refine tenantFreeze_keeps ?_ ?_

theorem tenantRestore_keeps {V : Nat} {f : Nat} {x : Entry} {s0 s : State} (hV : subMask 949980193882122 V = true)
    (h : Keeps V s0 s) : Keeps V s0 (tenantRestore f x s) := by
  refine h.step hV ?_
  clear h hV
  have h : Keeps 949980193882122 s s := .refl _ _
  unfold tenantRestore
  repeat' first
    | with_reducible assumption
    | decide
    | with_reducible refine Keeps.ite ?_ (fun _ => ?_)
    | with_reducible refine State.modFn_keeps ?_ ?_
    | with_reducible refine onTenant_keeps ?_ (fun _ _ _ => ?_) ?_
    | with_reducible refine readFor_keeps ?_ ?_
    | with_reducible refine startLong_keeps ?_ (fun _ _ _ => ?_) ?_

theorem execTenantRestore_keeps (f : Nat) (e0 : Nat) (s t : State) (e : execTenantRestore f e0 s = .next t) :
    Keeps 949980193882122 s t := by
  have h : Keeps 949980193882122 s s := .refl _ _
  unfold execTenantRestore at e
  cases e
  repeat' first
    | with_reducible assumption
    | decide
    | with_reducible refine Keeps.ite ?_ (fun _ => ?_)
    | with_reducible refine cmd_keeps ?_ (fun _ _ _ => ?_) ?_
    | with_reducible refine tenantRestore_keeps ?_ ?_

theorem tenantSave_keeps {V : Nat} {f : Nat} {x : Entry} {s0 s : State} (hV : subMask 949980194013194 V = true)
    (h : Keeps V s0 s) : Keeps V s0 (tenantSave f x s) := by
  refine h.step hV ?_
  clear h hV
  have h : Keeps 949980194013194 s s := .refl _ _
  unfold tenantSave
  repeat' first
    | with_reducible assumption
    | decide
    | with_reducible refine Keeps.ite ?_ (fun _ => ?_)
    | with_reducible refine finish_keeps ?_ ?_
    | with_reducible refine freezeFn_keeps ?_ ?_
    | with_reducible refine onTenant_keeps ?_ (fun _ _ _ => ?_) ?_
    | with_reducible refine startLong_keeps ?_ (fun _ _ _ => ?_) ?_

theorem execTenantSave_keeps (f : Nat) (e0 : Nat) (s t : State) (e : execTenantSave f e0 s = .next t) :
    Keeps 949980194013194 s t := by
  have h : Keeps 949980194013194 s s := .refl _ _
  unfold execTenantSave at e
  cases e
  repeat' first
    | with_reducible assumption
    | decide
    | with_reducible refine Keeps.ite ?_ (fun _ => ?_)
    | with_reducible refine cmd_keeps ?_ (fun _ _ _ => ?_) ?_
    | with_reducible refine tenantSave_keeps ?_ ?_

theorem servicePoint_keeps {V : Nat} {t0 : Nat} {s0 s : State} (hV : subMask 10 V = true)
    (h : Keeps V s0 s) : Keeps V s0 (servicePoint t0 s) := by
  refine h.step hV ?_
  clear h hV
  have h : Keeps 10 s s := .refl _ _
  unfold servicePoint
  repeat' first
    | with_reducible assumption
    | decide
    | with_reducible refine Keeps.ite ?_ (fun _ => ?_)
    | with_reducible refine State.modFn_keeps ?_ ?_
    | with_reducible refine State.modHandle_keeps ?_ ?_
    | with_reducible refine clearPages_keeps ?_ ?_
    | with_reducible refine Keeps.foldl _ (fun _ _ _ => ?_) ?_
    | with_reducible refine Keeps.foldl_fst _ (fun _ _ _ => ?_) ?_
    | dsimp only
    | split

theorem execTenantServicePoint_keeps (t0 : Nat) (s t : State) (e : execTenantServicePoint t0 s = .next t) :
    Keeps 10 s t := by
  have h : Keeps 10 s s := .refl _ _
  unfold execTenantServicePoint at e
  cases e
  repeat' first
    | with_reducible assumption
    | decide
    | with_reducible refine Keeps.ite ?_ (fun _ => ?_)
    | with_reducible refine servicePoint_keeps ?_ ?_

theorem tenantShare_keeps {V : Nat} {f : Nat} {x : Entry} {s0 s : State} (hV : subMask 949980193882122 V = true)
    (h : Keeps V s0 s) : Keeps V s0 (tenantShare f x s) := by
  refine h.step hV ?_
  clear h hV
  have h : Keeps 949980193882122 s s := .refl _ _
  unfold tenantShare
  repeat' first
    | with_reducible assumption
    | decide
    | with_reducible refine Keeps.ite ?_ (fun _ => ?_)
    | with_reducible refine finish_keeps ?_ ?_
    | with_reducible refine onTenant_keeps ?_ (fun _ _ _ => ?_) ?_
    | with_reducible refine readFor_keeps ?_ ?_
    | with_reducible refine startLong_keeps ?_ (fun _ _ _ => ?_) ?_

theorem execTenantShare_keeps (f : Nat) (e0 : Nat) (s t : State) (e : execTenantShare f e0 s = .next t) :
    Keeps 949980193882122 s t := by
  have h : Keeps 949980193882122 s s := .refl _ _
  unfold execTenantShare at e
  cases e
  repeat' first
    | with_reducible assumption
    | decide
    | with_reducible refine Keeps.ite ?_ (fun _ => ?_)
    | with_reducible refine cmd_keeps ?_ (fun _ _ _ => ?_) ?_
    | with_reducible refine tenantShare_keeps ?_ ?_

theorem tenantThaw_keeps {V : Nat} {f : Nat} {x : Entry} {s0 s : State} (hV : subMask 949980193882122 V = true)
    (h : Keeps V s0 s) : Keeps V s0 (tenantThaw f x s) := by
  refine h.step hV ?_
  clear h hV
  have h : Keeps 949980193882122 s s := .refl _ _
  unfold tenantThaw
  repeat' first
    | with_reducible assumption
    | decide
    | with_reducible refine Keeps.ite ?_ (fun _ => ?_)
    | with_reducible refine finish_keeps ?_ ?_
    | with_reducible refine onTenant_keeps ?_ (fun _ _ _ => ?_) ?_
    | with_reducible refine startLong_keeps ?_ (fun _ _ _ => ?_) ?_

theorem execTenantThaw_keeps (f : Nat) (e0 : Nat) (s t : State) (e : execTenantThaw f e0 s = .next t) :
    Keeps 949980193882122 s t := by
  have h : Keeps 949980193882122 s s := .refl _ _
  unfold execTenantThaw at e
  cases e
  repeat' first
    | with_reducible assumption
    | decide
    | with_reducible refine Keeps.ite ?_ (fun _ => ?_)
    | with_reducible refine cmd_keeps ?_ (fun _ _ _ => ?_) ?_
    | with_reducible refine tenantThaw_keeps ?_ ?_

theorem execTestLogicReset_keeps (s t : State) (e : execTestLogicReset s = .next t) :
    Keeps 134217728 s t := by
  have h : Keeps 134217728 s s := .refl _ _
  unfold execTestLogicReset at e
  cases e
  repeat' first
    | with_reducible assumption
    | decide
    | with_reducible refine Keeps.ite ?_ (fun _ => ?_)
    | with_reducible refine State.modJtag_keeps ?_ ?_

theorem execThermalTrip_keeps (t0 : Nat) (s t : State) (e : execThermalTrip t0 s = .next t) :
    Keeps 1020398095500666 s t := by
  have h : Keeps 1020398095500666 s s := .refl _ _
  unfold execThermalTrip at e
  cases e
  repeat' first
    | with_reducible assumption
    | decide
    | with_reducible refine Keeps.ite ?_ (fun _ => ?_)
    | with_reducible refine tileOut_keeps ?_ ?_

theorem plantStep_keeps {V : Nat} {s0 s : State} (hV : subMask 879611449704459 V = true)
    (h : Keeps V s0 s) : Keeps V s0 (plantStep s) := by
  refine h.step hV ?_
  clear h hV
  have h : Keeps 879611449704459 s s := .refl _ _
  unfold plantStep
  repeat' first
    | with_reducible assumption
    | decide
    | with_reducible refine Keeps.ite ?_ (fun _ => ?_)
    | with_reducible refine State.modTime_keeps ?_ ?_
    | with_reducible refine emit_keeps ?_ ?_
    | with_reducible refine Keeps.foldl _ (fun _ _ _ => ?_) ?_
    | with_reducible refine Keeps.foldl_fst _ (fun _ _ _ => ?_) ?_
    | dsimp only
    | split

theorem plantTick_keeps {V : Nat} {s0 s : State} (hV : subMask 879611449704459 V = true)
    (h : Keeps V s0 s) : Keeps V s0 (plantTick s) := by
  refine h.step hV ?_
  clear h hV
  have h : Keeps 879611449704459 s s := .refl _ _
  unfold plantTick
  repeat' first
    | with_reducible assumption
    | decide
    | with_reducible refine Keeps.ite ?_ (fun _ => ?_)
    | with_reducible refine State.modTime_keeps ?_ ?_
    | with_reducible refine plantStep_keeps ?_ ?_

theorem tickRecords_keeps {V : Nat} {s0 s : State} (hV : subMask 140738562098442 V = true)
    (h : Keeps V s0 s) : Keeps V s0 (tickRecords s) := by
  refine h.step hV ?_
  clear h hV
  have h : Keeps 140738562098442 s s := .refl _ _
  unfold tickRecords
  repeat' first
    | with_reducible assumption
    | decide
    | with_reducible refine Keeps.ite ?_ (fun _ => ?_)
    | with_reducible refine ageAll_keeps ?_ ?_
    | with_reducible refine applyOutputs_keeps ?_ ?_

theorem mgmtTurn_keeps {V : Nat} {g : Nat} {s0 s : State} (hV : subMask 985164565970960 V = true)
    (h : Keeps V s0 s) : Keeps V s0 (mgmtTurn g s) := by
  refine h.step hV ?_
  clear h hV
  have h : Keeps 985164565970960 s s := .refl _ _
  unfold mgmtTurn
  repeat' first
    | with_reducible assumption
    | decide
    | with_reducible refine Keeps.ite ?_ (fun _ => ?_)
    | with_reducible refine grantWishes_keeps ?_ ?_
    | with_reducible refine pumpMgmt_keeps ?_ ?_
    | with_reducible refine Keeps.foldl _ (fun _ _ _ => ?_) ?_
    | with_reducible refine Keeps.foldl_fst _ (fun _ _ _ => ?_) ?_
    | dsimp only
    | split

theorem portMgmt_keeps {V : Nat} {g : Nat} {s0 s : State} (hV : subMask 1020348940156986 V = true)
    (h : Keeps V s0 s) : Keeps V s0 (portMgmt s g) := by
  refine h.step hV ?_
  clear h hV
  have h : Keeps 1020348940156986 s s := .refl _ _
  unfold portMgmt
  repeat' first
    | with_reducible assumption
    | decide
    | with_reducible refine Keeps.ite ?_ (fun _ => ?_)
    | with_reducible refine mgmtTurn_keeps ?_ ?_
    | with_reducible refine startEnum_keeps ?_ ?_
    | with_reducible refine Keeps.foldl _ (fun _ _ _ => ?_) ?_
    | with_reducible refine Keeps.foldl_fst _ (fun _ _ _ => ?_) ?_
    | dsimp only
    | split

theorem rangeTarget_keeps {V : Nat} {g : Nat} {s0 s : State} (hV : subMask 16 V = true)
    (h : Keeps V s0 s) : Keeps V s0 (rangeTarget g s).1 := by
  refine h.step hV ?_
  clear h hV
  have h : Keeps 16 s s := .refl _ _
  unfold rangeTarget
  repeat' first
    | with_reducible assumption
    | decide
    | with_reducible refine Keeps.ite ?_ (fun _ => ?_)
    | with_reducible refine State.modPort_keeps ?_ ?_
    | with_reducible refine Keeps.foldl _ (fun _ _ _ => ?_) ?_
    | with_reducible refine Keeps.foldl_fst _ (fun _ _ _ => ?_) ?_
    | dsimp only
    | split

theorem retryGrant_keeps {V : Nat} {g : Nat} {r : Retry} {s0 s : State} (hV : subMask 1020350011802938 V = true)
    (h : Keeps V s0 s) : Keeps V s0 (retryGrant g s r) := by
  refine h.step hV ?_
  clear h hV
  have h : Keeps 1020350011802938 s s := .refl _ _
  unfold retryGrant
  repeat' first
    | with_reducible assumption
    | decide
    | with_reducible refine Keeps.ite ?_ (fun _ => ?_)
    | with_reducible refine dropRetry_keeps ?_ ?_
    | with_reducible refine miss_keeps ?_ ?_
    | with_reducible refine tryGrant_getD_keeps ?_ ?_ ?_
    | with_reducible refine Keeps.foldl _ (fun _ _ _ => ?_) ?_
    | with_reducible refine Keeps.foldl_fst _ (fun _ _ _ => ?_) ?_
    | dsimp only
    | split

theorem retryGrants_keeps {V : Nat} {g : Nat} {s0 s : State} (hV : subMask 1020350011802938 V = true)
    (h : Keeps V s0 s) : Keeps V s0 (retryGrants g s) := by
  refine h.step hV ?_
  clear h hV
  have h : Keeps 1020350011802938 s s := .refl _ _
  unfold retryGrants
  repeat' first
    | with_reducible assumption
    | decide
    | with_reducible refine Keeps.ite ?_ (fun _ => ?_)
    | with_reducible refine retryGrant_keeps ?_ ?_
    | with_reducible refine Keeps.foldl _ (fun _ _ _ => ?_) ?_
    | with_reducible refine Keeps.foldl_fst _ (fun _ _ _ => ?_) ?_
    | dsimp only
    | split

theorem sendAck_keeps {V : Nat} {g : Nat} {a : Nat × Nat} {s0 s : State} (hV : subMask 985162418487312 V = true)
    (h : Keeps V s0 s) : Keeps V s0 (sendAck g s a) := by
  refine h.step hV ?_
  clear h hV
  have h : Keeps 985162418487312 s s := .refl _ _
  unfold sendAck
  repeat' first
    | with_reducible assumption
    | decide
    | with_reducible refine Keeps.ite ?_ (fun _ => ?_)
    | with_reducible refine State.modPort_keeps ?_ ?_
    | with_reducible refine out_keeps ?_ ?_
    | with_reducible refine takeDown_keeps ?_ ?_ (by assumption)
    | with_reducible refine Keeps.foldl _ (fun _ _ _ => ?_) ?_
    | with_reducible refine Keeps.foldl_fst _ (fun _ _ _ => ?_) ?_
    | dsimp only
    | split

theorem sendAcks_keeps {V : Nat} {g : Nat} {s0 s : State} (hV : subMask 985162418487312 V = true)
    (h : Keeps V s0 s) : Keeps V s0 (sendAcks g s) := by
  refine h.step hV ?_
  clear h hV
  have h : Keeps 985162418487312 s s := .refl _ _
  unfold sendAcks
  repeat' first
    | with_reducible assumption
    | decide
    | with_reducible refine Keeps.ite ?_ (fun _ => ?_)
    | with_reducible refine State.modPort_keeps ?_ ?_
    | with_reducible refine sendAck_keeps ?_ ?_
    | with_reducible refine Keeps.foldl _ (fun _ _ _ => ?_) ?_
    | with_reducible refine Keeps.foldl_fst _ (fun _ _ _ => ?_) ?_
    | dsimp only
    | split

theorem sendPeriodic_keeps {V : Nat} {g : Nat} {s0 s : State} (hV : subMask 844424930132032 V = true)
    (h : Keeps V s0 s) : Keeps V s0 (sendPeriodic g s) := by
  refine h.step hV ?_
  clear h hV
  have h : Keeps 844424930132032 s s := .refl _ _
  unfold sendPeriodic
  repeat' first
    | with_reducible assumption
    | decide
    | with_reducible refine Keeps.ite ?_ (fun _ => ?_)
    | with_reducible refine State.modPlanNow_keeps ?_ ?_
    | with_reducible refine out_keeps ?_ ?_
    | with_reducible refine Keeps.foldl _ (fun _ _ _ => ?_) ?_

theorem portTick_keeps {V : Nat} {g : Nat} {s0 s : State} (hV : subMask 1020350011803002 V = true)
    (h : Keeps V s0 s) : Keeps V s0 (portTick s g) := by
  refine h.step hV ?_
  clear h hV
  have h : Keeps 1020350011803002 s s := .refl _ _
  unfold portTick
  repeat' first
    | with_reducible assumption
    | decide
    | with_reducible refine Keeps.ite ?_ (fun _ => ?_)
    | with_reducible refine State.modPort_keeps ?_ ?_
    | with_reducible refine out_keeps ?_ ?_
    | with_reducible refine rangeTarget_keeps ?_ ?_
    | with_reducible refine retryGrants_keeps ?_ ?_
    | with_reducible refine sendAcks_keeps ?_ ?_
    | with_reducible refine sendPeriodic_keeps ?_ ?_
    | with_reducible refine swapFixed_keeps ?_ ?_

theorem releaseEvents_keeps {V : Nat} {s0 s : State} (hV : subMask 879611449704458 V = true)
    (h : Keeps V s0 s) : Keeps V s0 (releaseEvents s) := by
  refine h.step hV ?_
  clear h hV
  have h : Keeps 879611449704458 s s := .refl _ _
  unfold releaseEvents
  repeat' first
    | with_reducible assumption
    | decide
    | with_reducible refine Keeps.ite ?_ (fun _ => ?_)
    | with_reducible refine emit_keeps ?_ ?_
    | with_reducible refine Keeps.foldl _ (fun _ _ _ => ?_) ?_
    | with_reducible refine Keeps.foldl_fst _ (fun _ _ _ => ?_) ?_
    | dsimp only
    | split
    | with_reducible refine Keeps.set_evHeld ?_ ?_

theorem standbyTick_keeps {V : Nat} {s0 s : State} (hV : subMask 2199023255552 V = true)
    (h : Keeps V s0 s) : Keeps V s0 (standbyTick s) := by
  refine h.step hV ?_
  clear h hV
  have h : Keeps 2199023255552 s s := .refl _ _
  unfold standbyTick
  repeat' first
    | with_reducible assumption
    | decide
    | with_reducible refine Keeps.ite ?_ (fun _ => ?_)
    | with_reducible refine Keeps.foldl _ (fun _ _ _ => ?_) ?_
    | with_reducible refine Keeps.foldl_fst _ (fun _ _ _ => ?_) ?_
    | dsimp only
    | split
    | with_reducible refine Keeps.set_stage ?_ ?_

theorem tickWork_keeps {V : Nat} {due : List Nat} {s0 s : State} (hV : subMask 1022549070906746 V = true)
    (h : Keeps V s0 s) : Keeps V s0 (tickWork due s) := by
  refine h.step hV ?_
  clear h hV
  have h : Keeps 1022549070906746 s s := .refl _ _
  unfold tickWork
  repeat' first
    | with_reducible assumption
    | decide
    | with_reducible refine Keeps.ite ?_ (fun _ => ?_)
    | with_reducible refine admWipe_keeps ?_ ?_
    | with_reducible refine applyDeferred_keeps ?_ ?_
    | with_reducible refine bootRelease_keeps ?_ ?_
    | with_reducible refine bridgeTick_keeps ?_ ?_
    | with_reducible refine bulkTick_keeps ?_ ?_
    | with_reducible refine delaysDue_keeps ?_ ?_
    | with_reducible refine dozeTick_keeps ?_ ?_
    | with_reducible refine fwuSettle_keeps ?_ ?_
    | with_reducible refine portMgmt_keeps ?_ ?_
    | with_reducible refine portTick_keeps ?_ ?_
    | with_reducible refine releaseEvents_keeps ?_ ?_
    | with_reducible refine standbyTick_keeps ?_ ?_
    | with_reducible refine Keeps.foldl _ (fun _ _ _ => ?_) ?_

theorem timeTokens_keeps {V : Nat} {s0 s : State} (hV : subMask 844424930131968 V = true)
    (h : Keeps V s0 s) : Keeps V s0 (timeTokens s) := by
  refine h.step hV ?_
  clear h hV
  have h : Keeps 844424930131968 s s := .refl _ _
  unfold timeTokens
  repeat' first
    | with_reducible assumption
    | decide
    | with_reducible refine Keeps.ite ?_ (fun _ => ?_)
    | with_reducible refine out_keeps ?_ ?_
    | with_reducible refine Keeps.foldl _ (fun _ _ _ => ?_) ?_

theorem tickBoundary_keeps {V : Nat} {s0 s : State} (hV : subMask 1022549070939515 V = true)
    (h : Keeps V s0 s) : Keeps V s0 (tickBoundary s) := by
  refine h.step hV ?_
  clear h hV
  have h : Keeps 1022549070939515 s s := .refl _ _
  unfold tickBoundary
  repeat' first
    | with_reducible assumption
    | decide
    | with_reducible refine Keeps.ite ?_ (fun _ => ?_)
    | with_reducible refine State.modTime_keeps ?_ ?_
    | with_reducible refine frameStart_keeps ?_ ?_
    | with_reducible refine plantTick_keeps ?_ ?_
    | with_reducible refine takeTimecfg_keeps ?_ ?_
    | with_reducible refine tickRecords_keeps ?_ ?_
    | with_reducible refine tickWork_keeps ?_ ?_
    | with_reducible refine timeTokens_keeps ?_ ?_
    | with_reducible refine Keeps.set_unseen ?_ ?_

theorem execTickBoundary_keeps (s t : State) (e : execTickBoundary s = .next t) :
    Keeps 1022549070939515 s t := by
  have h : Keeps 1022549070939515 s s := .refl _ _
  unfold execTickBoundary at e
  cases e
  repeat' first
    | with_reducible assumption
    | decide
    | with_reducible refine Keeps.ite ?_ (fun _ => ?_)
    | with_reducible refine tickBoundary_keeps ?_ ?_

theorem putSnap_keeps {V : Nat} {bar : Nat} {x : Option Snapshot} {s0 s : State} (hV : subMask 8 V = true)
    (h : Keeps V s0 s) : Keeps V s0 (putSnap bar x s) := by
  refine h.step hV ?_
  clear h hV
  have h : Keeps 8 s s := .refl _ _
  unfold putSnap
  repeat' first
    | with_reducible assumption
    | decide
    | with_reducible refine Keeps.ite ?_ (fun _ => ?_)
    | with_reducible refine State.modFn_keeps ?_ ?_
    | with_reducible refine Keeps.foldl _ (fun _ _ _ => ?_) ?_
    | with_reducible refine Keeps.foldl_fst _ (fun _ _ _ => ?_) ?_
    | dsimp only
    | split

theorem heldAccess_keeps {V : Nat} {a : HeldAcc} {s0 s : State} (hV : subMask 1125899906842623 V = true)
    (h : Keeps V s0 s) : Keeps V s0 (heldAccess s a) := by
  refine h.step hV ?_
  clear h hV
  have h : Keeps 1125899906842623 s s := .refl _ _
  unfold heldAccess
  repeat' first
    | with_reducible assumption
    | decide
    | with_reducible refine Keeps.ite ?_ (fun _ => ?_)
    | with_reducible refine busRead_keeps ?_ ?_
    | with_reducible refine busWrite_keeps ?_ ?_
    | with_reducible refine putSnap_keeps ?_ ?_
    | with_reducible refine Keeps.foldl _ (fun _ _ _ => ?_) ?_
    | with_reducible refine Keeps.foldl_fst _ (fun _ _ _ => ?_) ?_
    | dsimp only
    | split

theorem replayHeld_keeps {V : Nat} {t0 : Nat} {s0 s : State} (hV : subMask 1125899906842623 V = true)
    (h : Keeps V s0 s) : Keeps V s0 (replayHeld t0 s) := by
  refine h.step hV ?_
  clear h hV
  have h : Keeps 1125899906842623 s s := .refl _ _
  unfold replayHeld
  repeat' first
    | with_reducible assumption
    | decide
    | with_reducible refine Keeps.ite ?_ (fun _ => ?_)
    | with_reducible refine State.modFn_keeps ?_ ?_
    | with_reducible refine State.modPwr_keeps ?_ ?_
    | with_reducible refine heldAccess_keeps ?_ ?_
    | with_reducible refine putSnap_keeps ?_ ?_
    | with_reducible refine Keeps.foldl _ (fun _ _ _ => ?_) ?_

theorem reportLoss_keeps {V : Nat} {t0 : Nat} {lost : Nat} {s0 s : State} (hV : subMask 879611449704458 V = true)
    (h : Keeps V s0 s) : Keeps V s0 (reportLoss t0 lost s) := by
  refine h.step hV ?_
  clear h hV
  have h : Keeps 879611449704458 s s := .refl _ _
  unfold reportLoss
  repeat' first
    | with_reducible assumption
    | decide
    | with_reducible refine Keeps.ite ?_ (fun _ => ?_)
    | with_reducible refine State.modImage_keeps ?_ ?_
    | with_reducible refine emit_keeps ?_ ?_
    | with_reducible refine Keeps.foldl _ (fun _ _ _ => ?_) ?_

theorem startHeld_keeps {V : Nat} {t0 : Nat} {s0 s : State} (hV : subMask 895004880928778 V = true)
    (h : Keeps V s0 s) : Keeps V s0 (startHeld t0 s) := by
  refine h.step hV ?_
  clear h hV
  have h : Keeps 895004880928778 s s := .refl _ _
  unfold startHeld
  repeat' first
    | with_reducible assumption
    | decide
    | with_reducible refine Keeps.ite ?_ (fun _ => ?_)
    | with_reducible refine startTask_keeps ?_ ?_
    | with_reducible refine Keeps.foldl _ (fun _ _ _ => ?_) ?_

theorem wakeDone_keeps {V : Nat} {t0 : Nat} {s0 s : State} (hV : subMask 2147483656 V = true)
    (h : Keeps V s0 s) : Keeps V s0 (wakeDone t0 s) := by
  refine h.step hV ?_
  clear h hV
  have h : Keeps 2147483656 s s := .refl _ _
  unfold wakeDone
  repeat' first
    | with_reducible assumption
    | decide
    | with_reducible refine Keeps.ite ?_ (fun _ => ?_)
    | with_reducible refine State.modPwr_keeps ?_ ?_
    | with_reducible refine endHandle_keeps ?_ ?_
    | with_reducible refine startDrying_keeps ?_ ?_
    | with_reducible refine Keeps.foldl _ (fun _ _ _ => ?_) ?_
    | with_reducible refine Keeps.foldl_fst _ (fun _ _ _ => ?_) ?_
    | dsimp only
    | split

theorem wokeSwitched_keeps {V : Nat} {t0 : Nat} {s0 s : State} (hV : subMask 33554440 V = true)
    (h : Keeps V s0 s) : Keeps V s0 (wokeSwitched t0 s) := by
  refine h.step hV ?_
  clear h hV
  have h : Keeps 33554440 s s := .refl _ _
  unfold wokeSwitched
  repeat' first
    | with_reducible assumption
    | decide
    | with_reducible refine Keeps.ite ?_ (fun _ => ?_)
    | with_reducible refine State.modFw_keeps ?_ ?_
    | with_reducible refine nextSwitch_keeps ?_ ?_
    | with_reducible refine Keeps.foldl _ (fun _ _ _ => ?_) ?_
    | with_reducible refine Keeps.foldl_fst _ (fun _ _ _ => ?_) ?_
    | dsimp only
    | split

theorem tileReady_keeps {V : Nat} {t0 : Nat} {us : Nat} {links : Nat} {s0 s : State} (hV : subMask 1125899906842623 V = true)
    (h : Keeps V s0 s) : Keeps V s0 (tileReady t0 us links s) := by
  refine h.step hV ?_
  clear h hV
  have h : Keeps 1125899906842623 s s := .refl _ _
  unfold tileReady
  repeat' first
    | with_reducible assumption
    | decide
    | with_reducible refine Keeps.ite ?_ (fun _ => ?_)
    | with_reducible refine State.modPwr_keeps ?_ ?_
    | with_reducible refine State.modTile_keeps ?_ ?_
    | with_reducible refine State.setReg_keeps ?_ ?_
    | with_reducible refine clearRules_keeps ?_ ?_
    | with_reducible refine countReg_keeps ?_ ?_
    | with_reducible refine lateWake_keeps ?_ ?_
    | with_reducible refine loseCopies_keeps ?_ ?_
    | with_reducible refine raiseNorm_keeps ?_ ?_
    | with_reducible refine replayHeld_keeps ?_ ?_
    | with_reducible refine reportLoss_keeps ?_ ?_
    | with_reducible refine setTileOk_keeps ?_ ?_
    | with_reducible refine startHeld_keeps ?_ ?_
    | with_reducible refine startLevel_keeps ?_ ?_
    | with_reducible refine tileState_keeps ?_ ?_
    | with_reducible refine unlockDry_keeps ?_ ?_
    | with_reducible refine wakeDone_keeps ?_ ?_
    | with_reducible refine wokeSwitched_keeps ?_ ?_
    | with_reducible refine Keeps.foldl _ (fun _ _ _ => ?_) ?_
    | with_reducible refine Keeps.foldl_fst _ (fun _ _ _ => ?_) ?_
    | dsimp only
    | split
    | with_reducible refine Keeps.set_mesh ?_ ?_

theorem execTileReady_keeps (t0 : Nat) (us : Nat) (links : Nat) (s t : State) (e : execTileReady t0 us links s = .next t) :
    Keeps 1125899906842623 s t := by
  have h : Keeps 1125899906842623 s s := .refl _ _
  unfold execTileReady at e
  cases e
  repeat' first
    | with_reducible assumption
    | decide
    | with_reducible refine Keeps.ite ?_ (fun _ => ?_)
    | with_reducible refine tileReady_keeps ?_ ?_

theorem execTileReset_keeps (t0 : Nat) (s t : State) (e : execTileReset t0 s = .next t) :
    Keeps 1035743543916026 s t := by
  have h : Keeps 1035743543916026 s s := .refl _ _
  unfold execTileReset at e
  cases e
  repeat' first
    | with_reducible assumption
    | decide
    | with_reducible refine Keeps.ite ?_ (fun _ => ?_)
    | with_reducible refine mmio_keeps ?_ (fun _ _ => ?_) ?_
    | with_reducible refine tileCtlReset_keeps ?_ ?_

theorem switched_keeps {V : Nat} {t0 : Nat} {w : Switching} {pause : Nat} {s0 s : State} (hV : subMask 879611483258890 V = true)
    (h : Keeps V s0 s) : Keeps V s0 (switched t0 w pause s) := by
  refine h.step hV ?_
  clear h hV
  have h : Keeps 879611483258890 s s := .refl _ _
  unfold switched
  repeat' first
    | with_reducible assumption
    | decide
    | with_reducible refine Keeps.ite ?_ (fun _ => ?_)
    | with_reducible refine State.modFw_keeps ?_ ?_
    | with_reducible refine emitMgr_keeps ?_ ?_

theorem switchByReset_keeps {V : Nat} {t0 : Nat} {pause : Nat} {s0 s : State} (hV : subMask 879611483258890 V = true)
    (h : Keeps V s0 s) : Keeps V s0 (switchByReset t0 pause s) := by
  refine h.step hV ?_
  clear h hV
  have h : Keeps 879611483258890 s s := .refl _ _
  unfold switchByReset
  repeat' first
    | with_reducible assumption
    | decide
    | with_reducible refine Keeps.ite ?_ (fun _ => ?_)
    | with_reducible refine emitMgr_keeps ?_ ?_
    | with_reducible refine nextSwitch_keeps ?_ ?_
    | with_reducible refine switched_keeps ?_ ?_
    | with_reducible refine Keeps.foldl _ (fun _ _ _ => ?_) ?_
    | with_reducible refine Keeps.foldl_fst _ (fun _ _ _ => ?_) ?_
    | dsimp only
    | split

theorem tileResetReady_keeps {V : Nat} {t0 : Nat} {us : Nat} {pause : Nat} {s0 s : State} (hV : subMask 895004914483210 V = true)
    (h : Keeps V s0 s) : Keeps V s0 (tileResetReady t0 us pause s) := by
  refine h.step hV ?_
  clear h hV
  have h : Keeps 895004914483210 s s := .refl _ _
  unfold tileResetReady
  repeat' first
    | with_reducible assumption
    | decide
    | with_reducible refine Keeps.ite ?_ (fun _ => ?_)
    | with_reducible refine State.modTile_keeps ?_ ?_
    | with_reducible refine emitMgr_keeps ?_ ?_
    | with_reducible refine startHeld_keeps ?_ ?_
    | with_reducible refine startLevel_keeps ?_ ?_
    | with_reducible refine startWaiting_keeps ?_ ?_
    | with_reducible refine switchByReset_keeps ?_ ?_
    | with_reducible refine Keeps.foldl _ (fun _ _ _ => ?_) ?_
    | with_reducible refine Keeps.foldl_fst _ (fun _ _ _ => ?_) ?_
    | dsimp only
    | split

theorem execTileResetReady_keeps (t0 : Nat) (us : Nat) (pause : Nat) (s t : State) (e : execTileResetReady t0 us pause s = .next t) :
    Keeps 1125899906842623 s t := by
  have h : Keeps 1125899906842623 s s := .refl _ _
  unfold execTileResetReady at e
  cases e
  repeat' first
    | with_reducible assumption
    | decide
    | with_reducible refine Keeps.ite ?_ (fun _ => ?_)
    | with_reducible refine replayHeld_keeps ?_ ?_
    | with_reducible refine tileResetReady_keeps ?_ ?_

theorem switchDone_keeps {V : Nat} {t0 : Nat} {pause : Nat} {s0 s : State} (hV : subMask 879611483258890 V = true)
    (h : Keeps V s0 s) : Keeps V s0 (switchDone t0 pause s) := by
  refine h.step hV ?_
  clear h hV
  have h : Keeps 879611483258890 s s := .refl _ _
  unfold switchDone
  repeat' first
    | with_reducible assumption
    | decide
    | with_reducible refine Keeps.ite ?_ (fun _ => ?_)
    | with_reducible refine nextSwitch_keeps ?_ ?_
    | with_reducible refine startWaiting_keeps ?_ ?_
    | with_reducible refine switched_keeps ?_ ?_
    | with_reducible refine takeTasks_keeps ?_ ?_
    | with_reducible refine Keeps.foldl _ (fun _ _ _ => ?_) ?_
    | with_reducible refine Keeps.foldl_fst _ (fun _ _ _ => ?_) ?_
    | dsimp only
    | split

theorem execTileSwitchDone_keeps (t0 : Nat) (pause : Nat) (s t : State) (e : execTileSwitchDone t0 pause s = .next t) :
    Keeps 879611483258890 s t := by
  have h : Keeps 879611483258890 s s := .refl _ _
  unfold execTileSwitchDone at e
  cases e
  repeat' first
    | with_reducible assumption
    | decide
    | with_reducible refine Keeps.ite ?_ (fun _ => ?_)
    | with_reducible refine switchDone_keeps ?_ ?_

theorem switchTimeout_keeps {V : Nat} {t0 : Nat} {s0 s : State} (hV : subMask 2181038088 V = true)
    (h : Keeps V s0 s) : Keeps V s0 (switchTimeout t0 s) := by
  refine h.step hV ?_
  clear h hV
  have h : Keeps 2181038088 s s := .refl _ _
  unfold switchTimeout
  repeat' first
    | with_reducible assumption
    | decide
    | with_reducible refine Keeps.ite ?_ (fun _ => ?_)
    | with_reducible refine State.modFw_keeps ?_ ?_
    | with_reducible refine endHandle_keeps ?_ ?_
    | with_reducible refine nextSwitch_keeps ?_ ?_
    | with_reducible refine rollbackDue_keeps ?_ ?_
    | with_reducible refine takeTasks_keeps ?_ ?_
    | with_reducible refine Keeps.foldl _ (fun _ _ _ => ?_) ?_
    | with_reducible refine Keeps.foldl_fst _ (fun _ _ _ => ?_) ?_
    | dsimp only
    | split

theorem execTileSwitchTimeout_keeps (t0 : Nat) (s t : State) (e : execTileSwitchTimeout t0 s = .next t) :
    Keeps 2181038088 s t := by
  have h : Keeps 2181038088 s s := .refl _ _
  unfold execTileSwitchTimeout at e
  cases e
  repeat' first
    | with_reducible assumption
    | decide
    | with_reducible refine Keeps.ite ?_ (fun _ => ?_)
    | with_reducible refine switchTimeout_keeps ?_ ?_

theorem execTimeTokenLoss_keeps (t0 : Nat) (s t : State) (e : execTimeTokenLoss t0 s = .next t) :
    Keeps 1020398095500666 s t := by
  have h : Keeps 1020398095500666 s s := .refl _ _
  unfold execTimeTokenLoss at e
  cases e
  repeat' first
    | with_reducible assumption
    | decide
    | with_reducible refine Keeps.ite ?_ (fun _ => ?_)
    | with_reducible refine tileOut_keeps ?_ ?_

theorem execTimecfgTakesEffect_keeps (s t : State) (e : execTimecfgTakesEffect s = .next t) :
    Keeps 11 s t := by
  have h : Keeps 11 s s := .refl _ _
  unfold execTimecfgTakesEffect at e
  cases e
  repeat' first
    | with_reducible assumption
    | decide
    | with_reducible refine Keeps.ite ?_ (fun _ => ?_)
    | with_reducible refine takeTimecfg_keeps ?_ ?_

theorem execTimecfgWrite_keeps (v : W32) (s t : State) (e : execTimecfgWrite v s = .next t) :
    Keeps 11 s t := by
  have h : Keeps 11 s s := .refl _ _
  unfold execTimecfgWrite at e
  cases e
  repeat' first
    | with_reducible assumption
    | decide
    | with_reducible refine Keeps.ite ?_ (fun _ => ?_)
    | with_reducible refine mmio_keeps ?_ (fun _ _ => ?_) ?_
    | with_reducible refine timecfgWrite_keeps ?_ ?_

theorem execTnhMotionWrite_keeps (f : Nat) (v : W32) (s t : State) (e : execTnhMotionWrite f v s = .next t) :
    Keeps 10 s t := by
  have h : Keeps 10 s s := .refl _ _
  unfold execTnhMotionWrite at e
  cases e
  repeat' first
    | with_reducible assumption
    | decide
    | with_reducible refine Keeps.ite ?_ (fun _ => ?_)
    | with_reducible refine mmio_keeps ?_ (fun _ _ => ?_) ?_
    | with_reducible refine motionWrite_keeps ?_ ?_

theorem execTnhPttickRead_keeps (f : Nat) (size : Nat) (s t : State) (e : execTnhPttickRead f size s = .next t) :
    Keeps 1035742369284202 s t := by
  have h : Keeps 1035742369284202 s s := .refl _ _
  unfold execTnhPttickRead at e
  cases e
  repeat' first
    | with_reducible assumption
    | decide
    | with_reducible refine Keeps.ite ?_ (fun _ => ?_)
    | with_reducible refine busRead_keeps ?_ ?_

theorem execTptLinkcfgWrite_keeps (g : Nat) (v : W32) (s t : State) (e : execTptLinkcfgWrite g v s = .next t) :
    Keeps 1035743445321018 s t := by
  have h : Keeps 1035743445321018 s s := .refl _ _
  unfold execTptLinkcfgWrite at e
  cases e
  repeat' first
    | with_reducible assumption
    | decide
    | with_reducible refine Keeps.ite ?_ (fun _ => ?_)
    | with_reducible refine linkcfgWrite_keeps ?_ ?_
    | with_reducible refine tileMmio_keeps ?_ (fun _ _ => ?_) ?_

theorem firstUp_keeps {V : Nat} {g : Nat} {d : Nat} {s0 s : State} (hV : subMask 985164565970992 V = true)
    (h : Keeps V s0 s) : Keeps V s0 (firstUp g d s) := by
  refine h.step hV ?_
  clear h hV
  have h : Keeps 985164565970992 s s := .refl _ _
  unfold firstUp
  repeat' first
    | with_reducible assumption
    | decide
    | with_reducible refine Keeps.ite ?_ (fun _ => ?_)
    | with_reducible refine State.modPort_keeps ?_ ?_
    | with_reducible refine assign_keeps ?_ ?_
    | with_reducible refine Keeps.foldl _ (fun _ _ _ => ?_) ?_
    | with_reducible refine Keeps.foldl_fst _ (fun _ _ _ => ?_) ?_
    | dsimp only
    | split

theorem trainBlock_keeps {V : Nat} {g : Nat} {w : W64} {h0 : Nat} {v : Nat} {good : Bool} {rtt : Nat} {s0 s : State} (hV : subMask 985164565971002 V = true)
    (h : Keeps V s0 s) : Keeps V s0 (trainBlock g w h0 v good rtt s) := by
  refine h.step hV ?_
  clear h hV
  have h : Keeps 985164565971002 s s := .refl _ _
  unfold trainBlock
  repeat' first
    | with_reducible assumption
    | decide
    | with_reducible refine Keeps.ite ?_ (fun _ => ?_)
    | with_reducible refine State.modPort_keeps ?_ ?_
    | with_reducible refine countBlk_keeps ?_ ?_
    | with_reducible refine eqBlock_keeps ?_ ?_
    | with_reducible refine firstUp_keeps ?_ ?_
    | with_reducible refine modRx_keeps ?_ ?_
    | with_reducible refine sendTrain_keeps ?_ ?_
    | with_reducible refine setErr_keeps ?_ ?_
    | with_reducible refine trainDown_keeps ?_ ?_
    | with_reducible refine Keeps.foldl _ (fun _ _ _ => ?_) ?_
    | with_reducible refine Keeps.foldl_fst _ (fun _ _ _ => ?_) ?_
    | dsimp only
    | split

theorem execTrainBlockReceived_keeps (g : Nat) (w : W64) (h0 : Nat) (v : Nat) (good : Bool) (rtt : Nat) (s t : State) (e : execTrainBlockReceived g w h0 v good rtt s = .next t) :
    Keeps 985164565971002 s t := by
  have h : Keeps 985164565971002 s s := .refl _ _
  unfold execTrainBlockReceived at e
  cases e
  repeat' first
    | with_reducible assumption
    | decide
    | with_reducible refine Keeps.ite ?_ (fun _ => ?_)
    | with_reducible refine trainBlock_keeps ?_ ?_

theorem trainTimeout_keeps {V : Nat} {g : Nat} {s0 s : State} (hV : subMask 985162418487312 V = true)
    (h : Keeps V s0 s) : Keeps V s0 (trainTimeout g s) := by
  refine h.step hV ?_
  clear h hV
  have h : Keeps 985162418487312 s s := .refl _ _
  unfold trainTimeout
  repeat' first
    | with_reducible assumption
    | decide
    | with_reducible refine Keeps.ite ?_ (fun _ => ?_)
    | with_reducible refine eqEnds_keeps ?_ ?_
    | with_reducible refine trainDown_keeps ?_ ?_
    | with_reducible refine Keeps.foldl _ (fun _ _ _ => ?_) ?_
    | with_reducible refine Keeps.foldl_fst _ (fun _ _ _ => ?_) ?_
    | dsimp only
    | split

theorem execTrainStateTimeout_keeps (g : Nat) (s t : State) (e : execTrainStateTimeout g s = .next t) :
    Keeps 985162418487312 s t := by
  have h : Keeps 985162418487312 s s := .refl _ _
  unfold execTrainStateTimeout at e
  cases e
  repeat' first
    | with_reducible assumption
    | decide
    | with_reducible refine Keeps.ite ?_ (fun _ => ?_)
    | with_reducible refine trainTimeout_keeps ?_ ?_

theorem trialQuarter_keeps {V : Nat} {s0 s : State} (hV : subMask 879611483258890 V = true)
    (h : Keeps V s0 s) : Keeps V s0 (trialQuarter s) := by
  refine h.step hV ?_
  clear h hV
  have h : Keeps 879611483258890 s s := .refl _ _
  unfold trialQuarter
  repeat' first
    | with_reducible assumption
    | decide
    | with_reducible refine Keeps.ite ?_ (fun _ => ?_)
    | with_reducible refine confirm_keeps ?_ ?_
    | with_reducible refine rollbackDue_keeps ?_ ?_
    | with_reducible refine writeBoot_keeps ?_ ?_
    | with_reducible refine Keeps.foldl _ (fun _ _ _ => ?_) ?_
    | with_reducible refine Keeps.foldl_fst _ (fun _ _ _ => ?_) ?_
    | dsimp only
    | split

theorem execTrialQuarterHour_keeps (s t : State) (e : execTrialQuarterHour s = .next t) :
    Keeps 879611483258890 s t := by
  have h : Keeps 879611483258890 s s := .refl _ _
  unfold execTrialQuarterHour at e
  cases e
  repeat' first
    | with_reducible assumption
    | decide
    | with_reducible refine Keeps.ite ?_ (fun _ => ?_)
    | with_reducible refine trialQuarter_keeps ?_ ?_

theorem trimStore_keeps {V : Nat} {t0 : Nat} {s0 s : State} (hV : subMask 844427077615616 V = true)
    (h : Keeps V s0 s) : Keeps V s0 (trimStore t0 s) := by
  refine h.step hV ?_
  clear h hV
  have h : Keeps 844427077615616 s s := .refl _ _
  unfold trimStore
  repeat' first
    | with_reducible assumption
    | decide
    | with_reducible refine Keeps.ite ?_ (fun _ => ?_)
    | with_reducible refine State.modPwr_keeps ?_ ?_
    | with_reducible refine out_keeps ?_ ?_

theorem execTrimStore_keeps (t0 : Nat) (s t : State) (e : execTrimStore t0 s = .next t) :
    Keeps 844427077615616 s t := by
  have h : Keeps 844427077615616 s s := .refl _ _
  unfold execTrimStore at e
  cases e
  repeat' first
    | with_reducible assumption
    | decide
    | with_reducible refine Keeps.ite ?_ (fun _ => ?_)
    | with_reducible refine trimStore_keeps ?_ ?_

theorem trunkWake_keeps {V : Nat} {g : Nat} {s0 s : State} (hV : subMask 895004880928778 V = true)
    (h : Keeps V s0 s) : Keeps V s0 (trunkWake g s) := by
  refine h.step hV ?_
  clear h hV
  have h : Keeps 895004880928778 s s := .refl _ _
  unfold trunkWake
  repeat' first
    | with_reducible assumption
    | decide
    | with_reducible refine Keeps.ite ?_ (fun _ => ?_)
    | with_reducible refine State.modPwr_keeps ?_ ?_
    | with_reducible refine wakeSource_keeps ?_ ?_

theorem execTrunkWakeDetect_keeps (g : Nat) (s t : State) (e : execTrunkWakeDetect g s = .next t) :
    Keeps 895004880928778 s t := by
  have h : Keeps 895004880928778 s s := .refl _ _
  unfold execTrunkWakeDetect at e
  cases e
  repeat' first
    | with_reducible assumption
    | decide
    | with_reducible refine Keeps.ite ?_ (fun _ => ?_)
    | with_reducible refine trunkWake_keeps ?_ ?_

theorem execTskAtzPageAccess_keeps (a : Nat) (size : Nat) (write : Bool) (v : W64) (s t : State) (e : execTskAtzPageAccess a size write v s = .next t) :
    Keeps 1125899906842623 s t := by
  have h : Keeps 1125899906842623 s s := .refl _ _
  unfold execTskAtzPageAccess at e
  cases e
  repeat' first
    | with_reducible assumption
    | decide
    | with_reducible refine Keeps.ite ?_ (fun _ => ?_)
    | with_reducible refine busRead_keeps ?_ ?_
    | with_reducible refine busWrite_keeps ?_ ?_
    | with_reducible refine Keeps.foldl _ (fun _ _ _ => ?_) ?_
    | with_reducible refine Keeps.foldl_fst _ (fun _ _ _ => ?_) ?_
    | dsimp only
    | split

theorem slotRunEnd_keeps {V : Nat} {g : Nat} {what : Nat} {a : Nat} {b : Nat} {s0 s : State} (hV : subMask 1020350014653754 V = true)
    (h : Keeps V s0 s) : Keeps V s0 (slotRunEnd g what a b s) := by
  refine h.step hV ?_
  clear h hV
  have h : Keeps 1020350014653754 s s := .refl _ _
  unfold slotRunEnd
  repeat' first
    | with_reducible assumption
    | decide
    | with_reducible refine Keeps.ite ?_ (fun _ => ?_)
    | with_reducible refine echoMissed_keeps ?_ ?_
    | with_reducible refine mgmtMissing_keeps ?_ ?_
    | with_reducible refine missedBurst_keeps ?_ ?_
    | with_reducible refine missedReply_keeps ?_ ?_
    | with_reducible refine retryFailed_keeps ?_ ?_
    | with_reducible refine runReceived_keeps ?_ ?_
    | with_reducible refine Keeps.foldl _ (fun _ _ _ => ?_) ?_
    | with_reducible refine Keeps.foldl_fst _ (fun _ _ _ => ?_) ?_
    | dsimp only
    | split

theorem execUpstreamSlotRunEnd_keeps (g : Nat) (what : Nat) (a : Nat) (b : Nat) (s t : State) (e : execUpstreamSlotRunEnd g what a b s = .next t) :
    Keeps 1020350014653754 s t := by
  have h : Keeps 1020350014653754 s s := .refl _ _
  unfold execUpstreamSlotRunEnd at e
  cases e
  repeat' first
    | with_reducible assumption
    | decide
    | with_reducible refine Keeps.ite ?_ (fun _ => ?_)
    | with_reducible refine slotRunEnd_keeps ?_ ?_

theorem verifyDone_keeps {V : Nat} {s0 s : State} (hV : subMask 879611550367754 V = true)
    (h : Keeps V s0 s) : Keeps V s0 (verifyDone s) := by
  refine h.step hV ?_
  clear h hV
  have h : Keeps 879611550367754 s s := .refl _ _
  unfold verifyDone
  repeat' first
    | with_reducible assumption
    | decide
    | with_reducible refine Keeps.ite ?_ (fun _ => ?_)
    | with_reducible refine State.modFw_keeps ?_ ?_
    | with_reducible refine commitHandle_keeps ?_ ?_
    | with_reducible refine failHandle_keeps ?_ ?_
    | with_reducible refine listMore_keeps ?_ ?_
    | with_reducible refine manifestGood_keeps ?_ ?_
    | with_reducible refine pumpAll_keeps ?_ ?_
    | with_reducible refine Keeps.foldl _ (fun _ _ _ => ?_) ?_
    | with_reducible refine Keeps.foldl_fst _ (fun _ _ _ => ?_) ?_
    | dsimp only
    | split

theorem execVerifyDone_keeps (s t : State) (e : execVerifyDone s = .next t) :
    Keeps 879611550367754 s t := by
  have h : Keeps 879611550367754 s s := .refl _ _
  unfold execVerifyDone at e
  cases e
  repeat' first
    | with_reducible assumption
    | decide
    | with_reducible refine Keeps.ite ?_ (fun _ => ?_)
    | with_reducible refine verifyDone_keeps ?_ ?_

theorem vfEnableClear_keeps {V : Nat} {s0 s : State} (hV : subMask 895074674376682 V = true)
    (h : Keeps V s0 s) : Keeps V s0 (vfEnableClear s) := by
  refine h.step hV ?_
  clear h hV
  have h : Keeps 895074674376682 s s := .refl _ _
  unfold vfEnableClear
  repeat' first
    | with_reducible assumption
    | decide
    | with_reducible refine Keeps.ite ?_ (fun _ => ?_)
    | with_reducible refine cancelCreate_keeps ?_ ?_
    | with_reducible refine resetFn_keeps ?_ ?_
    | with_reducible refine Keeps.foldl _ (fun _ _ _ => ?_) ?_
    | with_reducible refine Keeps.foldl_fst _ (fun _ _ _ => ?_) ?_
    | dsimp only
    | split
    | with_reducible refine Keeps.set_vfEnable ?_ ?_

theorem execVfEnableClear_keeps (s t : State) (e : execVfEnableClear s = .next t) :
    Keeps 895074674376682 s t := by
  have h : Keeps 895074674376682 s s := .refl _ _
  unfold execVfEnableClear at e
  cases e
  repeat' first
    | with_reducible assumption
    | decide
    | with_reducible refine Keeps.ite ?_ (fun _ => ?_)
    | with_reducible refine vfEnableClear_keeps ?_ ?_

theorem execVfEnableSet_keeps (s t : State) (e : execVfEnableSet s = .next t) :
    Keeps 68719476746 s t := by
  have h : Keeps 68719476746 s s := .refl _ _
  unfold execVfEnableSet at e
  cases e
  repeat' first
    | with_reducible assumption
    | decide
    | with_reducible refine Keeps.ite ?_ (fun _ => ?_)
    | with_reducible refine setErr_keeps ?_ ?_
    | with_reducible refine Keeps.foldl _ (fun _ _ _ => ?_) ?_
    | with_reducible refine Keeps.foldl_fst _ (fun _ _ _ => ?_) ?_
    | dsimp only
    | split
    | with_reducible refine Keeps.set_vfEnable ?_ ?_

theorem waitingRelease_keeps {V : Nat} {f : Nat} {q : Nat} {s0 s : State} (hV : subMask 879611449704458 V = true)
    (h : Keeps V s0 s) : Keeps V s0 (waitingRelease f q s) := by
  refine h.step hV ?_
  clear h hV
  have h : Keeps 879611449704458 s s := .refl _ _
  unfold waitingRelease
  repeat' first
    | with_reducible assumption
    | decide
    | with_reducible refine Keeps.ite ?_ (fun _ => ?_)
    | with_reducible refine flushAll_keeps ?_ ?_
    | with_reducible refine payOverflow_keeps ?_ ?_

theorem execWaitingEventRelease_keeps (f : Nat) (q : Nat) (s t : State) (e : execWaitingEventRelease f q s = .next t) :
    Keeps 879611449704458 s t := by
  have h : Keeps 879611449704458 s s := .refl _ _
  unfold execWaitingEventRelease at e
  cases e
  repeat' first
    | with_reducible assumption
    | decide
    | with_reducible refine Keeps.ite ?_ (fun _ => ?_)
    | with_reducible refine waitingRelease_keeps ?_ ?_

theorem wakeTimeout_keeps {V : Nat} {t0 : Nat} {item : Nat} {s0 s : State} (hV : subMask 1020398095500666 V = true)
    (h : Keeps V s0 s) : Keeps V s0 (wakeTimeout t0 item s) := by
  refine h.step hV ?_
  clear h hV
  have h : Keeps 1020398095500666 s s := .refl _ _
  unfold wakeTimeout
  repeat' first
    | with_reducible assumption
    | decide
    | with_reducible refine Keeps.ite ?_ (fun _ => ?_)
    | with_reducible refine wakeFails_keeps ?_ ?_

theorem execWakeAttemptTimeout_keeps (t0 : Nat) (item : Nat) (s t : State) (e : execWakeAttemptTimeout t0 item s = .next t) :
    Keeps 1020398095500666 s t := by
  have h : Keeps 1020398095500666 s s := .refl _ _
  unfold execWakeAttemptTimeout at e
  cases e
  repeat' first
    | with_reducible assumption
    | decide
    | with_reducible refine Keeps.ite ?_ (fun _ => ?_)
    | with_reducible refine wakeTimeout_keeps ?_ ?_

theorem execWakeDetectorRearm_keeps (g : Nat) (s t : State) (e : execWakeDetectorRearm g s = .next t) :
    Keeps 2147483648 s t := by
  have h : Keeps 2147483648 s s := .refl _ _
  unfold execWakeDetectorRearm at e
  cases e
  repeat' first
    | with_reducible assumption
    | decide
    | with_reducible refine Keeps.ite ?_ (fun _ => ?_)
    | with_reducible refine State.modPwr_keeps ?_ ?_

theorem wakeN_keeps {V : Nat} {s0 s : State} (hV : subMask 895004880928778 V = true)
    (h : Keeps V s0 s) : Keeps V s0 (wakeN s) := by
  refine h.step hV ?_
  clear h hV
  have h : Keeps 895004880928778 s s := .refl _ _
  unfold wakeN
  repeat' first
    | with_reducible assumption
    | decide
    | with_reducible refine Keeps.ite ?_ (fun _ => ?_)
    | with_reducible refine wakeSource_keeps ?_ ?_
    | with_reducible refine Keeps.foldl _ (fun _ _ _ => ?_) ?_

theorem execWakeNLow_keeps (s t : State) (e : execWakeNLow s = .next t) :
    Keeps 895004880928778 s t := by
  have h : Keeps 895004880928778 s s := .refl _ _
  unfold execWakeNLow at e
  cases e
  repeat' first
    | with_reducible assumption
    | decide
    | with_reducible refine Keeps.ite ?_ (fun _ => ?_)
    | with_reducible refine wakeN_keeps ?_ ?_

theorem loseBanks_keeps {V : Nat} {t0 : Nat} {s0 s : State} (hV : subMask 1073743106 V = true)
    (h : Keeps V s0 s) : Keeps V s0 (loseBanks t0 s) := by
  refine h.step hV ?_
  clear h hV
  have h : Keeps 1073743106 s s := .refl _ _
  unfold loseBanks
  repeat' first
    | with_reducible assumption
    | decide
    | with_reducible refine Keeps.ite ?_ (fun _ => ?_)
    | with_reducible refine State.setReg_keeps ?_ ?_
    | with_reducible refine lostRecord_keeps ?_ ?_
    | with_reducible refine Keeps.foldl _ (fun _ _ _ => ?_) ?_

theorem wakePowerGood_keeps {V : Nat} {t0 : Nat} {s0 s : State} (hV : subMask 3221226754 V = true)
    (h : Keeps V s0 s) : Keeps V s0 (wakePowerGood t0 s) := by
  refine h.step hV ?_
  clear h hV
  have h : Keeps 3221226754 s s := .refl _ _
  unfold wakePowerGood
  repeat' first
    | with_reducible assumption
    | decide
    | with_reducible refine Keeps.ite ?_ (fun _ => ?_)
    | with_reducible refine State.modPwr_keeps ?_ ?_
    | with_reducible refine loseBanks_keeps ?_ ?_

theorem execWakePowerGood_keeps (t0 : Nat) (s t : State) (e : execWakePowerGood t0 s = .next t) :
    Keeps 3221226754 s t := by
  have h : Keeps 3221226754 s s := .refl _ _
  unfold execWakePowerGood at e
  cases e
  repeat' first
    | with_reducible assumption
    | decide
    | with_reducible refine Keeps.ite ?_ (fun _ => ?_)
    | with_reducible refine wakePowerGood_keeps ?_ ?_

theorem wakeRetry_keeps {V : Nat} {t0 : Nat} {s0 s : State} (hV : subMask 844427077615618 V = true)
    (h : Keeps V s0 s) : Keeps V s0 (wakeRetry t0 s) := by
  refine h.step hV ?_
  clear h hV
  have h : Keeps 844427077615618 s s := .refl _ _
  unfold wakeRetry
  repeat' first
    | with_reducible assumption
    | decide
    | with_reducible refine Keeps.ite ?_ (fun _ => ?_)
    | with_reducible refine State.modPwr_keeps ?_ ?_
    | with_reducible refine powerUp_keeps ?_ ?_

theorem execWakeRetry_keeps (t0 : Nat) (s t : State) (e : execWakeRetry t0 s = .next t) :
    Keeps 844427077615618 s t := by
  have h : Keeps 844427077615618 s s := .refl _ _
  unfold execWakeRetry at e
  cases e
  repeat' first
    | with_reducible assumption
    | decide
    | with_reducible refine Keeps.ite ?_ (fun _ => ?_)
    | with_reducible refine wakeRetry_keeps ?_ ?_

end Sys2Proof.Machine
end

