-- ==== Sys2Proof/Laws/State.lean ====
section
/-!
SUPPORT. State laws: what each named update of the state leaves in every field and under every reader; reading what
has been written.
-/

set_option Elab.async false
namespace Sys2Proof.Machine

/-! ### modFn -/

@[simp] theorem State.modFn_pending (s : State) (f : Nat) (u : Fn → Fn) : (s.modFn f u).pending = s.pending := rfl
@[simp] theorem State.modFn_tiles (s : State) (f : Nat) (u : Fn → Fn) : (s.modFn f u).tiles = s.tiles := rfl
@[simp] theorem State.modFn_time (s : State) (f : Nat) (u : Fn → Fn) : (s.modFn f u).time = s.time := rfl
@[simp] theorem State.modFn_regs (s : State) (f : Nat) (u : Fn → Fn) : (s.modFn f u).regs = s.regs := rfl
@[simp] theorem State.modFn_stored (s : State) (f : Nat) (u : Fn → Fn) : (s.modFn f u).stored = s.stored := rfl
@[simp] theorem State.modFn_fns (s : State) (f : Nat) (u : Fn → Fn) : (s.modFn f u).fns = nmod {} s.fns f u := rfl
@[simp] theorem State.modFn_ports (s : State) (f : Nat) (u : Fn → Fn) : (s.modFn f u).ports = s.ports := rfl
@[simp] theorem State.modFn_nodes (s : State) (f : Nat) (u : Fn → Fn) : (s.modFn f u).nodes = s.nodes := rfl
@[simp] theorem State.modFn_plans (s : State) (f : Nat) (u : Fn → Fn) : (s.modFn f u).plans = s.plans := rfl
@[simp] theorem State.modFn_lists (s : State) (f : Nat) (u : Fn → Fn) : (s.modFn f u).lists = s.lists := rfl
@[simp] theorem State.modFn_pim (s : State) (f : Nat) (u : Fn → Fn) : (s.modFn f u).pim = s.pim := rfl
@[simp] theorem State.modFn_owners (s : State) (f : Nat) (u : Fn → Fn) : (s.modFn f u).owners = s.owners := rfl
@[simp] theorem State.modFn_points (s : State) (f : Nat) (u : Fn → Fn) : (s.modFn f u).points = s.points := rfl
@[simp] theorem State.modFn_grants (s : State) (f : Nat) (u : Fn → Fn) : (s.modFn f u).grants = s.grants := rfl
@[simp] theorem State.modFn_rules (s : State) (f : Nat) (u : Fn → Fn) : (s.modFn f u).rules = s.rules := rfl
@[simp] theorem State.modFn_remote (s : State) (f : Nat) (u : Fn → Fn) : (s.modFn f u).remote = s.remote := rfl
@[simp] theorem State.modFn_copies (s : State) (f : Nat) (u : Fn → Fn) : (s.modFn f u).copies = s.copies := rfl
@[simp] theorem State.modFn_unseen (s : State) (f : Nat) (u : Fn → Fn) : (s.modFn f u).unseen = s.unseen := rfl
@[simp] theorem State.modFn_bridge (s : State) (f : Nat) (u : Fn → Fn) : (s.modFn f u).bridge = s.bridge := rfl
@[simp] theorem State.modFn_chans (s : State) (f : Nat) (u : Fn → Fn) : (s.modFn f u).chans = s.chans := rfl
@[simp] theorem State.modFn_nonces (s : State) (f : Nat) (u : Fn → Fn) : (s.modFn f u).nonces = s.nonces := rfl
@[simp] theorem State.modFn_quar (s : State) (f : Nat) (u : Fn → Fn) : (s.modFn f u).quar = s.quar := rfl
@[simp] theorem State.modFn_policy (s : State) (f : Nat) (u : Fn → Fn) : (s.modFn f u).policy = s.policy := rfl
@[simp] theorem State.modFn_journal (s : State) (f : Nat) (u : Fn → Fn) : (s.modFn f u).journal = s.journal := rfl
@[simp] theorem State.modFn_half0 (s : State) (f : Nat) (u : Fn → Fn) : (s.modFn f u).half0 = s.half0 := rfl
@[simp] theorem State.modFn_half1 (s : State) (f : Nat) (u : Fn → Fn) : (s.modFn f u).half1 = s.half1 := rfl
@[simp] theorem State.modFn_half (s : State) (f : Nat) (u : Fn → Fn) : (s.modFn f u).half = s.half := rfl
@[simp] theorem State.modFn_fw (s : State) (f : Nat) (u : Fn → Fn) : (s.modFn f u).fw = s.fw := rfl
@[simp] theorem State.modFn_mgt (s : State) (f : Nat) (u : Fn → Fn) : (s.modFn f u).mgt = s.mgt := rfl
@[simp] theorem State.modFn_jtag (s : State) (f : Nat) (u : Fn → Fn) : (s.modFn f u).jtag = s.jtag := rfl
@[simp] theorem State.modFn_pins (s : State) (f : Nat) (u : Fn → Fn) : (s.modFn f u).pins = s.pins := rfl
@[simp] theorem State.modFn_boot (s : State) (f : Nat) (u : Fn → Fn) : (s.modFn f u).boot = s.boot := rfl
@[simp] theorem State.modFn_chg (s : State) (f : Nat) (u : Fn → Fn) : (s.modFn f u).chg = s.chg := rfl
@[simp] theorem State.modFn_tile (s : State) (f : Nat) (u : Fn → Fn) : (s.modFn f u).tile = s.tile := rfl
@[simp] theorem State.modFn_mesh (s : State) (f : Nat) (u : Fn → Fn) : (s.modFn f u).mesh = s.mesh := rfl
@[simp] theorem State.modFn_meshFails (s : State) (f : Nat) (u : Fn → Fn) : (s.modFn f u).meshFails = s.meshFails := rfl
@[simp] theorem State.modFn_ready (s : State) (f : Nat) (u : Fn → Fn) : (s.modFn f u).ready = s.ready := rfl
@[simp] theorem State.modFn_link (s : State) (f : Nat) (u : Fn → Fn) : (s.modFn f u).link = s.link := rfl
@[simp] theorem State.modFn_vfEnable (s : State) (f : Nat) (u : Fn → Fn) : (s.modFn f u).vfEnable = s.vfEnable := rfl
@[simp] theorem State.modFn_vfMse (s : State) (f : Nat) (u : Fn → Fn) : (s.modFn f u).vfMse = s.vfMse := rfl
@[simp] theorem State.modFn_numVfs (s : State) (f : Nat) (u : Fn → Fn) : (s.modFn f u).numVfs = s.numVfs := rfl
@[simp] theorem State.modFn_ari (s : State) (f : Nat) (u : Fn → Fn) : (s.modFn f u).ari = s.ari := rfl
@[simp] theorem State.modFn_stamp (s : State) (f : Nat) (u : Fn → Fn) : (s.modFn f u).stamp = s.stamp := rfl
@[simp] theorem State.modFn_stage (s : State) (f : Nat) (u : Fn → Fn) : (s.modFn f u).stage = s.stage := rfl
@[simp] theorem State.modFn_lastCancel (s : State) (f : Nat) (u : Fn → Fn) : (s.modFn f u).lastCancel = s.lastCancel := rfl
@[simp] theorem State.modFn_stopping (s : State) (f : Nat) (u : Fn → Fn) : (s.modFn f u).stopping = s.stopping := rfl
@[simp] theorem State.modFn_xogate (s : State) (f : Nat) (u : Fn → Fn) : (s.modFn f u).xogate = s.xogate := rfl
@[simp] theorem State.modFn_evHeld (s : State) (f : Nat) (u : Fn → Fn) : (s.modFn f u).evHeld = s.evHeld := rfl
@[simp] theorem State.modFn_accepts (s : State) (f : Nat) (u : Fn → Fn) : (s.modFn f u).accepts = s.accepts := rfl
@[simp] theorem State.modFn_free (s : State) (f : Nat) (u : Fn → Fn) : (s.modFn f u).free = s.free := rfl
@[simp] theorem State.modFn_tlpHeld (s : State) (f : Nat) (u : Fn → Fn) : (s.modFn f u).tlpHeld = s.tlpHeld := rfl
@[simp] theorem State.modFn_wire (s : State) (f : Nat) (u : Fn → Fn) : (s.modFn f u).wire = s.wire := rfl
@[simp] theorem State.modFn_port_of (s : State) (f : Nat) (u : Fn → Fn) (i : Nat) : (s.modFn f u).port i = s.port i := rfl
@[simp] theorem State.modFn_node_of (s : State) (f : Nat) (u : Fn → Fn) (i j : Nat) : (s.modFn f u).node i j = s.node i j := rfl
@[simp] theorem State.modFn_tl_of (s : State) (f : Nat) (u : Fn → Fn) (i : Nat) : (s.modFn f u).tl i = s.tl i := rfl
@[simp] theorem State.modFn_plan_of (s : State) (f : Nat) (u : Fn → Fn) (i : Nat) : (s.modFn f u).plan i = s.plan i := rfl
@[simp] theorem State.modFn_list_of (s : State) (f : Nat) (u : Fn → Fn) (i j : Nat) : (s.modFn f u).list i j = s.list i j := rfl
@[simp] theorem State.modFn_chan_of (s : State) (f : Nat) (u : Fn → Fn) (i : Nat) : (s.modFn f u).chan i = s.chan i := rfl
@[simp] theorem State.modFn_point_of (s : State) (f : Nat) (u : Fn → Fn) (i : Nat) : (s.modFn f u).point i = s.point i := rfl
@[simp] theorem State.modFn_record_of (s : State) (f : Nat) (u : Fn → Fn) (i : Nat) : (s.modFn f u).record i = s.record i := rfl
@[simp] theorem State.modFn_reg_of (s : State) (f : Nat) (u : Fn → Fn) (e y i o : Nat) : (s.modFn f u).reg e y i o = s.reg e y i o := rfl
@[simp] theorem State.modFn_hasTile_of (s : State) (f : Nat) (u : Fn → Fn) (i : Nat) : (s.modFn f u).hasTile i = s.hasTile i := rfl
@[simp] theorem State.modFn_hasPort_of (s : State) (f : Nat) (u : Fn → Fn) (i : Nat) : (s.modFn f u).hasPort i = s.hasPort i := rfl

/-! ### modPort -/

@[simp] theorem State.modPort_pending (s : State) (g : Nat) (u : Port → Port) : (s.modPort g u).pending = s.pending := rfl
@[simp] theorem State.modPort_tiles (s : State) (g : Nat) (u : Port → Port) : (s.modPort g u).tiles = s.tiles := rfl
@[simp] theorem State.modPort_time (s : State) (g : Nat) (u : Port → Port) : (s.modPort g u).time = s.time := rfl
@[simp] theorem State.modPort_regs (s : State) (g : Nat) (u : Port → Port) : (s.modPort g u).regs = s.regs := rfl
@[simp] theorem State.modPort_stored (s : State) (g : Nat) (u : Port → Port) : (s.modPort g u).stored = s.stored := rfl
@[simp] theorem State.modPort_fns (s : State) (g : Nat) (u : Port → Port) : (s.modPort g u).fns = s.fns := rfl
@[simp] theorem State.modPort_ports (s : State) (g : Nat) (u : Port → Port) : (s.modPort g u).ports = nmod {} s.ports g u := rfl
@[simp] theorem State.modPort_nodes (s : State) (g : Nat) (u : Port → Port) : (s.modPort g u).nodes = s.nodes := rfl
@[simp] theorem State.modPort_plans (s : State) (g : Nat) (u : Port → Port) : (s.modPort g u).plans = s.plans := rfl
@[simp] theorem State.modPort_lists (s : State) (g : Nat) (u : Port → Port) : (s.modPort g u).lists = s.lists := rfl
@[simp] theorem State.modPort_pim (s : State) (g : Nat) (u : Port → Port) : (s.modPort g u).pim = s.pim := rfl
@[simp] theorem State.modPort_owners (s : State) (g : Nat) (u : Port → Port) : (s.modPort g u).owners = s.owners := rfl
@[simp] theorem State.modPort_points (s : State) (g : Nat) (u : Port → Port) : (s.modPort g u).points = s.points := rfl
@[simp] theorem State.modPort_grants (s : State) (g : Nat) (u : Port → Port) : (s.modPort g u).grants = s.grants := rfl
@[simp] theorem State.modPort_rules (s : State) (g : Nat) (u : Port → Port) : (s.modPort g u).rules = s.rules := rfl
@[simp] theorem State.modPort_remote (s : State) (g : Nat) (u : Port → Port) : (s.modPort g u).remote = s.remote := rfl
@[simp] theorem State.modPort_copies (s : State) (g : Nat) (u : Port → Port) : (s.modPort g u).copies = s.copies := rfl
@[simp] theorem State.modPort_unseen (s : State) (g : Nat) (u : Port → Port) : (s.modPort g u).unseen = s.unseen := rfl
@[simp] theorem State.modPort_bridge (s : State) (g : Nat) (u : Port → Port) : (s.modPort g u).bridge = s.bridge := rfl
@[simp] theorem State.modPort_chans (s : State) (g : Nat) (u : Port → Port) : (s.modPort g u).chans = s.chans := rfl
@[simp] theorem State.modPort_nonces (s : State) (g : Nat) (u : Port → Port) : (s.modPort g u).nonces = s.nonces := rfl
@[simp] theorem State.modPort_quar (s : State) (g : Nat) (u : Port → Port) : (s.modPort g u).quar = s.quar := rfl
@[simp] theorem State.modPort_policy (s : State) (g : Nat) (u : Port → Port) : (s.modPort g u).policy = s.policy := rfl
@[simp] theorem State.modPort_journal (s : State) (g : Nat) (u : Port → Port) : (s.modPort g u).journal = s.journal := rfl
@[simp] theorem State.modPort_half0 (s : State) (g : Nat) (u : Port → Port) : (s.modPort g u).half0 = s.half0 := rfl
@[simp] theorem State.modPort_half1 (s : State) (g : Nat) (u : Port → Port) : (s.modPort g u).half1 = s.half1 := rfl
@[simp] theorem State.modPort_half (s : State) (g : Nat) (u : Port → Port) : (s.modPort g u).half = s.half := rfl
@[simp] theorem State.modPort_fw (s : State) (g : Nat) (u : Port → Port) : (s.modPort g u).fw = s.fw := rfl
@[simp] theorem State.modPort_mgt (s : State) (g : Nat) (u : Port → Port) : (s.modPort g u).mgt = s.mgt := rfl
@[simp] theorem State.modPort_jtag (s : State) (g : Nat) (u : Port → Port) : (s.modPort g u).jtag = s.jtag := rfl
@[simp] theorem State.modPort_pins (s : State) (g : Nat) (u : Port → Port) : (s.modPort g u).pins = s.pins := rfl
@[simp] theorem State.modPort_boot (s : State) (g : Nat) (u : Port → Port) : (s.modPort g u).boot = s.boot := rfl
@[simp] theorem State.modPort_chg (s : State) (g : Nat) (u : Port → Port) : (s.modPort g u).chg = s.chg := rfl
@[simp] theorem State.modPort_tile (s : State) (g : Nat) (u : Port → Port) : (s.modPort g u).tile = s.tile := rfl
@[simp] theorem State.modPort_mesh (s : State) (g : Nat) (u : Port → Port) : (s.modPort g u).mesh = s.mesh := rfl
@[simp] theorem State.modPort_meshFails (s : State) (g : Nat) (u : Port → Port) : (s.modPort g u).meshFails = s.meshFails := rfl
@[simp] theorem State.modPort_ready (s : State) (g : Nat) (u : Port → Port) : (s.modPort g u).ready = s.ready := rfl
@[simp] theorem State.modPort_link (s : State) (g : Nat) (u : Port → Port) : (s.modPort g u).link = s.link := rfl
@[simp] theorem State.modPort_vfEnable (s : State) (g : Nat) (u : Port → Port) : (s.modPort g u).vfEnable = s.vfEnable := rfl
@[simp] theorem State.modPort_vfMse (s : State) (g : Nat) (u : Port → Port) : (s.modPort g u).vfMse = s.vfMse := rfl
@[simp] theorem State.modPort_numVfs (s : State) (g : Nat) (u : Port → Port) : (s.modPort g u).numVfs = s.numVfs := rfl
@[simp] theorem State.modPort_ari (s : State) (g : Nat) (u : Port → Port) : (s.modPort g u).ari = s.ari := rfl
@[simp] theorem State.modPort_stamp (s : State) (g : Nat) (u : Port → Port) : (s.modPort g u).stamp = s.stamp := rfl
@[simp] theorem State.modPort_stage (s : State) (g : Nat) (u : Port → Port) : (s.modPort g u).stage = s.stage := rfl
@[simp] theorem State.modPort_lastCancel (s : State) (g : Nat) (u : Port → Port) : (s.modPort g u).lastCancel = s.lastCancel := rfl
@[simp] theorem State.modPort_stopping (s : State) (g : Nat) (u : Port → Port) : (s.modPort g u).stopping = s.stopping := rfl
@[simp] theorem State.modPort_xogate (s : State) (g : Nat) (u : Port → Port) : (s.modPort g u).xogate = s.xogate := rfl
@[simp] theorem State.modPort_evHeld (s : State) (g : Nat) (u : Port → Port) : (s.modPort g u).evHeld = s.evHeld := rfl
@[simp] theorem State.modPort_accepts (s : State) (g : Nat) (u : Port → Port) : (s.modPort g u).accepts = s.accepts := rfl
@[simp] theorem State.modPort_free (s : State) (g : Nat) (u : Port → Port) : (s.modPort g u).free = s.free := rfl
@[simp] theorem State.modPort_tlpHeld (s : State) (g : Nat) (u : Port → Port) : (s.modPort g u).tlpHeld = s.tlpHeld := rfl
@[simp] theorem State.modPort_wire (s : State) (g : Nat) (u : Port → Port) : (s.modPort g u).wire = s.wire := rfl
@[simp] theorem State.modPort_fn_of (s : State) (g : Nat) (u : Port → Port) (i : Nat) : (s.modPort g u).fn i = s.fn i := rfl
@[simp] theorem State.modPort_node_of (s : State) (g : Nat) (u : Port → Port) (i j : Nat) : (s.modPort g u).node i j = s.node i j := rfl
@[simp] theorem State.modPort_tl_of (s : State) (g : Nat) (u : Port → Port) (i : Nat) : (s.modPort g u).tl i = s.tl i := rfl
@[simp] theorem State.modPort_plan_of (s : State) (g : Nat) (u : Port → Port) (i : Nat) : (s.modPort g u).plan i = s.plan i := rfl
@[simp] theorem State.modPort_list_of (s : State) (g : Nat) (u : Port → Port) (i j : Nat) : (s.modPort g u).list i j = s.list i j := rfl
@[simp] theorem State.modPort_chan_of (s : State) (g : Nat) (u : Port → Port) (i : Nat) : (s.modPort g u).chan i = s.chan i := rfl
@[simp] theorem State.modPort_point_of (s : State) (g : Nat) (u : Port → Port) (i : Nat) : (s.modPort g u).point i = s.point i := rfl
@[simp] theorem State.modPort_record_of (s : State) (g : Nat) (u : Port → Port) (i : Nat) : (s.modPort g u).record i = s.record i := rfl
@[simp] theorem State.modPort_reg_of (s : State) (g : Nat) (u : Port → Port) (e y i o : Nat) : (s.modPort g u).reg e y i o = s.reg e y i o := rfl
@[simp] theorem State.modPort_hasTile_of (s : State) (g : Nat) (u : Port → Port) (i : Nat) : (s.modPort g u).hasTile i = s.hasTile i := rfl
@[simp] theorem State.modPort_hasPort_of (s : State) (g : Nat) (u : Port → Port) (i : Nat) : (s.modPort g u).hasPort i = s.hasPort i := rfl

/-! ### modNode -/

@[simp] theorem State.modNode_pending (s : State) (g n : Nat) (u : Node → Node) : (s.modNode g n u).pending = s.pending := rfl
@[simp] theorem State.modNode_tiles (s : State) (g n : Nat) (u : Node → Node) : (s.modNode g n u).tiles = s.tiles := rfl
@[simp] theorem State.modNode_time (s : State) (g n : Nat) (u : Node → Node) : (s.modNode g n u).time = s.time := rfl
@[simp] theorem State.modNode_regs (s : State) (g n : Nat) (u : Node → Node) : (s.modNode g n u).regs = s.regs := rfl
@[simp] theorem State.modNode_stored (s : State) (g n : Nat) (u : Node → Node) : (s.modNode g n u).stored = s.stored := rfl
@[simp] theorem State.modNode_fns (s : State) (g n : Nat) (u : Node → Node) : (s.modNode g n u).fns = s.fns := rfl
@[simp] theorem State.modNode_ports (s : State) (g n : Nat) (u : Node → Node) : (s.modNode g n u).ports = s.ports := rfl
@[simp] theorem State.modNode_nodes (s : State) (g n : Nat) (u : Node → Node) : (s.modNode g n u).nodes = nmod {} s.nodes (nodeKey g n) u := rfl
@[simp] theorem State.modNode_plans (s : State) (g n : Nat) (u : Node → Node) : (s.modNode g n u).plans = s.plans := rfl
@[simp] theorem State.modNode_lists (s : State) (g n : Nat) (u : Node → Node) : (s.modNode g n u).lists = s.lists := rfl
@[simp] theorem State.modNode_pim (s : State) (g n : Nat) (u : Node → Node) : (s.modNode g n u).pim = s.pim := rfl
@[simp] theorem State.modNode_owners (s : State) (g n : Nat) (u : Node → Node) : (s.modNode g n u).owners = s.owners := rfl
@[simp] theorem State.modNode_points (s : State) (g n : Nat) (u : Node → Node) : (s.modNode g n u).points = s.points := rfl
@[simp] theorem State.modNode_grants (s : State) (g n : Nat) (u : Node → Node) : (s.modNode g n u).grants = s.grants := rfl
@[simp] theorem State.modNode_rules (s : State) (g n : Nat) (u : Node → Node) : (s.modNode g n u).rules = s.rules := rfl
@[simp] theorem State.modNode_remote (s : State) (g n : Nat) (u : Node → Node) : (s.modNode g n u).remote = s.remote := rfl
@[simp] theorem State.modNode_copies (s : State) (g n : Nat) (u : Node → Node) : (s.modNode g n u).copies = s.copies := rfl
@[simp] theorem State.modNode_unseen (s : State) (g n : Nat) (u : Node → Node) : (s.modNode g n u).unseen = s.unseen := rfl
@[simp] theorem State.modNode_bridge (s : State) (g n : Nat) (u : Node → Node) : (s.modNode g n u).bridge = s.bridge := rfl
@[simp] theorem State.modNode_chans (s : State) (g n : Nat) (u : Node → Node) : (s.modNode g n u).chans = s.chans := rfl
@[simp] theorem State.modNode_nonces (s : State) (g n : Nat) (u : Node → Node) : (s.modNode g n u).nonces = s.nonces := rfl
@[simp] theorem State.modNode_quar (s : State) (g n : Nat) (u : Node → Node) : (s.modNode g n u).quar = s.quar := rfl
@[simp] theorem State.modNode_policy (s : State) (g n : Nat) (u : Node → Node) : (s.modNode g n u).policy = s.policy := rfl
@[simp] theorem State.modNode_journal (s : State) (g n : Nat) (u : Node → Node) : (s.modNode g n u).journal = s.journal := rfl
@[simp] theorem State.modNode_half0 (s : State) (g n : Nat) (u : Node → Node) : (s.modNode g n u).half0 = s.half0 := rfl
@[simp] theorem State.modNode_half1 (s : State) (g n : Nat) (u : Node → Node) : (s.modNode g n u).half1 = s.half1 := rfl
@[simp] theorem State.modNode_half (s : State) (g n : Nat) (u : Node → Node) : (s.modNode g n u).half = s.half := rfl
@[simp] theorem State.modNode_fw (s : State) (g n : Nat) (u : Node → Node) : (s.modNode g n u).fw = s.fw := rfl
@[simp] theorem State.modNode_mgt (s : State) (g n : Nat) (u : Node → Node) : (s.modNode g n u).mgt = s.mgt := rfl
@[simp] theorem State.modNode_jtag (s : State) (g n : Nat) (u : Node → Node) : (s.modNode g n u).jtag = s.jtag := rfl
@[simp] theorem State.modNode_pins (s : State) (g n : Nat) (u : Node → Node) : (s.modNode g n u).pins = s.pins := rfl
@[simp] theorem State.modNode_boot (s : State) (g n : Nat) (u : Node → Node) : (s.modNode g n u).boot = s.boot := rfl
@[simp] theorem State.modNode_chg (s : State) (g n : Nat) (u : Node → Node) : (s.modNode g n u).chg = s.chg := rfl
@[simp] theorem State.modNode_tile (s : State) (g n : Nat) (u : Node → Node) : (s.modNode g n u).tile = s.tile := rfl
@[simp] theorem State.modNode_mesh (s : State) (g n : Nat) (u : Node → Node) : (s.modNode g n u).mesh = s.mesh := rfl
@[simp] theorem State.modNode_meshFails (s : State) (g n : Nat) (u : Node → Node) : (s.modNode g n u).meshFails = s.meshFails := rfl
@[simp] theorem State.modNode_ready (s : State) (g n : Nat) (u : Node → Node) : (s.modNode g n u).ready = s.ready := rfl
@[simp] theorem State.modNode_link (s : State) (g n : Nat) (u : Node → Node) : (s.modNode g n u).link = s.link := rfl
@[simp] theorem State.modNode_vfEnable (s : State) (g n : Nat) (u : Node → Node) : (s.modNode g n u).vfEnable = s.vfEnable := rfl
@[simp] theorem State.modNode_vfMse (s : State) (g n : Nat) (u : Node → Node) : (s.modNode g n u).vfMse = s.vfMse := rfl
@[simp] theorem State.modNode_numVfs (s : State) (g n : Nat) (u : Node → Node) : (s.modNode g n u).numVfs = s.numVfs := rfl
@[simp] theorem State.modNode_ari (s : State) (g n : Nat) (u : Node → Node) : (s.modNode g n u).ari = s.ari := rfl
@[simp] theorem State.modNode_stamp (s : State) (g n : Nat) (u : Node → Node) : (s.modNode g n u).stamp = s.stamp := rfl
@[simp] theorem State.modNode_stage (s : State) (g n : Nat) (u : Node → Node) : (s.modNode g n u).stage = s.stage := rfl
@[simp] theorem State.modNode_lastCancel (s : State) (g n : Nat) (u : Node → Node) : (s.modNode g n u).lastCancel = s.lastCancel := rfl
@[simp] theorem State.modNode_stopping (s : State) (g n : Nat) (u : Node → Node) : (s.modNode g n u).stopping = s.stopping := rfl
@[simp] theorem State.modNode_xogate (s : State) (g n : Nat) (u : Node → Node) : (s.modNode g n u).xogate = s.xogate := rfl
@[simp] theorem State.modNode_evHeld (s : State) (g n : Nat) (u : Node → Node) : (s.modNode g n u).evHeld = s.evHeld := rfl
@[simp] theorem State.modNode_accepts (s : State) (g n : Nat) (u : Node → Node) : (s.modNode g n u).accepts = s.accepts := rfl
@[simp] theorem State.modNode_free (s : State) (g n : Nat) (u : Node → Node) : (s.modNode g n u).free = s.free := rfl
@[simp] theorem State.modNode_tlpHeld (s : State) (g n : Nat) (u : Node → Node) : (s.modNode g n u).tlpHeld = s.tlpHeld := rfl
@[simp] theorem State.modNode_wire (s : State) (g n : Nat) (u : Node → Node) : (s.modNode g n u).wire = s.wire := rfl
@[simp] theorem State.modNode_fn_of (s : State) (g n : Nat) (u : Node → Node) (i : Nat) : (s.modNode g n u).fn i = s.fn i := rfl
@[simp] theorem State.modNode_port_of (s : State) (g n : Nat) (u : Node → Node) (i : Nat) : (s.modNode g n u).port i = s.port i := rfl
@[simp] theorem State.modNode_tl_of (s : State) (g n : Nat) (u : Node → Node) (i : Nat) : (s.modNode g n u).tl i = s.tl i := rfl
@[simp] theorem State.modNode_plan_of (s : State) (g n : Nat) (u : Node → Node) (i : Nat) : (s.modNode g n u).plan i = s.plan i := rfl
@[simp] theorem State.modNode_list_of (s : State) (g n : Nat) (u : Node → Node) (i j : Nat) : (s.modNode g n u).list i j = s.list i j := rfl
@[simp] theorem State.modNode_chan_of (s : State) (g n : Nat) (u : Node → Node) (i : Nat) : (s.modNode g n u).chan i = s.chan i := rfl
@[simp] theorem State.modNode_point_of (s : State) (g n : Nat) (u : Node → Node) (i : Nat) : (s.modNode g n u).point i = s.point i := rfl
@[simp] theorem State.modNode_record_of (s : State) (g n : Nat) (u : Node → Node) (i : Nat) : (s.modNode g n u).record i = s.record i := rfl
@[simp] theorem State.modNode_reg_of (s : State) (g n : Nat) (u : Node → Node) (e y i o : Nat) : (s.modNode g n u).reg e y i o = s.reg e y i o := rfl
@[simp] theorem State.modNode_hasTile_of (s : State) (g n : Nat) (u : Node → Node) (i : Nat) : (s.modNode g n u).hasTile i = s.hasTile i := rfl
@[simp] theorem State.modNode_hasPort_of (s : State) (g n : Nat) (u : Node → Node) (i : Nat) : (s.modNode g n u).hasPort i = s.hasPort i := rfl

/-! ### modTile -/

@[simp] theorem State.modTile_pending (s : State) (t : Nat) (u : Tile → Tile) : (s.modTile t u).pending = s.pending := rfl
@[simp] theorem State.modTile_tiles (s : State) (t : Nat) (u : Tile → Tile) : (s.modTile t u).tiles = s.tiles := rfl
@[simp] theorem State.modTile_time (s : State) (t : Nat) (u : Tile → Tile) : (s.modTile t u).time = s.time := rfl
@[simp] theorem State.modTile_regs (s : State) (t : Nat) (u : Tile → Tile) : (s.modTile t u).regs = s.regs := rfl
@[simp] theorem State.modTile_stored (s : State) (t : Nat) (u : Tile → Tile) : (s.modTile t u).stored = s.stored := rfl
@[simp] theorem State.modTile_fns (s : State) (t : Nat) (u : Tile → Tile) : (s.modTile t u).fns = s.fns := rfl
@[simp] theorem State.modTile_ports (s : State) (t : Nat) (u : Tile → Tile) : (s.modTile t u).ports = s.ports := rfl
@[simp] theorem State.modTile_nodes (s : State) (t : Nat) (u : Tile → Tile) : (s.modTile t u).nodes = s.nodes := rfl
@[simp] theorem State.modTile_plans (s : State) (t : Nat) (u : Tile → Tile) : (s.modTile t u).plans = s.plans := rfl
@[simp] theorem State.modTile_lists (s : State) (t : Nat) (u : Tile → Tile) : (s.modTile t u).lists = s.lists := rfl
@[simp] theorem State.modTile_pim (s : State) (t : Nat) (u : Tile → Tile) : (s.modTile t u).pim = s.pim := rfl
@[simp] theorem State.modTile_owners (s : State) (t : Nat) (u : Tile → Tile) : (s.modTile t u).owners = s.owners := rfl
@[simp] theorem State.modTile_points (s : State) (t : Nat) (u : Tile → Tile) : (s.modTile t u).points = s.points := rfl
@[simp] theorem State.modTile_grants (s : State) (t : Nat) (u : Tile → Tile) : (s.modTile t u).grants = s.grants := rfl
@[simp] theorem State.modTile_rules (s : State) (t : Nat) (u : Tile → Tile) : (s.modTile t u).rules = s.rules := rfl
@[simp] theorem State.modTile_remote (s : State) (t : Nat) (u : Tile → Tile) : (s.modTile t u).remote = s.remote := rfl
@[simp] theorem State.modTile_copies (s : State) (t : Nat) (u : Tile → Tile) : (s.modTile t u).copies = s.copies := rfl
@[simp] theorem State.modTile_unseen (s : State) (t : Nat) (u : Tile → Tile) : (s.modTile t u).unseen = s.unseen := rfl
@[simp] theorem State.modTile_bridge (s : State) (t : Nat) (u : Tile → Tile) : (s.modTile t u).bridge = s.bridge := rfl
@[simp] theorem State.modTile_chans (s : State) (t : Nat) (u : Tile → Tile) : (s.modTile t u).chans = s.chans := rfl
@[simp] theorem State.modTile_nonces (s : State) (t : Nat) (u : Tile → Tile) : (s.modTile t u).nonces = s.nonces := rfl
@[simp] theorem State.modTile_quar (s : State) (t : Nat) (u : Tile → Tile) : (s.modTile t u).quar = s.quar := rfl
@[simp] theorem State.modTile_policy (s : State) (t : Nat) (u : Tile → Tile) : (s.modTile t u).policy = s.policy := rfl
@[simp] theorem State.modTile_journal (s : State) (t : Nat) (u : Tile → Tile) : (s.modTile t u).journal = s.journal := rfl
@[simp] theorem State.modTile_half0 (s : State) (t : Nat) (u : Tile → Tile) : (s.modTile t u).half0 = s.half0 := rfl
@[simp] theorem State.modTile_half1 (s : State) (t : Nat) (u : Tile → Tile) : (s.modTile t u).half1 = s.half1 := rfl
@[simp] theorem State.modTile_half (s : State) (t : Nat) (u : Tile → Tile) : (s.modTile t u).half = s.half := rfl
@[simp] theorem State.modTile_fw (s : State) (t : Nat) (u : Tile → Tile) : (s.modTile t u).fw = s.fw := rfl
@[simp] theorem State.modTile_mgt (s : State) (t : Nat) (u : Tile → Tile) : (s.modTile t u).mgt = s.mgt := rfl
@[simp] theorem State.modTile_jtag (s : State) (t : Nat) (u : Tile → Tile) : (s.modTile t u).jtag = s.jtag := rfl
@[simp] theorem State.modTile_pins (s : State) (t : Nat) (u : Tile → Tile) : (s.modTile t u).pins = s.pins := rfl
@[simp] theorem State.modTile_boot (s : State) (t : Nat) (u : Tile → Tile) : (s.modTile t u).boot = s.boot := rfl
@[simp] theorem State.modTile_chg (s : State) (t : Nat) (u : Tile → Tile) : (s.modTile t u).chg = s.chg := rfl
@[simp] theorem State.modTile_tile (s : State) (t : Nat) (u : Tile → Tile) : (s.modTile t u).tile = nmod {} s.tile t u := rfl
@[simp] theorem State.modTile_mesh (s : State) (t : Nat) (u : Tile → Tile) : (s.modTile t u).mesh = s.mesh := rfl
@[simp] theorem State.modTile_meshFails (s : State) (t : Nat) (u : Tile → Tile) : (s.modTile t u).meshFails = s.meshFails := rfl
@[simp] theorem State.modTile_ready (s : State) (t : Nat) (u : Tile → Tile) : (s.modTile t u).ready = s.ready := rfl
@[simp] theorem State.modTile_link (s : State) (t : Nat) (u : Tile → Tile) : (s.modTile t u).link = s.link := rfl
@[simp] theorem State.modTile_vfEnable (s : State) (t : Nat) (u : Tile → Tile) : (s.modTile t u).vfEnable = s.vfEnable := rfl
@[simp] theorem State.modTile_vfMse (s : State) (t : Nat) (u : Tile → Tile) : (s.modTile t u).vfMse = s.vfMse := rfl
@[simp] theorem State.modTile_numVfs (s : State) (t : Nat) (u : Tile → Tile) : (s.modTile t u).numVfs = s.numVfs := rfl
@[simp] theorem State.modTile_ari (s : State) (t : Nat) (u : Tile → Tile) : (s.modTile t u).ari = s.ari := rfl
@[simp] theorem State.modTile_stamp (s : State) (t : Nat) (u : Tile → Tile) : (s.modTile t u).stamp = s.stamp := rfl
@[simp] theorem State.modTile_stage (s : State) (t : Nat) (u : Tile → Tile) : (s.modTile t u).stage = s.stage := rfl
@[simp] theorem State.modTile_lastCancel (s : State) (t : Nat) (u : Tile → Tile) : (s.modTile t u).lastCancel = s.lastCancel := rfl
@[simp] theorem State.modTile_stopping (s : State) (t : Nat) (u : Tile → Tile) : (s.modTile t u).stopping = s.stopping := rfl
@[simp] theorem State.modTile_xogate (s : State) (t : Nat) (u : Tile → Tile) : (s.modTile t u).xogate = s.xogate := rfl
@[simp] theorem State.modTile_evHeld (s : State) (t : Nat) (u : Tile → Tile) : (s.modTile t u).evHeld = s.evHeld := rfl
@[simp] theorem State.modTile_accepts (s : State) (t : Nat) (u : Tile → Tile) : (s.modTile t u).accepts = s.accepts := rfl
@[simp] theorem State.modTile_free (s : State) (t : Nat) (u : Tile → Tile) : (s.modTile t u).free = s.free := rfl
@[simp] theorem State.modTile_tlpHeld (s : State) (t : Nat) (u : Tile → Tile) : (s.modTile t u).tlpHeld = s.tlpHeld := rfl
@[simp] theorem State.modTile_wire (s : State) (t : Nat) (u : Tile → Tile) : (s.modTile t u).wire = s.wire := rfl
@[simp] theorem State.modTile_fn_of (s : State) (t : Nat) (u : Tile → Tile) (i : Nat) : (s.modTile t u).fn i = s.fn i := rfl
@[simp] theorem State.modTile_port_of (s : State) (t : Nat) (u : Tile → Tile) (i : Nat) : (s.modTile t u).port i = s.port i := rfl
@[simp] theorem State.modTile_node_of (s : State) (t : Nat) (u : Tile → Tile) (i j : Nat) : (s.modTile t u).node i j = s.node i j := rfl
@[simp] theorem State.modTile_plan_of (s : State) (t : Nat) (u : Tile → Tile) (i : Nat) : (s.modTile t u).plan i = s.plan i := rfl
@[simp] theorem State.modTile_list_of (s : State) (t : Nat) (u : Tile → Tile) (i j : Nat) : (s.modTile t u).list i j = s.list i j := rfl
@[simp] theorem State.modTile_chan_of (s : State) (t : Nat) (u : Tile → Tile) (i : Nat) : (s.modTile t u).chan i = s.chan i := rfl
@[simp] theorem State.modTile_point_of (s : State) (t : Nat) (u : Tile → Tile) (i : Nat) : (s.modTile t u).point i = s.point i := rfl
@[simp] theorem State.modTile_record_of (s : State) (t : Nat) (u : Tile → Tile) (i : Nat) : (s.modTile t u).record i = s.record i := rfl
@[simp] theorem State.modTile_reg_of (s : State) (t : Nat) (u : Tile → Tile) (e y i o : Nat) : (s.modTile t u).reg e y i o = s.reg e y i o := rfl
@[simp] theorem State.modTile_hasTile_of (s : State) (t : Nat) (u : Tile → Tile) (i : Nat) : (s.modTile t u).hasTile i = s.hasTile i := rfl
@[simp] theorem State.modTile_hasPort_of (s : State) (t : Nat) (u : Tile → Tile) (i : Nat) : (s.modTile t u).hasPort i = s.hasPort i := rfl

/-! ### modTime -/

@[simp] theorem State.modTime_pending (s : State) (u : TimeSt → TimeSt) : (s.modTime u).pending = s.pending := rfl
@[simp] theorem State.modTime_tiles (s : State) (u : TimeSt → TimeSt) : (s.modTime u).tiles = s.tiles := rfl
@[simp] theorem State.modTime_time (s : State) (u : TimeSt → TimeSt) : (s.modTime u).time = u s.time := rfl
@[simp] theorem State.modTime_regs (s : State) (u : TimeSt → TimeSt) : (s.modTime u).regs = s.regs := rfl
@[simp] theorem State.modTime_stored (s : State) (u : TimeSt → TimeSt) : (s.modTime u).stored = s.stored := rfl
@[simp] theorem State.modTime_fns (s : State) (u : TimeSt → TimeSt) : (s.modTime u).fns = s.fns := rfl
@[simp] theorem State.modTime_ports (s : State) (u : TimeSt → TimeSt) : (s.modTime u).ports = s.ports := rfl
@[simp] theorem State.modTime_nodes (s : State) (u : TimeSt → TimeSt) : (s.modTime u).nodes = s.nodes := rfl
@[simp] theorem State.modTime_plans (s : State) (u : TimeSt → TimeSt) : (s.modTime u).plans = s.plans := rfl
@[simp] theorem State.modTime_lists (s : State) (u : TimeSt → TimeSt) : (s.modTime u).lists = s.lists := rfl
@[simp] theorem State.modTime_pim (s : State) (u : TimeSt → TimeSt) : (s.modTime u).pim = s.pim := rfl
@[simp] theorem State.modTime_owners (s : State) (u : TimeSt → TimeSt) : (s.modTime u).owners = s.owners := rfl
@[simp] theorem State.modTime_points (s : State) (u : TimeSt → TimeSt) : (s.modTime u).points = s.points := rfl
@[simp] theorem State.modTime_grants (s : State) (u : TimeSt → TimeSt) : (s.modTime u).grants = s.grants := rfl
@[simp] theorem State.modTime_rules (s : State) (u : TimeSt → TimeSt) : (s.modTime u).rules = s.rules := rfl
@[simp] theorem State.modTime_remote (s : State) (u : TimeSt → TimeSt) : (s.modTime u).remote = s.remote := rfl
@[simp] theorem State.modTime_copies (s : State) (u : TimeSt → TimeSt) : (s.modTime u).copies = s.copies := rfl
@[simp] theorem State.modTime_unseen (s : State) (u : TimeSt → TimeSt) : (s.modTime u).unseen = s.unseen := rfl
@[simp] theorem State.modTime_bridge (s : State) (u : TimeSt → TimeSt) : (s.modTime u).bridge = s.bridge := rfl
@[simp] theorem State.modTime_chans (s : State) (u : TimeSt → TimeSt) : (s.modTime u).chans = s.chans := rfl
@[simp] theorem State.modTime_nonces (s : State) (u : TimeSt → TimeSt) : (s.modTime u).nonces = s.nonces := rfl
@[simp] theorem State.modTime_quar (s : State) (u : TimeSt → TimeSt) : (s.modTime u).quar = s.quar := rfl
@[simp] theorem State.modTime_policy (s : State) (u : TimeSt → TimeSt) : (s.modTime u).policy = s.policy := rfl
@[simp] theorem State.modTime_journal (s : State) (u : TimeSt → TimeSt) : (s.modTime u).journal = s.journal := rfl
@[simp] theorem State.modTime_half0 (s : State) (u : TimeSt → TimeSt) : (s.modTime u).half0 = s.half0 := rfl
@[simp] theorem State.modTime_half1 (s : State) (u : TimeSt → TimeSt) : (s.modTime u).half1 = s.half1 := rfl
@[simp] theorem State.modTime_half (s : State) (u : TimeSt → TimeSt) : (s.modTime u).half = s.half := rfl
@[simp] theorem State.modTime_fw (s : State) (u : TimeSt → TimeSt) : (s.modTime u).fw = s.fw := rfl
@[simp] theorem State.modTime_mgt (s : State) (u : TimeSt → TimeSt) : (s.modTime u).mgt = s.mgt := rfl
@[simp] theorem State.modTime_jtag (s : State) (u : TimeSt → TimeSt) : (s.modTime u).jtag = s.jtag := rfl
@[simp] theorem State.modTime_pins (s : State) (u : TimeSt → TimeSt) : (s.modTime u).pins = s.pins := rfl
@[simp] theorem State.modTime_boot (s : State) (u : TimeSt → TimeSt) : (s.modTime u).boot = s.boot := rfl
@[simp] theorem State.modTime_chg (s : State) (u : TimeSt → TimeSt) : (s.modTime u).chg = s.chg := rfl
@[simp] theorem State.modTime_tile (s : State) (u : TimeSt → TimeSt) : (s.modTime u).tile = s.tile := rfl
@[simp] theorem State.modTime_mesh (s : State) (u : TimeSt → TimeSt) : (s.modTime u).mesh = s.mesh := rfl
@[simp] theorem State.modTime_meshFails (s : State) (u : TimeSt → TimeSt) : (s.modTime u).meshFails = s.meshFails := rfl
@[simp] theorem State.modTime_ready (s : State) (u : TimeSt → TimeSt) : (s.modTime u).ready = s.ready := rfl
@[simp] theorem State.modTime_link (s : State) (u : TimeSt → TimeSt) : (s.modTime u).link = s.link := rfl
@[simp] theorem State.modTime_vfEnable (s : State) (u : TimeSt → TimeSt) : (s.modTime u).vfEnable = s.vfEnable := rfl
@[simp] theorem State.modTime_vfMse (s : State) (u : TimeSt → TimeSt) : (s.modTime u).vfMse = s.vfMse := rfl
@[simp] theorem State.modTime_numVfs (s : State) (u : TimeSt → TimeSt) : (s.modTime u).numVfs = s.numVfs := rfl
@[simp] theorem State.modTime_ari (s : State) (u : TimeSt → TimeSt) : (s.modTime u).ari = s.ari := rfl
@[simp] theorem State.modTime_stamp (s : State) (u : TimeSt → TimeSt) : (s.modTime u).stamp = s.stamp := rfl
@[simp] theorem State.modTime_stage (s : State) (u : TimeSt → TimeSt) : (s.modTime u).stage = s.stage := rfl
@[simp] theorem State.modTime_lastCancel (s : State) (u : TimeSt → TimeSt) : (s.modTime u).lastCancel = s.lastCancel := rfl
@[simp] theorem State.modTime_stopping (s : State) (u : TimeSt → TimeSt) : (s.modTime u).stopping = s.stopping := rfl
@[simp] theorem State.modTime_xogate (s : State) (u : TimeSt → TimeSt) : (s.modTime u).xogate = s.xogate := rfl
@[simp] theorem State.modTime_evHeld (s : State) (u : TimeSt → TimeSt) : (s.modTime u).evHeld = s.evHeld := rfl
@[simp] theorem State.modTime_accepts (s : State) (u : TimeSt → TimeSt) : (s.modTime u).accepts = s.accepts := rfl
@[simp] theorem State.modTime_free (s : State) (u : TimeSt → TimeSt) : (s.modTime u).free = s.free := rfl
@[simp] theorem State.modTime_tlpHeld (s : State) (u : TimeSt → TimeSt) : (s.modTime u).tlpHeld = s.tlpHeld := rfl
@[simp] theorem State.modTime_wire (s : State) (u : TimeSt → TimeSt) : (s.modTime u).wire = s.wire := rfl
@[simp] theorem State.modTime_fn_of (s : State) (u : TimeSt → TimeSt) (i : Nat) : (s.modTime u).fn i = s.fn i := rfl
@[simp] theorem State.modTime_port_of (s : State) (u : TimeSt → TimeSt) (i : Nat) : (s.modTime u).port i = s.port i := rfl
@[simp] theorem State.modTime_node_of (s : State) (u : TimeSt → TimeSt) (i j : Nat) : (s.modTime u).node i j = s.node i j := rfl
@[simp] theorem State.modTime_tl_of (s : State) (u : TimeSt → TimeSt) (i : Nat) : (s.modTime u).tl i = s.tl i := rfl
@[simp] theorem State.modTime_plan_of (s : State) (u : TimeSt → TimeSt) (i : Nat) : (s.modTime u).plan i = s.plan i := rfl
@[simp] theorem State.modTime_list_of (s : State) (u : TimeSt → TimeSt) (i j : Nat) : (s.modTime u).list i j = s.list i j := rfl
@[simp] theorem State.modTime_chan_of (s : State) (u : TimeSt → TimeSt) (i : Nat) : (s.modTime u).chan i = s.chan i := rfl
@[simp] theorem State.modTime_point_of (s : State) (u : TimeSt → TimeSt) (i : Nat) : (s.modTime u).point i = s.point i := rfl
@[simp] theorem State.modTime_record_of (s : State) (u : TimeSt → TimeSt) (i : Nat) : (s.modTime u).record i = s.record i := rfl
@[simp] theorem State.modTime_reg_of (s : State) (u : TimeSt → TimeSt) (e y i o : Nat) : (s.modTime u).reg e y i o = s.reg e y i o := rfl
@[simp] theorem State.modTime_hasTile_of (s : State) (u : TimeSt → TimeSt) (i : Nat) : (s.modTime u).hasTile i = s.hasTile i := rfl
@[simp] theorem State.modTime_hasPort_of (s : State) (u : TimeSt → TimeSt) (i : Nat) : (s.modTime u).hasPort i = s.hasPort i := rfl

/-! ### setReg -/

@[simp] theorem State.setReg_pending (s : State) (d ty inst off v : Nat) : (s.setReg d ty inst off v).pending = s.pending := rfl
@[simp] theorem State.setReg_tiles (s : State) (d ty inst off v : Nat) : (s.setReg d ty inst off v).tiles = s.tiles := rfl
@[simp] theorem State.setReg_time (s : State) (d ty inst off v : Nat) : (s.setReg d ty inst off v).time = s.time := rfl
@[simp] theorem State.setReg_regs (s : State) (d ty inst off v : Nat) : (s.setReg d ty inst off v).regs = nput (BitVec.ofNat 64 d) s.regs (regKey ty inst off) (BitVec.ofNat 64 v) := rfl
@[simp] theorem State.setReg_stored (s : State) (d ty inst off v : Nat) : (s.setReg d ty inst off v).stored = s.stored := rfl
@[simp] theorem State.setReg_fns (s : State) (d ty inst off v : Nat) : (s.setReg d ty inst off v).fns = s.fns := rfl
@[simp] theorem State.setReg_ports (s : State) (d ty inst off v : Nat) : (s.setReg d ty inst off v).ports = s.ports := rfl
@[simp] theorem State.setReg_nodes (s : State) (d ty inst off v : Nat) : (s.setReg d ty inst off v).nodes = s.nodes := rfl
@[simp] theorem State.setReg_plans (s : State) (d ty inst off v : Nat) : (s.setReg d ty inst off v).plans = s.plans := rfl
@[simp] theorem State.setReg_lists (s : State) (d ty inst off v : Nat) : (s.setReg d ty inst off v).lists = s.lists := rfl
@[simp] theorem State.setReg_pim (s : State) (d ty inst off v : Nat) : (s.setReg d ty inst off v).pim = s.pim := rfl
@[simp] theorem State.setReg_owners (s : State) (d ty inst off v : Nat) : (s.setReg d ty inst off v).owners = s.owners := rfl
@[simp] theorem State.setReg_points (s : State) (d ty inst off v : Nat) : (s.setReg d ty inst off v).points = s.points := rfl
@[simp] theorem State.setReg_grants (s : State) (d ty inst off v : Nat) : (s.setReg d ty inst off v).grants = s.grants := rfl
@[simp] theorem State.setReg_rules (s : State) (d ty inst off v : Nat) : (s.setReg d ty inst off v).rules = s.rules := rfl
@[simp] theorem State.setReg_remote (s : State) (d ty inst off v : Nat) : (s.setReg d ty inst off v).remote = s.remote := rfl
@[simp] theorem State.setReg_copies (s : State) (d ty inst off v : Nat) : (s.setReg d ty inst off v).copies = s.copies := rfl
@[simp] theorem State.setReg_unseen (s : State) (d ty inst off v : Nat) : (s.setReg d ty inst off v).unseen = s.unseen := rfl
@[simp] theorem State.setReg_bridge (s : State) (d ty inst off v : Nat) : (s.setReg d ty inst off v).bridge = s.bridge := rfl
@[simp] theorem State.setReg_chans (s : State) (d ty inst off v : Nat) : (s.setReg d ty inst off v).chans = s.chans := rfl
@[simp] theorem State.setReg_nonces (s : State) (d ty inst off v : Nat) : (s.setReg d ty inst off v).nonces = s.nonces := rfl
@[simp] theorem State.setReg_quar (s : State) (d ty inst off v : Nat) : (s.setReg d ty inst off v).quar = s.quar := rfl
@[simp] theorem State.setReg_policy (s : State) (d ty inst off v : Nat) : (s.setReg d ty inst off v).policy = s.policy := rfl
@[simp] theorem State.setReg_journal (s : State) (d ty inst off v : Nat) : (s.setReg d ty inst off v).journal = s.journal := rfl
@[simp] theorem State.setReg_half0 (s : State) (d ty inst off v : Nat) : (s.setReg d ty inst off v).half0 = s.half0 := rfl
@[simp] theorem State.setReg_half1 (s : State) (d ty inst off v : Nat) : (s.setReg d ty inst off v).half1 = s.half1 := rfl
@[simp] theorem State.setReg_half (s : State) (d ty inst off v : Nat) : (s.setReg d ty inst off v).half = s.half := rfl
@[simp] theorem State.setReg_fw (s : State) (d ty inst off v : Nat) : (s.setReg d ty inst off v).fw = s.fw := rfl
@[simp] theorem State.setReg_mgt (s : State) (d ty inst off v : Nat) : (s.setReg d ty inst off v).mgt = s.mgt := rfl
@[simp] theorem State.setReg_jtag (s : State) (d ty inst off v : Nat) : (s.setReg d ty inst off v).jtag = s.jtag := rfl
@[simp] theorem State.setReg_pins (s : State) (d ty inst off v : Nat) : (s.setReg d ty inst off v).pins = s.pins := rfl
@[simp] theorem State.setReg_boot (s : State) (d ty inst off v : Nat) : (s.setReg d ty inst off v).boot = s.boot := rfl
@[simp] theorem State.setReg_chg (s : State) (d ty inst off v : Nat) : (s.setReg d ty inst off v).chg = s.chg := rfl
@[simp] theorem State.setReg_tile (s : State) (d ty inst off v : Nat) : (s.setReg d ty inst off v).tile = s.tile := rfl
@[simp] theorem State.setReg_mesh (s : State) (d ty inst off v : Nat) : (s.setReg d ty inst off v).mesh = s.mesh := rfl
@[simp] theorem State.setReg_meshFails (s : State) (d ty inst off v : Nat) : (s.setReg d ty inst off v).meshFails = s.meshFails := rfl
@[simp] theorem State.setReg_ready (s : State) (d ty inst off v : Nat) : (s.setReg d ty inst off v).ready = s.ready := rfl
@[simp] theorem State.setReg_link (s : State) (d ty inst off v : Nat) : (s.setReg d ty inst off v).link = s.link := rfl
@[simp] theorem State.setReg_vfEnable (s : State) (d ty inst off v : Nat) : (s.setReg d ty inst off v).vfEnable = s.vfEnable := rfl
@[simp] theorem State.setReg_vfMse (s : State) (d ty inst off v : Nat) : (s.setReg d ty inst off v).vfMse = s.vfMse := rfl
@[simp] theorem State.setReg_numVfs (s : State) (d ty inst off v : Nat) : (s.setReg d ty inst off v).numVfs = s.numVfs := rfl
@[simp] theorem State.setReg_ari (s : State) (d ty inst off v : Nat) : (s.setReg d ty inst off v).ari = s.ari := rfl
@[simp] theorem State.setReg_stamp (s : State) (d ty inst off v : Nat) : (s.setReg d ty inst off v).stamp = s.stamp := rfl
@[simp] theorem State.setReg_stage (s : State) (d ty inst off v : Nat) : (s.setReg d ty inst off v).stage = s.stage := rfl
@[simp] theorem State.setReg_lastCancel (s : State) (d ty inst off v : Nat) : (s.setReg d ty inst off v).lastCancel = s.lastCancel := rfl
@[simp] theorem State.setReg_stopping (s : State) (d ty inst off v : Nat) : (s.setReg d ty inst off v).stopping = s.stopping := rfl
@[simp] theorem State.setReg_xogate (s : State) (d ty inst off v : Nat) : (s.setReg d ty inst off v).xogate = s.xogate := rfl
@[simp] theorem State.setReg_evHeld (s : State) (d ty inst off v : Nat) : (s.setReg d ty inst off v).evHeld = s.evHeld := rfl
@[simp] theorem State.setReg_accepts (s : State) (d ty inst off v : Nat) : (s.setReg d ty inst off v).accepts = s.accepts := rfl
@[simp] theorem State.setReg_free (s : State) (d ty inst off v : Nat) : (s.setReg d ty inst off v).free = s.free := rfl
@[simp] theorem State.setReg_tlpHeld (s : State) (d ty inst off v : Nat) : (s.setReg d ty inst off v).tlpHeld = s.tlpHeld := rfl
@[simp] theorem State.setReg_wire (s : State) (d ty inst off v : Nat) : (s.setReg d ty inst off v).wire = s.wire := rfl
@[simp] theorem State.setReg_fn_of (s : State) (d ty inst off v : Nat) (i : Nat) : (s.setReg d ty inst off v).fn i = s.fn i := rfl
@[simp] theorem State.setReg_port_of (s : State) (d ty inst off v : Nat) (i : Nat) : (s.setReg d ty inst off v).port i = s.port i := rfl
@[simp] theorem State.setReg_node_of (s : State) (d ty inst off v : Nat) (i j : Nat) : (s.setReg d ty inst off v).node i j = s.node i j := rfl
@[simp] theorem State.setReg_tl_of (s : State) (d ty inst off v : Nat) (i : Nat) : (s.setReg d ty inst off v).tl i = s.tl i := rfl
@[simp] theorem State.setReg_plan_of (s : State) (d ty inst off v : Nat) (i : Nat) : (s.setReg d ty inst off v).plan i = s.plan i := rfl
@[simp] theorem State.setReg_list_of (s : State) (d ty inst off v : Nat) (i j : Nat) : (s.setReg d ty inst off v).list i j = s.list i j := rfl
@[simp] theorem State.setReg_chan_of (s : State) (d ty inst off v : Nat) (i : Nat) : (s.setReg d ty inst off v).chan i = s.chan i := rfl
@[simp] theorem State.setReg_point_of (s : State) (d ty inst off v : Nat) (i : Nat) : (s.setReg d ty inst off v).point i = s.point i := rfl
@[simp] theorem State.setReg_record_of (s : State) (d ty inst off v : Nat) (i : Nat) : (s.setReg d ty inst off v).record i = s.record i := rfl
@[simp] theorem State.setReg_hasTile_of (s : State) (d ty inst off v : Nat) (i : Nat) : (s.setReg d ty inst off v).hasTile i = s.hasTile i := rfl
@[simp] theorem State.setReg_hasPort_of (s : State) (d ty inst off v : Nat) (i : Nat) : (s.setReg d ty inst off v).hasPort i = s.hasPort i := rfl

/-! ### draw -/

@[simp] theorem State.draw_pending (s : State) : (s.draw).pending = s.pending := rfl
@[simp] theorem State.draw_tiles (s : State) : (s.draw).tiles = s.tiles := rfl
@[simp] theorem State.draw_time (s : State) : (s.draw).time = s.time := rfl
@[simp] theorem State.draw_regs (s : State) : (s.draw).regs = s.regs := rfl
@[simp] theorem State.draw_stored (s : State) : (s.draw).stored = s.stored := rfl
@[simp] theorem State.draw_fns (s : State) : (s.draw).fns = s.fns := rfl
@[simp] theorem State.draw_ports (s : State) : (s.draw).ports = s.ports := rfl
@[simp] theorem State.draw_nodes (s : State) : (s.draw).nodes = s.nodes := rfl
@[simp] theorem State.draw_plans (s : State) : (s.draw).plans = s.plans := rfl
@[simp] theorem State.draw_lists (s : State) : (s.draw).lists = s.lists := rfl
@[simp] theorem State.draw_pim (s : State) : (s.draw).pim = s.pim := rfl
@[simp] theorem State.draw_owners (s : State) : (s.draw).owners = s.owners := rfl
@[simp] theorem State.draw_points (s : State) : (s.draw).points = s.points := rfl
@[simp] theorem State.draw_grants (s : State) : (s.draw).grants = s.grants := rfl
@[simp] theorem State.draw_rules (s : State) : (s.draw).rules = s.rules := rfl
@[simp] theorem State.draw_remote (s : State) : (s.draw).remote = s.remote := rfl
@[simp] theorem State.draw_copies (s : State) : (s.draw).copies = s.copies := rfl
@[simp] theorem State.draw_unseen (s : State) : (s.draw).unseen = s.unseen := rfl
@[simp] theorem State.draw_bridge (s : State) : (s.draw).bridge = s.bridge := rfl
@[simp] theorem State.draw_chans (s : State) : (s.draw).chans = s.chans := rfl
@[simp] theorem State.draw_nonces (s : State) : (s.draw).nonces = s.nonces := rfl
@[simp] theorem State.draw_quar (s : State) : (s.draw).quar = s.quar := rfl
@[simp] theorem State.draw_policy (s : State) : (s.draw).policy = s.policy := rfl
@[simp] theorem State.draw_journal (s : State) : (s.draw).journal = s.journal := rfl
@[simp] theorem State.draw_half0 (s : State) : (s.draw).half0 = s.half0 := rfl
@[simp] theorem State.draw_half1 (s : State) : (s.draw).half1 = s.half1 := rfl
@[simp] theorem State.draw_half (s : State) : (s.draw).half = s.half := rfl
@[simp] theorem State.draw_fw (s : State) : (s.draw).fw = s.fw := rfl
@[simp] theorem State.draw_mgt (s : State) : (s.draw).mgt = s.mgt := rfl
@[simp] theorem State.draw_jtag (s : State) : (s.draw).jtag = s.jtag := rfl
@[simp] theorem State.draw_pins (s : State) : (s.draw).pins = s.pins := rfl
@[simp] theorem State.draw_boot (s : State) : (s.draw).boot = s.boot := rfl
@[simp] theorem State.draw_chg (s : State) : (s.draw).chg = s.chg := rfl
@[simp] theorem State.draw_tile (s : State) : (s.draw).tile = s.tile := rfl
@[simp] theorem State.draw_mesh (s : State) : (s.draw).mesh = s.mesh := rfl
@[simp] theorem State.draw_meshFails (s : State) : (s.draw).meshFails = s.meshFails := rfl
@[simp] theorem State.draw_ready (s : State) : (s.draw).ready = s.ready := rfl
@[simp] theorem State.draw_link (s : State) : (s.draw).link = s.link := rfl
@[simp] theorem State.draw_vfEnable (s : State) : (s.draw).vfEnable = s.vfEnable := rfl
@[simp] theorem State.draw_vfMse (s : State) : (s.draw).vfMse = s.vfMse := rfl
@[simp] theorem State.draw_numVfs (s : State) : (s.draw).numVfs = s.numVfs := rfl
@[simp] theorem State.draw_ari (s : State) : (s.draw).ari = s.ari := rfl
@[simp] theorem State.draw_stamp (s : State) : (s.draw).stamp = s.stamp := rfl
@[simp] theorem State.draw_stage (s : State) : (s.draw).stage = s.stage := rfl
@[simp] theorem State.draw_lastCancel (s : State) : (s.draw).lastCancel = s.lastCancel := rfl
@[simp] theorem State.draw_stopping (s : State) : (s.draw).stopping = s.stopping := rfl
@[simp] theorem State.draw_xogate (s : State) : (s.draw).xogate = s.xogate := rfl
@[simp] theorem State.draw_evHeld (s : State) : (s.draw).evHeld = s.evHeld := rfl
@[simp] theorem State.draw_accepts (s : State) : (s.draw).accepts = s.accepts := rfl
@[simp] theorem State.draw_free (s : State) : (s.draw).free = s.free + 1 := rfl
@[simp] theorem State.draw_tlpHeld (s : State) : (s.draw).tlpHeld = s.tlpHeld := rfl
@[simp] theorem State.draw_wire (s : State) : (s.draw).wire = s.wire := rfl
@[simp] theorem State.draw_fn_of (s : State) (i : Nat) : (s.draw).fn i = s.fn i := rfl
@[simp] theorem State.draw_port_of (s : State) (i : Nat) : (s.draw).port i = s.port i := rfl
@[simp] theorem State.draw_node_of (s : State) (i j : Nat) : (s.draw).node i j = s.node i j := rfl
@[simp] theorem State.draw_tl_of (s : State) (i : Nat) : (s.draw).tl i = s.tl i := rfl
@[simp] theorem State.draw_plan_of (s : State) (i : Nat) : (s.draw).plan i = s.plan i := rfl
@[simp] theorem State.draw_list_of (s : State) (i j : Nat) : (s.draw).list i j = s.list i j := rfl
@[simp] theorem State.draw_chan_of (s : State) (i : Nat) : (s.draw).chan i = s.chan i := rfl
@[simp] theorem State.draw_point_of (s : State) (i : Nat) : (s.draw).point i = s.point i := rfl
@[simp] theorem State.draw_record_of (s : State) (i : Nat) : (s.draw).record i = s.record i := rfl
@[simp] theorem State.draw_reg_of (s : State) (e y i o : Nat) : (s.draw).reg e y i o = s.reg e y i o := rfl
@[simp] theorem State.draw_hasTile_of (s : State) (i : Nat) : (s.draw).hasTile i = s.hasTile i := rfl
@[simp] theorem State.draw_hasPort_of (s : State) (i : Nat) : (s.draw).hasPort i = s.hasPort i := rfl

/-! ### modPlan -/

@[simp] theorem State.modPlan_pending (s : State) (g : Nat) (u : PlanSt → PlanSt) : (s.modPlan g u).pending = s.pending := rfl
@[simp] theorem State.modPlan_tiles (s : State) (g : Nat) (u : PlanSt → PlanSt) : (s.modPlan g u).tiles = s.tiles := rfl
@[simp] theorem State.modPlan_time (s : State) (g : Nat) (u : PlanSt → PlanSt) : (s.modPlan g u).time = s.time := rfl
@[simp] theorem State.modPlan_regs (s : State) (g : Nat) (u : PlanSt → PlanSt) : (s.modPlan g u).regs = s.regs := rfl
@[simp] theorem State.modPlan_stored (s : State) (g : Nat) (u : PlanSt → PlanSt) : (s.modPlan g u).stored = s.stored := rfl
@[simp] theorem State.modPlan_fns (s : State) (g : Nat) (u : PlanSt → PlanSt) : (s.modPlan g u).fns = s.fns := rfl
@[simp] theorem State.modPlan_ports (s : State) (g : Nat) (u : PlanSt → PlanSt) : (s.modPlan g u).ports = s.ports := rfl
@[simp] theorem State.modPlan_nodes (s : State) (g : Nat) (u : PlanSt → PlanSt) : (s.modPlan g u).nodes = s.nodes := rfl
@[simp] theorem State.modPlan_plans (s : State) (g : Nat) (u : PlanSt → PlanSt) : (s.modPlan g u).plans = nmod {} s.plans g u := rfl
@[simp] theorem State.modPlan_lists (s : State) (g : Nat) (u : PlanSt → PlanSt) : (s.modPlan g u).lists = s.lists := rfl
@[simp] theorem State.modPlan_pim (s : State) (g : Nat) (u : PlanSt → PlanSt) : (s.modPlan g u).pim = s.pim := rfl
@[simp] theorem State.modPlan_owners (s : State) (g : Nat) (u : PlanSt → PlanSt) : (s.modPlan g u).owners = s.owners := rfl
@[simp] theorem State.modPlan_points (s : State) (g : Nat) (u : PlanSt → PlanSt) : (s.modPlan g u).points = s.points := rfl
@[simp] theorem State.modPlan_grants (s : State) (g : Nat) (u : PlanSt → PlanSt) : (s.modPlan g u).grants = s.grants := rfl
@[simp] theorem State.modPlan_rules (s : State) (g : Nat) (u : PlanSt → PlanSt) : (s.modPlan g u).rules = s.rules := rfl
@[simp] theorem State.modPlan_remote (s : State) (g : Nat) (u : PlanSt → PlanSt) : (s.modPlan g u).remote = s.remote := rfl
@[simp] theorem State.modPlan_copies (s : State) (g : Nat) (u : PlanSt → PlanSt) : (s.modPlan g u).copies = s.copies := rfl
@[simp] theorem State.modPlan_unseen (s : State) (g : Nat) (u : PlanSt → PlanSt) : (s.modPlan g u).unseen = s.unseen := rfl
@[simp] theorem State.modPlan_bridge (s : State) (g : Nat) (u : PlanSt → PlanSt) : (s.modPlan g u).bridge = s.bridge := rfl
@[simp] theorem State.modPlan_chans (s : State) (g : Nat) (u : PlanSt → PlanSt) : (s.modPlan g u).chans = s.chans := rfl
@[simp] theorem State.modPlan_nonces (s : State) (g : Nat) (u : PlanSt → PlanSt) : (s.modPlan g u).nonces = s.nonces := rfl
@[simp] theorem State.modPlan_quar (s : State) (g : Nat) (u : PlanSt → PlanSt) : (s.modPlan g u).quar = s.quar := rfl
@[simp] theorem State.modPlan_policy (s : State) (g : Nat) (u : PlanSt → PlanSt) : (s.modPlan g u).policy = s.policy := rfl
@[simp] theorem State.modPlan_journal (s : State) (g : Nat) (u : PlanSt → PlanSt) : (s.modPlan g u).journal = s.journal := rfl
@[simp] theorem State.modPlan_half0 (s : State) (g : Nat) (u : PlanSt → PlanSt) : (s.modPlan g u).half0 = s.half0 := rfl
@[simp] theorem State.modPlan_half1 (s : State) (g : Nat) (u : PlanSt → PlanSt) : (s.modPlan g u).half1 = s.half1 := rfl
@[simp] theorem State.modPlan_half (s : State) (g : Nat) (u : PlanSt → PlanSt) : (s.modPlan g u).half = s.half := rfl
@[simp] theorem State.modPlan_fw (s : State) (g : Nat) (u : PlanSt → PlanSt) : (s.modPlan g u).fw = s.fw := rfl
@[simp] theorem State.modPlan_mgt (s : State) (g : Nat) (u : PlanSt → PlanSt) : (s.modPlan g u).mgt = s.mgt := rfl
@[simp] theorem State.modPlan_jtag (s : State) (g : Nat) (u : PlanSt → PlanSt) : (s.modPlan g u).jtag = s.jtag := rfl
@[simp] theorem State.modPlan_pins (s : State) (g : Nat) (u : PlanSt → PlanSt) : (s.modPlan g u).pins = s.pins := rfl
@[simp] theorem State.modPlan_boot (s : State) (g : Nat) (u : PlanSt → PlanSt) : (s.modPlan g u).boot = s.boot := rfl
@[simp] theorem State.modPlan_chg (s : State) (g : Nat) (u : PlanSt → PlanSt) : (s.modPlan g u).chg = s.chg := rfl
@[simp] theorem State.modPlan_tile (s : State) (g : Nat) (u : PlanSt → PlanSt) : (s.modPlan g u).tile = s.tile := rfl
@[simp] theorem State.modPlan_mesh (s : State) (g : Nat) (u : PlanSt → PlanSt) : (s.modPlan g u).mesh = s.mesh := rfl
@[simp] theorem State.modPlan_meshFails (s : State) (g : Nat) (u : PlanSt → PlanSt) : (s.modPlan g u).meshFails = s.meshFails := rfl
@[simp] theorem State.modPlan_ready (s : State) (g : Nat) (u : PlanSt → PlanSt) : (s.modPlan g u).ready = s.ready := rfl
@[simp] theorem State.modPlan_link (s : State) (g : Nat) (u : PlanSt → PlanSt) : (s.modPlan g u).link = s.link := rfl
@[simp] theorem State.modPlan_vfEnable (s : State) (g : Nat) (u : PlanSt → PlanSt) : (s.modPlan g u).vfEnable = s.vfEnable := rfl
@[simp] theorem State.modPlan_vfMse (s : State) (g : Nat) (u : PlanSt → PlanSt) : (s.modPlan g u).vfMse = s.vfMse := rfl
@[simp] theorem State.modPlan_numVfs (s : State) (g : Nat) (u : PlanSt → PlanSt) : (s.modPlan g u).numVfs = s.numVfs := rfl
@[simp] theorem State.modPlan_ari (s : State) (g : Nat) (u : PlanSt → PlanSt) : (s.modPlan g u).ari = s.ari := rfl
@[simp] theorem State.modPlan_stamp (s : State) (g : Nat) (u : PlanSt → PlanSt) : (s.modPlan g u).stamp = s.stamp := rfl
@[simp] theorem State.modPlan_stage (s : State) (g : Nat) (u : PlanSt → PlanSt) : (s.modPlan g u).stage = s.stage := rfl
@[simp] theorem State.modPlan_lastCancel (s : State) (g : Nat) (u : PlanSt → PlanSt) : (s.modPlan g u).lastCancel = s.lastCancel := rfl
@[simp] theorem State.modPlan_stopping (s : State) (g : Nat) (u : PlanSt → PlanSt) : (s.modPlan g u).stopping = s.stopping := rfl
@[simp] theorem State.modPlan_xogate (s : State) (g : Nat) (u : PlanSt → PlanSt) : (s.modPlan g u).xogate = s.xogate := rfl
@[simp] theorem State.modPlan_evHeld (s : State) (g : Nat) (u : PlanSt → PlanSt) : (s.modPlan g u).evHeld = s.evHeld := rfl
@[simp] theorem State.modPlan_accepts (s : State) (g : Nat) (u : PlanSt → PlanSt) : (s.modPlan g u).accepts = s.accepts := rfl
@[simp] theorem State.modPlan_free (s : State) (g : Nat) (u : PlanSt → PlanSt) : (s.modPlan g u).free = s.free := rfl
@[simp] theorem State.modPlan_tlpHeld (s : State) (g : Nat) (u : PlanSt → PlanSt) : (s.modPlan g u).tlpHeld = s.tlpHeld := rfl
@[simp] theorem State.modPlan_wire (s : State) (g : Nat) (u : PlanSt → PlanSt) : (s.modPlan g u).wire = s.wire := rfl
@[simp] theorem State.modPlan_fn_of (s : State) (g : Nat) (u : PlanSt → PlanSt) (i : Nat) : (s.modPlan g u).fn i = s.fn i := rfl
@[simp] theorem State.modPlan_port_of (s : State) (g : Nat) (u : PlanSt → PlanSt) (i : Nat) : (s.modPlan g u).port i = s.port i := rfl
@[simp] theorem State.modPlan_node_of (s : State) (g : Nat) (u : PlanSt → PlanSt) (i j : Nat) : (s.modPlan g u).node i j = s.node i j := rfl
@[simp] theorem State.modPlan_tl_of (s : State) (g : Nat) (u : PlanSt → PlanSt) (i : Nat) : (s.modPlan g u).tl i = s.tl i := rfl
@[simp] theorem State.modPlan_list_of (s : State) (g : Nat) (u : PlanSt → PlanSt) (i j : Nat) : (s.modPlan g u).list i j = s.list i j := rfl
@[simp] theorem State.modPlan_chan_of (s : State) (g : Nat) (u : PlanSt → PlanSt) (i : Nat) : (s.modPlan g u).chan i = s.chan i := rfl
@[simp] theorem State.modPlan_point_of (s : State) (g : Nat) (u : PlanSt → PlanSt) (i : Nat) : (s.modPlan g u).point i = s.point i := rfl
@[simp] theorem State.modPlan_record_of (s : State) (g : Nat) (u : PlanSt → PlanSt) (i : Nat) : (s.modPlan g u).record i = s.record i := rfl
@[simp] theorem State.modPlan_reg_of (s : State) (g : Nat) (u : PlanSt → PlanSt) (e y i o : Nat) : (s.modPlan g u).reg e y i o = s.reg e y i o := rfl
@[simp] theorem State.modPlan_hasTile_of (s : State) (g : Nat) (u : PlanSt → PlanSt) (i : Nat) : (s.modPlan g u).hasTile i = s.hasTile i := rfl
@[simp] theorem State.modPlan_hasPort_of (s : State) (g : Nat) (u : PlanSt → PlanSt) (i : Nat) : (s.modPlan g u).hasPort i = s.hasPort i := rfl

/-! ### modList -/

@[simp] theorem State.modList_pending (s : State) (f g : Nat) (u : SList → SList) : (s.modList f g u).pending = s.pending := rfl
@[simp] theorem State.modList_tiles (s : State) (f g : Nat) (u : SList → SList) : (s.modList f g u).tiles = s.tiles := rfl
@[simp] theorem State.modList_time (s : State) (f g : Nat) (u : SList → SList) : (s.modList f g u).time = s.time := rfl
@[simp] theorem State.modList_regs (s : State) (f g : Nat) (u : SList → SList) : (s.modList f g u).regs = s.regs := rfl
@[simp] theorem State.modList_stored (s : State) (f g : Nat) (u : SList → SList) : (s.modList f g u).stored = s.stored := rfl
@[simp] theorem State.modList_fns (s : State) (f g : Nat) (u : SList → SList) : (s.modList f g u).fns = s.fns := rfl
@[simp] theorem State.modList_ports (s : State) (f g : Nat) (u : SList → SList) : (s.modList f g u).ports = s.ports := rfl
@[simp] theorem State.modList_nodes (s : State) (f g : Nat) (u : SList → SList) : (s.modList f g u).nodes = s.nodes := rfl
@[simp] theorem State.modList_plans (s : State) (f g : Nat) (u : SList → SList) : (s.modList f g u).plans = s.plans := rfl
@[simp] theorem State.modList_lists (s : State) (f g : Nat) (u : SList → SList) : (s.modList f g u).lists = nmod {} s.lists (listKey f g) u := rfl
@[simp] theorem State.modList_pim (s : State) (f g : Nat) (u : SList → SList) : (s.modList f g u).pim = s.pim := rfl
@[simp] theorem State.modList_owners (s : State) (f g : Nat) (u : SList → SList) : (s.modList f g u).owners = s.owners := rfl
@[simp] theorem State.modList_points (s : State) (f g : Nat) (u : SList → SList) : (s.modList f g u).points = s.points := rfl
@[simp] theorem State.modList_grants (s : State) (f g : Nat) (u : SList → SList) : (s.modList f g u).grants = s.grants := rfl
@[simp] theorem State.modList_rules (s : State) (f g : Nat) (u : SList → SList) : (s.modList f g u).rules = s.rules := rfl
@[simp] theorem State.modList_remote (s : State) (f g : Nat) (u : SList → SList) : (s.modList f g u).remote = s.remote := rfl
@[simp] theorem State.modList_copies (s : State) (f g : Nat) (u : SList → SList) : (s.modList f g u).copies = s.copies := rfl
@[simp] theorem State.modList_unseen (s : State) (f g : Nat) (u : SList → SList) : (s.modList f g u).unseen = s.unseen := rfl
@[simp] theorem State.modList_bridge (s : State) (f g : Nat) (u : SList → SList) : (s.modList f g u).bridge = s.bridge := rfl
@[simp] theorem State.modList_chans (s : State) (f g : Nat) (u : SList → SList) : (s.modList f g u).chans = s.chans := rfl
@[simp] theorem State.modList_nonces (s : State) (f g : Nat) (u : SList → SList) : (s.modList f g u).nonces = s.nonces := rfl
@[simp] theorem State.modList_quar (s : State) (f g : Nat) (u : SList → SList) : (s.modList f g u).quar = s.quar := rfl
@[simp] theorem State.modList_policy (s : State) (f g : Nat) (u : SList → SList) : (s.modList f g u).policy = s.policy := rfl
@[simp] theorem State.modList_journal (s : State) (f g : Nat) (u : SList → SList) : (s.modList f g u).journal = s.journal := rfl
@[simp] theorem State.modList_half0 (s : State) (f g : Nat) (u : SList → SList) : (s.modList f g u).half0 = s.half0 := rfl
@[simp] theorem State.modList_half1 (s : State) (f g : Nat) (u : SList → SList) : (s.modList f g u).half1 = s.half1 := rfl
@[simp] theorem State.modList_half (s : State) (f g : Nat) (u : SList → SList) : (s.modList f g u).half = s.half := rfl
@[simp] theorem State.modList_fw (s : State) (f g : Nat) (u : SList → SList) : (s.modList f g u).fw = s.fw := rfl
@[simp] theorem State.modList_mgt (s : State) (f g : Nat) (u : SList → SList) : (s.modList f g u).mgt = s.mgt := rfl
@[simp] theorem State.modList_jtag (s : State) (f g : Nat) (u : SList → SList) : (s.modList f g u).jtag = s.jtag := rfl
@[simp] theorem State.modList_pins (s : State) (f g : Nat) (u : SList → SList) : (s.modList f g u).pins = s.pins := rfl
@[simp] theorem State.modList_boot (s : State) (f g : Nat) (u : SList → SList) : (s.modList f g u).boot = s.boot := rfl
@[simp] theorem State.modList_chg (s : State) (f g : Nat) (u : SList → SList) : (s.modList f g u).chg = s.chg := rfl
@[simp] theorem State.modList_tile (s : State) (f g : Nat) (u : SList → SList) : (s.modList f g u).tile = s.tile := rfl
@[simp] theorem State.modList_mesh (s : State) (f g : Nat) (u : SList → SList) : (s.modList f g u).mesh = s.mesh := rfl
@[simp] theorem State.modList_meshFails (s : State) (f g : Nat) (u : SList → SList) : (s.modList f g u).meshFails = s.meshFails := rfl
@[simp] theorem State.modList_ready (s : State) (f g : Nat) (u : SList → SList) : (s.modList f g u).ready = s.ready := rfl
@[simp] theorem State.modList_link (s : State) (f g : Nat) (u : SList → SList) : (s.modList f g u).link = s.link := rfl
@[simp] theorem State.modList_vfEnable (s : State) (f g : Nat) (u : SList → SList) : (s.modList f g u).vfEnable = s.vfEnable := rfl
@[simp] theorem State.modList_vfMse (s : State) (f g : Nat) (u : SList → SList) : (s.modList f g u).vfMse = s.vfMse := rfl
@[simp] theorem State.modList_numVfs (s : State) (f g : Nat) (u : SList → SList) : (s.modList f g u).numVfs = s.numVfs := rfl
@[simp] theorem State.modList_ari (s : State) (f g : Nat) (u : SList → SList) : (s.modList f g u).ari = s.ari := rfl
@[simp] theorem State.modList_stamp (s : State) (f g : Nat) (u : SList → SList) : (s.modList f g u).stamp = s.stamp := rfl
@[simp] theorem State.modList_stage (s : State) (f g : Nat) (u : SList → SList) : (s.modList f g u).stage = s.stage := rfl
@[simp] theorem State.modList_lastCancel (s : State) (f g : Nat) (u : SList → SList) : (s.modList f g u).lastCancel = s.lastCancel := rfl
@[simp] theorem State.modList_stopping (s : State) (f g : Nat) (u : SList → SList) : (s.modList f g u).stopping = s.stopping := rfl
@[simp] theorem State.modList_xogate (s : State) (f g : Nat) (u : SList → SList) : (s.modList f g u).xogate = s.xogate := rfl
@[simp] theorem State.modList_evHeld (s : State) (f g : Nat) (u : SList → SList) : (s.modList f g u).evHeld = s.evHeld := rfl
@[simp] theorem State.modList_accepts (s : State) (f g : Nat) (u : SList → SList) : (s.modList f g u).accepts = s.accepts := rfl
@[simp] theorem State.modList_free (s : State) (f g : Nat) (u : SList → SList) : (s.modList f g u).free = s.free := rfl
@[simp] theorem State.modList_tlpHeld (s : State) (f g : Nat) (u : SList → SList) : (s.modList f g u).tlpHeld = s.tlpHeld := rfl
@[simp] theorem State.modList_wire (s : State) (f g : Nat) (u : SList → SList) : (s.modList f g u).wire = s.wire := rfl
@[simp] theorem State.modList_fn_of (s : State) (f g : Nat) (u : SList → SList) (i : Nat) : (s.modList f g u).fn i = s.fn i := rfl
@[simp] theorem State.modList_port_of (s : State) (f g : Nat) (u : SList → SList) (i : Nat) : (s.modList f g u).port i = s.port i := rfl
@[simp] theorem State.modList_node_of (s : State) (f g : Nat) (u : SList → SList) (i j : Nat) : (s.modList f g u).node i j = s.node i j := rfl
@[simp] theorem State.modList_tl_of (s : State) (f g : Nat) (u : SList → SList) (i : Nat) : (s.modList f g u).tl i = s.tl i := rfl
@[simp] theorem State.modList_plan_of (s : State) (f g : Nat) (u : SList → SList) (i : Nat) : (s.modList f g u).plan i = s.plan i := rfl
@[simp] theorem State.modList_chan_of (s : State) (f g : Nat) (u : SList → SList) (i : Nat) : (s.modList f g u).chan i = s.chan i := rfl
@[simp] theorem State.modList_point_of (s : State) (f g : Nat) (u : SList → SList) (i : Nat) : (s.modList f g u).point i = s.point i := rfl
@[simp] theorem State.modList_record_of (s : State) (f g : Nat) (u : SList → SList) (i : Nat) : (s.modList f g u).record i = s.record i := rfl
@[simp] theorem State.modList_reg_of (s : State) (f g : Nat) (u : SList → SList) (e y i o : Nat) : (s.modList f g u).reg e y i o = s.reg e y i o := rfl
@[simp] theorem State.modList_hasTile_of (s : State) (f g : Nat) (u : SList → SList) (i : Nat) : (s.modList f g u).hasTile i = s.hasTile i := rfl
@[simp] theorem State.modList_hasPort_of (s : State) (f g : Nat) (u : SList → SList) (i : Nat) : (s.modList f g u).hasPort i = s.hasPort i := rfl

/-! ### modChan -/

@[simp] theorem State.modChan_pending (s : State) (k : Nat) (u : Chan → Chan) : (s.modChan k u).pending = s.pending := rfl
@[simp] theorem State.modChan_tiles (s : State) (k : Nat) (u : Chan → Chan) : (s.modChan k u).tiles = s.tiles := rfl
@[simp] theorem State.modChan_time (s : State) (k : Nat) (u : Chan → Chan) : (s.modChan k u).time = s.time := rfl
@[simp] theorem State.modChan_regs (s : State) (k : Nat) (u : Chan → Chan) : (s.modChan k u).regs = s.regs := rfl
@[simp] theorem State.modChan_stored (s : State) (k : Nat) (u : Chan → Chan) : (s.modChan k u).stored = s.stored := rfl
@[simp] theorem State.modChan_fns (s : State) (k : Nat) (u : Chan → Chan) : (s.modChan k u).fns = s.fns := rfl
@[simp] theorem State.modChan_ports (s : State) (k : Nat) (u : Chan → Chan) : (s.modChan k u).ports = s.ports := rfl
@[simp] theorem State.modChan_nodes (s : State) (k : Nat) (u : Chan → Chan) : (s.modChan k u).nodes = s.nodes := rfl
@[simp] theorem State.modChan_plans (s : State) (k : Nat) (u : Chan → Chan) : (s.modChan k u).plans = s.plans := rfl
@[simp] theorem State.modChan_lists (s : State) (k : Nat) (u : Chan → Chan) : (s.modChan k u).lists = s.lists := rfl
@[simp] theorem State.modChan_pim (s : State) (k : Nat) (u : Chan → Chan) : (s.modChan k u).pim = s.pim := rfl
@[simp] theorem State.modChan_owners (s : State) (k : Nat) (u : Chan → Chan) : (s.modChan k u).owners = s.owners := rfl
@[simp] theorem State.modChan_points (s : State) (k : Nat) (u : Chan → Chan) : (s.modChan k u).points = s.points := rfl
@[simp] theorem State.modChan_grants (s : State) (k : Nat) (u : Chan → Chan) : (s.modChan k u).grants = s.grants := rfl
@[simp] theorem State.modChan_rules (s : State) (k : Nat) (u : Chan → Chan) : (s.modChan k u).rules = s.rules := rfl
@[simp] theorem State.modChan_remote (s : State) (k : Nat) (u : Chan → Chan) : (s.modChan k u).remote = s.remote := rfl
@[simp] theorem State.modChan_copies (s : State) (k : Nat) (u : Chan → Chan) : (s.modChan k u).copies = s.copies := rfl
@[simp] theorem State.modChan_unseen (s : State) (k : Nat) (u : Chan → Chan) : (s.modChan k u).unseen = s.unseen := rfl
@[simp] theorem State.modChan_bridge (s : State) (k : Nat) (u : Chan → Chan) : (s.modChan k u).bridge = s.bridge := rfl
@[simp] theorem State.modChan_chans (s : State) (k : Nat) (u : Chan → Chan) : (s.modChan k u).chans = nmod {} s.chans k u := rfl
@[simp] theorem State.modChan_nonces (s : State) (k : Nat) (u : Chan → Chan) : (s.modChan k u).nonces = s.nonces := rfl
@[simp] theorem State.modChan_quar (s : State) (k : Nat) (u : Chan → Chan) : (s.modChan k u).quar = s.quar := rfl
@[simp] theorem State.modChan_policy (s : State) (k : Nat) (u : Chan → Chan) : (s.modChan k u).policy = s.policy := rfl
@[simp] theorem State.modChan_journal (s : State) (k : Nat) (u : Chan → Chan) : (s.modChan k u).journal = s.journal := rfl
@[simp] theorem State.modChan_half0 (s : State) (k : Nat) (u : Chan → Chan) : (s.modChan k u).half0 = s.half0 := rfl
@[simp] theorem State.modChan_half1 (s : State) (k : Nat) (u : Chan → Chan) : (s.modChan k u).half1 = s.half1 := rfl
@[simp] theorem State.modChan_half (s : State) (k : Nat) (u : Chan → Chan) : (s.modChan k u).half = s.half := rfl
@[simp] theorem State.modChan_fw (s : State) (k : Nat) (u : Chan → Chan) : (s.modChan k u).fw = s.fw := rfl
@[simp] theorem State.modChan_mgt (s : State) (k : Nat) (u : Chan → Chan) : (s.modChan k u).mgt = s.mgt := rfl
@[simp] theorem State.modChan_jtag (s : State) (k : Nat) (u : Chan → Chan) : (s.modChan k u).jtag = s.jtag := rfl
@[simp] theorem State.modChan_pins (s : State) (k : Nat) (u : Chan → Chan) : (s.modChan k u).pins = s.pins := rfl
@[simp] theorem State.modChan_boot (s : State) (k : Nat) (u : Chan → Chan) : (s.modChan k u).boot = s.boot := rfl
@[simp] theorem State.modChan_chg (s : State) (k : Nat) (u : Chan → Chan) : (s.modChan k u).chg = s.chg := rfl
@[simp] theorem State.modChan_tile (s : State) (k : Nat) (u : Chan → Chan) : (s.modChan k u).tile = s.tile := rfl
@[simp] theorem State.modChan_mesh (s : State) (k : Nat) (u : Chan → Chan) : (s.modChan k u).mesh = s.mesh := rfl
@[simp] theorem State.modChan_meshFails (s : State) (k : Nat) (u : Chan → Chan) : (s.modChan k u).meshFails = s.meshFails := rfl
@[simp] theorem State.modChan_ready (s : State) (k : Nat) (u : Chan → Chan) : (s.modChan k u).ready = s.ready := rfl
@[simp] theorem State.modChan_link (s : State) (k : Nat) (u : Chan → Chan) : (s.modChan k u).link = s.link := rfl
@[simp] theorem State.modChan_vfEnable (s : State) (k : Nat) (u : Chan → Chan) : (s.modChan k u).vfEnable = s.vfEnable := rfl
@[simp] theorem State.modChan_vfMse (s : State) (k : Nat) (u : Chan → Chan) : (s.modChan k u).vfMse = s.vfMse := rfl
@[simp] theorem State.modChan_numVfs (s : State) (k : Nat) (u : Chan → Chan) : (s.modChan k u).numVfs = s.numVfs := rfl
@[simp] theorem State.modChan_ari (s : State) (k : Nat) (u : Chan → Chan) : (s.modChan k u).ari = s.ari := rfl
@[simp] theorem State.modChan_stamp (s : State) (k : Nat) (u : Chan → Chan) : (s.modChan k u).stamp = s.stamp := rfl
@[simp] theorem State.modChan_stage (s : State) (k : Nat) (u : Chan → Chan) : (s.modChan k u).stage = s.stage := rfl
@[simp] theorem State.modChan_lastCancel (s : State) (k : Nat) (u : Chan → Chan) : (s.modChan k u).lastCancel = s.lastCancel := rfl
@[simp] theorem State.modChan_stopping (s : State) (k : Nat) (u : Chan → Chan) : (s.modChan k u).stopping = s.stopping := rfl
@[simp] theorem State.modChan_xogate (s : State) (k : Nat) (u : Chan → Chan) : (s.modChan k u).xogate = s.xogate := rfl
@[simp] theorem State.modChan_evHeld (s : State) (k : Nat) (u : Chan → Chan) : (s.modChan k u).evHeld = s.evHeld := rfl
@[simp] theorem State.modChan_accepts (s : State) (k : Nat) (u : Chan → Chan) : (s.modChan k u).accepts = s.accepts := rfl
@[simp] theorem State.modChan_free (s : State) (k : Nat) (u : Chan → Chan) : (s.modChan k u).free = s.free := rfl
@[simp] theorem State.modChan_tlpHeld (s : State) (k : Nat) (u : Chan → Chan) : (s.modChan k u).tlpHeld = s.tlpHeld := rfl
@[simp] theorem State.modChan_wire (s : State) (k : Nat) (u : Chan → Chan) : (s.modChan k u).wire = s.wire := rfl
@[simp] theorem State.modChan_fn_of (s : State) (k : Nat) (u : Chan → Chan) (i : Nat) : (s.modChan k u).fn i = s.fn i := rfl
@[simp] theorem State.modChan_port_of (s : State) (k : Nat) (u : Chan → Chan) (i : Nat) : (s.modChan k u).port i = s.port i := rfl
@[simp] theorem State.modChan_node_of (s : State) (k : Nat) (u : Chan → Chan) (i j : Nat) : (s.modChan k u).node i j = s.node i j := rfl
@[simp] theorem State.modChan_tl_of (s : State) (k : Nat) (u : Chan → Chan) (i : Nat) : (s.modChan k u).tl i = s.tl i := rfl
@[simp] theorem State.modChan_plan_of (s : State) (k : Nat) (u : Chan → Chan) (i : Nat) : (s.modChan k u).plan i = s.plan i := rfl
@[simp] theorem State.modChan_list_of (s : State) (k : Nat) (u : Chan → Chan) (i j : Nat) : (s.modChan k u).list i j = s.list i j := rfl
@[simp] theorem State.modChan_point_of (s : State) (k : Nat) (u : Chan → Chan) (i : Nat) : (s.modChan k u).point i = s.point i := rfl
@[simp] theorem State.modChan_record_of (s : State) (k : Nat) (u : Chan → Chan) (i : Nat) : (s.modChan k u).record i = s.record i := rfl
@[simp] theorem State.modChan_reg_of (s : State) (k : Nat) (u : Chan → Chan) (e y i o : Nat) : (s.modChan k u).reg e y i o = s.reg e y i o := rfl
@[simp] theorem State.modChan_hasTile_of (s : State) (k : Nat) (u : Chan → Chan) (i : Nat) : (s.modChan k u).hasTile i = s.hasTile i := rfl
@[simp] theorem State.modChan_hasPort_of (s : State) (k : Nat) (u : Chan → Chan) (i : Nat) : (s.modChan k u).hasPort i = s.hasPort i := rfl

/-! ### modPoint -/

@[simp] theorem State.modPoint_pending (s : State) (p : Nat) (u : Point → Point) : (s.modPoint p u).pending = s.pending := rfl
@[simp] theorem State.modPoint_tiles (s : State) (p : Nat) (u : Point → Point) : (s.modPoint p u).tiles = s.tiles := rfl
@[simp] theorem State.modPoint_time (s : State) (p : Nat) (u : Point → Point) : (s.modPoint p u).time = s.time := rfl
@[simp] theorem State.modPoint_regs (s : State) (p : Nat) (u : Point → Point) : (s.modPoint p u).regs = s.regs := rfl
@[simp] theorem State.modPoint_stored (s : State) (p : Nat) (u : Point → Point) : (s.modPoint p u).stored = s.stored := rfl
@[simp] theorem State.modPoint_fns (s : State) (p : Nat) (u : Point → Point) : (s.modPoint p u).fns = s.fns := rfl
@[simp] theorem State.modPoint_ports (s : State) (p : Nat) (u : Point → Point) : (s.modPoint p u).ports = s.ports := rfl
@[simp] theorem State.modPoint_nodes (s : State) (p : Nat) (u : Point → Point) : (s.modPoint p u).nodes = s.nodes := rfl
@[simp] theorem State.modPoint_plans (s : State) (p : Nat) (u : Point → Point) : (s.modPoint p u).plans = s.plans := rfl
@[simp] theorem State.modPoint_lists (s : State) (p : Nat) (u : Point → Point) : (s.modPoint p u).lists = s.lists := rfl
@[simp] theorem State.modPoint_pim (s : State) (p : Nat) (u : Point → Point) : (s.modPoint p u).pim = s.pim := rfl
@[simp] theorem State.modPoint_owners (s : State) (p : Nat) (u : Point → Point) : (s.modPoint p u).owners = s.owners := rfl
@[simp] theorem State.modPoint_points (s : State) (p : Nat) (u : Point → Point) : (s.modPoint p u).points = nmod {} s.points p u := rfl
@[simp] theorem State.modPoint_grants (s : State) (p : Nat) (u : Point → Point) : (s.modPoint p u).grants = s.grants := rfl
@[simp] theorem State.modPoint_rules (s : State) (p : Nat) (u : Point → Point) : (s.modPoint p u).rules = s.rules := rfl
@[simp] theorem State.modPoint_remote (s : State) (p : Nat) (u : Point → Point) : (s.modPoint p u).remote = s.remote := rfl
@[simp] theorem State.modPoint_copies (s : State) (p : Nat) (u : Point → Point) : (s.modPoint p u).copies = s.copies := rfl
@[simp] theorem State.modPoint_unseen (s : State) (p : Nat) (u : Point → Point) : (s.modPoint p u).unseen = s.unseen := rfl
@[simp] theorem State.modPoint_bridge (s : State) (p : Nat) (u : Point → Point) : (s.modPoint p u).bridge = s.bridge := rfl
@[simp] theorem State.modPoint_chans (s : State) (p : Nat) (u : Point → Point) : (s.modPoint p u).chans = s.chans := rfl
@[simp] theorem State.modPoint_nonces (s : State) (p : Nat) (u : Point → Point) : (s.modPoint p u).nonces = s.nonces := rfl
@[simp] theorem State.modPoint_quar (s : State) (p : Nat) (u : Point → Point) : (s.modPoint p u).quar = s.quar := rfl
@[simp] theorem State.modPoint_policy (s : State) (p : Nat) (u : Point → Point) : (s.modPoint p u).policy = s.policy := rfl
@[simp] theorem State.modPoint_journal (s : State) (p : Nat) (u : Point → Point) : (s.modPoint p u).journal = s.journal := rfl
@[simp] theorem State.modPoint_half0 (s : State) (p : Nat) (u : Point → Point) : (s.modPoint p u).half0 = s.half0 := rfl
@[simp] theorem State.modPoint_half1 (s : State) (p : Nat) (u : Point → Point) : (s.modPoint p u).half1 = s.half1 := rfl
@[simp] theorem State.modPoint_half (s : State) (p : Nat) (u : Point → Point) : (s.modPoint p u).half = s.half := rfl
@[simp] theorem State.modPoint_fw (s : State) (p : Nat) (u : Point → Point) : (s.modPoint p u).fw = s.fw := rfl
@[simp] theorem State.modPoint_mgt (s : State) (p : Nat) (u : Point → Point) : (s.modPoint p u).mgt = s.mgt := rfl
@[simp] theorem State.modPoint_jtag (s : State) (p : Nat) (u : Point → Point) : (s.modPoint p u).jtag = s.jtag := rfl
@[simp] theorem State.modPoint_pins (s : State) (p : Nat) (u : Point → Point) : (s.modPoint p u).pins = s.pins := rfl
@[simp] theorem State.modPoint_boot (s : State) (p : Nat) (u : Point → Point) : (s.modPoint p u).boot = s.boot := rfl
@[simp] theorem State.modPoint_chg (s : State) (p : Nat) (u : Point → Point) : (s.modPoint p u).chg = s.chg := rfl
@[simp] theorem State.modPoint_tile (s : State) (p : Nat) (u : Point → Point) : (s.modPoint p u).tile = s.tile := rfl
@[simp] theorem State.modPoint_mesh (s : State) (p : Nat) (u : Point → Point) : (s.modPoint p u).mesh = s.mesh := rfl
@[simp] theorem State.modPoint_meshFails (s : State) (p : Nat) (u : Point → Point) : (s.modPoint p u).meshFails = s.meshFails := rfl
@[simp] theorem State.modPoint_ready (s : State) (p : Nat) (u : Point → Point) : (s.modPoint p u).ready = s.ready := rfl
@[simp] theorem State.modPoint_link (s : State) (p : Nat) (u : Point → Point) : (s.modPoint p u).link = s.link := rfl
@[simp] theorem State.modPoint_vfEnable (s : State) (p : Nat) (u : Point → Point) : (s.modPoint p u).vfEnable = s.vfEnable := rfl
@[simp] theorem State.modPoint_vfMse (s : State) (p : Nat) (u : Point → Point) : (s.modPoint p u).vfMse = s.vfMse := rfl
@[simp] theorem State.modPoint_numVfs (s : State) (p : Nat) (u : Point → Point) : (s.modPoint p u).numVfs = s.numVfs := rfl
@[simp] theorem State.modPoint_ari (s : State) (p : Nat) (u : Point → Point) : (s.modPoint p u).ari = s.ari := rfl
@[simp] theorem State.modPoint_stamp (s : State) (p : Nat) (u : Point → Point) : (s.modPoint p u).stamp = s.stamp := rfl
@[simp] theorem State.modPoint_stage (s : State) (p : Nat) (u : Point → Point) : (s.modPoint p u).stage = s.stage := rfl
@[simp] theorem State.modPoint_lastCancel (s : State) (p : Nat) (u : Point → Point) : (s.modPoint p u).lastCancel = s.lastCancel := rfl
@[simp] theorem State.modPoint_stopping (s : State) (p : Nat) (u : Point → Point) : (s.modPoint p u).stopping = s.stopping := rfl
@[simp] theorem State.modPoint_xogate (s : State) (p : Nat) (u : Point → Point) : (s.modPoint p u).xogate = s.xogate := rfl
@[simp] theorem State.modPoint_evHeld (s : State) (p : Nat) (u : Point → Point) : (s.modPoint p u).evHeld = s.evHeld := rfl
@[simp] theorem State.modPoint_accepts (s : State) (p : Nat) (u : Point → Point) : (s.modPoint p u).accepts = s.accepts := rfl
@[simp] theorem State.modPoint_free (s : State) (p : Nat) (u : Point → Point) : (s.modPoint p u).free = s.free := rfl
@[simp] theorem State.modPoint_tlpHeld (s : State) (p : Nat) (u : Point → Point) : (s.modPoint p u).tlpHeld = s.tlpHeld := rfl
@[simp] theorem State.modPoint_wire (s : State) (p : Nat) (u : Point → Point) : (s.modPoint p u).wire = s.wire := rfl
@[simp] theorem State.modPoint_fn_of (s : State) (p : Nat) (u : Point → Point) (i : Nat) : (s.modPoint p u).fn i = s.fn i := rfl
@[simp] theorem State.modPoint_port_of (s : State) (p : Nat) (u : Point → Point) (i : Nat) : (s.modPoint p u).port i = s.port i := rfl
@[simp] theorem State.modPoint_node_of (s : State) (p : Nat) (u : Point → Point) (i j : Nat) : (s.modPoint p u).node i j = s.node i j := rfl
@[simp] theorem State.modPoint_tl_of (s : State) (p : Nat) (u : Point → Point) (i : Nat) : (s.modPoint p u).tl i = s.tl i := rfl
@[simp] theorem State.modPoint_plan_of (s : State) (p : Nat) (u : Point → Point) (i : Nat) : (s.modPoint p u).plan i = s.plan i := rfl
@[simp] theorem State.modPoint_list_of (s : State) (p : Nat) (u : Point → Point) (i j : Nat) : (s.modPoint p u).list i j = s.list i j := rfl
@[simp] theorem State.modPoint_chan_of (s : State) (p : Nat) (u : Point → Point) (i : Nat) : (s.modPoint p u).chan i = s.chan i := rfl
@[simp] theorem State.modPoint_record_of (s : State) (p : Nat) (u : Point → Point) (i : Nat) : (s.modPoint p u).record i = s.record i := rfl
@[simp] theorem State.modPoint_reg_of (s : State) (p : Nat) (u : Point → Point) (e y i o : Nat) : (s.modPoint p u).reg e y i o = s.reg e y i o := rfl
@[simp] theorem State.modPoint_hasTile_of (s : State) (p : Nat) (u : Point → Point) (i : Nat) : (s.modPoint p u).hasTile i = s.hasTile i := rfl
@[simp] theorem State.modPoint_hasPort_of (s : State) (p : Nat) (u : Point → Point) (i : Nat) : (s.modPoint p u).hasPort i = s.hasPort i := rfl

/-! ### setRecord -/

@[simp] theorem State.setRecord_pending (s : State) (p w : Nat) : (s.setRecord p w).pending = s.pending := rfl
@[simp] theorem State.setRecord_tiles (s : State) (p w : Nat) : (s.setRecord p w).tiles = s.tiles := rfl
@[simp] theorem State.setRecord_time (s : State) (p w : Nat) : (s.setRecord p w).time = s.time := rfl
@[simp] theorem State.setRecord_regs (s : State) (p w : Nat) : (s.setRecord p w).regs = s.regs := rfl
@[simp] theorem State.setRecord_stored (s : State) (p w : Nat) : (s.setRecord p w).stored = s.stored := rfl
@[simp] theorem State.setRecord_fns (s : State) (p w : Nat) : (s.setRecord p w).fns = s.fns := rfl
@[simp] theorem State.setRecord_ports (s : State) (p w : Nat) : (s.setRecord p w).ports = s.ports := rfl
@[simp] theorem State.setRecord_nodes (s : State) (p w : Nat) : (s.setRecord p w).nodes = s.nodes := rfl
@[simp] theorem State.setRecord_plans (s : State) (p w : Nat) : (s.setRecord p w).plans = s.plans := rfl
@[simp] theorem State.setRecord_lists (s : State) (p w : Nat) : (s.setRecord p w).lists = s.lists := rfl
@[simp] theorem State.setRecord_pim (s : State) (p w : Nat) : (s.setRecord p w).pim = memWrite s.pim (8 * p) w 8 := rfl
@[simp] theorem State.setRecord_owners (s : State) (p w : Nat) : (s.setRecord p w).owners = s.owners := rfl
@[simp] theorem State.setRecord_points (s : State) (p w : Nat) : (s.setRecord p w).points = s.points := rfl
@[simp] theorem State.setRecord_grants (s : State) (p w : Nat) : (s.setRecord p w).grants = s.grants := rfl
@[simp] theorem State.setRecord_rules (s : State) (p w : Nat) : (s.setRecord p w).rules = s.rules := rfl
@[simp] theorem State.setRecord_remote (s : State) (p w : Nat) : (s.setRecord p w).remote = s.remote := rfl
@[simp] theorem State.setRecord_copies (s : State) (p w : Nat) : (s.setRecord p w).copies = s.copies := rfl
@[simp] theorem State.setRecord_unseen (s : State) (p w : Nat) : (s.setRecord p w).unseen = s.unseen := rfl
@[simp] theorem State.setRecord_bridge (s : State) (p w : Nat) : (s.setRecord p w).bridge = s.bridge := rfl
@[simp] theorem State.setRecord_chans (s : State) (p w : Nat) : (s.setRecord p w).chans = s.chans := rfl
@[simp] theorem State.setRecord_nonces (s : State) (p w : Nat) : (s.setRecord p w).nonces = s.nonces := rfl
@[simp] theorem State.setRecord_quar (s : State) (p w : Nat) : (s.setRecord p w).quar = s.quar := rfl
@[simp] theorem State.setRecord_policy (s : State) (p w : Nat) : (s.setRecord p w).policy = s.policy := rfl
@[simp] theorem State.setRecord_journal (s : State) (p w : Nat) : (s.setRecord p w).journal = s.journal := rfl
@[simp] theorem State.setRecord_half0 (s : State) (p w : Nat) : (s.setRecord p w).half0 = s.half0 := rfl
@[simp] theorem State.setRecord_half1 (s : State) (p w : Nat) : (s.setRecord p w).half1 = s.half1 := rfl
@[simp] theorem State.setRecord_half (s : State) (p w : Nat) : (s.setRecord p w).half = s.half := rfl
@[simp] theorem State.setRecord_fw (s : State) (p w : Nat) : (s.setRecord p w).fw = s.fw := rfl
@[simp] theorem State.setRecord_mgt (s : State) (p w : Nat) : (s.setRecord p w).mgt = s.mgt := rfl
@[simp] theorem State.setRecord_jtag (s : State) (p w : Nat) : (s.setRecord p w).jtag = s.jtag := rfl
@[simp] theorem State.setRecord_pins (s : State) (p w : Nat) : (s.setRecord p w).pins = s.pins := rfl
@[simp] theorem State.setRecord_boot (s : State) (p w : Nat) : (s.setRecord p w).boot = s.boot := rfl
@[simp] theorem State.setRecord_chg (s : State) (p w : Nat) : (s.setRecord p w).chg = s.chg := rfl
@[simp] theorem State.setRecord_tile (s : State) (p w : Nat) : (s.setRecord p w).tile = s.tile := rfl
@[simp] theorem State.setRecord_mesh (s : State) (p w : Nat) : (s.setRecord p w).mesh = s.mesh := rfl
@[simp] theorem State.setRecord_meshFails (s : State) (p w : Nat) : (s.setRecord p w).meshFails = s.meshFails := rfl
@[simp] theorem State.setRecord_ready (s : State) (p w : Nat) : (s.setRecord p w).ready = s.ready := rfl
@[simp] theorem State.setRecord_link (s : State) (p w : Nat) : (s.setRecord p w).link = s.link := rfl
@[simp] theorem State.setRecord_vfEnable (s : State) (p w : Nat) : (s.setRecord p w).vfEnable = s.vfEnable := rfl
@[simp] theorem State.setRecord_vfMse (s : State) (p w : Nat) : (s.setRecord p w).vfMse = s.vfMse := rfl
@[simp] theorem State.setRecord_numVfs (s : State) (p w : Nat) : (s.setRecord p w).numVfs = s.numVfs := rfl
@[simp] theorem State.setRecord_ari (s : State) (p w : Nat) : (s.setRecord p w).ari = s.ari := rfl
@[simp] theorem State.setRecord_stamp (s : State) (p w : Nat) : (s.setRecord p w).stamp = s.stamp := rfl
@[simp] theorem State.setRecord_stage (s : State) (p w : Nat) : (s.setRecord p w).stage = s.stage := rfl
@[simp] theorem State.setRecord_lastCancel (s : State) (p w : Nat) : (s.setRecord p w).lastCancel = s.lastCancel := rfl
@[simp] theorem State.setRecord_stopping (s : State) (p w : Nat) : (s.setRecord p w).stopping = s.stopping := rfl
@[simp] theorem State.setRecord_xogate (s : State) (p w : Nat) : (s.setRecord p w).xogate = s.xogate := rfl
@[simp] theorem State.setRecord_evHeld (s : State) (p w : Nat) : (s.setRecord p w).evHeld = s.evHeld := rfl
@[simp] theorem State.setRecord_accepts (s : State) (p w : Nat) : (s.setRecord p w).accepts = s.accepts := rfl
@[simp] theorem State.setRecord_free (s : State) (p w : Nat) : (s.setRecord p w).free = s.free := rfl
@[simp] theorem State.setRecord_tlpHeld (s : State) (p w : Nat) : (s.setRecord p w).tlpHeld = s.tlpHeld := rfl
@[simp] theorem State.setRecord_wire (s : State) (p w : Nat) : (s.setRecord p w).wire = s.wire := rfl
@[simp] theorem State.setRecord_fn_of (s : State) (p w : Nat) (i : Nat) : (s.setRecord p w).fn i = s.fn i := rfl
@[simp] theorem State.setRecord_port_of (s : State) (p w : Nat) (i : Nat) : (s.setRecord p w).port i = s.port i := rfl
@[simp] theorem State.setRecord_node_of (s : State) (p w : Nat) (i j : Nat) : (s.setRecord p w).node i j = s.node i j := rfl
@[simp] theorem State.setRecord_tl_of (s : State) (p w : Nat) (i : Nat) : (s.setRecord p w).tl i = s.tl i := rfl
@[simp] theorem State.setRecord_plan_of (s : State) (p w : Nat) (i : Nat) : (s.setRecord p w).plan i = s.plan i := rfl
@[simp] theorem State.setRecord_list_of (s : State) (p w : Nat) (i j : Nat) : (s.setRecord p w).list i j = s.list i j := rfl
@[simp] theorem State.setRecord_chan_of (s : State) (p w : Nat) (i : Nat) : (s.setRecord p w).chan i = s.chan i := rfl
@[simp] theorem State.setRecord_point_of (s : State) (p w : Nat) (i : Nat) : (s.setRecord p w).point i = s.point i := rfl
@[simp] theorem State.setRecord_reg_of (s : State) (p w : Nat) (e y i o : Nat) : (s.setRecord p w).reg e y i o = s.reg e y i o := rfl
@[simp] theorem State.setRecord_hasTile_of (s : State) (p w : Nat) (i : Nat) : (s.setRecord p w).hasTile i = s.hasTile i := rfl
@[simp] theorem State.setRecord_hasPort_of (s : State) (p w : Nat) (i : Nat) : (s.setRecord p w).hasPort i = s.hasPort i := rfl

/-! ### modFw -/

@[simp] theorem State.modFw_pending (s : State) (u : FwSt → FwSt) : (s.modFw u).pending = s.pending := rfl
@[simp] theorem State.modFw_tiles (s : State) (u : FwSt → FwSt) : (s.modFw u).tiles = s.tiles := rfl
@[simp] theorem State.modFw_time (s : State) (u : FwSt → FwSt) : (s.modFw u).time = s.time := rfl
@[simp] theorem State.modFw_regs (s : State) (u : FwSt → FwSt) : (s.modFw u).regs = s.regs := rfl
@[simp] theorem State.modFw_stored (s : State) (u : FwSt → FwSt) : (s.modFw u).stored = s.stored := rfl
@[simp] theorem State.modFw_fns (s : State) (u : FwSt → FwSt) : (s.modFw u).fns = s.fns := rfl
@[simp] theorem State.modFw_ports (s : State) (u : FwSt → FwSt) : (s.modFw u).ports = s.ports := rfl
@[simp] theorem State.modFw_nodes (s : State) (u : FwSt → FwSt) : (s.modFw u).nodes = s.nodes := rfl
@[simp] theorem State.modFw_plans (s : State) (u : FwSt → FwSt) : (s.modFw u).plans = s.plans := rfl
@[simp] theorem State.modFw_lists (s : State) (u : FwSt → FwSt) : (s.modFw u).lists = s.lists := rfl
@[simp] theorem State.modFw_pim (s : State) (u : FwSt → FwSt) : (s.modFw u).pim = s.pim := rfl
@[simp] theorem State.modFw_owners (s : State) (u : FwSt → FwSt) : (s.modFw u).owners = s.owners := rfl
@[simp] theorem State.modFw_points (s : State) (u : FwSt → FwSt) : (s.modFw u).points = s.points := rfl
@[simp] theorem State.modFw_grants (s : State) (u : FwSt → FwSt) : (s.modFw u).grants = s.grants := rfl
@[simp] theorem State.modFw_rules (s : State) (u : FwSt → FwSt) : (s.modFw u).rules = s.rules := rfl
@[simp] theorem State.modFw_remote (s : State) (u : FwSt → FwSt) : (s.modFw u).remote = s.remote := rfl
@[simp] theorem State.modFw_copies (s : State) (u : FwSt → FwSt) : (s.modFw u).copies = s.copies := rfl
@[simp] theorem State.modFw_unseen (s : State) (u : FwSt → FwSt) : (s.modFw u).unseen = s.unseen := rfl
@[simp] theorem State.modFw_bridge (s : State) (u : FwSt → FwSt) : (s.modFw u).bridge = s.bridge := rfl
@[simp] theorem State.modFw_chans (s : State) (u : FwSt → FwSt) : (s.modFw u).chans = s.chans := rfl
@[simp] theorem State.modFw_nonces (s : State) (u : FwSt → FwSt) : (s.modFw u).nonces = s.nonces := rfl
@[simp] theorem State.modFw_quar (s : State) (u : FwSt → FwSt) : (s.modFw u).quar = s.quar := rfl
@[simp] theorem State.modFw_policy (s : State) (u : FwSt → FwSt) : (s.modFw u).policy = s.policy := rfl
@[simp] theorem State.modFw_journal (s : State) (u : FwSt → FwSt) : (s.modFw u).journal = s.journal := rfl
@[simp] theorem State.modFw_half0 (s : State) (u : FwSt → FwSt) : (s.modFw u).half0 = s.half0 := rfl
@[simp] theorem State.modFw_half1 (s : State) (u : FwSt → FwSt) : (s.modFw u).half1 = s.half1 := rfl
@[simp] theorem State.modFw_half (s : State) (u : FwSt → FwSt) : (s.modFw u).half = s.half := rfl
@[simp] theorem State.modFw_fw (s : State) (u : FwSt → FwSt) : (s.modFw u).fw = u s.fw := rfl
@[simp] theorem State.modFw_mgt (s : State) (u : FwSt → FwSt) : (s.modFw u).mgt = s.mgt := rfl
@[simp] theorem State.modFw_jtag (s : State) (u : FwSt → FwSt) : (s.modFw u).jtag = s.jtag := rfl
@[simp] theorem State.modFw_pins (s : State) (u : FwSt → FwSt) : (s.modFw u).pins = s.pins := rfl
@[simp] theorem State.modFw_boot (s : State) (u : FwSt → FwSt) : (s.modFw u).boot = s.boot := rfl
@[simp] theorem State.modFw_chg (s : State) (u : FwSt → FwSt) : (s.modFw u).chg = s.chg := rfl
@[simp] theorem State.modFw_tile (s : State) (u : FwSt → FwSt) : (s.modFw u).tile = s.tile := rfl
@[simp] theorem State.modFw_mesh (s : State) (u : FwSt → FwSt) : (s.modFw u).mesh = s.mesh := rfl
@[simp] theorem State.modFw_meshFails (s : State) (u : FwSt → FwSt) : (s.modFw u).meshFails = s.meshFails := rfl
@[simp] theorem State.modFw_ready (s : State) (u : FwSt → FwSt) : (s.modFw u).ready = s.ready := rfl
@[simp] theorem State.modFw_link (s : State) (u : FwSt → FwSt) : (s.modFw u).link = s.link := rfl
@[simp] theorem State.modFw_vfEnable (s : State) (u : FwSt → FwSt) : (s.modFw u).vfEnable = s.vfEnable := rfl
@[simp] theorem State.modFw_vfMse (s : State) (u : FwSt → FwSt) : (s.modFw u).vfMse = s.vfMse := rfl
@[simp] theorem State.modFw_numVfs (s : State) (u : FwSt → FwSt) : (s.modFw u).numVfs = s.numVfs := rfl
@[simp] theorem State.modFw_ari (s : State) (u : FwSt → FwSt) : (s.modFw u).ari = s.ari := rfl
@[simp] theorem State.modFw_stamp (s : State) (u : FwSt → FwSt) : (s.modFw u).stamp = s.stamp := rfl
@[simp] theorem State.modFw_stage (s : State) (u : FwSt → FwSt) : (s.modFw u).stage = s.stage := rfl
@[simp] theorem State.modFw_lastCancel (s : State) (u : FwSt → FwSt) : (s.modFw u).lastCancel = s.lastCancel := rfl
@[simp] theorem State.modFw_stopping (s : State) (u : FwSt → FwSt) : (s.modFw u).stopping = s.stopping := rfl
@[simp] theorem State.modFw_xogate (s : State) (u : FwSt → FwSt) : (s.modFw u).xogate = s.xogate := rfl
@[simp] theorem State.modFw_evHeld (s : State) (u : FwSt → FwSt) : (s.modFw u).evHeld = s.evHeld := rfl
@[simp] theorem State.modFw_accepts (s : State) (u : FwSt → FwSt) : (s.modFw u).accepts = s.accepts := rfl
@[simp] theorem State.modFw_free (s : State) (u : FwSt → FwSt) : (s.modFw u).free = s.free := rfl
@[simp] theorem State.modFw_tlpHeld (s : State) (u : FwSt → FwSt) : (s.modFw u).tlpHeld = s.tlpHeld := rfl
@[simp] theorem State.modFw_wire (s : State) (u : FwSt → FwSt) : (s.modFw u).wire = s.wire := rfl
@[simp] theorem State.modFw_fn_of (s : State) (u : FwSt → FwSt) (i : Nat) : (s.modFw u).fn i = s.fn i := rfl
@[simp] theorem State.modFw_port_of (s : State) (u : FwSt → FwSt) (i : Nat) : (s.modFw u).port i = s.port i := rfl
@[simp] theorem State.modFw_node_of (s : State) (u : FwSt → FwSt) (i j : Nat) : (s.modFw u).node i j = s.node i j := rfl
@[simp] theorem State.modFw_tl_of (s : State) (u : FwSt → FwSt) (i : Nat) : (s.modFw u).tl i = s.tl i := rfl
@[simp] theorem State.modFw_plan_of (s : State) (u : FwSt → FwSt) (i : Nat) : (s.modFw u).plan i = s.plan i := rfl
@[simp] theorem State.modFw_list_of (s : State) (u : FwSt → FwSt) (i j : Nat) : (s.modFw u).list i j = s.list i j := rfl
@[simp] theorem State.modFw_chan_of (s : State) (u : FwSt → FwSt) (i : Nat) : (s.modFw u).chan i = s.chan i := rfl
@[simp] theorem State.modFw_point_of (s : State) (u : FwSt → FwSt) (i : Nat) : (s.modFw u).point i = s.point i := rfl
@[simp] theorem State.modFw_record_of (s : State) (u : FwSt → FwSt) (i : Nat) : (s.modFw u).record i = s.record i := rfl
@[simp] theorem State.modFw_reg_of (s : State) (u : FwSt → FwSt) (e y i o : Nat) : (s.modFw u).reg e y i o = s.reg e y i o := rfl
@[simp] theorem State.modFw_hasTile_of (s : State) (u : FwSt → FwSt) (i : Nat) : (s.modFw u).hasTile i = s.hasTile i := rfl
@[simp] theorem State.modFw_hasPort_of (s : State) (u : FwSt → FwSt) (i : Nat) : (s.modFw u).hasPort i = s.hasPort i := rfl

/-! ### modMgt -/

@[simp] theorem State.modMgt_pending (s : State) (u : MgtSt → MgtSt) : (s.modMgt u).pending = s.pending := rfl
@[simp] theorem State.modMgt_tiles (s : State) (u : MgtSt → MgtSt) : (s.modMgt u).tiles = s.tiles := rfl
@[simp] theorem State.modMgt_time (s : State) (u : MgtSt → MgtSt) : (s.modMgt u).time = s.time := rfl
@[simp] theorem State.modMgt_regs (s : State) (u : MgtSt → MgtSt) : (s.modMgt u).regs = s.regs := rfl
@[simp] theorem State.modMgt_stored (s : State) (u : MgtSt → MgtSt) : (s.modMgt u).stored = s.stored := rfl
@[simp] theorem State.modMgt_fns (s : State) (u : MgtSt → MgtSt) : (s.modMgt u).fns = s.fns := rfl
@[simp] theorem State.modMgt_ports (s : State) (u : MgtSt → MgtSt) : (s.modMgt u).ports = s.ports := rfl
@[simp] theorem State.modMgt_nodes (s : State) (u : MgtSt → MgtSt) : (s.modMgt u).nodes = s.nodes := rfl
@[simp] theorem State.modMgt_plans (s : State) (u : MgtSt → MgtSt) : (s.modMgt u).plans = s.plans := rfl
@[simp] theorem State.modMgt_lists (s : State) (u : MgtSt → MgtSt) : (s.modMgt u).lists = s.lists := rfl
@[simp] theorem State.modMgt_pim (s : State) (u : MgtSt → MgtSt) : (s.modMgt u).pim = s.pim := rfl
@[simp] theorem State.modMgt_owners (s : State) (u : MgtSt → MgtSt) : (s.modMgt u).owners = s.owners := rfl
@[simp] theorem State.modMgt_points (s : State) (u : MgtSt → MgtSt) : (s.modMgt u).points = s.points := rfl
@[simp] theorem State.modMgt_grants (s : State) (u : MgtSt → MgtSt) : (s.modMgt u).grants = s.grants := rfl
@[simp] theorem State.modMgt_rules (s : State) (u : MgtSt → MgtSt) : (s.modMgt u).rules = s.rules := rfl
@[simp] theorem State.modMgt_remote (s : State) (u : MgtSt → MgtSt) : (s.modMgt u).remote = s.remote := rfl
@[simp] theorem State.modMgt_copies (s : State) (u : MgtSt → MgtSt) : (s.modMgt u).copies = s.copies := rfl
@[simp] theorem State.modMgt_unseen (s : State) (u : MgtSt → MgtSt) : (s.modMgt u).unseen = s.unseen := rfl
@[simp] theorem State.modMgt_bridge (s : State) (u : MgtSt → MgtSt) : (s.modMgt u).bridge = s.bridge := rfl
@[simp] theorem State.modMgt_chans (s : State) (u : MgtSt → MgtSt) : (s.modMgt u).chans = s.chans := rfl
@[simp] theorem State.modMgt_nonces (s : State) (u : MgtSt → MgtSt) : (s.modMgt u).nonces = s.nonces := rfl
@[simp] theorem State.modMgt_quar (s : State) (u : MgtSt → MgtSt) : (s.modMgt u).quar = s.quar := rfl
@[simp] theorem State.modMgt_policy (s : State) (u : MgtSt → MgtSt) : (s.modMgt u).policy = s.policy := rfl
@[simp] theorem State.modMgt_journal (s : State) (u : MgtSt → MgtSt) : (s.modMgt u).journal = s.journal := rfl
@[simp] theorem State.modMgt_half0 (s : State) (u : MgtSt → MgtSt) : (s.modMgt u).half0 = s.half0 := rfl
@[simp] theorem State.modMgt_half1 (s : State) (u : MgtSt → MgtSt) : (s.modMgt u).half1 = s.half1 := rfl
@[simp] theorem State.modMgt_half (s : State) (u : MgtSt → MgtSt) : (s.modMgt u).half = s.half := rfl
@[simp] theorem State.modMgt_fw (s : State) (u : MgtSt → MgtSt) : (s.modMgt u).fw = s.fw := rfl
@[simp] theorem State.modMgt_mgt (s : State) (u : MgtSt → MgtSt) : (s.modMgt u).mgt = u s.mgt := rfl
@[simp] theorem State.modMgt_jtag (s : State) (u : MgtSt → MgtSt) : (s.modMgt u).jtag = s.jtag := rfl
@[simp] theorem State.modMgt_pins (s : State) (u : MgtSt → MgtSt) : (s.modMgt u).pins = s.pins := rfl
@[simp] theorem State.modMgt_boot (s : State) (u : MgtSt → MgtSt) : (s.modMgt u).boot = s.boot := rfl
@[simp] theorem State.modMgt_chg (s : State) (u : MgtSt → MgtSt) : (s.modMgt u).chg = s.chg := rfl
@[simp] theorem State.modMgt_tile (s : State) (u : MgtSt → MgtSt) : (s.modMgt u).tile = s.tile := rfl
@[simp] theorem State.modMgt_mesh (s : State) (u : MgtSt → MgtSt) : (s.modMgt u).mesh = s.mesh := rfl
@[simp] theorem State.modMgt_meshFails (s : State) (u : MgtSt → MgtSt) : (s.modMgt u).meshFails = s.meshFails := rfl
@[simp] theorem State.modMgt_ready (s : State) (u : MgtSt → MgtSt) : (s.modMgt u).ready = s.ready := rfl
@[simp] theorem State.modMgt_link (s : State) (u : MgtSt → MgtSt) : (s.modMgt u).link = s.link := rfl
@[simp] theorem State.modMgt_vfEnable (s : State) (u : MgtSt → MgtSt) : (s.modMgt u).vfEnable = s.vfEnable := rfl
@[simp] theorem State.modMgt_vfMse (s : State) (u : MgtSt → MgtSt) : (s.modMgt u).vfMse = s.vfMse := rfl
@[simp] theorem State.modMgt_numVfs (s : State) (u : MgtSt → MgtSt) : (s.modMgt u).numVfs = s.numVfs := rfl
@[simp] theorem State.modMgt_ari (s : State) (u : MgtSt → MgtSt) : (s.modMgt u).ari = s.ari := rfl
@[simp] theorem State.modMgt_stamp (s : State) (u : MgtSt → MgtSt) : (s.modMgt u).stamp = s.stamp := rfl
@[simp] theorem State.modMgt_stage (s : State) (u : MgtSt → MgtSt) : (s.modMgt u).stage = s.stage := rfl
@[simp] theorem State.modMgt_lastCancel (s : State) (u : MgtSt → MgtSt) : (s.modMgt u).lastCancel = s.lastCancel := rfl
@[simp] theorem State.modMgt_stopping (s : State) (u : MgtSt → MgtSt) : (s.modMgt u).stopping = s.stopping := rfl
@[simp] theorem State.modMgt_xogate (s : State) (u : MgtSt → MgtSt) : (s.modMgt u).xogate = s.xogate := rfl
@[simp] theorem State.modMgt_evHeld (s : State) (u : MgtSt → MgtSt) : (s.modMgt u).evHeld = s.evHeld := rfl
@[simp] theorem State.modMgt_accepts (s : State) (u : MgtSt → MgtSt) : (s.modMgt u).accepts = s.accepts := rfl
@[simp] theorem State.modMgt_free (s : State) (u : MgtSt → MgtSt) : (s.modMgt u).free = s.free := rfl
@[simp] theorem State.modMgt_tlpHeld (s : State) (u : MgtSt → MgtSt) : (s.modMgt u).tlpHeld = s.tlpHeld := rfl
@[simp] theorem State.modMgt_wire (s : State) (u : MgtSt → MgtSt) : (s.modMgt u).wire = s.wire := rfl
@[simp] theorem State.modMgt_fn_of (s : State) (u : MgtSt → MgtSt) (i : Nat) : (s.modMgt u).fn i = s.fn i := rfl
@[simp] theorem State.modMgt_port_of (s : State) (u : MgtSt → MgtSt) (i : Nat) : (s.modMgt u).port i = s.port i := rfl
@[simp] theorem State.modMgt_node_of (s : State) (u : MgtSt → MgtSt) (i j : Nat) : (s.modMgt u).node i j = s.node i j := rfl
@[simp] theorem State.modMgt_tl_of (s : State) (u : MgtSt → MgtSt) (i : Nat) : (s.modMgt u).tl i = s.tl i := rfl
@[simp] theorem State.modMgt_plan_of (s : State) (u : MgtSt → MgtSt) (i : Nat) : (s.modMgt u).plan i = s.plan i := rfl
@[simp] theorem State.modMgt_list_of (s : State) (u : MgtSt → MgtSt) (i j : Nat) : (s.modMgt u).list i j = s.list i j := rfl
@[simp] theorem State.modMgt_chan_of (s : State) (u : MgtSt → MgtSt) (i : Nat) : (s.modMgt u).chan i = s.chan i := rfl
@[simp] theorem State.modMgt_point_of (s : State) (u : MgtSt → MgtSt) (i : Nat) : (s.modMgt u).point i = s.point i := rfl
@[simp] theorem State.modMgt_record_of (s : State) (u : MgtSt → MgtSt) (i : Nat) : (s.modMgt u).record i = s.record i := rfl
@[simp] theorem State.modMgt_reg_of (s : State) (u : MgtSt → MgtSt) (e y i o : Nat) : (s.modMgt u).reg e y i o = s.reg e y i o := rfl
@[simp] theorem State.modMgt_hasTile_of (s : State) (u : MgtSt → MgtSt) (i : Nat) : (s.modMgt u).hasTile i = s.hasTile i := rfl
@[simp] theorem State.modMgt_hasPort_of (s : State) (u : MgtSt → MgtSt) (i : Nat) : (s.modMgt u).hasPort i = s.hasPort i := rfl

/-! ### modJtag -/

@[simp] theorem State.modJtag_pending (s : State) (u : JtagSt → JtagSt) : (s.modJtag u).pending = s.pending := rfl
@[simp] theorem State.modJtag_tiles (s : State) (u : JtagSt → JtagSt) : (s.modJtag u).tiles = s.tiles := rfl
@[simp] theorem State.modJtag_time (s : State) (u : JtagSt → JtagSt) : (s.modJtag u).time = s.time := rfl
@[simp] theorem State.modJtag_regs (s : State) (u : JtagSt → JtagSt) : (s.modJtag u).regs = s.regs := rfl
@[simp] theorem State.modJtag_stored (s : State) (u : JtagSt → JtagSt) : (s.modJtag u).stored = s.stored := rfl
@[simp] theorem State.modJtag_fns (s : State) (u : JtagSt → JtagSt) : (s.modJtag u).fns = s.fns := rfl
@[simp] theorem State.modJtag_ports (s : State) (u : JtagSt → JtagSt) : (s.modJtag u).ports = s.ports := rfl
@[simp] theorem State.modJtag_nodes (s : State) (u : JtagSt → JtagSt) : (s.modJtag u).nodes = s.nodes := rfl
@[simp] theorem State.modJtag_plans (s : State) (u : JtagSt → JtagSt) : (s.modJtag u).plans = s.plans := rfl
@[simp] theorem State.modJtag_lists (s : State) (u : JtagSt → JtagSt) : (s.modJtag u).lists = s.lists := rfl
@[simp] theorem State.modJtag_pim (s : State) (u : JtagSt → JtagSt) : (s.modJtag u).pim = s.pim := rfl
@[simp] theorem State.modJtag_owners (s : State) (u : JtagSt → JtagSt) : (s.modJtag u).owners = s.owners := rfl
@[simp] theorem State.modJtag_points (s : State) (u : JtagSt → JtagSt) : (s.modJtag u).points = s.points := rfl
@[simp] theorem State.modJtag_grants (s : State) (u : JtagSt → JtagSt) : (s.modJtag u).grants = s.grants := rfl
@[simp] theorem State.modJtag_rules (s : State) (u : JtagSt → JtagSt) : (s.modJtag u).rules = s.rules := rfl
@[simp] theorem State.modJtag_remote (s : State) (u : JtagSt → JtagSt) : (s.modJtag u).remote = s.remote := rfl
@[simp] theorem State.modJtag_copies (s : State) (u : JtagSt → JtagSt) : (s.modJtag u).copies = s.copies := rfl
@[simp] theorem State.modJtag_unseen (s : State) (u : JtagSt → JtagSt) : (s.modJtag u).unseen = s.unseen := rfl
@[simp] theorem State.modJtag_bridge (s : State) (u : JtagSt → JtagSt) : (s.modJtag u).bridge = s.bridge := rfl
@[simp] theorem State.modJtag_chans (s : State) (u : JtagSt → JtagSt) : (s.modJtag u).chans = s.chans := rfl
@[simp] theorem State.modJtag_nonces (s : State) (u : JtagSt → JtagSt) : (s.modJtag u).nonces = s.nonces := rfl
@[simp] theorem State.modJtag_quar (s : State) (u : JtagSt → JtagSt) : (s.modJtag u).quar = s.quar := rfl
@[simp] theorem State.modJtag_policy (s : State) (u : JtagSt → JtagSt) : (s.modJtag u).policy = s.policy := rfl
@[simp] theorem State.modJtag_journal (s : State) (u : JtagSt → JtagSt) : (s.modJtag u).journal = s.journal := rfl
@[simp] theorem State.modJtag_half0 (s : State) (u : JtagSt → JtagSt) : (s.modJtag u).half0 = s.half0 := rfl
@[simp] theorem State.modJtag_half1 (s : State) (u : JtagSt → JtagSt) : (s.modJtag u).half1 = s.half1 := rfl
@[simp] theorem State.modJtag_half (s : State) (u : JtagSt → JtagSt) : (s.modJtag u).half = s.half := rfl
@[simp] theorem State.modJtag_fw (s : State) (u : JtagSt → JtagSt) : (s.modJtag u).fw = s.fw := rfl
@[simp] theorem State.modJtag_mgt (s : State) (u : JtagSt → JtagSt) : (s.modJtag u).mgt = s.mgt := rfl
@[simp] theorem State.modJtag_jtag (s : State) (u : JtagSt → JtagSt) : (s.modJtag u).jtag = u s.jtag := rfl
@[simp] theorem State.modJtag_pins (s : State) (u : JtagSt → JtagSt) : (s.modJtag u).pins = s.pins := rfl
@[simp] theorem State.modJtag_boot (s : State) (u : JtagSt → JtagSt) : (s.modJtag u).boot = s.boot := rfl
@[simp] theorem State.modJtag_chg (s : State) (u : JtagSt → JtagSt) : (s.modJtag u).chg = s.chg := rfl
@[simp] theorem State.modJtag_tile (s : State) (u : JtagSt → JtagSt) : (s.modJtag u).tile = s.tile := rfl
@[simp] theorem State.modJtag_mesh (s : State) (u : JtagSt → JtagSt) : (s.modJtag u).mesh = s.mesh := rfl
@[simp] theorem State.modJtag_meshFails (s : State) (u : JtagSt → JtagSt) : (s.modJtag u).meshFails = s.meshFails := rfl
@[simp] theorem State.modJtag_ready (s : State) (u : JtagSt → JtagSt) : (s.modJtag u).ready = s.ready := rfl
@[simp] theorem State.modJtag_link (s : State) (u : JtagSt → JtagSt) : (s.modJtag u).link = s.link := rfl
@[simp] theorem State.modJtag_vfEnable (s : State) (u : JtagSt → JtagSt) : (s.modJtag u).vfEnable = s.vfEnable := rfl
@[simp] theorem State.modJtag_vfMse (s : State) (u : JtagSt → JtagSt) : (s.modJtag u).vfMse = s.vfMse := rfl
@[simp] theorem State.modJtag_numVfs (s : State) (u : JtagSt → JtagSt) : (s.modJtag u).numVfs = s.numVfs := rfl
@[simp] theorem State.modJtag_ari (s : State) (u : JtagSt → JtagSt) : (s.modJtag u).ari = s.ari := rfl
@[simp] theorem State.modJtag_stamp (s : State) (u : JtagSt → JtagSt) : (s.modJtag u).stamp = s.stamp := rfl
@[simp] theorem State.modJtag_stage (s : State) (u : JtagSt → JtagSt) : (s.modJtag u).stage = s.stage := rfl
@[simp] theorem State.modJtag_lastCancel (s : State) (u : JtagSt → JtagSt) : (s.modJtag u).lastCancel = s.lastCancel := rfl
@[simp] theorem State.modJtag_stopping (s : State) (u : JtagSt → JtagSt) : (s.modJtag u).stopping = s.stopping := rfl
@[simp] theorem State.modJtag_xogate (s : State) (u : JtagSt → JtagSt) : (s.modJtag u).xogate = s.xogate := rfl
@[simp] theorem State.modJtag_evHeld (s : State) (u : JtagSt → JtagSt) : (s.modJtag u).evHeld = s.evHeld := rfl
@[simp] theorem State.modJtag_accepts (s : State) (u : JtagSt → JtagSt) : (s.modJtag u).accepts = s.accepts := rfl
@[simp] theorem State.modJtag_free (s : State) (u : JtagSt → JtagSt) : (s.modJtag u).free = s.free := rfl
@[simp] theorem State.modJtag_tlpHeld (s : State) (u : JtagSt → JtagSt) : (s.modJtag u).tlpHeld = s.tlpHeld := rfl
@[simp] theorem State.modJtag_wire (s : State) (u : JtagSt → JtagSt) : (s.modJtag u).wire = s.wire := rfl
@[simp] theorem State.modJtag_fn_of (s : State) (u : JtagSt → JtagSt) (i : Nat) : (s.modJtag u).fn i = s.fn i := rfl
@[simp] theorem State.modJtag_port_of (s : State) (u : JtagSt → JtagSt) (i : Nat) : (s.modJtag u).port i = s.port i := rfl
@[simp] theorem State.modJtag_node_of (s : State) (u : JtagSt → JtagSt) (i j : Nat) : (s.modJtag u).node i j = s.node i j := rfl
@[simp] theorem State.modJtag_tl_of (s : State) (u : JtagSt → JtagSt) (i : Nat) : (s.modJtag u).tl i = s.tl i := rfl
@[simp] theorem State.modJtag_plan_of (s : State) (u : JtagSt → JtagSt) (i : Nat) : (s.modJtag u).plan i = s.plan i := rfl
@[simp] theorem State.modJtag_list_of (s : State) (u : JtagSt → JtagSt) (i j : Nat) : (s.modJtag u).list i j = s.list i j := rfl
@[simp] theorem State.modJtag_chan_of (s : State) (u : JtagSt → JtagSt) (i : Nat) : (s.modJtag u).chan i = s.chan i := rfl
@[simp] theorem State.modJtag_point_of (s : State) (u : JtagSt → JtagSt) (i : Nat) : (s.modJtag u).point i = s.point i := rfl
@[simp] theorem State.modJtag_record_of (s : State) (u : JtagSt → JtagSt) (i : Nat) : (s.modJtag u).record i = s.record i := rfl
@[simp] theorem State.modJtag_reg_of (s : State) (u : JtagSt → JtagSt) (e y i o : Nat) : (s.modJtag u).reg e y i o = s.reg e y i o := rfl
@[simp] theorem State.modJtag_hasTile_of (s : State) (u : JtagSt → JtagSt) (i : Nat) : (s.modJtag u).hasTile i = s.hasTile i := rfl
@[simp] theorem State.modJtag_hasPort_of (s : State) (u : JtagSt → JtagSt) (i : Nat) : (s.modJtag u).hasPort i = s.hasPort i := rfl

/-! ### modPins -/

@[simp] theorem State.modPins_pending (s : State) (u : Pins → Pins) : (s.modPins u).pending = s.pending := rfl
@[simp] theorem State.modPins_tiles (s : State) (u : Pins → Pins) : (s.modPins u).tiles = s.tiles := rfl
@[simp] theorem State.modPins_time (s : State) (u : Pins → Pins) : (s.modPins u).time = s.time := rfl
@[simp] theorem State.modPins_regs (s : State) (u : Pins → Pins) : (s.modPins u).regs = s.regs := rfl
@[simp] theorem State.modPins_stored (s : State) (u : Pins → Pins) : (s.modPins u).stored = s.stored := rfl
@[simp] theorem State.modPins_fns (s : State) (u : Pins → Pins) : (s.modPins u).fns = s.fns := rfl
@[simp] theorem State.modPins_ports (s : State) (u : Pins → Pins) : (s.modPins u).ports = s.ports := rfl
@[simp] theorem State.modPins_nodes (s : State) (u : Pins → Pins) : (s.modPins u).nodes = s.nodes := rfl
@[simp] theorem State.modPins_plans (s : State) (u : Pins → Pins) : (s.modPins u).plans = s.plans := rfl
@[simp] theorem State.modPins_lists (s : State) (u : Pins → Pins) : (s.modPins u).lists = s.lists := rfl
@[simp] theorem State.modPins_pim (s : State) (u : Pins → Pins) : (s.modPins u).pim = s.pim := rfl
@[simp] theorem State.modPins_owners (s : State) (u : Pins → Pins) : (s.modPins u).owners = s.owners := rfl
@[simp] theorem State.modPins_points (s : State) (u : Pins → Pins) : (s.modPins u).points = s.points := rfl
@[simp] theorem State.modPins_grants (s : State) (u : Pins → Pins) : (s.modPins u).grants = s.grants := rfl
@[simp] theorem State.modPins_rules (s : State) (u : Pins → Pins) : (s.modPins u).rules = s.rules := rfl
@[simp] theorem State.modPins_remote (s : State) (u : Pins → Pins) : (s.modPins u).remote = s.remote := rfl
@[simp] theorem State.modPins_copies (s : State) (u : Pins → Pins) : (s.modPins u).copies = s.copies := rfl
@[simp] theorem State.modPins_unseen (s : State) (u : Pins → Pins) : (s.modPins u).unseen = s.unseen := rfl
@[simp] theorem State.modPins_bridge (s : State) (u : Pins → Pins) : (s.modPins u).bridge = s.bridge := rfl
@[simp] theorem State.modPins_chans (s : State) (u : Pins → Pins) : (s.modPins u).chans = s.chans := rfl
@[simp] theorem State.modPins_nonces (s : State) (u : Pins → Pins) : (s.modPins u).nonces = s.nonces := rfl
@[simp] theorem State.modPins_quar (s : State) (u : Pins → Pins) : (s.modPins u).quar = s.quar := rfl
@[simp] theorem State.modPins_policy (s : State) (u : Pins → Pins) : (s.modPins u).policy = s.policy := rfl
@[simp] theorem State.modPins_journal (s : State) (u : Pins → Pins) : (s.modPins u).journal = s.journal := rfl
@[simp] theorem State.modPins_half0 (s : State) (u : Pins → Pins) : (s.modPins u).half0 = s.half0 := rfl
@[simp] theorem State.modPins_half1 (s : State) (u : Pins → Pins) : (s.modPins u).half1 = s.half1 := rfl
@[simp] theorem State.modPins_half (s : State) (u : Pins → Pins) : (s.modPins u).half = s.half := rfl
@[simp] theorem State.modPins_fw (s : State) (u : Pins → Pins) : (s.modPins u).fw = s.fw := rfl
@[simp] theorem State.modPins_mgt (s : State) (u : Pins → Pins) : (s.modPins u).mgt = s.mgt := rfl
@[simp] theorem State.modPins_jtag (s : State) (u : Pins → Pins) : (s.modPins u).jtag = s.jtag := rfl
@[simp] theorem State.modPins_pins (s : State) (u : Pins → Pins) : (s.modPins u).pins = u s.pins := rfl
@[simp] theorem State.modPins_boot (s : State) (u : Pins → Pins) : (s.modPins u).boot = s.boot := rfl
@[simp] theorem State.modPins_chg (s : State) (u : Pins → Pins) : (s.modPins u).chg = s.chg := rfl
@[simp] theorem State.modPins_tile (s : State) (u : Pins → Pins) : (s.modPins u).tile = s.tile := rfl
@[simp] theorem State.modPins_mesh (s : State) (u : Pins → Pins) : (s.modPins u).mesh = s.mesh := rfl
@[simp] theorem State.modPins_meshFails (s : State) (u : Pins → Pins) : (s.modPins u).meshFails = s.meshFails := rfl
@[simp] theorem State.modPins_ready (s : State) (u : Pins → Pins) : (s.modPins u).ready = s.ready := rfl
@[simp] theorem State.modPins_link (s : State) (u : Pins → Pins) : (s.modPins u).link = s.link := rfl
@[simp] theorem State.modPins_vfEnable (s : State) (u : Pins → Pins) : (s.modPins u).vfEnable = s.vfEnable := rfl
@[simp] theorem State.modPins_vfMse (s : State) (u : Pins → Pins) : (s.modPins u).vfMse = s.vfMse := rfl
@[simp] theorem State.modPins_numVfs (s : State) (u : Pins → Pins) : (s.modPins u).numVfs = s.numVfs := rfl
@[simp] theorem State.modPins_ari (s : State) (u : Pins → Pins) : (s.modPins u).ari = s.ari := rfl
@[simp] theorem State.modPins_stamp (s : State) (u : Pins → Pins) : (s.modPins u).stamp = s.stamp := rfl
@[simp] theorem State.modPins_stage (s : State) (u : Pins → Pins) : (s.modPins u).stage = s.stage := rfl
@[simp] theorem State.modPins_lastCancel (s : State) (u : Pins → Pins) : (s.modPins u).lastCancel = s.lastCancel := rfl
@[simp] theorem State.modPins_stopping (s : State) (u : Pins → Pins) : (s.modPins u).stopping = s.stopping := rfl
@[simp] theorem State.modPins_xogate (s : State) (u : Pins → Pins) : (s.modPins u).xogate = s.xogate := rfl
@[simp] theorem State.modPins_evHeld (s : State) (u : Pins → Pins) : (s.modPins u).evHeld = s.evHeld := rfl
@[simp] theorem State.modPins_accepts (s : State) (u : Pins → Pins) : (s.modPins u).accepts = s.accepts := rfl
@[simp] theorem State.modPins_free (s : State) (u : Pins → Pins) : (s.modPins u).free = s.free := rfl
@[simp] theorem State.modPins_tlpHeld (s : State) (u : Pins → Pins) : (s.modPins u).tlpHeld = s.tlpHeld := rfl
@[simp] theorem State.modPins_wire (s : State) (u : Pins → Pins) : (s.modPins u).wire = s.wire := rfl
@[simp] theorem State.modPins_fn_of (s : State) (u : Pins → Pins) (i : Nat) : (s.modPins u).fn i = s.fn i := rfl
@[simp] theorem State.modPins_port_of (s : State) (u : Pins → Pins) (i : Nat) : (s.modPins u).port i = s.port i := rfl
@[simp] theorem State.modPins_node_of (s : State) (u : Pins → Pins) (i j : Nat) : (s.modPins u).node i j = s.node i j := rfl
@[simp] theorem State.modPins_tl_of (s : State) (u : Pins → Pins) (i : Nat) : (s.modPins u).tl i = s.tl i := rfl
@[simp] theorem State.modPins_plan_of (s : State) (u : Pins → Pins) (i : Nat) : (s.modPins u).plan i = s.plan i := rfl
@[simp] theorem State.modPins_list_of (s : State) (u : Pins → Pins) (i j : Nat) : (s.modPins u).list i j = s.list i j := rfl
@[simp] theorem State.modPins_chan_of (s : State) (u : Pins → Pins) (i : Nat) : (s.modPins u).chan i = s.chan i := rfl
@[simp] theorem State.modPins_point_of (s : State) (u : Pins → Pins) (i : Nat) : (s.modPins u).point i = s.point i := rfl
@[simp] theorem State.modPins_record_of (s : State) (u : Pins → Pins) (i : Nat) : (s.modPins u).record i = s.record i := rfl
@[simp] theorem State.modPins_reg_of (s : State) (u : Pins → Pins) (e y i o : Nat) : (s.modPins u).reg e y i o = s.reg e y i o := rfl
@[simp] theorem State.modPins_hasTile_of (s : State) (u : Pins → Pins) (i : Nat) : (s.modPins u).hasTile i = s.hasTile i := rfl
@[simp] theorem State.modPins_hasPort_of (s : State) (u : Pins → Pins) (i : Nat) : (s.modPins u).hasPort i = s.hasPort i := rfl

/-! ### Reading what has been written -/

@[simp] theorem State.fn_modFn (s : State) (f : Nat) (u : Fn → Fn) : (s.modFn f u).fn f = u (s.fn f) := nget_nmod_same ..
theorem State.fn_modFn_ne (s : State) {f i : Nat} (u : Fn → Fn) (h : i ≠ f) : (s.modFn f u).fn i = s.fn i := nget_nmod_ne _ _ _ h
@[simp] theorem State.port_modPort (s : State) (g : Nat) (u : Port → Port) : (s.modPort g u).port g = u (s.port g) := nget_nmod_same ..
theorem State.port_modPort_ne (s : State) {g i : Nat} (u : Port → Port) (h : i ≠ g) : (s.modPort g u).port i = s.port i := nget_nmod_ne _ _ _ h
@[simp] theorem State.node_modNode (s : State) (g n : Nat) (u : Node → Node) : (s.modNode g n u).node g n = u (s.node g n) := nget_nmod_same ..
theorem State.node_modNode_ne (s : State) {g n i j : Nat} (u : Node → Node) (h : nodeKey i j ≠ nodeKey g n) :
    (s.modNode g n u).node i j = s.node i j := nget_nmod_ne _ _ _ h
@[simp] theorem State.tl_modTile (s : State) (t : Nat) (u : Tile → Tile) : (s.modTile t u).tl t = u (s.tl t) := nget_nmod_same ..
theorem State.tl_modTile_ne (s : State) {t i : Nat} (u : Tile → Tile) (h : i ≠ t) : (s.modTile t u).tl i = s.tl i := nget_nmod_ne _ _ _ h
@[simp] theorem State.plan_modPlan (s : State) (g : Nat) (u : PlanSt → PlanSt) : (s.modPlan g u).plan g = u (s.plan g) := nget_nmod_same ..
theorem State.plan_modPlan_ne (s : State) {g i : Nat} (u : PlanSt → PlanSt) (h : i ≠ g) : (s.modPlan g u).plan i = s.plan i := nget_nmod_ne _ _ _ h
@[simp] theorem State.list_modList (s : State) (f g : Nat) (u : SList → SList) : (s.modList f g u).list f g = u (s.list f g) := nget_nmod_same ..
@[simp] theorem State.chan_modChan (s : State) (k : Nat) (u : Chan → Chan) : (s.modChan k u).chan k = u (s.chan k) := nget_nmod_same ..
@[simp] theorem State.point_modPoint (s : State) (p : Nat) (u : Point → Point) : (s.modPoint p u).point p = u (s.point p) := nget_nmod_same ..
theorem State.point_modPoint_ne (s : State) {p i : Nat} (u : Point → Point) (h : i ≠ p) : (s.modPoint p u).point i = s.point i := nget_nmod_ne _ _ _ h

/-- A read of a sparse map past a write of another key, whatever the two defaults. -/
theorem nget_nput_ne_default {α : Type} [DecidableEq α] (d d' : α) (m : NMap α) {i j : Nat} (v : α) (h : j ≠ i) :
    nget d (nput d' m i v) j = nget d m j := by
  unfold nput
  split
  · rw [nget_filter_ne, if_neg h]
  · rw [nget_nins, if_neg h]

@[simp] theorem State.reg_setReg (s : State) (d ty inst off v : Nat) :
    (s.setReg d ty inst off v).reg d ty inst off = v % 2 ^ 64 := by
  simp [State.reg, State.setReg]

theorem State.reg_setReg_ne (s : State) {d e ty inst off y i o v : Nat} (h : regKey y i o ≠ regKey ty inst off) :
    (s.setReg d ty inst off v).reg e y i o = s.reg e y i o := by
  simp only [State.reg, State.setReg]
  rw [nget_nput_ne_default _ _ _ _ h]

/-- Pages and offsets in their ranges have keys of their own. -/
theorem regKey_inj {ty inst off y i o : Nat} (h1 : inst < 1024) (h2 : i < 1024) (h3 : off < 4096) (h4 : o < 4096) :
    regKey ty inst off = regKey y i o ↔ ty = y ∧ inst = i ∧ off = o := by
  unfold regKey
  constructor
  · intro h
    refine ⟨?_, ?_, ?_⟩ <;> omega
  · rintro ⟨rfl, rfl, rfl⟩; rfl

theorem State.reg_lt (s : State) (d ty inst off : Nat) : s.reg d ty inst off < 2 ^ 64 := BitVec.isLt _

/-- One byte of the process image after a write of `n` bytes at `a`: the byte written, or what was there. -/
theorem memGet_memPut (m : List Host.Cell) (a x : Nat) (b : Byte) :
    memGet (memPut m a b) x = if x = a then b else memGet m x := nget_nput ..

theorem memGet_memWrite_ne (m : List Host.Cell) (a v n x : Nat) (h : x < a ∨ a + n ≤ x) :
    memGet (memWrite m a v n) x = memGet m x := by
  induction n generalizing m a v with
  | zero => rfl
  | succ n ih =>
    unfold memWrite
    rw [ih _ _ _ (by omega), memGet_memPut, if_neg (by omega)]

theorem memRead_congr {m m' : List Host.Cell} {a n : Nat} (h : ∀ x, a ≤ x → x < a + n → memGet m' x = memGet m x) :
    memRead m' a n = memRead m a n := by
  induction n generalizing a with
  | zero => rfl
  | succ n ih =>
    unfold memRead
    rw [h a (by omega) (by omega), ih (fun x h1 h2 => h x (by omega) (by omega))]

theorem memRead_memWrite (m : List Host.Cell) (a v n : Nat) : memRead (memWrite m a v n) a n = v % 256 ^ n := by
  induction n generalizing m a v with
  | zero => simp [memRead, Nat.mod_one]
  | succ n ih =>
    unfold memWrite memRead
    rw [ih, memGet_memWrite_ne _ _ _ _ _ (by omega), memGet_memPut, if_pos rfl, Nat.pow_succ, Nat.mul_comm (256 ^ n),
      Nat.mod_mul]
    simp

/-- A record read back after it was stored as one unit (R223). -/
@[simp] theorem State.record_setRecord (s : State) (p w : Nat) : (s.setRecord p w).record p = w % 2 ^ 64 := by
  have e : (256 : Nat) ^ 8 = 2 ^ 64 := by decide
  exact (memRead_memWrite ..).trans (by rw [e])

theorem State.record_setRecord_ne (s : State) {p q : Nat} (w : Nat) (h : q ≠ p) : (s.setRecord p w).record q = s.record q := by
  simp only [State.record, State.setRecord]
  exact memRead_congr (fun x h1 h2 => memGet_memWrite_ne _ _ _ _ _ (by omega))

end Sys2Proof.Machine
end

