-- ==== Sys2Proof/Laws/Ops.lean ====
section
/-!
SUPPORT. Laws of the shared operations: what an error bit, an interrupt source, an event, an output, a completion and a
handle leave alone, and what they do.
-/

set_option Elab.async false
namespace Sys2Proof.Machine

/-! ### out -/

@[simp] theorem out_pending (s : State) (o0 : Output) : (out o0 s).pending = s.pending :=
  (out_keeps (V := 844424930131968) rfl (.refl _ s)).queue
@[simp] theorem out_tiles (s : State) (o0 : Output) : (out o0 s).tiles = s.tiles :=
  (out_keeps (V := 844424930131968) rfl (.refl _ s)).tiles
@[simp] theorem out_time (s : State) (o0 : Output) : (out o0 s).time = s.time :=
  (out_keeps (V := 844424930131968) rfl (.refl _ s)).frame .time rfl
@[simp] theorem out_regs (s : State) (o0 : Output) : (out o0 s).regs = s.regs :=
  (out_keeps (V := 844424930131968) rfl (.refl _ s)).frame .regs rfl
@[simp] theorem out_stored (s : State) (o0 : Output) : (out o0 s).stored = s.stored :=
  (out_keeps (V := 844424930131968) rfl (.refl _ s)).frame .stored rfl
@[simp] theorem out_fns (s : State) (o0 : Output) : (out o0 s).fns = s.fns :=
  (out_keeps (V := 844424930131968) rfl (.refl _ s)).frame .fns rfl
@[simp] theorem out_ports (s : State) (o0 : Output) : (out o0 s).ports = s.ports :=
  (out_keeps (V := 844424930131968) rfl (.refl _ s)).frame .ports rfl
@[simp] theorem out_nodes (s : State) (o0 : Output) : (out o0 s).nodes = s.nodes :=
  (out_keeps (V := 844424930131968) rfl (.refl _ s)).frame .nodes rfl
@[simp] theorem out_plans (s : State) (o0 : Output) : (out o0 s).plans = s.plans :=
  (out_keeps (V := 844424930131968) rfl (.refl _ s)).frame .plans rfl
@[simp] theorem out_lists (s : State) (o0 : Output) : (out o0 s).lists = s.lists :=
  (out_keeps (V := 844424930131968) rfl (.refl _ s)).frame .lists rfl
@[simp] theorem out_pim (s : State) (o0 : Output) : (out o0 s).pim = s.pim :=
  (out_keeps (V := 844424930131968) rfl (.refl _ s)).frame .pim rfl
@[simp] theorem out_owners (s : State) (o0 : Output) : (out o0 s).owners = s.owners :=
  (out_keeps (V := 844424930131968) rfl (.refl _ s)).frame .owners rfl
@[simp] theorem out_points (s : State) (o0 : Output) : (out o0 s).points = s.points :=
  (out_keeps (V := 844424930131968) rfl (.refl _ s)).frame .points rfl
@[simp] theorem out_grants (s : State) (o0 : Output) : (out o0 s).grants = s.grants :=
  (out_keeps (V := 844424930131968) rfl (.refl _ s)).frame .grants rfl
@[simp] theorem out_rules (s : State) (o0 : Output) : (out o0 s).rules = s.rules :=
  (out_keeps (V := 844424930131968) rfl (.refl _ s)).frame .rules rfl
@[simp] theorem out_remote (s : State) (o0 : Output) : (out o0 s).remote = s.remote :=
  (out_keeps (V := 844424930131968) rfl (.refl _ s)).frame .remote rfl
@[simp] theorem out_copies (s : State) (o0 : Output) : (out o0 s).copies = s.copies :=
  (out_keeps (V := 844424930131968) rfl (.refl _ s)).frame .copies rfl
@[simp] theorem out_unseen (s : State) (o0 : Output) : (out o0 s).unseen = s.unseen :=
  (out_keeps (V := 844424930131968) rfl (.refl _ s)).frame .unseen rfl
@[simp] theorem out_bridge (s : State) (o0 : Output) : (out o0 s).bridge = s.bridge :=
  (out_keeps (V := 844424930131968) rfl (.refl _ s)).frame .bridge rfl
@[simp] theorem out_chans (s : State) (o0 : Output) : (out o0 s).chans = s.chans :=
  (out_keeps (V := 844424930131968) rfl (.refl _ s)).frame .chans rfl
@[simp] theorem out_nonces (s : State) (o0 : Output) : (out o0 s).nonces = s.nonces :=
  (out_keeps (V := 844424930131968) rfl (.refl _ s)).frame .nonces rfl
@[simp] theorem out_quar (s : State) (o0 : Output) : (out o0 s).quar = s.quar :=
  (out_keeps (V := 844424930131968) rfl (.refl _ s)).frame .quar rfl
@[simp] theorem out_policy (s : State) (o0 : Output) : (out o0 s).policy = s.policy :=
  (out_keeps (V := 844424930131968) rfl (.refl _ s)).frame .policy rfl
@[simp] theorem out_journal (s : State) (o0 : Output) : (out o0 s).journal = s.journal :=
  (out_keeps (V := 844424930131968) rfl (.refl _ s)).frame .journal rfl
@[simp] theorem out_half0 (s : State) (o0 : Output) : (out o0 s).half0 = s.half0 :=
  (out_keeps (V := 844424930131968) rfl (.refl _ s)).frame .half0 rfl
@[simp] theorem out_half1 (s : State) (o0 : Output) : (out o0 s).half1 = s.half1 :=
  (out_keeps (V := 844424930131968) rfl (.refl _ s)).frame .half1 rfl
@[simp] theorem out_half (s : State) (o0 : Output) : (out o0 s).half = s.half :=
  (out_keeps (V := 844424930131968) rfl (.refl _ s)).frame .half rfl
@[simp] theorem out_fw (s : State) (o0 : Output) : (out o0 s).fw = s.fw :=
  (out_keeps (V := 844424930131968) rfl (.refl _ s)).frame .fw rfl
@[simp] theorem out_mgt (s : State) (o0 : Output) : (out o0 s).mgt = s.mgt :=
  (out_keeps (V := 844424930131968) rfl (.refl _ s)).frame .mgt rfl
@[simp] theorem out_jtag (s : State) (o0 : Output) : (out o0 s).jtag = s.jtag :=
  (out_keeps (V := 844424930131968) rfl (.refl _ s)).frame .jtag rfl
@[simp] theorem out_pins (s : State) (o0 : Output) : (out o0 s).pins = s.pins :=
  (out_keeps (V := 844424930131968) rfl (.refl _ s)).frame .pins rfl
@[simp] theorem out_boot (s : State) (o0 : Output) : (out o0 s).boot = s.boot :=
  (out_keeps (V := 844424930131968) rfl (.refl _ s)).frame .boot rfl
@[simp] theorem out_chg (s : State) (o0 : Output) : (out o0 s).chg = s.chg :=
  (out_keeps (V := 844424930131968) rfl (.refl _ s)).frame .chg rfl
@[simp] theorem out_tile (s : State) (o0 : Output) : (out o0 s).tile = s.tile :=
  (out_keeps (V := 844424930131968) rfl (.refl _ s)).frame .tile rfl
@[simp] theorem out_mesh (s : State) (o0 : Output) : (out o0 s).mesh = s.mesh :=
  (out_keeps (V := 844424930131968) rfl (.refl _ s)).frame .mesh rfl
@[simp] theorem out_meshFails (s : State) (o0 : Output) : (out o0 s).meshFails = s.meshFails :=
  (out_keeps (V := 844424930131968) rfl (.refl _ s)).frame .meshFails rfl
@[simp] theorem out_ready (s : State) (o0 : Output) : (out o0 s).ready = s.ready :=
  (out_keeps (V := 844424930131968) rfl (.refl _ s)).frame .ready rfl
@[simp] theorem out_link (s : State) (o0 : Output) : (out o0 s).link = s.link :=
  (out_keeps (V := 844424930131968) rfl (.refl _ s)).frame .link rfl
@[simp] theorem out_vfEnable (s : State) (o0 : Output) : (out o0 s).vfEnable = s.vfEnable :=
  (out_keeps (V := 844424930131968) rfl (.refl _ s)).frame .vfEnable rfl
@[simp] theorem out_vfMse (s : State) (o0 : Output) : (out o0 s).vfMse = s.vfMse :=
  (out_keeps (V := 844424930131968) rfl (.refl _ s)).frame .vfMse rfl
@[simp] theorem out_numVfs (s : State) (o0 : Output) : (out o0 s).numVfs = s.numVfs :=
  (out_keeps (V := 844424930131968) rfl (.refl _ s)).frame .numVfs rfl
@[simp] theorem out_ari (s : State) (o0 : Output) : (out o0 s).ari = s.ari :=
  (out_keeps (V := 844424930131968) rfl (.refl _ s)).frame .ari rfl
@[simp] theorem out_stamp (s : State) (o0 : Output) : (out o0 s).stamp = s.stamp :=
  (out_keeps (V := 844424930131968) rfl (.refl _ s)).frame .stamp rfl
@[simp] theorem out_stage (s : State) (o0 : Output) : (out o0 s).stage = s.stage :=
  (out_keeps (V := 844424930131968) rfl (.refl _ s)).frame .stage rfl
@[simp] theorem out_lastCancel (s : State) (o0 : Output) : (out o0 s).lastCancel = s.lastCancel :=
  (out_keeps (V := 844424930131968) rfl (.refl _ s)).frame .lastCancel rfl
@[simp] theorem out_stopping (s : State) (o0 : Output) : (out o0 s).stopping = s.stopping :=
  (out_keeps (V := 844424930131968) rfl (.refl _ s)).frame .stopping rfl
@[simp] theorem out_xogate (s : State) (o0 : Output) : (out o0 s).xogate = s.xogate :=
  (out_keeps (V := 844424930131968) rfl (.refl _ s)).frame .xogate rfl
@[simp] theorem out_evHeld (s : State) (o0 : Output) : (out o0 s).evHeld = s.evHeld :=
  (out_keeps (V := 844424930131968) rfl (.refl _ s)).frame .evHeld rfl
@[simp] theorem out_accepts (s : State) (o0 : Output) : (out o0 s).accepts = s.accepts :=
  (out_keeps (V := 844424930131968) rfl (.refl _ s)).frame .accepts rfl
@[simp] theorem out_free (s : State) (o0 : Output) : (out o0 s).free = s.free :=
  (out_keeps (V := 844424930131968) rfl (.refl _ s)).frame .free rfl
@[simp] theorem out_fn_of (s : State) (o0 : Output) (i : Nat) : (out o0 s).fn i = s.fn i := by
  simp only [State.fn, out_fns]
@[simp] theorem out_port_of (s : State) (o0 : Output) (i : Nat) : (out o0 s).port i = s.port i := by
  simp only [State.port, out_ports]
@[simp] theorem out_node_of (s : State) (o0 : Output) (i j : Nat) : (out o0 s).node i j = s.node i j := by
  simp only [State.node, out_nodes]
@[simp] theorem out_tl_of (s : State) (o0 : Output) (i : Nat) : (out o0 s).tl i = s.tl i := by
  simp only [State.tl, out_tile]
@[simp] theorem out_plan_of (s : State) (o0 : Output) (i : Nat) : (out o0 s).plan i = s.plan i := by
  simp only [State.plan, out_plans]
@[simp] theorem out_list_of (s : State) (o0 : Output) (i j : Nat) : (out o0 s).list i j = s.list i j := by
  simp only [State.list, out_lists]
@[simp] theorem out_chan_of (s : State) (o0 : Output) (i : Nat) : (out o0 s).chan i = s.chan i := by
  simp only [State.chan, out_chans]
@[simp] theorem out_point_of (s : State) (o0 : Output) (i : Nat) : (out o0 s).point i = s.point i := by
  simp only [State.point, out_points]
@[simp] theorem out_record_of (s : State) (o0 : Output) (i : Nat) : (out o0 s).record i = s.record i := by
  simp only [State.record, out_pim]
@[simp] theorem out_reg_of (s : State) (o0 : Output) (e y i o : Nat) : (out o0 s).reg e y i o = s.reg e y i o := by
  simp only [State.reg, out_regs]
@[simp] theorem out_hasTile_of (s : State) (o0 : Output) (i : Nat) : (out o0 s).hasTile i = s.hasTile i := by
  simp only [State.hasTile, out_tiles]
@[simp] theorem out_hasPort_of (s : State) (o0 : Output) (i : Nat) : (out o0 s).hasPort i = s.hasPort i :=
  congrArg (fun n => decide (i < 16 * n)) (out_tiles ..)

/-! ### raiseNorm -/

@[simp] theorem raiseNorm_pending (s : State) (f : Nat) (src : Nat) : (raiseNorm f src s).pending = s.pending :=
  (raiseNorm_keeps (V := 8) rfl (.refl _ s)).queue
@[simp] theorem raiseNorm_tiles (s : State) (f : Nat) (src : Nat) : (raiseNorm f src s).tiles = s.tiles :=
  (raiseNorm_keeps (V := 8) rfl (.refl _ s)).tiles
@[simp] theorem raiseNorm_time (s : State) (f : Nat) (src : Nat) : (raiseNorm f src s).time = s.time :=
  (raiseNorm_keeps (V := 8) rfl (.refl _ s)).frame .time rfl
@[simp] theorem raiseNorm_regs (s : State) (f : Nat) (src : Nat) : (raiseNorm f src s).regs = s.regs :=
  (raiseNorm_keeps (V := 8) rfl (.refl _ s)).frame .regs rfl
@[simp] theorem raiseNorm_stored (s : State) (f : Nat) (src : Nat) : (raiseNorm f src s).stored = s.stored :=
  (raiseNorm_keeps (V := 8) rfl (.refl _ s)).frame .stored rfl
@[simp] theorem raiseNorm_ports (s : State) (f : Nat) (src : Nat) : (raiseNorm f src s).ports = s.ports :=
  (raiseNorm_keeps (V := 8) rfl (.refl _ s)).frame .ports rfl
@[simp] theorem raiseNorm_nodes (s : State) (f : Nat) (src : Nat) : (raiseNorm f src s).nodes = s.nodes :=
  (raiseNorm_keeps (V := 8) rfl (.refl _ s)).frame .nodes rfl
@[simp] theorem raiseNorm_plans (s : State) (f : Nat) (src : Nat) : (raiseNorm f src s).plans = s.plans :=
  (raiseNorm_keeps (V := 8) rfl (.refl _ s)).frame .plans rfl
@[simp] theorem raiseNorm_lists (s : State) (f : Nat) (src : Nat) : (raiseNorm f src s).lists = s.lists :=
  (raiseNorm_keeps (V := 8) rfl (.refl _ s)).frame .lists rfl
@[simp] theorem raiseNorm_pim (s : State) (f : Nat) (src : Nat) : (raiseNorm f src s).pim = s.pim :=
  (raiseNorm_keeps (V := 8) rfl (.refl _ s)).frame .pim rfl
@[simp] theorem raiseNorm_owners (s : State) (f : Nat) (src : Nat) : (raiseNorm f src s).owners = s.owners :=
  (raiseNorm_keeps (V := 8) rfl (.refl _ s)).frame .owners rfl
@[simp] theorem raiseNorm_points (s : State) (f : Nat) (src : Nat) : (raiseNorm f src s).points = s.points :=
  (raiseNorm_keeps (V := 8) rfl (.refl _ s)).frame .points rfl
@[simp] theorem raiseNorm_grants (s : State) (f : Nat) (src : Nat) : (raiseNorm f src s).grants = s.grants :=
  (raiseNorm_keeps (V := 8) rfl (.refl _ s)).frame .grants rfl
@[simp] theorem raiseNorm_rules (s : State) (f : Nat) (src : Nat) : (raiseNorm f src s).rules = s.rules :=
  (raiseNorm_keeps (V := 8) rfl (.refl _ s)).frame .rules rfl
@[simp] theorem raiseNorm_remote (s : State) (f : Nat) (src : Nat) : (raiseNorm f src s).remote = s.remote :=
  (raiseNorm_keeps (V := 8) rfl (.refl _ s)).frame .remote rfl
@[simp] theorem raiseNorm_copies (s : State) (f : Nat) (src : Nat) : (raiseNorm f src s).copies = s.copies :=
  (raiseNorm_keeps (V := 8) rfl (.refl _ s)).frame .copies rfl
@[simp] theorem raiseNorm_unseen (s : State) (f : Nat) (src : Nat) : (raiseNorm f src s).unseen = s.unseen :=
  (raiseNorm_keeps (V := 8) rfl (.refl _ s)).frame .unseen rfl
@[simp] theorem raiseNorm_bridge (s : State) (f : Nat) (src : Nat) : (raiseNorm f src s).bridge = s.bridge :=
  (raiseNorm_keeps (V := 8) rfl (.refl _ s)).frame .bridge rfl
@[simp] theorem raiseNorm_chans (s : State) (f : Nat) (src : Nat) : (raiseNorm f src s).chans = s.chans :=
  (raiseNorm_keeps (V := 8) rfl (.refl _ s)).frame .chans rfl
@[simp] theorem raiseNorm_nonces (s : State) (f : Nat) (src : Nat) : (raiseNorm f src s).nonces = s.nonces :=
  (raiseNorm_keeps (V := 8) rfl (.refl _ s)).frame .nonces rfl
@[simp] theorem raiseNorm_quar (s : State) (f : Nat) (src : Nat) : (raiseNorm f src s).quar = s.quar :=
  (raiseNorm_keeps (V := 8) rfl (.refl _ s)).frame .quar rfl
@[simp] theorem raiseNorm_policy (s : State) (f : Nat) (src : Nat) : (raiseNorm f src s).policy = s.policy :=
  (raiseNorm_keeps (V := 8) rfl (.refl _ s)).frame .policy rfl
@[simp] theorem raiseNorm_journal (s : State) (f : Nat) (src : Nat) : (raiseNorm f src s).journal = s.journal :=
  (raiseNorm_keeps (V := 8) rfl (.refl _ s)).frame .journal rfl
@[simp] theorem raiseNorm_half0 (s : State) (f : Nat) (src : Nat) : (raiseNorm f src s).half0 = s.half0 :=
  (raiseNorm_keeps (V := 8) rfl (.refl _ s)).frame .half0 rfl
@[simp] theorem raiseNorm_half1 (s : State) (f : Nat) (src : Nat) : (raiseNorm f src s).half1 = s.half1 :=
  (raiseNorm_keeps (V := 8) rfl (.refl _ s)).frame .half1 rfl
@[simp] theorem raiseNorm_half (s : State) (f : Nat) (src : Nat) : (raiseNorm f src s).half = s.half :=
  (raiseNorm_keeps (V := 8) rfl (.refl _ s)).frame .half rfl
@[simp] theorem raiseNorm_fw (s : State) (f : Nat) (src : Nat) : (raiseNorm f src s).fw = s.fw :=
  (raiseNorm_keeps (V := 8) rfl (.refl _ s)).frame .fw rfl
@[simp] theorem raiseNorm_mgt (s : State) (f : Nat) (src : Nat) : (raiseNorm f src s).mgt = s.mgt :=
  (raiseNorm_keeps (V := 8) rfl (.refl _ s)).frame .mgt rfl
@[simp] theorem raiseNorm_jtag (s : State) (f : Nat) (src : Nat) : (raiseNorm f src s).jtag = s.jtag :=
  (raiseNorm_keeps (V := 8) rfl (.refl _ s)).frame .jtag rfl
@[simp] theorem raiseNorm_pins (s : State) (f : Nat) (src : Nat) : (raiseNorm f src s).pins = s.pins :=
  (raiseNorm_keeps (V := 8) rfl (.refl _ s)).frame .pins rfl
@[simp] theorem raiseNorm_boot (s : State) (f : Nat) (src : Nat) : (raiseNorm f src s).boot = s.boot :=
  (raiseNorm_keeps (V := 8) rfl (.refl _ s)).frame .boot rfl
@[simp] theorem raiseNorm_chg (s : State) (f : Nat) (src : Nat) : (raiseNorm f src s).chg = s.chg :=
  (raiseNorm_keeps (V := 8) rfl (.refl _ s)).frame .chg rfl
@[simp] theorem raiseNorm_tile (s : State) (f : Nat) (src : Nat) : (raiseNorm f src s).tile = s.tile :=
  (raiseNorm_keeps (V := 8) rfl (.refl _ s)).frame .tile rfl
@[simp] theorem raiseNorm_mesh (s : State) (f : Nat) (src : Nat) : (raiseNorm f src s).mesh = s.mesh :=
  (raiseNorm_keeps (V := 8) rfl (.refl _ s)).frame .mesh rfl
@[simp] theorem raiseNorm_meshFails (s : State) (f : Nat) (src : Nat) : (raiseNorm f src s).meshFails = s.meshFails :=
  (raiseNorm_keeps (V := 8) rfl (.refl _ s)).frame .meshFails rfl
@[simp] theorem raiseNorm_ready (s : State) (f : Nat) (src : Nat) : (raiseNorm f src s).ready = s.ready :=
  (raiseNorm_keeps (V := 8) rfl (.refl _ s)).frame .ready rfl
@[simp] theorem raiseNorm_link (s : State) (f : Nat) (src : Nat) : (raiseNorm f src s).link = s.link :=
  (raiseNorm_keeps (V := 8) rfl (.refl _ s)).frame .link rfl
@[simp] theorem raiseNorm_vfEnable (s : State) (f : Nat) (src : Nat) : (raiseNorm f src s).vfEnable = s.vfEnable :=
  (raiseNorm_keeps (V := 8) rfl (.refl _ s)).frame .vfEnable rfl
@[simp] theorem raiseNorm_vfMse (s : State) (f : Nat) (src : Nat) : (raiseNorm f src s).vfMse = s.vfMse :=
  (raiseNorm_keeps (V := 8) rfl (.refl _ s)).frame .vfMse rfl
@[simp] theorem raiseNorm_numVfs (s : State) (f : Nat) (src : Nat) : (raiseNorm f src s).numVfs = s.numVfs :=
  (raiseNorm_keeps (V := 8) rfl (.refl _ s)).frame .numVfs rfl
@[simp] theorem raiseNorm_ari (s : State) (f : Nat) (src : Nat) : (raiseNorm f src s).ari = s.ari :=
  (raiseNorm_keeps (V := 8) rfl (.refl _ s)).frame .ari rfl
@[simp] theorem raiseNorm_stamp (s : State) (f : Nat) (src : Nat) : (raiseNorm f src s).stamp = s.stamp :=
  (raiseNorm_keeps (V := 8) rfl (.refl _ s)).frame .stamp rfl
@[simp] theorem raiseNorm_stage (s : State) (f : Nat) (src : Nat) : (raiseNorm f src s).stage = s.stage :=
  (raiseNorm_keeps (V := 8) rfl (.refl _ s)).frame .stage rfl
@[simp] theorem raiseNorm_lastCancel (s : State) (f : Nat) (src : Nat) : (raiseNorm f src s).lastCancel = s.lastCancel :=
  (raiseNorm_keeps (V := 8) rfl (.refl _ s)).frame .lastCancel rfl
@[simp] theorem raiseNorm_stopping (s : State) (f : Nat) (src : Nat) : (raiseNorm f src s).stopping = s.stopping :=
  (raiseNorm_keeps (V := 8) rfl (.refl _ s)).frame .stopping rfl
@[simp] theorem raiseNorm_xogate (s : State) (f : Nat) (src : Nat) : (raiseNorm f src s).xogate = s.xogate :=
  (raiseNorm_keeps (V := 8) rfl (.refl _ s)).frame .xogate rfl
@[simp] theorem raiseNorm_evHeld (s : State) (f : Nat) (src : Nat) : (raiseNorm f src s).evHeld = s.evHeld :=
  (raiseNorm_keeps (V := 8) rfl (.refl _ s)).frame .evHeld rfl
@[simp] theorem raiseNorm_accepts (s : State) (f : Nat) (src : Nat) : (raiseNorm f src s).accepts = s.accepts :=
  (raiseNorm_keeps (V := 8) rfl (.refl _ s)).frame .accepts rfl
@[simp] theorem raiseNorm_free (s : State) (f : Nat) (src : Nat) : (raiseNorm f src s).free = s.free :=
  (raiseNorm_keeps (V := 8) rfl (.refl _ s)).frame .free rfl
@[simp] theorem raiseNorm_tlpHeld (s : State) (f : Nat) (src : Nat) : (raiseNorm f src s).tlpHeld = s.tlpHeld :=
  (raiseNorm_keeps (V := 8) rfl (.refl _ s)).frame .tlpHeld rfl
@[simp] theorem raiseNorm_wire (s : State) (f : Nat) (src : Nat) : (raiseNorm f src s).wire = s.wire :=
  (raiseNorm_keeps (V := 8) rfl (.refl _ s)).frame .wire rfl
@[simp] theorem raiseNorm_port_of (s : State) (f : Nat) (src : Nat) (i : Nat) : (raiseNorm f src s).port i = s.port i := by
  simp only [State.port, raiseNorm_ports]
@[simp] theorem raiseNorm_node_of (s : State) (f : Nat) (src : Nat) (i j : Nat) : (raiseNorm f src s).node i j = s.node i j := by
  simp only [State.node, raiseNorm_nodes]
@[simp] theorem raiseNorm_tl_of (s : State) (f : Nat) (src : Nat) (i : Nat) : (raiseNorm f src s).tl i = s.tl i := by
  simp only [State.tl, raiseNorm_tile]
@[simp] theorem raiseNorm_plan_of (s : State) (f : Nat) (src : Nat) (i : Nat) : (raiseNorm f src s).plan i = s.plan i := by
  simp only [State.plan, raiseNorm_plans]
@[simp] theorem raiseNorm_list_of (s : State) (f : Nat) (src : Nat) (i j : Nat) : (raiseNorm f src s).list i j = s.list i j := by
  simp only [State.list, raiseNorm_lists]
@[simp] theorem raiseNorm_chan_of (s : State) (f : Nat) (src : Nat) (i : Nat) : (raiseNorm f src s).chan i = s.chan i := by
  simp only [State.chan, raiseNorm_chans]
@[simp] theorem raiseNorm_point_of (s : State) (f : Nat) (src : Nat) (i : Nat) : (raiseNorm f src s).point i = s.point i := by
  simp only [State.point, raiseNorm_points]
@[simp] theorem raiseNorm_record_of (s : State) (f : Nat) (src : Nat) (i : Nat) : (raiseNorm f src s).record i = s.record i := by
  simp only [State.record, raiseNorm_pim]
@[simp] theorem raiseNorm_reg_of (s : State) (f : Nat) (src : Nat) (e y i o : Nat) : (raiseNorm f src s).reg e y i o = s.reg e y i o := by
  simp only [State.reg, raiseNorm_regs]
@[simp] theorem raiseNorm_hasTile_of (s : State) (f : Nat) (src : Nat) (i : Nat) : (raiseNorm f src s).hasTile i = s.hasTile i := by
  simp only [State.hasTile, raiseNorm_tiles]
@[simp] theorem raiseNorm_hasPort_of (s : State) (f : Nat) (src : Nat) (i : Nat) : (raiseNorm f src s).hasPort i = s.hasPort i :=
  congrArg (fun n => decide (i < 16 * n)) (raiseNorm_tiles ..)

/-! ### setErr -/

@[simp] theorem setErr_pending (s : State) (ty : Nat) (inst : Nat) (b : Nat) : (setErr ty inst b s).pending = s.pending :=
  (setErr_keeps (V := 10) rfl (.refl _ s)).queue
@[simp] theorem setErr_tiles (s : State) (ty : Nat) (inst : Nat) (b : Nat) : (setErr ty inst b s).tiles = s.tiles :=
  (setErr_keeps (V := 10) rfl (.refl _ s)).tiles
@[simp] theorem setErr_time (s : State) (ty : Nat) (inst : Nat) (b : Nat) : (setErr ty inst b s).time = s.time :=
  (setErr_keeps (V := 10) rfl (.refl _ s)).frame .time rfl
@[simp] theorem setErr_stored (s : State) (ty : Nat) (inst : Nat) (b : Nat) : (setErr ty inst b s).stored = s.stored :=
  (setErr_keeps (V := 10) rfl (.refl _ s)).frame .stored rfl
@[simp] theorem setErr_ports (s : State) (ty : Nat) (inst : Nat) (b : Nat) : (setErr ty inst b s).ports = s.ports :=
  (setErr_keeps (V := 10) rfl (.refl _ s)).frame .ports rfl
@[simp] theorem setErr_nodes (s : State) (ty : Nat) (inst : Nat) (b : Nat) : (setErr ty inst b s).nodes = s.nodes :=
  (setErr_keeps (V := 10) rfl (.refl _ s)).frame .nodes rfl
@[simp] theorem setErr_plans (s : State) (ty : Nat) (inst : Nat) (b : Nat) : (setErr ty inst b s).plans = s.plans :=
  (setErr_keeps (V := 10) rfl (.refl _ s)).frame .plans rfl
@[simp] theorem setErr_lists (s : State) (ty : Nat) (inst : Nat) (b : Nat) : (setErr ty inst b s).lists = s.lists :=
  (setErr_keeps (V := 10) rfl (.refl _ s)).frame .lists rfl
@[simp] theorem setErr_pim (s : State) (ty : Nat) (inst : Nat) (b : Nat) : (setErr ty inst b s).pim = s.pim :=
  (setErr_keeps (V := 10) rfl (.refl _ s)).frame .pim rfl
@[simp] theorem setErr_owners (s : State) (ty : Nat) (inst : Nat) (b : Nat) : (setErr ty inst b s).owners = s.owners :=
  (setErr_keeps (V := 10) rfl (.refl _ s)).frame .owners rfl
@[simp] theorem setErr_points (s : State) (ty : Nat) (inst : Nat) (b : Nat) : (setErr ty inst b s).points = s.points :=
  (setErr_keeps (V := 10) rfl (.refl _ s)).frame .points rfl
@[simp] theorem setErr_grants (s : State) (ty : Nat) (inst : Nat) (b : Nat) : (setErr ty inst b s).grants = s.grants :=
  (setErr_keeps (V := 10) rfl (.refl _ s)).frame .grants rfl
@[simp] theorem setErr_rules (s : State) (ty : Nat) (inst : Nat) (b : Nat) : (setErr ty inst b s).rules = s.rules :=
  (setErr_keeps (V := 10) rfl (.refl _ s)).frame .rules rfl
@[simp] theorem setErr_remote (s : State) (ty : Nat) (inst : Nat) (b : Nat) : (setErr ty inst b s).remote = s.remote :=
  (setErr_keeps (V := 10) rfl (.refl _ s)).frame .remote rfl
@[simp] theorem setErr_copies (s : State) (ty : Nat) (inst : Nat) (b : Nat) : (setErr ty inst b s).copies = s.copies :=
  (setErr_keeps (V := 10) rfl (.refl _ s)).frame .copies rfl
@[simp] theorem setErr_unseen (s : State) (ty : Nat) (inst : Nat) (b : Nat) : (setErr ty inst b s).unseen = s.unseen :=
  (setErr_keeps (V := 10) rfl (.refl _ s)).frame .unseen rfl
@[simp] theorem setErr_bridge (s : State) (ty : Nat) (inst : Nat) (b : Nat) : (setErr ty inst b s).bridge = s.bridge :=
  (setErr_keeps (V := 10) rfl (.refl _ s)).frame .bridge rfl
@[simp] theorem setErr_chans (s : State) (ty : Nat) (inst : Nat) (b : Nat) : (setErr ty inst b s).chans = s.chans :=
  (setErr_keeps (V := 10) rfl (.refl _ s)).frame .chans rfl
@[simp] theorem setErr_nonces (s : State) (ty : Nat) (inst : Nat) (b : Nat) : (setErr ty inst b s).nonces = s.nonces :=
  (setErr_keeps (V := 10) rfl (.refl _ s)).frame .nonces rfl
@[simp] theorem setErr_quar (s : State) (ty : Nat) (inst : Nat) (b : Nat) : (setErr ty inst b s).quar = s.quar :=
  (setErr_keeps (V := 10) rfl (.refl _ s)).frame .quar rfl
@[simp] theorem setErr_policy (s : State) (ty : Nat) (inst : Nat) (b : Nat) : (setErr ty inst b s).policy = s.policy :=
  (setErr_keeps (V := 10) rfl (.refl _ s)).frame .policy rfl
@[simp] theorem setErr_journal (s : State) (ty : Nat) (inst : Nat) (b : Nat) : (setErr ty inst b s).journal = s.journal :=
  (setErr_keeps (V := 10) rfl (.refl _ s)).frame .journal rfl
@[simp] theorem setErr_half0 (s : State) (ty : Nat) (inst : Nat) (b : Nat) : (setErr ty inst b s).half0 = s.half0 :=
  (setErr_keeps (V := 10) rfl (.refl _ s)).frame .half0 rfl
@[simp] theorem setErr_half1 (s : State) (ty : Nat) (inst : Nat) (b : Nat) : (setErr ty inst b s).half1 = s.half1 :=
  (setErr_keeps (V := 10) rfl (.refl _ s)).frame .half1 rfl
@[simp] theorem setErr_half (s : State) (ty : Nat) (inst : Nat) (b : Nat) : (setErr ty inst b s).half = s.half :=
  (setErr_keeps (V := 10) rfl (.refl _ s)).frame .half rfl
@[simp] theorem setErr_fw (s : State) (ty : Nat) (inst : Nat) (b : Nat) : (setErr ty inst b s).fw = s.fw :=
  (setErr_keeps (V := 10) rfl (.refl _ s)).frame .fw rfl
@[simp] theorem setErr_mgt (s : State) (ty : Nat) (inst : Nat) (b : Nat) : (setErr ty inst b s).mgt = s.mgt :=
  (setErr_keeps (V := 10) rfl (.refl _ s)).frame .mgt rfl
@[simp] theorem setErr_jtag (s : State) (ty : Nat) (inst : Nat) (b : Nat) : (setErr ty inst b s).jtag = s.jtag :=
  (setErr_keeps (V := 10) rfl (.refl _ s)).frame .jtag rfl
@[simp] theorem setErr_pins (s : State) (ty : Nat) (inst : Nat) (b : Nat) : (setErr ty inst b s).pins = s.pins :=
  (setErr_keeps (V := 10) rfl (.refl _ s)).frame .pins rfl
@[simp] theorem setErr_boot (s : State) (ty : Nat) (inst : Nat) (b : Nat) : (setErr ty inst b s).boot = s.boot :=
  (setErr_keeps (V := 10) rfl (.refl _ s)).frame .boot rfl
@[simp] theorem setErr_chg (s : State) (ty : Nat) (inst : Nat) (b : Nat) : (setErr ty inst b s).chg = s.chg :=
  (setErr_keeps (V := 10) rfl (.refl _ s)).frame .chg rfl
@[simp] theorem setErr_tile (s : State) (ty : Nat) (inst : Nat) (b : Nat) : (setErr ty inst b s).tile = s.tile :=
  (setErr_keeps (V := 10) rfl (.refl _ s)).frame .tile rfl
@[simp] theorem setErr_mesh (s : State) (ty : Nat) (inst : Nat) (b : Nat) : (setErr ty inst b s).mesh = s.mesh :=
  (setErr_keeps (V := 10) rfl (.refl _ s)).frame .mesh rfl
@[simp] theorem setErr_meshFails (s : State) (ty : Nat) (inst : Nat) (b : Nat) : (setErr ty inst b s).meshFails = s.meshFails :=
  (setErr_keeps (V := 10) rfl (.refl _ s)).frame .meshFails rfl
@[simp] theorem setErr_ready (s : State) (ty : Nat) (inst : Nat) (b : Nat) : (setErr ty inst b s).ready = s.ready :=
  (setErr_keeps (V := 10) rfl (.refl _ s)).frame .ready rfl
@[simp] theorem setErr_link (s : State) (ty : Nat) (inst : Nat) (b : Nat) : (setErr ty inst b s).link = s.link :=
  (setErr_keeps (V := 10) rfl (.refl _ s)).frame .link rfl
@[simp] theorem setErr_vfEnable (s : State) (ty : Nat) (inst : Nat) (b : Nat) : (setErr ty inst b s).vfEnable = s.vfEnable :=
  (setErr_keeps (V := 10) rfl (.refl _ s)).frame .vfEnable rfl
@[simp] theorem setErr_vfMse (s : State) (ty : Nat) (inst : Nat) (b : Nat) : (setErr ty inst b s).vfMse = s.vfMse :=
  (setErr_keeps (V := 10) rfl (.refl _ s)).frame .vfMse rfl
@[simp] theorem setErr_numVfs (s : State) (ty : Nat) (inst : Nat) (b : Nat) : (setErr ty inst b s).numVfs = s.numVfs :=
  (setErr_keeps (V := 10) rfl (.refl _ s)).frame .numVfs rfl
@[simp] theorem setErr_ari (s : State) (ty : Nat) (inst : Nat) (b : Nat) : (setErr ty inst b s).ari = s.ari :=
  (setErr_keeps (V := 10) rfl (.refl _ s)).frame .ari rfl
@[simp] theorem setErr_stamp (s : State) (ty : Nat) (inst : Nat) (b : Nat) : (setErr ty inst b s).stamp = s.stamp :=
  (setErr_keeps (V := 10) rfl (.refl _ s)).frame .stamp rfl
@[simp] theorem setErr_stage (s : State) (ty : Nat) (inst : Nat) (b : Nat) : (setErr ty inst b s).stage = s.stage :=
  (setErr_keeps (V := 10) rfl (.refl _ s)).frame .stage rfl
@[simp] theorem setErr_lastCancel (s : State) (ty : Nat) (inst : Nat) (b : Nat) : (setErr ty inst b s).lastCancel = s.lastCancel :=
  (setErr_keeps (V := 10) rfl (.refl _ s)).frame .lastCancel rfl
@[simp] theorem setErr_stopping (s : State) (ty : Nat) (inst : Nat) (b : Nat) : (setErr ty inst b s).stopping = s.stopping :=
  (setErr_keeps (V := 10) rfl (.refl _ s)).frame .stopping rfl
@[simp] theorem setErr_xogate (s : State) (ty : Nat) (inst : Nat) (b : Nat) : (setErr ty inst b s).xogate = s.xogate :=
  (setErr_keeps (V := 10) rfl (.refl _ s)).frame .xogate rfl
@[simp] theorem setErr_evHeld (s : State) (ty : Nat) (inst : Nat) (b : Nat) : (setErr ty inst b s).evHeld = s.evHeld :=
  (setErr_keeps (V := 10) rfl (.refl _ s)).frame .evHeld rfl
@[simp] theorem setErr_accepts (s : State) (ty : Nat) (inst : Nat) (b : Nat) : (setErr ty inst b s).accepts = s.accepts :=
  (setErr_keeps (V := 10) rfl (.refl _ s)).frame .accepts rfl
@[simp] theorem setErr_free (s : State) (ty : Nat) (inst : Nat) (b : Nat) : (setErr ty inst b s).free = s.free :=
  (setErr_keeps (V := 10) rfl (.refl _ s)).frame .free rfl
@[simp] theorem setErr_tlpHeld (s : State) (ty : Nat) (inst : Nat) (b : Nat) : (setErr ty inst b s).tlpHeld = s.tlpHeld :=
  (setErr_keeps (V := 10) rfl (.refl _ s)).frame .tlpHeld rfl
@[simp] theorem setErr_wire (s : State) (ty : Nat) (inst : Nat) (b : Nat) : (setErr ty inst b s).wire = s.wire :=
  (setErr_keeps (V := 10) rfl (.refl _ s)).frame .wire rfl
@[simp] theorem setErr_port_of (s : State) (ty : Nat) (inst : Nat) (b : Nat) (i : Nat) : (setErr ty inst b s).port i = s.port i := by
  simp only [State.port, setErr_ports]
@[simp] theorem setErr_node_of (s : State) (ty : Nat) (inst : Nat) (b : Nat) (i j : Nat) : (setErr ty inst b s).node i j = s.node i j := by
  simp only [State.node, setErr_nodes]
@[simp] theorem setErr_tl_of (s : State) (ty : Nat) (inst : Nat) (b : Nat) (i : Nat) : (setErr ty inst b s).tl i = s.tl i := by
  simp only [State.tl, setErr_tile]
@[simp] theorem setErr_plan_of (s : State) (ty : Nat) (inst : Nat) (b : Nat) (i : Nat) : (setErr ty inst b s).plan i = s.plan i := by
  simp only [State.plan, setErr_plans]
@[simp] theorem setErr_list_of (s : State) (ty : Nat) (inst : Nat) (b : Nat) (i j : Nat) : (setErr ty inst b s).list i j = s.list i j := by
  simp only [State.list, setErr_lists]
@[simp] theorem setErr_chan_of (s : State) (ty : Nat) (inst : Nat) (b : Nat) (i : Nat) : (setErr ty inst b s).chan i = s.chan i := by
  simp only [State.chan, setErr_chans]
@[simp] theorem setErr_point_of (s : State) (ty : Nat) (inst : Nat) (b : Nat) (i : Nat) : (setErr ty inst b s).point i = s.point i := by
  simp only [State.point, setErr_points]
@[simp] theorem setErr_record_of (s : State) (ty : Nat) (inst : Nat) (b : Nat) (i : Nat) : (setErr ty inst b s).record i = s.record i := by
  simp only [State.record, setErr_pim]
@[simp] theorem setErr_hasTile_of (s : State) (ty : Nat) (inst : Nat) (b : Nat) (i : Nat) : (setErr ty inst b s).hasTile i = s.hasTile i := by
  simp only [State.hasTile, setErr_tiles]
@[simp] theorem setErr_hasPort_of (s : State) (ty : Nat) (inst : Nat) (b : Nat) (i : Nat) : (setErr ty inst b s).hasPort i = s.hasPort i :=
  congrArg (fun n => decide (i < 16 * n)) (setErr_tiles ..)

/-! ### logClamp -/

@[simp] theorem logClamp_pending (s : State) (ty : Nat) (inst : Nat) (off : Nat) (b : Nat) : (logClamp ty inst off b s).pending = s.pending :=
  (logClamp_keeps (V := 2) rfl (.refl _ s)).queue
@[simp] theorem logClamp_tiles (s : State) (ty : Nat) (inst : Nat) (off : Nat) (b : Nat) : (logClamp ty inst off b s).tiles = s.tiles :=
  (logClamp_keeps (V := 2) rfl (.refl _ s)).tiles
@[simp] theorem logClamp_time (s : State) (ty : Nat) (inst : Nat) (off : Nat) (b : Nat) : (logClamp ty inst off b s).time = s.time :=
  (logClamp_keeps (V := 2) rfl (.refl _ s)).frame .time rfl
@[simp] theorem logClamp_stored (s : State) (ty : Nat) (inst : Nat) (off : Nat) (b : Nat) : (logClamp ty inst off b s).stored = s.stored :=
  (logClamp_keeps (V := 2) rfl (.refl _ s)).frame .stored rfl
@[simp] theorem logClamp_fns (s : State) (ty : Nat) (inst : Nat) (off : Nat) (b : Nat) : (logClamp ty inst off b s).fns = s.fns :=
  (logClamp_keeps (V := 2) rfl (.refl _ s)).frame .fns rfl
@[simp] theorem logClamp_ports (s : State) (ty : Nat) (inst : Nat) (off : Nat) (b : Nat) : (logClamp ty inst off b s).ports = s.ports :=
  (logClamp_keeps (V := 2) rfl (.refl _ s)).frame .ports rfl
@[simp] theorem logClamp_nodes (s : State) (ty : Nat) (inst : Nat) (off : Nat) (b : Nat) : (logClamp ty inst off b s).nodes = s.nodes :=
  (logClamp_keeps (V := 2) rfl (.refl _ s)).frame .nodes rfl
@[simp] theorem logClamp_plans (s : State) (ty : Nat) (inst : Nat) (off : Nat) (b : Nat) : (logClamp ty inst off b s).plans = s.plans :=
  (logClamp_keeps (V := 2) rfl (.refl _ s)).frame .plans rfl
@[simp] theorem logClamp_lists (s : State) (ty : Nat) (inst : Nat) (off : Nat) (b : Nat) : (logClamp ty inst off b s).lists = s.lists :=
  (logClamp_keeps (V := 2) rfl (.refl _ s)).frame .lists rfl
@[simp] theorem logClamp_pim (s : State) (ty : Nat) (inst : Nat) (off : Nat) (b : Nat) : (logClamp ty inst off b s).pim = s.pim :=
  (logClamp_keeps (V := 2) rfl (.refl _ s)).frame .pim rfl
@[simp] theorem logClamp_owners (s : State) (ty : Nat) (inst : Nat) (off : Nat) (b : Nat) : (logClamp ty inst off b s).owners = s.owners :=
  (logClamp_keeps (V := 2) rfl (.refl _ s)).frame .owners rfl
@[simp] theorem logClamp_points (s : State) (ty : Nat) (inst : Nat) (off : Nat) (b : Nat) : (logClamp ty inst off b s).points = s.points :=
  (logClamp_keeps (V := 2) rfl (.refl _ s)).frame .points rfl
@[simp] theorem logClamp_grants (s : State) (ty : Nat) (inst : Nat) (off : Nat) (b : Nat) : (logClamp ty inst off b s).grants = s.grants :=
  (logClamp_keeps (V := 2) rfl (.refl _ s)).frame .grants rfl
@[simp] theorem logClamp_rules (s : State) (ty : Nat) (inst : Nat) (off : Nat) (b : Nat) : (logClamp ty inst off b s).rules = s.rules :=
  (logClamp_keeps (V := 2) rfl (.refl _ s)).frame .rules rfl
@[simp] theorem logClamp_remote (s : State) (ty : Nat) (inst : Nat) (off : Nat) (b : Nat) : (logClamp ty inst off b s).remote = s.remote :=
  (logClamp_keeps (V := 2) rfl (.refl _ s)).frame .remote rfl
@[simp] theorem logClamp_copies (s : State) (ty : Nat) (inst : Nat) (off : Nat) (b : Nat) : (logClamp ty inst off b s).copies = s.copies :=
  (logClamp_keeps (V := 2) rfl (.refl _ s)).frame .copies rfl
@[simp] theorem logClamp_unseen (s : State) (ty : Nat) (inst : Nat) (off : Nat) (b : Nat) : (logClamp ty inst off b s).unseen = s.unseen :=
  (logClamp_keeps (V := 2) rfl (.refl _ s)).frame .unseen rfl
@[simp] theorem logClamp_bridge (s : State) (ty : Nat) (inst : Nat) (off : Nat) (b : Nat) : (logClamp ty inst off b s).bridge = s.bridge :=
  (logClamp_keeps (V := 2) rfl (.refl _ s)).frame .bridge rfl
@[simp] theorem logClamp_chans (s : State) (ty : Nat) (inst : Nat) (off : Nat) (b : Nat) : (logClamp ty inst off b s).chans = s.chans :=
  (logClamp_keeps (V := 2) rfl (.refl _ s)).frame .chans rfl
@[simp] theorem logClamp_nonces (s : State) (ty : Nat) (inst : Nat) (off : Nat) (b : Nat) : (logClamp ty inst off b s).nonces = s.nonces :=
  (logClamp_keeps (V := 2) rfl (.refl _ s)).frame .nonces rfl
@[simp] theorem logClamp_quar (s : State) (ty : Nat) (inst : Nat) (off : Nat) (b : Nat) : (logClamp ty inst off b s).quar = s.quar :=
  (logClamp_keeps (V := 2) rfl (.refl _ s)).frame .quar rfl
@[simp] theorem logClamp_policy (s : State) (ty : Nat) (inst : Nat) (off : Nat) (b : Nat) : (logClamp ty inst off b s).policy = s.policy :=
  (logClamp_keeps (V := 2) rfl (.refl _ s)).frame .policy rfl
@[simp] theorem logClamp_journal (s : State) (ty : Nat) (inst : Nat) (off : Nat) (b : Nat) : (logClamp ty inst off b s).journal = s.journal :=
  (logClamp_keeps (V := 2) rfl (.refl _ s)).frame .journal rfl
@[simp] theorem logClamp_half0 (s : State) (ty : Nat) (inst : Nat) (off : Nat) (b : Nat) : (logClamp ty inst off b s).half0 = s.half0 :=
  (logClamp_keeps (V := 2) rfl (.refl _ s)).frame .half0 rfl
@[simp] theorem logClamp_half1 (s : State) (ty : Nat) (inst : Nat) (off : Nat) (b : Nat) : (logClamp ty inst off b s).half1 = s.half1 :=
  (logClamp_keeps (V := 2) rfl (.refl _ s)).frame .half1 rfl
@[simp] theorem logClamp_half (s : State) (ty : Nat) (inst : Nat) (off : Nat) (b : Nat) : (logClamp ty inst off b s).half = s.half :=
  (logClamp_keeps (V := 2) rfl (.refl _ s)).frame .half rfl
@[simp] theorem logClamp_fw (s : State) (ty : Nat) (inst : Nat) (off : Nat) (b : Nat) : (logClamp ty inst off b s).fw = s.fw :=
  (logClamp_keeps (V := 2) rfl (.refl _ s)).frame .fw rfl
@[simp] theorem logClamp_mgt (s : State) (ty : Nat) (inst : Nat) (off : Nat) (b : Nat) : (logClamp ty inst off b s).mgt = s.mgt :=
  (logClamp_keeps (V := 2) rfl (.refl _ s)).frame .mgt rfl
@[simp] theorem logClamp_jtag (s : State) (ty : Nat) (inst : Nat) (off : Nat) (b : Nat) : (logClamp ty inst off b s).jtag = s.jtag :=
  (logClamp_keeps (V := 2) rfl (.refl _ s)).frame .jtag rfl
@[simp] theorem logClamp_pins (s : State) (ty : Nat) (inst : Nat) (off : Nat) (b : Nat) : (logClamp ty inst off b s).pins = s.pins :=
  (logClamp_keeps (V := 2) rfl (.refl _ s)).frame .pins rfl
@[simp] theorem logClamp_boot (s : State) (ty : Nat) (inst : Nat) (off : Nat) (b : Nat) : (logClamp ty inst off b s).boot = s.boot :=
  (logClamp_keeps (V := 2) rfl (.refl _ s)).frame .boot rfl
@[simp] theorem logClamp_chg (s : State) (ty : Nat) (inst : Nat) (off : Nat) (b : Nat) : (logClamp ty inst off b s).chg = s.chg :=
  (logClamp_keeps (V := 2) rfl (.refl _ s)).frame .chg rfl
@[simp] theorem logClamp_tile (s : State) (ty : Nat) (inst : Nat) (off : Nat) (b : Nat) : (logClamp ty inst off b s).tile = s.tile :=
  (logClamp_keeps (V := 2) rfl (.refl _ s)).frame .tile rfl
@[simp] theorem logClamp_mesh (s : State) (ty : Nat) (inst : Nat) (off : Nat) (b : Nat) : (logClamp ty inst off b s).mesh = s.mesh :=
  (logClamp_keeps (V := 2) rfl (.refl _ s)).frame .mesh rfl
@[simp] theorem logClamp_meshFails (s : State) (ty : Nat) (inst : Nat) (off : Nat) (b : Nat) : (logClamp ty inst off b s).meshFails = s.meshFails :=
  (logClamp_keeps (V := 2) rfl (.refl _ s)).frame .meshFails rfl
@[simp] theorem logClamp_ready (s : State) (ty : Nat) (inst : Nat) (off : Nat) (b : Nat) : (logClamp ty inst off b s).ready = s.ready :=
  (logClamp_keeps (V := 2) rfl (.refl _ s)).frame .ready rfl
@[simp] theorem logClamp_link (s : State) (ty : Nat) (inst : Nat) (off : Nat) (b : Nat) : (logClamp ty inst off b s).link = s.link :=
  (logClamp_keeps (V := 2) rfl (.refl _ s)).frame .link rfl
@[simp] theorem logClamp_vfEnable (s : State) (ty : Nat) (inst : Nat) (off : Nat) (b : Nat) : (logClamp ty inst off b s).vfEnable = s.vfEnable :=
  (logClamp_keeps (V := 2) rfl (.refl _ s)).frame .vfEnable rfl
@[simp] theorem logClamp_vfMse (s : State) (ty : Nat) (inst : Nat) (off : Nat) (b : Nat) : (logClamp ty inst off b s).vfMse = s.vfMse :=
  (logClamp_keeps (V := 2) rfl (.refl _ s)).frame .vfMse rfl
@[simp] theorem logClamp_numVfs (s : State) (ty : Nat) (inst : Nat) (off : Nat) (b : Nat) : (logClamp ty inst off b s).numVfs = s.numVfs :=
  (logClamp_keeps (V := 2) rfl (.refl _ s)).frame .numVfs rfl
@[simp] theorem logClamp_ari (s : State) (ty : Nat) (inst : Nat) (off : Nat) (b : Nat) : (logClamp ty inst off b s).ari = s.ari :=
  (logClamp_keeps (V := 2) rfl (.refl _ s)).frame .ari rfl
@[simp] theorem logClamp_stamp (s : State) (ty : Nat) (inst : Nat) (off : Nat) (b : Nat) : (logClamp ty inst off b s).stamp = s.stamp :=
  (logClamp_keeps (V := 2) rfl (.refl _ s)).frame .stamp rfl
@[simp] theorem logClamp_stage (s : State) (ty : Nat) (inst : Nat) (off : Nat) (b : Nat) : (logClamp ty inst off b s).stage = s.stage :=
  (logClamp_keeps (V := 2) rfl (.refl _ s)).frame .stage rfl
@[simp] theorem logClamp_lastCancel (s : State) (ty : Nat) (inst : Nat) (off : Nat) (b : Nat) : (logClamp ty inst off b s).lastCancel = s.lastCancel :=
  (logClamp_keeps (V := 2) rfl (.refl _ s)).frame .lastCancel rfl
@[simp] theorem logClamp_stopping (s : State) (ty : Nat) (inst : Nat) (off : Nat) (b : Nat) : (logClamp ty inst off b s).stopping = s.stopping :=
  (logClamp_keeps (V := 2) rfl (.refl _ s)).frame .stopping rfl
@[simp] theorem logClamp_xogate (s : State) (ty : Nat) (inst : Nat) (off : Nat) (b : Nat) : (logClamp ty inst off b s).xogate = s.xogate :=
  (logClamp_keeps (V := 2) rfl (.refl _ s)).frame .xogate rfl
@[simp] theorem logClamp_evHeld (s : State) (ty : Nat) (inst : Nat) (off : Nat) (b : Nat) : (logClamp ty inst off b s).evHeld = s.evHeld :=
  (logClamp_keeps (V := 2) rfl (.refl _ s)).frame .evHeld rfl
@[simp] theorem logClamp_accepts (s : State) (ty : Nat) (inst : Nat) (off : Nat) (b : Nat) : (logClamp ty inst off b s).accepts = s.accepts :=
  (logClamp_keeps (V := 2) rfl (.refl _ s)).frame .accepts rfl
@[simp] theorem logClamp_free (s : State) (ty : Nat) (inst : Nat) (off : Nat) (b : Nat) : (logClamp ty inst off b s).free = s.free :=
  (logClamp_keeps (V := 2) rfl (.refl _ s)).frame .free rfl
@[simp] theorem logClamp_tlpHeld (s : State) (ty : Nat) (inst : Nat) (off : Nat) (b : Nat) : (logClamp ty inst off b s).tlpHeld = s.tlpHeld :=
  (logClamp_keeps (V := 2) rfl (.refl _ s)).frame .tlpHeld rfl
@[simp] theorem logClamp_wire (s : State) (ty : Nat) (inst : Nat) (off : Nat) (b : Nat) : (logClamp ty inst off b s).wire = s.wire :=
  (logClamp_keeps (V := 2) rfl (.refl _ s)).frame .wire rfl
@[simp] theorem logClamp_fn_of (s : State) (ty : Nat) (inst : Nat) (off : Nat) (b : Nat) (i : Nat) : (logClamp ty inst off b s).fn i = s.fn i := by
  simp only [State.fn, logClamp_fns]
@[simp] theorem logClamp_port_of (s : State) (ty : Nat) (inst : Nat) (off : Nat) (b : Nat) (i : Nat) : (logClamp ty inst off b s).port i = s.port i := by
  simp only [State.port, logClamp_ports]
@[simp] theorem logClamp_node_of (s : State) (ty : Nat) (inst : Nat) (off : Nat) (b : Nat) (i j : Nat) : (logClamp ty inst off b s).node i j = s.node i j := by
  simp only [State.node, logClamp_nodes]
@[simp] theorem logClamp_tl_of (s : State) (ty : Nat) (inst : Nat) (off : Nat) (b : Nat) (i : Nat) : (logClamp ty inst off b s).tl i = s.tl i := by
  simp only [State.tl, logClamp_tile]
@[simp] theorem logClamp_plan_of (s : State) (ty : Nat) (inst : Nat) (off : Nat) (b : Nat) (i : Nat) : (logClamp ty inst off b s).plan i = s.plan i := by
  simp only [State.plan, logClamp_plans]
@[simp] theorem logClamp_list_of (s : State) (ty : Nat) (inst : Nat) (off : Nat) (b : Nat) (i j : Nat) : (logClamp ty inst off b s).list i j = s.list i j := by
  simp only [State.list, logClamp_lists]
@[simp] theorem logClamp_chan_of (s : State) (ty : Nat) (inst : Nat) (off : Nat) (b : Nat) (i : Nat) : (logClamp ty inst off b s).chan i = s.chan i := by
  simp only [State.chan, logClamp_chans]
@[simp] theorem logClamp_point_of (s : State) (ty : Nat) (inst : Nat) (off : Nat) (b : Nat) (i : Nat) : (logClamp ty inst off b s).point i = s.point i := by
  simp only [State.point, logClamp_points]
@[simp] theorem logClamp_record_of (s : State) (ty : Nat) (inst : Nat) (off : Nat) (b : Nat) (i : Nat) : (logClamp ty inst off b s).record i = s.record i := by
  simp only [State.record, logClamp_pim]
@[simp] theorem logClamp_hasTile_of (s : State) (ty : Nat) (inst : Nat) (off : Nat) (b : Nat) (i : Nat) : (logClamp ty inst off b s).hasTile i = s.hasTile i := by
  simp only [State.hasTile, logClamp_tiles]
@[simp] theorem logClamp_hasPort_of (s : State) (ty : Nat) (inst : Nat) (off : Nat) (b : Nat) (i : Nat) : (logClamp ty inst off b s).hasPort i = s.hasPort i :=
  congrArg (fun n => decide (i < 16 * n)) (logClamp_tiles ..)

/-! ### countReg -/

@[simp] theorem countReg_pending (s : State) (ty : Nat) (inst : Nat) (off : Nat) (lo : Nat) (n : Nat) (k : Nat) : (countReg ty inst off lo n k s).pending = s.pending :=
  (countReg_keeps (V := 2) rfl (.refl _ s)).queue
@[simp] theorem countReg_tiles (s : State) (ty : Nat) (inst : Nat) (off : Nat) (lo : Nat) (n : Nat) (k : Nat) : (countReg ty inst off lo n k s).tiles = s.tiles :=
  (countReg_keeps (V := 2) rfl (.refl _ s)).tiles
@[simp] theorem countReg_time (s : State) (ty : Nat) (inst : Nat) (off : Nat) (lo : Nat) (n : Nat) (k : Nat) : (countReg ty inst off lo n k s).time = s.time :=
  (countReg_keeps (V := 2) rfl (.refl _ s)).frame .time rfl
@[simp] theorem countReg_stored (s : State) (ty : Nat) (inst : Nat) (off : Nat) (lo : Nat) (n : Nat) (k : Nat) : (countReg ty inst off lo n k s).stored = s.stored :=
  (countReg_keeps (V := 2) rfl (.refl _ s)).frame .stored rfl
@[simp] theorem countReg_fns (s : State) (ty : Nat) (inst : Nat) (off : Nat) (lo : Nat) (n : Nat) (k : Nat) : (countReg ty inst off lo n k s).fns = s.fns :=
  (countReg_keeps (V := 2) rfl (.refl _ s)).frame .fns rfl
@[simp] theorem countReg_ports (s : State) (ty : Nat) (inst : Nat) (off : Nat) (lo : Nat) (n : Nat) (k : Nat) : (countReg ty inst off lo n k s).ports = s.ports :=
  (countReg_keeps (V := 2) rfl (.refl _ s)).frame .ports rfl
@[simp] theorem countReg_nodes (s : State) (ty : Nat) (inst : Nat) (off : Nat) (lo : Nat) (n : Nat) (k : Nat) : (countReg ty inst off lo n k s).nodes = s.nodes :=
  (countReg_keeps (V := 2) rfl (.refl _ s)).frame .nodes rfl
@[simp] theorem countReg_plans (s : State) (ty : Nat) (inst : Nat) (off : Nat) (lo : Nat) (n : Nat) (k : Nat) : (countReg ty inst off lo n k s).plans = s.plans :=
  (countReg_keeps (V := 2) rfl (.refl _ s)).frame .plans rfl
@[simp] theorem countReg_lists (s : State) (ty : Nat) (inst : Nat) (off : Nat) (lo : Nat) (n : Nat) (k : Nat) : (countReg ty inst off lo n k s).lists = s.lists :=
  (countReg_keeps (V := 2) rfl (.refl _ s)).frame .lists rfl
@[simp] theorem countReg_pim (s : State) (ty : Nat) (inst : Nat) (off : Nat) (lo : Nat) (n : Nat) (k : Nat) : (countReg ty inst off lo n k s).pim = s.pim :=
  (countReg_keeps (V := 2) rfl (.refl _ s)).frame .pim rfl
@[simp] theorem countReg_owners (s : State) (ty : Nat) (inst : Nat) (off : Nat) (lo : Nat) (n : Nat) (k : Nat) : (countReg ty inst off lo n k s).owners = s.owners :=
  (countReg_keeps (V := 2) rfl (.refl _ s)).frame .owners rfl
@[simp] theorem countReg_points (s : State) (ty : Nat) (inst : Nat) (off : Nat) (lo : Nat) (n : Nat) (k : Nat) : (countReg ty inst off lo n k s).points = s.points :=
  (countReg_keeps (V := 2) rfl (.refl _ s)).frame .points rfl
@[simp] theorem countReg_grants (s : State) (ty : Nat) (inst : Nat) (off : Nat) (lo : Nat) (n : Nat) (k : Nat) : (countReg ty inst off lo n k s).grants = s.grants :=
  (countReg_keeps (V := 2) rfl (.refl _ s)).frame .grants rfl
@[simp] theorem countReg_rules (s : State) (ty : Nat) (inst : Nat) (off : Nat) (lo : Nat) (n : Nat) (k : Nat) : (countReg ty inst off lo n k s).rules = s.rules :=
  (countReg_keeps (V := 2) rfl (.refl _ s)).frame .rules rfl
@[simp] theorem countReg_remote (s : State) (ty : Nat) (inst : Nat) (off : Nat) (lo : Nat) (n : Nat) (k : Nat) : (countReg ty inst off lo n k s).remote = s.remote :=
  (countReg_keeps (V := 2) rfl (.refl _ s)).frame .remote rfl
@[simp] theorem countReg_copies (s : State) (ty : Nat) (inst : Nat) (off : Nat) (lo : Nat) (n : Nat) (k : Nat) : (countReg ty inst off lo n k s).copies = s.copies :=
  (countReg_keeps (V := 2) rfl (.refl _ s)).frame .copies rfl
@[simp] theorem countReg_unseen (s : State) (ty : Nat) (inst : Nat) (off : Nat) (lo : Nat) (n : Nat) (k : Nat) : (countReg ty inst off lo n k s).unseen = s.unseen :=
  (countReg_keeps (V := 2) rfl (.refl _ s)).frame .unseen rfl
@[simp] theorem countReg_bridge (s : State) (ty : Nat) (inst : Nat) (off : Nat) (lo : Nat) (n : Nat) (k : Nat) : (countReg ty inst off lo n k s).bridge = s.bridge :=
  (countReg_keeps (V := 2) rfl (.refl _ s)).frame .bridge rfl
@[simp] theorem countReg_chans (s : State) (ty : Nat) (inst : Nat) (off : Nat) (lo : Nat) (n : Nat) (k : Nat) : (countReg ty inst off lo n k s).chans = s.chans :=
  (countReg_keeps (V := 2) rfl (.refl _ s)).frame .chans rfl
@[simp] theorem countReg_nonces (s : State) (ty : Nat) (inst : Nat) (off : Nat) (lo : Nat) (n : Nat) (k : Nat) : (countReg ty inst off lo n k s).nonces = s.nonces :=
  (countReg_keeps (V := 2) rfl (.refl _ s)).frame .nonces rfl
@[simp] theorem countReg_quar (s : State) (ty : Nat) (inst : Nat) (off : Nat) (lo : Nat) (n : Nat) (k : Nat) : (countReg ty inst off lo n k s).quar = s.quar :=
  (countReg_keeps (V := 2) rfl (.refl _ s)).frame .quar rfl
@[simp] theorem countReg_policy (s : State) (ty : Nat) (inst : Nat) (off : Nat) (lo : Nat) (n : Nat) (k : Nat) : (countReg ty inst off lo n k s).policy = s.policy :=
  (countReg_keeps (V := 2) rfl (.refl _ s)).frame .policy rfl
@[simp] theorem countReg_journal (s : State) (ty : Nat) (inst : Nat) (off : Nat) (lo : Nat) (n : Nat) (k : Nat) : (countReg ty inst off lo n k s).journal = s.journal :=
  (countReg_keeps (V := 2) rfl (.refl _ s)).frame .journal rfl
@[simp] theorem countReg_half0 (s : State) (ty : Nat) (inst : Nat) (off : Nat) (lo : Nat) (n : Nat) (k : Nat) : (countReg ty inst off lo n k s).half0 = s.half0 :=
  (countReg_keeps (V := 2) rfl (.refl _ s)).frame .half0 rfl
@[simp] theorem countReg_half1 (s : State) (ty : Nat) (inst : Nat) (off : Nat) (lo : Nat) (n : Nat) (k : Nat) : (countReg ty inst off lo n k s).half1 = s.half1 :=
  (countReg_keeps (V := 2) rfl (.refl _ s)).frame .half1 rfl
@[simp] theorem countReg_half (s : State) (ty : Nat) (inst : Nat) (off : Nat) (lo : Nat) (n : Nat) (k : Nat) : (countReg ty inst off lo n k s).half = s.half :=
  (countReg_keeps (V := 2) rfl (.refl _ s)).frame .half rfl
@[simp] theorem countReg_fw (s : State) (ty : Nat) (inst : Nat) (off : Nat) (lo : Nat) (n : Nat) (k : Nat) : (countReg ty inst off lo n k s).fw = s.fw :=
  (countReg_keeps (V := 2) rfl (.refl _ s)).frame .fw rfl
@[simp] theorem countReg_mgt (s : State) (ty : Nat) (inst : Nat) (off : Nat) (lo : Nat) (n : Nat) (k : Nat) : (countReg ty inst off lo n k s).mgt = s.mgt :=
  (countReg_keeps (V := 2) rfl (.refl _ s)).frame .mgt rfl
@[simp] theorem countReg_jtag (s : State) (ty : Nat) (inst : Nat) (off : Nat) (lo : Nat) (n : Nat) (k : Nat) : (countReg ty inst off lo n k s).jtag = s.jtag :=
  (countReg_keeps (V := 2) rfl (.refl _ s)).frame .jtag rfl
@[simp] theorem countReg_pins (s : State) (ty : Nat) (inst : Nat) (off : Nat) (lo : Nat) (n : Nat) (k : Nat) : (countReg ty inst off lo n k s).pins = s.pins :=
  (countReg_keeps (V := 2) rfl (.refl _ s)).frame .pins rfl
@[simp] theorem countReg_boot (s : State) (ty : Nat) (inst : Nat) (off : Nat) (lo : Nat) (n : Nat) (k : Nat) : (countReg ty inst off lo n k s).boot = s.boot :=
  (countReg_keeps (V := 2) rfl (.refl _ s)).frame .boot rfl
@[simp] theorem countReg_chg (s : State) (ty : Nat) (inst : Nat) (off : Nat) (lo : Nat) (n : Nat) (k : Nat) : (countReg ty inst off lo n k s).chg = s.chg :=
  (countReg_keeps (V := 2) rfl (.refl _ s)).frame .chg rfl
@[simp] theorem countReg_tile (s : State) (ty : Nat) (inst : Nat) (off : Nat) (lo : Nat) (n : Nat) (k : Nat) : (countReg ty inst off lo n k s).tile = s.tile :=
  (countReg_keeps (V := 2) rfl (.refl _ s)).frame .tile rfl
@[simp] theorem countReg_mesh (s : State) (ty : Nat) (inst : Nat) (off : Nat) (lo : Nat) (n : Nat) (k : Nat) : (countReg ty inst off lo n k s).mesh = s.mesh :=
  (countReg_keeps (V := 2) rfl (.refl _ s)).frame .mesh rfl
@[simp] theorem countReg_meshFails (s : State) (ty : Nat) (inst : Nat) (off : Nat) (lo : Nat) (n : Nat) (k : Nat) : (countReg ty inst off lo n k s).meshFails = s.meshFails :=
  (countReg_keeps (V := 2) rfl (.refl _ s)).frame .meshFails rfl
@[simp] theorem countReg_ready (s : State) (ty : Nat) (inst : Nat) (off : Nat) (lo : Nat) (n : Nat) (k : Nat) : (countReg ty inst off lo n k s).ready = s.ready :=
  (countReg_keeps (V := 2) rfl (.refl _ s)).frame .ready rfl
@[simp] theorem countReg_link (s : State) (ty : Nat) (inst : Nat) (off : Nat) (lo : Nat) (n : Nat) (k : Nat) : (countReg ty inst off lo n k s).link = s.link :=
  (countReg_keeps (V := 2) rfl (.refl _ s)).frame .link rfl
@[simp] theorem countReg_vfEnable (s : State) (ty : Nat) (inst : Nat) (off : Nat) (lo : Nat) (n : Nat) (k : Nat) : (countReg ty inst off lo n k s).vfEnable = s.vfEnable :=
  (countReg_keeps (V := 2) rfl (.refl _ s)).frame .vfEnable rfl
@[simp] theorem countReg_vfMse (s : State) (ty : Nat) (inst : Nat) (off : Nat) (lo : Nat) (n : Nat) (k : Nat) : (countReg ty inst off lo n k s).vfMse = s.vfMse :=
  (countReg_keeps (V := 2) rfl (.refl _ s)).frame .vfMse rfl
@[simp] theorem countReg_numVfs (s : State) (ty : Nat) (inst : Nat) (off : Nat) (lo : Nat) (n : Nat) (k : Nat) : (countReg ty inst off lo n k s).numVfs = s.numVfs :=
  (countReg_keeps (V := 2) rfl (.refl _ s)).frame .numVfs rfl
@[simp] theorem countReg_ari (s : State) (ty : Nat) (inst : Nat) (off : Nat) (lo : Nat) (n : Nat) (k : Nat) : (countReg ty inst off lo n k s).ari = s.ari :=
  (countReg_keeps (V := 2) rfl (.refl _ s)).frame .ari rfl
@[simp] theorem countReg_stamp (s : State) (ty : Nat) (inst : Nat) (off : Nat) (lo : Nat) (n : Nat) (k : Nat) : (countReg ty inst off lo n k s).stamp = s.stamp :=
  (countReg_keeps (V := 2) rfl (.refl _ s)).frame .stamp rfl
@[simp] theorem countReg_stage (s : State) (ty : Nat) (inst : Nat) (off : Nat) (lo : Nat) (n : Nat) (k : Nat) : (countReg ty inst off lo n k s).stage = s.stage :=
  (countReg_keeps (V := 2) rfl (.refl _ s)).frame .stage rfl
@[simp] theorem countReg_lastCancel (s : State) (ty : Nat) (inst : Nat) (off : Nat) (lo : Nat) (n : Nat) (k : Nat) : (countReg ty inst off lo n k s).lastCancel = s.lastCancel :=
  (countReg_keeps (V := 2) rfl (.refl _ s)).frame .lastCancel rfl
@[simp] theorem countReg_stopping (s : State) (ty : Nat) (inst : Nat) (off : Nat) (lo : Nat) (n : Nat) (k : Nat) : (countReg ty inst off lo n k s).stopping = s.stopping :=
  (countReg_keeps (V := 2) rfl (.refl _ s)).frame .stopping rfl
@[simp] theorem countReg_xogate (s : State) (ty : Nat) (inst : Nat) (off : Nat) (lo : Nat) (n : Nat) (k : Nat) : (countReg ty inst off lo n k s).xogate = s.xogate :=
  (countReg_keeps (V := 2) rfl (.refl _ s)).frame .xogate rfl
@[simp] theorem countReg_evHeld (s : State) (ty : Nat) (inst : Nat) (off : Nat) (lo : Nat) (n : Nat) (k : Nat) : (countReg ty inst off lo n k s).evHeld = s.evHeld :=
  (countReg_keeps (V := 2) rfl (.refl _ s)).frame .evHeld rfl
@[simp] theorem countReg_accepts (s : State) (ty : Nat) (inst : Nat) (off : Nat) (lo : Nat) (n : Nat) (k : Nat) : (countReg ty inst off lo n k s).accepts = s.accepts :=
  (countReg_keeps (V := 2) rfl (.refl _ s)).frame .accepts rfl
@[simp] theorem countReg_free (s : State) (ty : Nat) (inst : Nat) (off : Nat) (lo : Nat) (n : Nat) (k : Nat) : (countReg ty inst off lo n k s).free = s.free :=
  (countReg_keeps (V := 2) rfl (.refl _ s)).frame .free rfl
@[simp] theorem countReg_tlpHeld (s : State) (ty : Nat) (inst : Nat) (off : Nat) (lo : Nat) (n : Nat) (k : Nat) : (countReg ty inst off lo n k s).tlpHeld = s.tlpHeld :=
  (countReg_keeps (V := 2) rfl (.refl _ s)).frame .tlpHeld rfl
@[simp] theorem countReg_wire (s : State) (ty : Nat) (inst : Nat) (off : Nat) (lo : Nat) (n : Nat) (k : Nat) : (countReg ty inst off lo n k s).wire = s.wire :=
  (countReg_keeps (V := 2) rfl (.refl _ s)).frame .wire rfl
@[simp] theorem countReg_fn_of (s : State) (ty : Nat) (inst : Nat) (off : Nat) (lo : Nat) (n : Nat) (k : Nat) (i : Nat) : (countReg ty inst off lo n k s).fn i = s.fn i := by
  simp only [State.fn, countReg_fns]
@[simp] theorem countReg_port_of (s : State) (ty : Nat) (inst : Nat) (off : Nat) (lo : Nat) (n : Nat) (k : Nat) (i : Nat) : (countReg ty inst off lo n k s).port i = s.port i := by
  simp only [State.port, countReg_ports]
@[simp] theorem countReg_node_of (s : State) (ty : Nat) (inst : Nat) (off : Nat) (lo : Nat) (n : Nat) (k : Nat) (i j : Nat) : (countReg ty inst off lo n k s).node i j = s.node i j := by
  simp only [State.node, countReg_nodes]
@[simp] theorem countReg_tl_of (s : State) (ty : Nat) (inst : Nat) (off : Nat) (lo : Nat) (n : Nat) (k : Nat) (i : Nat) : (countReg ty inst off lo n k s).tl i = s.tl i := by
  simp only [State.tl, countReg_tile]
@[simp] theorem countReg_plan_of (s : State) (ty : Nat) (inst : Nat) (off : Nat) (lo : Nat) (n : Nat) (k : Nat) (i : Nat) : (countReg ty inst off lo n k s).plan i = s.plan i := by
  simp only [State.plan, countReg_plans]
@[simp] theorem countReg_list_of (s : State) (ty : Nat) (inst : Nat) (off : Nat) (lo : Nat) (n : Nat) (k : Nat) (i j : Nat) : (countReg ty inst off lo n k s).list i j = s.list i j := by
  simp only [State.list, countReg_lists]
@[simp] theorem countReg_chan_of (s : State) (ty : Nat) (inst : Nat) (off : Nat) (lo : Nat) (n : Nat) (k : Nat) (i : Nat) : (countReg ty inst off lo n k s).chan i = s.chan i := by
  simp only [State.chan, countReg_chans]
@[simp] theorem countReg_point_of (s : State) (ty : Nat) (inst : Nat) (off : Nat) (lo : Nat) (n : Nat) (k : Nat) (i : Nat) : (countReg ty inst off lo n k s).point i = s.point i := by
  simp only [State.point, countReg_points]
@[simp] theorem countReg_record_of (s : State) (ty : Nat) (inst : Nat) (off : Nat) (lo : Nat) (n : Nat) (k : Nat) (i : Nat) : (countReg ty inst off lo n k s).record i = s.record i := by
  simp only [State.record, countReg_pim]
@[simp] theorem countReg_hasTile_of (s : State) (ty : Nat) (inst : Nat) (off : Nat) (lo : Nat) (n : Nat) (k : Nat) (i : Nat) : (countReg ty inst off lo n k s).hasTile i = s.hasTile i := by
  simp only [State.hasTile, countReg_tiles]
@[simp] theorem countReg_hasPort_of (s : State) (ty : Nat) (inst : Nat) (off : Nat) (lo : Nat) (n : Nat) (k : Nat) (i : Nat) : (countReg ty inst off lo n k s).hasPort i = s.hasPort i :=
  congrArg (fun n => decide (i < 16 * n)) (countReg_tiles ..)

/-! ### emit -/

@[simp] theorem emit_pending (s : State) (f : Nat) (e : Event) : (emit f e s).pending = s.pending :=
  (emit_keeps (V := 879611449704458) rfl (.refl _ s)).queue
@[simp] theorem emit_tiles (s : State) (f : Nat) (e : Event) : (emit f e s).tiles = s.tiles :=
  (emit_keeps (V := 879611449704458) rfl (.refl _ s)).tiles
@[simp] theorem emit_time (s : State) (f : Nat) (e : Event) : (emit f e s).time = s.time :=
  (emit_keeps (V := 879611449704458) rfl (.refl _ s)).frame .time rfl
@[simp] theorem emit_stored (s : State) (f : Nat) (e : Event) : (emit f e s).stored = s.stored :=
  (emit_keeps (V := 879611449704458) rfl (.refl _ s)).frame .stored rfl
@[simp] theorem emit_ports (s : State) (f : Nat) (e : Event) : (emit f e s).ports = s.ports :=
  (emit_keeps (V := 879611449704458) rfl (.refl _ s)).frame .ports rfl
@[simp] theorem emit_nodes (s : State) (f : Nat) (e : Event) : (emit f e s).nodes = s.nodes :=
  (emit_keeps (V := 879611449704458) rfl (.refl _ s)).frame .nodes rfl
@[simp] theorem emit_plans (s : State) (f : Nat) (e : Event) : (emit f e s).plans = s.plans :=
  (emit_keeps (V := 879611449704458) rfl (.refl _ s)).frame .plans rfl
@[simp] theorem emit_lists (s : State) (f : Nat) (e : Event) : (emit f e s).lists = s.lists :=
  (emit_keeps (V := 879611449704458) rfl (.refl _ s)).frame .lists rfl
@[simp] theorem emit_pim (s : State) (f : Nat) (e : Event) : (emit f e s).pim = s.pim :=
  (emit_keeps (V := 879611449704458) rfl (.refl _ s)).frame .pim rfl
@[simp] theorem emit_owners (s : State) (f : Nat) (e : Event) : (emit f e s).owners = s.owners :=
  (emit_keeps (V := 879611449704458) rfl (.refl _ s)).frame .owners rfl
@[simp] theorem emit_points (s : State) (f : Nat) (e : Event) : (emit f e s).points = s.points :=
  (emit_keeps (V := 879611449704458) rfl (.refl _ s)).frame .points rfl
@[simp] theorem emit_grants (s : State) (f : Nat) (e : Event) : (emit f e s).grants = s.grants :=
  (emit_keeps (V := 879611449704458) rfl (.refl _ s)).frame .grants rfl
@[simp] theorem emit_rules (s : State) (f : Nat) (e : Event) : (emit f e s).rules = s.rules :=
  (emit_keeps (V := 879611449704458) rfl (.refl _ s)).frame .rules rfl
@[simp] theorem emit_remote (s : State) (f : Nat) (e : Event) : (emit f e s).remote = s.remote :=
  (emit_keeps (V := 879611449704458) rfl (.refl _ s)).frame .remote rfl
@[simp] theorem emit_copies (s : State) (f : Nat) (e : Event) : (emit f e s).copies = s.copies :=
  (emit_keeps (V := 879611449704458) rfl (.refl _ s)).frame .copies rfl
@[simp] theorem emit_unseen (s : State) (f : Nat) (e : Event) : (emit f e s).unseen = s.unseen :=
  (emit_keeps (V := 879611449704458) rfl (.refl _ s)).frame .unseen rfl
@[simp] theorem emit_bridge (s : State) (f : Nat) (e : Event) : (emit f e s).bridge = s.bridge :=
  (emit_keeps (V := 879611449704458) rfl (.refl _ s)).frame .bridge rfl
@[simp] theorem emit_chans (s : State) (f : Nat) (e : Event) : (emit f e s).chans = s.chans :=
  (emit_keeps (V := 879611449704458) rfl (.refl _ s)).frame .chans rfl
@[simp] theorem emit_nonces (s : State) (f : Nat) (e : Event) : (emit f e s).nonces = s.nonces :=
  (emit_keeps (V := 879611449704458) rfl (.refl _ s)).frame .nonces rfl
@[simp] theorem emit_quar (s : State) (f : Nat) (e : Event) : (emit f e s).quar = s.quar :=
  (emit_keeps (V := 879611449704458) rfl (.refl _ s)).frame .quar rfl
@[simp] theorem emit_policy (s : State) (f : Nat) (e : Event) : (emit f e s).policy = s.policy :=
  (emit_keeps (V := 879611449704458) rfl (.refl _ s)).frame .policy rfl
@[simp] theorem emit_journal (s : State) (f : Nat) (e : Event) : (emit f e s).journal = s.journal :=
  (emit_keeps (V := 879611449704458) rfl (.refl _ s)).frame .journal rfl
@[simp] theorem emit_half0 (s : State) (f : Nat) (e : Event) : (emit f e s).half0 = s.half0 :=
  (emit_keeps (V := 879611449704458) rfl (.refl _ s)).frame .half0 rfl
@[simp] theorem emit_half1 (s : State) (f : Nat) (e : Event) : (emit f e s).half1 = s.half1 :=
  (emit_keeps (V := 879611449704458) rfl (.refl _ s)).frame .half1 rfl
@[simp] theorem emit_half (s : State) (f : Nat) (e : Event) : (emit f e s).half = s.half :=
  (emit_keeps (V := 879611449704458) rfl (.refl _ s)).frame .half rfl
@[simp] theorem emit_fw (s : State) (f : Nat) (e : Event) : (emit f e s).fw = s.fw :=
  (emit_keeps (V := 879611449704458) rfl (.refl _ s)).frame .fw rfl
@[simp] theorem emit_mgt (s : State) (f : Nat) (e : Event) : (emit f e s).mgt = s.mgt :=
  (emit_keeps (V := 879611449704458) rfl (.refl _ s)).frame .mgt rfl
@[simp] theorem emit_jtag (s : State) (f : Nat) (e : Event) : (emit f e s).jtag = s.jtag :=
  (emit_keeps (V := 879611449704458) rfl (.refl _ s)).frame .jtag rfl
@[simp] theorem emit_pins (s : State) (f : Nat) (e : Event) : (emit f e s).pins = s.pins :=
  (emit_keeps (V := 879611449704458) rfl (.refl _ s)).frame .pins rfl
@[simp] theorem emit_boot (s : State) (f : Nat) (e : Event) : (emit f e s).boot = s.boot :=
  (emit_keeps (V := 879611449704458) rfl (.refl _ s)).frame .boot rfl
@[simp] theorem emit_chg (s : State) (f : Nat) (e : Event) : (emit f e s).chg = s.chg :=
  (emit_keeps (V := 879611449704458) rfl (.refl _ s)).frame .chg rfl
@[simp] theorem emit_mesh (s : State) (f : Nat) (e : Event) : (emit f e s).mesh = s.mesh :=
  (emit_keeps (V := 879611449704458) rfl (.refl _ s)).frame .mesh rfl
@[simp] theorem emit_meshFails (s : State) (f : Nat) (e : Event) : (emit f e s).meshFails = s.meshFails :=
  (emit_keeps (V := 879611449704458) rfl (.refl _ s)).frame .meshFails rfl
@[simp] theorem emit_ready (s : State) (f : Nat) (e : Event) : (emit f e s).ready = s.ready :=
  (emit_keeps (V := 879611449704458) rfl (.refl _ s)).frame .ready rfl
@[simp] theorem emit_link (s : State) (f : Nat) (e : Event) : (emit f e s).link = s.link :=
  (emit_keeps (V := 879611449704458) rfl (.refl _ s)).frame .link rfl
@[simp] theorem emit_vfEnable (s : State) (f : Nat) (e : Event) : (emit f e s).vfEnable = s.vfEnable :=
  (emit_keeps (V := 879611449704458) rfl (.refl _ s)).frame .vfEnable rfl
@[simp] theorem emit_vfMse (s : State) (f : Nat) (e : Event) : (emit f e s).vfMse = s.vfMse :=
  (emit_keeps (V := 879611449704458) rfl (.refl _ s)).frame .vfMse rfl
@[simp] theorem emit_numVfs (s : State) (f : Nat) (e : Event) : (emit f e s).numVfs = s.numVfs :=
  (emit_keeps (V := 879611449704458) rfl (.refl _ s)).frame .numVfs rfl
@[simp] theorem emit_ari (s : State) (f : Nat) (e : Event) : (emit f e s).ari = s.ari :=
  (emit_keeps (V := 879611449704458) rfl (.refl _ s)).frame .ari rfl
@[simp] theorem emit_stamp (s : State) (f : Nat) (e : Event) : (emit f e s).stamp = s.stamp :=
  (emit_keeps (V := 879611449704458) rfl (.refl _ s)).frame .stamp rfl
@[simp] theorem emit_stage (s : State) (f : Nat) (e : Event) : (emit f e s).stage = s.stage :=
  (emit_keeps (V := 879611449704458) rfl (.refl _ s)).frame .stage rfl
@[simp] theorem emit_lastCancel (s : State) (f : Nat) (e : Event) : (emit f e s).lastCancel = s.lastCancel :=
  (emit_keeps (V := 879611449704458) rfl (.refl _ s)).frame .lastCancel rfl
@[simp] theorem emit_stopping (s : State) (f : Nat) (e : Event) : (emit f e s).stopping = s.stopping :=
  (emit_keeps (V := 879611449704458) rfl (.refl _ s)).frame .stopping rfl
@[simp] theorem emit_xogate (s : State) (f : Nat) (e : Event) : (emit f e s).xogate = s.xogate :=
  (emit_keeps (V := 879611449704458) rfl (.refl _ s)).frame .xogate rfl
@[simp] theorem emit_accepts (s : State) (f : Nat) (e : Event) : (emit f e s).accepts = s.accepts :=
  (emit_keeps (V := 879611449704458) rfl (.refl _ s)).frame .accepts rfl
@[simp] theorem emit_free (s : State) (f : Nat) (e : Event) : (emit f e s).free = s.free :=
  (emit_keeps (V := 879611449704458) rfl (.refl _ s)).frame .free rfl
@[simp] theorem emit_port_of (s : State) (f : Nat) (e : Event) (i : Nat) : (emit f e s).port i = s.port i := by
  simp only [State.port, emit_ports]
@[simp] theorem emit_node_of (s : State) (f : Nat) (e : Event) (i j : Nat) : (emit f e s).node i j = s.node i j := by
  simp only [State.node, emit_nodes]
@[simp] theorem emit_plan_of (s : State) (f : Nat) (e : Event) (i : Nat) : (emit f e s).plan i = s.plan i := by
  simp only [State.plan, emit_plans]
@[simp] theorem emit_list_of (s : State) (f : Nat) (e : Event) (i j : Nat) : (emit f e s).list i j = s.list i j := by
  simp only [State.list, emit_lists]
@[simp] theorem emit_chan_of (s : State) (f : Nat) (e : Event) (i : Nat) : (emit f e s).chan i = s.chan i := by
  simp only [State.chan, emit_chans]
@[simp] theorem emit_point_of (s : State) (f : Nat) (e : Event) (i : Nat) : (emit f e s).point i = s.point i := by
  simp only [State.point, emit_points]
@[simp] theorem emit_record_of (s : State) (f : Nat) (e : Event) (i : Nat) : (emit f e s).record i = s.record i := by
  simp only [State.record, emit_pim]
@[simp] theorem emit_hasTile_of (s : State) (f : Nat) (e : Event) (i : Nat) : (emit f e s).hasTile i = s.hasTile i := by
  simp only [State.hasTile, emit_tiles]
@[simp] theorem emit_hasPort_of (s : State) (f : Nat) (e : Event) (i : Nat) : (emit f e s).hasPort i = s.hasPort i :=
  congrArg (fun n => decide (i < 16 * n)) (emit_tiles ..)

/-! ### emitMgr -/

@[simp] theorem emitMgr_pending (s : State) (cls : Nat) (kind : Nat) (fs : List (Nat × Nat × Nat)) : (emitMgr cls kind fs s).pending = s.pending :=
  (emitMgr_keeps (V := 879611449704458) rfl (.refl _ s)).queue
@[simp] theorem emitMgr_tiles (s : State) (cls : Nat) (kind : Nat) (fs : List (Nat × Nat × Nat)) : (emitMgr cls kind fs s).tiles = s.tiles :=
  (emitMgr_keeps (V := 879611449704458) rfl (.refl _ s)).tiles
@[simp] theorem emitMgr_time (s : State) (cls : Nat) (kind : Nat) (fs : List (Nat × Nat × Nat)) : (emitMgr cls kind fs s).time = s.time :=
  (emitMgr_keeps (V := 879611449704458) rfl (.refl _ s)).frame .time rfl
@[simp] theorem emitMgr_stored (s : State) (cls : Nat) (kind : Nat) (fs : List (Nat × Nat × Nat)) : (emitMgr cls kind fs s).stored = s.stored :=
  (emitMgr_keeps (V := 879611449704458) rfl (.refl _ s)).frame .stored rfl
@[simp] theorem emitMgr_ports (s : State) (cls : Nat) (kind : Nat) (fs : List (Nat × Nat × Nat)) : (emitMgr cls kind fs s).ports = s.ports :=
  (emitMgr_keeps (V := 879611449704458) rfl (.refl _ s)).frame .ports rfl
@[simp] theorem emitMgr_nodes (s : State) (cls : Nat) (kind : Nat) (fs : List (Nat × Nat × Nat)) : (emitMgr cls kind fs s).nodes = s.nodes :=
  (emitMgr_keeps (V := 879611449704458) rfl (.refl _ s)).frame .nodes rfl
@[simp] theorem emitMgr_plans (s : State) (cls : Nat) (kind : Nat) (fs : List (Nat × Nat × Nat)) : (emitMgr cls kind fs s).plans = s.plans :=
  (emitMgr_keeps (V := 879611449704458) rfl (.refl _ s)).frame .plans rfl
@[simp] theorem emitMgr_lists (s : State) (cls : Nat) (kind : Nat) (fs : List (Nat × Nat × Nat)) : (emitMgr cls kind fs s).lists = s.lists :=
  (emitMgr_keeps (V := 879611449704458) rfl (.refl _ s)).frame .lists rfl
@[simp] theorem emitMgr_pim (s : State) (cls : Nat) (kind : Nat) (fs : List (Nat × Nat × Nat)) : (emitMgr cls kind fs s).pim = s.pim :=
  (emitMgr_keeps (V := 879611449704458) rfl (.refl _ s)).frame .pim rfl
@[simp] theorem emitMgr_owners (s : State) (cls : Nat) (kind : Nat) (fs : List (Nat × Nat × Nat)) : (emitMgr cls kind fs s).owners = s.owners :=
  (emitMgr_keeps (V := 879611449704458) rfl (.refl _ s)).frame .owners rfl
@[simp] theorem emitMgr_points (s : State) (cls : Nat) (kind : Nat) (fs : List (Nat × Nat × Nat)) : (emitMgr cls kind fs s).points = s.points :=
  (emitMgr_keeps (V := 879611449704458) rfl (.refl _ s)).frame .points rfl
@[simp] theorem emitMgr_grants (s : State) (cls : Nat) (kind : Nat) (fs : List (Nat × Nat × Nat)) : (emitMgr cls kind fs s).grants = s.grants :=
  (emitMgr_keeps (V := 879611449704458) rfl (.refl _ s)).frame .grants rfl
@[simp] theorem emitMgr_rules (s : State) (cls : Nat) (kind : Nat) (fs : List (Nat × Nat × Nat)) : (emitMgr cls kind fs s).rules = s.rules :=
  (emitMgr_keeps (V := 879611449704458) rfl (.refl _ s)).frame .rules rfl
@[simp] theorem emitMgr_remote (s : State) (cls : Nat) (kind : Nat) (fs : List (Nat × Nat × Nat)) : (emitMgr cls kind fs s).remote = s.remote :=
  (emitMgr_keeps (V := 879611449704458) rfl (.refl _ s)).frame .remote rfl
@[simp] theorem emitMgr_copies (s : State) (cls : Nat) (kind : Nat) (fs : List (Nat × Nat × Nat)) : (emitMgr cls kind fs s).copies = s.copies :=
  (emitMgr_keeps (V := 879611449704458) rfl (.refl _ s)).frame .copies rfl
@[simp] theorem emitMgr_unseen (s : State) (cls : Nat) (kind : Nat) (fs : List (Nat × Nat × Nat)) : (emitMgr cls kind fs s).unseen = s.unseen :=
  (emitMgr_keeps (V := 879611449704458) rfl (.refl _ s)).frame .unseen rfl
@[simp] theorem emitMgr_bridge (s : State) (cls : Nat) (kind : Nat) (fs : List (Nat × Nat × Nat)) : (emitMgr cls kind fs s).bridge = s.bridge :=
  (emitMgr_keeps (V := 879611449704458) rfl (.refl _ s)).frame .bridge rfl
@[simp] theorem emitMgr_chans (s : State) (cls : Nat) (kind : Nat) (fs : List (Nat × Nat × Nat)) : (emitMgr cls kind fs s).chans = s.chans :=
  (emitMgr_keeps (V := 879611449704458) rfl (.refl _ s)).frame .chans rfl
@[simp] theorem emitMgr_nonces (s : State) (cls : Nat) (kind : Nat) (fs : List (Nat × Nat × Nat)) : (emitMgr cls kind fs s).nonces = s.nonces :=
  (emitMgr_keeps (V := 879611449704458) rfl (.refl _ s)).frame .nonces rfl
@[simp] theorem emitMgr_quar (s : State) (cls : Nat) (kind : Nat) (fs : List (Nat × Nat × Nat)) : (emitMgr cls kind fs s).quar = s.quar :=
  (emitMgr_keeps (V := 879611449704458) rfl (.refl _ s)).frame .quar rfl
@[simp] theorem emitMgr_policy (s : State) (cls : Nat) (kind : Nat) (fs : List (Nat × Nat × Nat)) : (emitMgr cls kind fs s).policy = s.policy :=
  (emitMgr_keeps (V := 879611449704458) rfl (.refl _ s)).frame .policy rfl
@[simp] theorem emitMgr_journal (s : State) (cls : Nat) (kind : Nat) (fs : List (Nat × Nat × Nat)) : (emitMgr cls kind fs s).journal = s.journal :=
  (emitMgr_keeps (V := 879611449704458) rfl (.refl _ s)).frame .journal rfl
@[simp] theorem emitMgr_half0 (s : State) (cls : Nat) (kind : Nat) (fs : List (Nat × Nat × Nat)) : (emitMgr cls kind fs s).half0 = s.half0 :=
  (emitMgr_keeps (V := 879611449704458) rfl (.refl _ s)).frame .half0 rfl
@[simp] theorem emitMgr_half1 (s : State) (cls : Nat) (kind : Nat) (fs : List (Nat × Nat × Nat)) : (emitMgr cls kind fs s).half1 = s.half1 :=
  (emitMgr_keeps (V := 879611449704458) rfl (.refl _ s)).frame .half1 rfl
@[simp] theorem emitMgr_half (s : State) (cls : Nat) (kind : Nat) (fs : List (Nat × Nat × Nat)) : (emitMgr cls kind fs s).half = s.half :=
  (emitMgr_keeps (V := 879611449704458) rfl (.refl _ s)).frame .half rfl
@[simp] theorem emitMgr_fw (s : State) (cls : Nat) (kind : Nat) (fs : List (Nat × Nat × Nat)) : (emitMgr cls kind fs s).fw = s.fw :=
  (emitMgr_keeps (V := 879611449704458) rfl (.refl _ s)).frame .fw rfl
@[simp] theorem emitMgr_mgt (s : State) (cls : Nat) (kind : Nat) (fs : List (Nat × Nat × Nat)) : (emitMgr cls kind fs s).mgt = s.mgt :=
  (emitMgr_keeps (V := 879611449704458) rfl (.refl _ s)).frame .mgt rfl
@[simp] theorem emitMgr_jtag (s : State) (cls : Nat) (kind : Nat) (fs : List (Nat × Nat × Nat)) : (emitMgr cls kind fs s).jtag = s.jtag :=
  (emitMgr_keeps (V := 879611449704458) rfl (.refl _ s)).frame .jtag rfl
@[simp] theorem emitMgr_pins (s : State) (cls : Nat) (kind : Nat) (fs : List (Nat × Nat × Nat)) : (emitMgr cls kind fs s).pins = s.pins :=
  (emitMgr_keeps (V := 879611449704458) rfl (.refl _ s)).frame .pins rfl
@[simp] theorem emitMgr_boot (s : State) (cls : Nat) (kind : Nat) (fs : List (Nat × Nat × Nat)) : (emitMgr cls kind fs s).boot = s.boot :=
  (emitMgr_keeps (V := 879611449704458) rfl (.refl _ s)).frame .boot rfl
@[simp] theorem emitMgr_chg (s : State) (cls : Nat) (kind : Nat) (fs : List (Nat × Nat × Nat)) : (emitMgr cls kind fs s).chg = s.chg :=
  (emitMgr_keeps (V := 879611449704458) rfl (.refl _ s)).frame .chg rfl
@[simp] theorem emitMgr_mesh (s : State) (cls : Nat) (kind : Nat) (fs : List (Nat × Nat × Nat)) : (emitMgr cls kind fs s).mesh = s.mesh :=
  (emitMgr_keeps (V := 879611449704458) rfl (.refl _ s)).frame .mesh rfl
@[simp] theorem emitMgr_meshFails (s : State) (cls : Nat) (kind : Nat) (fs : List (Nat × Nat × Nat)) : (emitMgr cls kind fs s).meshFails = s.meshFails :=
  (emitMgr_keeps (V := 879611449704458) rfl (.refl _ s)).frame .meshFails rfl
@[simp] theorem emitMgr_ready (s : State) (cls : Nat) (kind : Nat) (fs : List (Nat × Nat × Nat)) : (emitMgr cls kind fs s).ready = s.ready :=
  (emitMgr_keeps (V := 879611449704458) rfl (.refl _ s)).frame .ready rfl
@[simp] theorem emitMgr_link (s : State) (cls : Nat) (kind : Nat) (fs : List (Nat × Nat × Nat)) : (emitMgr cls kind fs s).link = s.link :=
  (emitMgr_keeps (V := 879611449704458) rfl (.refl _ s)).frame .link rfl
@[simp] theorem emitMgr_vfEnable (s : State) (cls : Nat) (kind : Nat) (fs : List (Nat × Nat × Nat)) : (emitMgr cls kind fs s).vfEnable = s.vfEnable :=
  (emitMgr_keeps (V := 879611449704458) rfl (.refl _ s)).frame .vfEnable rfl
@[simp] theorem emitMgr_vfMse (s : State) (cls : Nat) (kind : Nat) (fs : List (Nat × Nat × Nat)) : (emitMgr cls kind fs s).vfMse = s.vfMse :=
  (emitMgr_keeps (V := 879611449704458) rfl (.refl _ s)).frame .vfMse rfl
@[simp] theorem emitMgr_numVfs (s : State) (cls : Nat) (kind : Nat) (fs : List (Nat × Nat × Nat)) : (emitMgr cls kind fs s).numVfs = s.numVfs :=
  (emitMgr_keeps (V := 879611449704458) rfl (.refl _ s)).frame .numVfs rfl
@[simp] theorem emitMgr_ari (s : State) (cls : Nat) (kind : Nat) (fs : List (Nat × Nat × Nat)) : (emitMgr cls kind fs s).ari = s.ari :=
  (emitMgr_keeps (V := 879611449704458) rfl (.refl _ s)).frame .ari rfl
@[simp] theorem emitMgr_stamp (s : State) (cls : Nat) (kind : Nat) (fs : List (Nat × Nat × Nat)) : (emitMgr cls kind fs s).stamp = s.stamp :=
  (emitMgr_keeps (V := 879611449704458) rfl (.refl _ s)).frame .stamp rfl
@[simp] theorem emitMgr_stage (s : State) (cls : Nat) (kind : Nat) (fs : List (Nat × Nat × Nat)) : (emitMgr cls kind fs s).stage = s.stage :=
  (emitMgr_keeps (V := 879611449704458) rfl (.refl _ s)).frame .stage rfl
@[simp] theorem emitMgr_lastCancel (s : State) (cls : Nat) (kind : Nat) (fs : List (Nat × Nat × Nat)) : (emitMgr cls kind fs s).lastCancel = s.lastCancel :=
  (emitMgr_keeps (V := 879611449704458) rfl (.refl _ s)).frame .lastCancel rfl
@[simp] theorem emitMgr_stopping (s : State) (cls : Nat) (kind : Nat) (fs : List (Nat × Nat × Nat)) : (emitMgr cls kind fs s).stopping = s.stopping :=
  (emitMgr_keeps (V := 879611449704458) rfl (.refl _ s)).frame .stopping rfl
@[simp] theorem emitMgr_xogate (s : State) (cls : Nat) (kind : Nat) (fs : List (Nat × Nat × Nat)) : (emitMgr cls kind fs s).xogate = s.xogate :=
  (emitMgr_keeps (V := 879611449704458) rfl (.refl _ s)).frame .xogate rfl
@[simp] theorem emitMgr_accepts (s : State) (cls : Nat) (kind : Nat) (fs : List (Nat × Nat × Nat)) : (emitMgr cls kind fs s).accepts = s.accepts :=
  (emitMgr_keeps (V := 879611449704458) rfl (.refl _ s)).frame .accepts rfl
@[simp] theorem emitMgr_free (s : State) (cls : Nat) (kind : Nat) (fs : List (Nat × Nat × Nat)) : (emitMgr cls kind fs s).free = s.free :=
  (emitMgr_keeps (V := 879611449704458) rfl (.refl _ s)).frame .free rfl
@[simp] theorem emitMgr_port_of (s : State) (cls : Nat) (kind : Nat) (fs : List (Nat × Nat × Nat)) (i : Nat) : (emitMgr cls kind fs s).port i = s.port i := by
  simp only [State.port, emitMgr_ports]
@[simp] theorem emitMgr_node_of (s : State) (cls : Nat) (kind : Nat) (fs : List (Nat × Nat × Nat)) (i j : Nat) : (emitMgr cls kind fs s).node i j = s.node i j := by
  simp only [State.node, emitMgr_nodes]
@[simp] theorem emitMgr_plan_of (s : State) (cls : Nat) (kind : Nat) (fs : List (Nat × Nat × Nat)) (i : Nat) : (emitMgr cls kind fs s).plan i = s.plan i := by
  simp only [State.plan, emitMgr_plans]
@[simp] theorem emitMgr_list_of (s : State) (cls : Nat) (kind : Nat) (fs : List (Nat × Nat × Nat)) (i j : Nat) : (emitMgr cls kind fs s).list i j = s.list i j := by
  simp only [State.list, emitMgr_lists]
@[simp] theorem emitMgr_chan_of (s : State) (cls : Nat) (kind : Nat) (fs : List (Nat × Nat × Nat)) (i : Nat) : (emitMgr cls kind fs s).chan i = s.chan i := by
  simp only [State.chan, emitMgr_chans]
@[simp] theorem emitMgr_point_of (s : State) (cls : Nat) (kind : Nat) (fs : List (Nat × Nat × Nat)) (i : Nat) : (emitMgr cls kind fs s).point i = s.point i := by
  simp only [State.point, emitMgr_points]
@[simp] theorem emitMgr_record_of (s : State) (cls : Nat) (kind : Nat) (fs : List (Nat × Nat × Nat)) (i : Nat) : (emitMgr cls kind fs s).record i = s.record i := by
  simp only [State.record, emitMgr_pim]
@[simp] theorem emitMgr_hasTile_of (s : State) (cls : Nat) (kind : Nat) (fs : List (Nat × Nat × Nat)) (i : Nat) : (emitMgr cls kind fs s).hasTile i = s.hasTile i := by
  simp only [State.hasTile, emitMgr_tiles]
@[simp] theorem emitMgr_hasPort_of (s : State) (cls : Nat) (kind : Nat) (fs : List (Nat × Nat × Nat)) (i : Nat) : (emitMgr cls kind fs s).hasPort i = s.hasPort i :=
  congrArg (fun n => decide (i < 16 * n)) (emitMgr_tiles ..)

/-! ### finish -/

@[simp] theorem finish_pending (s : State) (f : Nat) (e : Entry) (long : Bool) (result : Nat) (status : Nat) (detail : Nat) (recs : List ListRec) : (finish f e long result status detail recs s).pending = s.pending :=
  (finish_keeps (V := 879611449704458) rfl (.refl _ s)).queue
@[simp] theorem finish_tiles (s : State) (f : Nat) (e : Entry) (long : Bool) (result : Nat) (status : Nat) (detail : Nat) (recs : List ListRec) : (finish f e long result status detail recs s).tiles = s.tiles :=
  (finish_keeps (V := 879611449704458) rfl (.refl _ s)).tiles
@[simp] theorem finish_time (s : State) (f : Nat) (e : Entry) (long : Bool) (result : Nat) (status : Nat) (detail : Nat) (recs : List ListRec) : (finish f e long result status detail recs s).time = s.time :=
  (finish_keeps (V := 879611449704458) rfl (.refl _ s)).frame .time rfl
@[simp] theorem finish_stored (s : State) (f : Nat) (e : Entry) (long : Bool) (result : Nat) (status : Nat) (detail : Nat) (recs : List ListRec) : (finish f e long result status detail recs s).stored = s.stored :=
  (finish_keeps (V := 879611449704458) rfl (.refl _ s)).frame .stored rfl
@[simp] theorem finish_ports (s : State) (f : Nat) (e : Entry) (long : Bool) (result : Nat) (status : Nat) (detail : Nat) (recs : List ListRec) : (finish f e long result status detail recs s).ports = s.ports :=
  (finish_keeps (V := 879611449704458) rfl (.refl _ s)).frame .ports rfl
@[simp] theorem finish_nodes (s : State) (f : Nat) (e : Entry) (long : Bool) (result : Nat) (status : Nat) (detail : Nat) (recs : List ListRec) : (finish f e long result status detail recs s).nodes = s.nodes :=
  (finish_keeps (V := 879611449704458) rfl (.refl _ s)).frame .nodes rfl
@[simp] theorem finish_plans (s : State) (f : Nat) (e : Entry) (long : Bool) (result : Nat) (status : Nat) (detail : Nat) (recs : List ListRec) : (finish f e long result status detail recs s).plans = s.plans :=
  (finish_keeps (V := 879611449704458) rfl (.refl _ s)).frame .plans rfl
@[simp] theorem finish_lists (s : State) (f : Nat) (e : Entry) (long : Bool) (result : Nat) (status : Nat) (detail : Nat) (recs : List ListRec) : (finish f e long result status detail recs s).lists = s.lists :=
  (finish_keeps (V := 879611449704458) rfl (.refl _ s)).frame .lists rfl
@[simp] theorem finish_pim (s : State) (f : Nat) (e : Entry) (long : Bool) (result : Nat) (status : Nat) (detail : Nat) (recs : List ListRec) : (finish f e long result status detail recs s).pim = s.pim :=
  (finish_keeps (V := 879611449704458) rfl (.refl _ s)).frame .pim rfl
@[simp] theorem finish_owners (s : State) (f : Nat) (e : Entry) (long : Bool) (result : Nat) (status : Nat) (detail : Nat) (recs : List ListRec) : (finish f e long result status detail recs s).owners = s.owners :=
  (finish_keeps (V := 879611449704458) rfl (.refl _ s)).frame .owners rfl
@[simp] theorem finish_points (s : State) (f : Nat) (e : Entry) (long : Bool) (result : Nat) (status : Nat) (detail : Nat) (recs : List ListRec) : (finish f e long result status detail recs s).points = s.points :=
  (finish_keeps (V := 879611449704458) rfl (.refl _ s)).frame .points rfl
@[simp] theorem finish_grants (s : State) (f : Nat) (e : Entry) (long : Bool) (result : Nat) (status : Nat) (detail : Nat) (recs : List ListRec) : (finish f e long result status detail recs s).grants = s.grants :=
  (finish_keeps (V := 879611449704458) rfl (.refl _ s)).frame .grants rfl
@[simp] theorem finish_rules (s : State) (f : Nat) (e : Entry) (long : Bool) (result : Nat) (status : Nat) (detail : Nat) (recs : List ListRec) : (finish f e long result status detail recs s).rules = s.rules :=
  (finish_keeps (V := 879611449704458) rfl (.refl _ s)).frame .rules rfl
@[simp] theorem finish_remote (s : State) (f : Nat) (e : Entry) (long : Bool) (result : Nat) (status : Nat) (detail : Nat) (recs : List ListRec) : (finish f e long result status detail recs s).remote = s.remote :=
  (finish_keeps (V := 879611449704458) rfl (.refl _ s)).frame .remote rfl
@[simp] theorem finish_copies (s : State) (f : Nat) (e : Entry) (long : Bool) (result : Nat) (status : Nat) (detail : Nat) (recs : List ListRec) : (finish f e long result status detail recs s).copies = s.copies :=
  (finish_keeps (V := 879611449704458) rfl (.refl _ s)).frame .copies rfl
@[simp] theorem finish_unseen (s : State) (f : Nat) (e : Entry) (long : Bool) (result : Nat) (status : Nat) (detail : Nat) (recs : List ListRec) : (finish f e long result status detail recs s).unseen = s.unseen :=
  (finish_keeps (V := 879611449704458) rfl (.refl _ s)).frame .unseen rfl
@[simp] theorem finish_bridge (s : State) (f : Nat) (e : Entry) (long : Bool) (result : Nat) (status : Nat) (detail : Nat) (recs : List ListRec) : (finish f e long result status detail recs s).bridge = s.bridge :=
  (finish_keeps (V := 879611449704458) rfl (.refl _ s)).frame .bridge rfl
@[simp] theorem finish_chans (s : State) (f : Nat) (e : Entry) (long : Bool) (result : Nat) (status : Nat) (detail : Nat) (recs : List ListRec) : (finish f e long result status detail recs s).chans = s.chans :=
  (finish_keeps (V := 879611449704458) rfl (.refl _ s)).frame .chans rfl
@[simp] theorem finish_nonces (s : State) (f : Nat) (e : Entry) (long : Bool) (result : Nat) (status : Nat) (detail : Nat) (recs : List ListRec) : (finish f e long result status detail recs s).nonces = s.nonces :=
  (finish_keeps (V := 879611449704458) rfl (.refl _ s)).frame .nonces rfl
@[simp] theorem finish_quar (s : State) (f : Nat) (e : Entry) (long : Bool) (result : Nat) (status : Nat) (detail : Nat) (recs : List ListRec) : (finish f e long result status detail recs s).quar = s.quar :=
  (finish_keeps (V := 879611449704458) rfl (.refl _ s)).frame .quar rfl
@[simp] theorem finish_policy (s : State) (f : Nat) (e : Entry) (long : Bool) (result : Nat) (status : Nat) (detail : Nat) (recs : List ListRec) : (finish f e long result status detail recs s).policy = s.policy :=
  (finish_keeps (V := 879611449704458) rfl (.refl _ s)).frame .policy rfl
@[simp] theorem finish_journal (s : State) (f : Nat) (e : Entry) (long : Bool) (result : Nat) (status : Nat) (detail : Nat) (recs : List ListRec) : (finish f e long result status detail recs s).journal = s.journal :=
  (finish_keeps (V := 879611449704458) rfl (.refl _ s)).frame .journal rfl
@[simp] theorem finish_half0 (s : State) (f : Nat) (e : Entry) (long : Bool) (result : Nat) (status : Nat) (detail : Nat) (recs : List ListRec) : (finish f e long result status detail recs s).half0 = s.half0 :=
  (finish_keeps (V := 879611449704458) rfl (.refl _ s)).frame .half0 rfl
@[simp] theorem finish_half1 (s : State) (f : Nat) (e : Entry) (long : Bool) (result : Nat) (status : Nat) (detail : Nat) (recs : List ListRec) : (finish f e long result status detail recs s).half1 = s.half1 :=
  (finish_keeps (V := 879611449704458) rfl (.refl _ s)).frame .half1 rfl
@[simp] theorem finish_half (s : State) (f : Nat) (e : Entry) (long : Bool) (result : Nat) (status : Nat) (detail : Nat) (recs : List ListRec) : (finish f e long result status detail recs s).half = s.half :=
  (finish_keeps (V := 879611449704458) rfl (.refl _ s)).frame .half rfl
@[simp] theorem finish_fw (s : State) (f : Nat) (e : Entry) (long : Bool) (result : Nat) (status : Nat) (detail : Nat) (recs : List ListRec) : (finish f e long result status detail recs s).fw = s.fw :=
  (finish_keeps (V := 879611449704458) rfl (.refl _ s)).frame .fw rfl
@[simp] theorem finish_mgt (s : State) (f : Nat) (e : Entry) (long : Bool) (result : Nat) (status : Nat) (detail : Nat) (recs : List ListRec) : (finish f e long result status detail recs s).mgt = s.mgt :=
  (finish_keeps (V := 879611449704458) rfl (.refl _ s)).frame .mgt rfl
@[simp] theorem finish_jtag (s : State) (f : Nat) (e : Entry) (long : Bool) (result : Nat) (status : Nat) (detail : Nat) (recs : List ListRec) : (finish f e long result status detail recs s).jtag = s.jtag :=
  (finish_keeps (V := 879611449704458) rfl (.refl _ s)).frame .jtag rfl
@[simp] theorem finish_pins (s : State) (f : Nat) (e : Entry) (long : Bool) (result : Nat) (status : Nat) (detail : Nat) (recs : List ListRec) : (finish f e long result status detail recs s).pins = s.pins :=
  (finish_keeps (V := 879611449704458) rfl (.refl _ s)).frame .pins rfl
@[simp] theorem finish_boot (s : State) (f : Nat) (e : Entry) (long : Bool) (result : Nat) (status : Nat) (detail : Nat) (recs : List ListRec) : (finish f e long result status detail recs s).boot = s.boot :=
  (finish_keeps (V := 879611449704458) rfl (.refl _ s)).frame .boot rfl
@[simp] theorem finish_chg (s : State) (f : Nat) (e : Entry) (long : Bool) (result : Nat) (status : Nat) (detail : Nat) (recs : List ListRec) : (finish f e long result status detail recs s).chg = s.chg :=
  (finish_keeps (V := 879611449704458) rfl (.refl _ s)).frame .chg rfl
@[simp] theorem finish_mesh (s : State) (f : Nat) (e : Entry) (long : Bool) (result : Nat) (status : Nat) (detail : Nat) (recs : List ListRec) : (finish f e long result status detail recs s).mesh = s.mesh :=
  (finish_keeps (V := 879611449704458) rfl (.refl _ s)).frame .mesh rfl
@[simp] theorem finish_meshFails (s : State) (f : Nat) (e : Entry) (long : Bool) (result : Nat) (status : Nat) (detail : Nat) (recs : List ListRec) : (finish f e long result status detail recs s).meshFails = s.meshFails :=
  (finish_keeps (V := 879611449704458) rfl (.refl _ s)).frame .meshFails rfl
@[simp] theorem finish_ready (s : State) (f : Nat) (e : Entry) (long : Bool) (result : Nat) (status : Nat) (detail : Nat) (recs : List ListRec) : (finish f e long result status detail recs s).ready = s.ready :=
  (finish_keeps (V := 879611449704458) rfl (.refl _ s)).frame .ready rfl
@[simp] theorem finish_link (s : State) (f : Nat) (e : Entry) (long : Bool) (result : Nat) (status : Nat) (detail : Nat) (recs : List ListRec) : (finish f e long result status detail recs s).link = s.link :=
  (finish_keeps (V := 879611449704458) rfl (.refl _ s)).frame .link rfl
@[simp] theorem finish_vfEnable (s : State) (f : Nat) (e : Entry) (long : Bool) (result : Nat) (status : Nat) (detail : Nat) (recs : List ListRec) : (finish f e long result status detail recs s).vfEnable = s.vfEnable :=
  (finish_keeps (V := 879611449704458) rfl (.refl _ s)).frame .vfEnable rfl
@[simp] theorem finish_vfMse (s : State) (f : Nat) (e : Entry) (long : Bool) (result : Nat) (status : Nat) (detail : Nat) (recs : List ListRec) : (finish f e long result status detail recs s).vfMse = s.vfMse :=
  (finish_keeps (V := 879611449704458) rfl (.refl _ s)).frame .vfMse rfl
@[simp] theorem finish_numVfs (s : State) (f : Nat) (e : Entry) (long : Bool) (result : Nat) (status : Nat) (detail : Nat) (recs : List ListRec) : (finish f e long result status detail recs s).numVfs = s.numVfs :=
  (finish_keeps (V := 879611449704458) rfl (.refl _ s)).frame .numVfs rfl
@[simp] theorem finish_ari (s : State) (f : Nat) (e : Entry) (long : Bool) (result : Nat) (status : Nat) (detail : Nat) (recs : List ListRec) : (finish f e long result status detail recs s).ari = s.ari :=
  (finish_keeps (V := 879611449704458) rfl (.refl _ s)).frame .ari rfl
@[simp] theorem finish_stamp (s : State) (f : Nat) (e : Entry) (long : Bool) (result : Nat) (status : Nat) (detail : Nat) (recs : List ListRec) : (finish f e long result status detail recs s).stamp = s.stamp :=
  (finish_keeps (V := 879611449704458) rfl (.refl _ s)).frame .stamp rfl
@[simp] theorem finish_stage (s : State) (f : Nat) (e : Entry) (long : Bool) (result : Nat) (status : Nat) (detail : Nat) (recs : List ListRec) : (finish f e long result status detail recs s).stage = s.stage :=
  (finish_keeps (V := 879611449704458) rfl (.refl _ s)).frame .stage rfl
@[simp] theorem finish_lastCancel (s : State) (f : Nat) (e : Entry) (long : Bool) (result : Nat) (status : Nat) (detail : Nat) (recs : List ListRec) : (finish f e long result status detail recs s).lastCancel = s.lastCancel :=
  (finish_keeps (V := 879611449704458) rfl (.refl _ s)).frame .lastCancel rfl
@[simp] theorem finish_stopping (s : State) (f : Nat) (e : Entry) (long : Bool) (result : Nat) (status : Nat) (detail : Nat) (recs : List ListRec) : (finish f e long result status detail recs s).stopping = s.stopping :=
  (finish_keeps (V := 879611449704458) rfl (.refl _ s)).frame .stopping rfl
@[simp] theorem finish_xogate (s : State) (f : Nat) (e : Entry) (long : Bool) (result : Nat) (status : Nat) (detail : Nat) (recs : List ListRec) : (finish f e long result status detail recs s).xogate = s.xogate :=
  (finish_keeps (V := 879611449704458) rfl (.refl _ s)).frame .xogate rfl
@[simp] theorem finish_accepts (s : State) (f : Nat) (e : Entry) (long : Bool) (result : Nat) (status : Nat) (detail : Nat) (recs : List ListRec) : (finish f e long result status detail recs s).accepts = s.accepts :=
  (finish_keeps (V := 879611449704458) rfl (.refl _ s)).frame .accepts rfl
@[simp] theorem finish_free (s : State) (f : Nat) (e : Entry) (long : Bool) (result : Nat) (status : Nat) (detail : Nat) (recs : List ListRec) : (finish f e long result status detail recs s).free = s.free :=
  (finish_keeps (V := 879611449704458) rfl (.refl _ s)).frame .free rfl
@[simp] theorem finish_port_of (s : State) (f : Nat) (e : Entry) (long : Bool) (result : Nat) (status : Nat) (detail : Nat) (recs : List ListRec) (i : Nat) : (finish f e long result status detail recs s).port i = s.port i := by
  simp only [State.port, finish_ports]
@[simp] theorem finish_node_of (s : State) (f : Nat) (e : Entry) (long : Bool) (result : Nat) (status : Nat) (detail : Nat) (recs : List ListRec) (i j : Nat) : (finish f e long result status detail recs s).node i j = s.node i j := by
  simp only [State.node, finish_nodes]
@[simp] theorem finish_plan_of (s : State) (f : Nat) (e : Entry) (long : Bool) (result : Nat) (status : Nat) (detail : Nat) (recs : List ListRec) (i : Nat) : (finish f e long result status detail recs s).plan i = s.plan i := by
  simp only [State.plan, finish_plans]
@[simp] theorem finish_list_of (s : State) (f : Nat) (e : Entry) (long : Bool) (result : Nat) (status : Nat) (detail : Nat) (recs : List ListRec) (i j : Nat) : (finish f e long result status detail recs s).list i j = s.list i j := by
  simp only [State.list, finish_lists]
@[simp] theorem finish_chan_of (s : State) (f : Nat) (e : Entry) (long : Bool) (result : Nat) (status : Nat) (detail : Nat) (recs : List ListRec) (i : Nat) : (finish f e long result status detail recs s).chan i = s.chan i := by
  simp only [State.chan, finish_chans]
@[simp] theorem finish_point_of (s : State) (f : Nat) (e : Entry) (long : Bool) (result : Nat) (status : Nat) (detail : Nat) (recs : List ListRec) (i : Nat) : (finish f e long result status detail recs s).point i = s.point i := by
  simp only [State.point, finish_points]
@[simp] theorem finish_record_of (s : State) (f : Nat) (e : Entry) (long : Bool) (result : Nat) (status : Nat) (detail : Nat) (recs : List ListRec) (i : Nat) : (finish f e long result status detail recs s).record i = s.record i := by
  simp only [State.record, finish_pim]
@[simp] theorem finish_hasTile_of (s : State) (f : Nat) (e : Entry) (long : Bool) (result : Nat) (status : Nat) (detail : Nat) (recs : List ListRec) (i : Nat) : (finish f e long result status detail recs s).hasTile i = s.hasTile i := by
  simp only [State.hasTile, finish_tiles]
@[simp] theorem finish_hasPort_of (s : State) (f : Nat) (e : Entry) (long : Bool) (result : Nat) (status : Nat) (detail : Nat) (recs : List ListRec) (i : Nat) : (finish f e long result status detail recs s).hasPort i = s.hasPort i :=
  congrArg (fun n => decide (i < 16 * n)) (finish_tiles ..)

/-! ### commitHandle -/

@[simp] theorem commitHandle_pending (s : State) (f : Nat) (seq : Nat) : (commitHandle f seq s).pending = s.pending :=
  (commitHandle_keeps (V := 8) rfl (.refl _ s)).queue
@[simp] theorem commitHandle_tiles (s : State) (f : Nat) (seq : Nat) : (commitHandle f seq s).tiles = s.tiles :=
  (commitHandle_keeps (V := 8) rfl (.refl _ s)).tiles
@[simp] theorem commitHandle_time (s : State) (f : Nat) (seq : Nat) : (commitHandle f seq s).time = s.time :=
  (commitHandle_keeps (V := 8) rfl (.refl _ s)).frame .time rfl
@[simp] theorem commitHandle_regs (s : State) (f : Nat) (seq : Nat) : (commitHandle f seq s).regs = s.regs :=
  (commitHandle_keeps (V := 8) rfl (.refl _ s)).frame .regs rfl
@[simp] theorem commitHandle_stored (s : State) (f : Nat) (seq : Nat) : (commitHandle f seq s).stored = s.stored :=
  (commitHandle_keeps (V := 8) rfl (.refl _ s)).frame .stored rfl
@[simp] theorem commitHandle_ports (s : State) (f : Nat) (seq : Nat) : (commitHandle f seq s).ports = s.ports :=
  (commitHandle_keeps (V := 8) rfl (.refl _ s)).frame .ports rfl
@[simp] theorem commitHandle_nodes (s : State) (f : Nat) (seq : Nat) : (commitHandle f seq s).nodes = s.nodes :=
  (commitHandle_keeps (V := 8) rfl (.refl _ s)).frame .nodes rfl
@[simp] theorem commitHandle_plans (s : State) (f : Nat) (seq : Nat) : (commitHandle f seq s).plans = s.plans :=
  (commitHandle_keeps (V := 8) rfl (.refl _ s)).frame .plans rfl
@[simp] theorem commitHandle_lists (s : State) (f : Nat) (seq : Nat) : (commitHandle f seq s).lists = s.lists :=
  (commitHandle_keeps (V := 8) rfl (.refl _ s)).frame .lists rfl
@[simp] theorem commitHandle_pim (s : State) (f : Nat) (seq : Nat) : (commitHandle f seq s).pim = s.pim :=
  (commitHandle_keeps (V := 8) rfl (.refl _ s)).frame .pim rfl
@[simp] theorem commitHandle_owners (s : State) (f : Nat) (seq : Nat) : (commitHandle f seq s).owners = s.owners :=
  (commitHandle_keeps (V := 8) rfl (.refl _ s)).frame .owners rfl
@[simp] theorem commitHandle_points (s : State) (f : Nat) (seq : Nat) : (commitHandle f seq s).points = s.points :=
  (commitHandle_keeps (V := 8) rfl (.refl _ s)).frame .points rfl
@[simp] theorem commitHandle_grants (s : State) (f : Nat) (seq : Nat) : (commitHandle f seq s).grants = s.grants :=
  (commitHandle_keeps (V := 8) rfl (.refl _ s)).frame .grants rfl
@[simp] theorem commitHandle_rules (s : State) (f : Nat) (seq : Nat) : (commitHandle f seq s).rules = s.rules :=
  (commitHandle_keeps (V := 8) rfl (.refl _ s)).frame .rules rfl
@[simp] theorem commitHandle_remote (s : State) (f : Nat) (seq : Nat) : (commitHandle f seq s).remote = s.remote :=
  (commitHandle_keeps (V := 8) rfl (.refl _ s)).frame .remote rfl
@[simp] theorem commitHandle_copies (s : State) (f : Nat) (seq : Nat) : (commitHandle f seq s).copies = s.copies :=
  (commitHandle_keeps (V := 8) rfl (.refl _ s)).frame .copies rfl
@[simp] theorem commitHandle_unseen (s : State) (f : Nat) (seq : Nat) : (commitHandle f seq s).unseen = s.unseen :=
  (commitHandle_keeps (V := 8) rfl (.refl _ s)).frame .unseen rfl
@[simp] theorem commitHandle_bridge (s : State) (f : Nat) (seq : Nat) : (commitHandle f seq s).bridge = s.bridge :=
  (commitHandle_keeps (V := 8) rfl (.refl _ s)).frame .bridge rfl
@[simp] theorem commitHandle_chans (s : State) (f : Nat) (seq : Nat) : (commitHandle f seq s).chans = s.chans :=
  (commitHandle_keeps (V := 8) rfl (.refl _ s)).frame .chans rfl
@[simp] theorem commitHandle_nonces (s : State) (f : Nat) (seq : Nat) : (commitHandle f seq s).nonces = s.nonces :=
  (commitHandle_keeps (V := 8) rfl (.refl _ s)).frame .nonces rfl
@[simp] theorem commitHandle_quar (s : State) (f : Nat) (seq : Nat) : (commitHandle f seq s).quar = s.quar :=
  (commitHandle_keeps (V := 8) rfl (.refl _ s)).frame .quar rfl
@[simp] theorem commitHandle_policy (s : State) (f : Nat) (seq : Nat) : (commitHandle f seq s).policy = s.policy :=
  (commitHandle_keeps (V := 8) rfl (.refl _ s)).frame .policy rfl
@[simp] theorem commitHandle_journal (s : State) (f : Nat) (seq : Nat) : (commitHandle f seq s).journal = s.journal :=
  (commitHandle_keeps (V := 8) rfl (.refl _ s)).frame .journal rfl
@[simp] theorem commitHandle_half0 (s : State) (f : Nat) (seq : Nat) : (commitHandle f seq s).half0 = s.half0 :=
  (commitHandle_keeps (V := 8) rfl (.refl _ s)).frame .half0 rfl
@[simp] theorem commitHandle_half1 (s : State) (f : Nat) (seq : Nat) : (commitHandle f seq s).half1 = s.half1 :=
  (commitHandle_keeps (V := 8) rfl (.refl _ s)).frame .half1 rfl
@[simp] theorem commitHandle_half (s : State) (f : Nat) (seq : Nat) : (commitHandle f seq s).half = s.half :=
  (commitHandle_keeps (V := 8) rfl (.refl _ s)).frame .half rfl
@[simp] theorem commitHandle_fw (s : State) (f : Nat) (seq : Nat) : (commitHandle f seq s).fw = s.fw :=
  (commitHandle_keeps (V := 8) rfl (.refl _ s)).frame .fw rfl
@[simp] theorem commitHandle_mgt (s : State) (f : Nat) (seq : Nat) : (commitHandle f seq s).mgt = s.mgt :=
  (commitHandle_keeps (V := 8) rfl (.refl _ s)).frame .mgt rfl
@[simp] theorem commitHandle_jtag (s : State) (f : Nat) (seq : Nat) : (commitHandle f seq s).jtag = s.jtag :=
  (commitHandle_keeps (V := 8) rfl (.refl _ s)).frame .jtag rfl
@[simp] theorem commitHandle_pins (s : State) (f : Nat) (seq : Nat) : (commitHandle f seq s).pins = s.pins :=
  (commitHandle_keeps (V := 8) rfl (.refl _ s)).frame .pins rfl
@[simp] theorem commitHandle_boot (s : State) (f : Nat) (seq : Nat) : (commitHandle f seq s).boot = s.boot :=
  (commitHandle_keeps (V := 8) rfl (.refl _ s)).frame .boot rfl
@[simp] theorem commitHandle_chg (s : State) (f : Nat) (seq : Nat) : (commitHandle f seq s).chg = s.chg :=
  (commitHandle_keeps (V := 8) rfl (.refl _ s)).frame .chg rfl
@[simp] theorem commitHandle_tile (s : State) (f : Nat) (seq : Nat) : (commitHandle f seq s).tile = s.tile :=
  (commitHandle_keeps (V := 8) rfl (.refl _ s)).frame .tile rfl
@[simp] theorem commitHandle_mesh (s : State) (f : Nat) (seq : Nat) : (commitHandle f seq s).mesh = s.mesh :=
  (commitHandle_keeps (V := 8) rfl (.refl _ s)).frame .mesh rfl
@[simp] theorem commitHandle_meshFails (s : State) (f : Nat) (seq : Nat) : (commitHandle f seq s).meshFails = s.meshFails :=
  (commitHandle_keeps (V := 8) rfl (.refl _ s)).frame .meshFails rfl
@[simp] theorem commitHandle_ready (s : State) (f : Nat) (seq : Nat) : (commitHandle f seq s).ready = s.ready :=
  (commitHandle_keeps (V := 8) rfl (.refl _ s)).frame .ready rfl
@[simp] theorem commitHandle_link (s : State) (f : Nat) (seq : Nat) : (commitHandle f seq s).link = s.link :=
  (commitHandle_keeps (V := 8) rfl (.refl _ s)).frame .link rfl
@[simp] theorem commitHandle_vfEnable (s : State) (f : Nat) (seq : Nat) : (commitHandle f seq s).vfEnable = s.vfEnable :=
  (commitHandle_keeps (V := 8) rfl (.refl _ s)).frame .vfEnable rfl
@[simp] theorem commitHandle_vfMse (s : State) (f : Nat) (seq : Nat) : (commitHandle f seq s).vfMse = s.vfMse :=
  (commitHandle_keeps (V := 8) rfl (.refl _ s)).frame .vfMse rfl
@[simp] theorem commitHandle_numVfs (s : State) (f : Nat) (seq : Nat) : (commitHandle f seq s).numVfs = s.numVfs :=
  (commitHandle_keeps (V := 8) rfl (.refl _ s)).frame .numVfs rfl
@[simp] theorem commitHandle_ari (s : State) (f : Nat) (seq : Nat) : (commitHandle f seq s).ari = s.ari :=
  (commitHandle_keeps (V := 8) rfl (.refl _ s)).frame .ari rfl
@[simp] theorem commitHandle_stamp (s : State) (f : Nat) (seq : Nat) : (commitHandle f seq s).stamp = s.stamp :=
  (commitHandle_keeps (V := 8) rfl (.refl _ s)).frame .stamp rfl
@[simp] theorem commitHandle_stage (s : State) (f : Nat) (seq : Nat) : (commitHandle f seq s).stage = s.stage :=
  (commitHandle_keeps (V := 8) rfl (.refl _ s)).frame .stage rfl
@[simp] theorem commitHandle_lastCancel (s : State) (f : Nat) (seq : Nat) : (commitHandle f seq s).lastCancel = s.lastCancel :=
  (commitHandle_keeps (V := 8) rfl (.refl _ s)).frame .lastCancel rfl
@[simp] theorem commitHandle_stopping (s : State) (f : Nat) (seq : Nat) : (commitHandle f seq s).stopping = s.stopping :=
  (commitHandle_keeps (V := 8) rfl (.refl _ s)).frame .stopping rfl
@[simp] theorem commitHandle_xogate (s : State) (f : Nat) (seq : Nat) : (commitHandle f seq s).xogate = s.xogate :=
  (commitHandle_keeps (V := 8) rfl (.refl _ s)).frame .xogate rfl
@[simp] theorem commitHandle_evHeld (s : State) (f : Nat) (seq : Nat) : (commitHandle f seq s).evHeld = s.evHeld :=
  (commitHandle_keeps (V := 8) rfl (.refl _ s)).frame .evHeld rfl
@[simp] theorem commitHandle_accepts (s : State) (f : Nat) (seq : Nat) : (commitHandle f seq s).accepts = s.accepts :=
  (commitHandle_keeps (V := 8) rfl (.refl _ s)).frame .accepts rfl
@[simp] theorem commitHandle_free (s : State) (f : Nat) (seq : Nat) : (commitHandle f seq s).free = s.free :=
  (commitHandle_keeps (V := 8) rfl (.refl _ s)).frame .free rfl
@[simp] theorem commitHandle_tlpHeld (s : State) (f : Nat) (seq : Nat) : (commitHandle f seq s).tlpHeld = s.tlpHeld :=
  (commitHandle_keeps (V := 8) rfl (.refl _ s)).frame .tlpHeld rfl
@[simp] theorem commitHandle_wire (s : State) (f : Nat) (seq : Nat) : (commitHandle f seq s).wire = s.wire :=
  (commitHandle_keeps (V := 8) rfl (.refl _ s)).frame .wire rfl
@[simp] theorem commitHandle_port_of (s : State) (f : Nat) (seq : Nat) (i : Nat) : (commitHandle f seq s).port i = s.port i := by
  simp only [State.port, commitHandle_ports]
@[simp] theorem commitHandle_node_of (s : State) (f : Nat) (seq : Nat) (i j : Nat) : (commitHandle f seq s).node i j = s.node i j := by
  simp only [State.node, commitHandle_nodes]
@[simp] theorem commitHandle_tl_of (s : State) (f : Nat) (seq : Nat) (i : Nat) : (commitHandle f seq s).tl i = s.tl i := by
  simp only [State.tl, commitHandle_tile]
@[simp] theorem commitHandle_plan_of (s : State) (f : Nat) (seq : Nat) (i : Nat) : (commitHandle f seq s).plan i = s.plan i := by
  simp only [State.plan, commitHandle_plans]
@[simp] theorem commitHandle_list_of (s : State) (f : Nat) (seq : Nat) (i j : Nat) : (commitHandle f seq s).list i j = s.list i j := by
  simp only [State.list, commitHandle_lists]
@[simp] theorem commitHandle_chan_of (s : State) (f : Nat) (seq : Nat) (i : Nat) : (commitHandle f seq s).chan i = s.chan i := by
  simp only [State.chan, commitHandle_chans]
@[simp] theorem commitHandle_point_of (s : State) (f : Nat) (seq : Nat) (i : Nat) : (commitHandle f seq s).point i = s.point i := by
  simp only [State.point, commitHandle_points]
@[simp] theorem commitHandle_record_of (s : State) (f : Nat) (seq : Nat) (i : Nat) : (commitHandle f seq s).record i = s.record i := by
  simp only [State.record, commitHandle_pim]
@[simp] theorem commitHandle_reg_of (s : State) (f : Nat) (seq : Nat) (e y i o : Nat) : (commitHandle f seq s).reg e y i o = s.reg e y i o := by
  simp only [State.reg, commitHandle_regs]
@[simp] theorem commitHandle_hasTile_of (s : State) (f : Nat) (seq : Nat) (i : Nat) : (commitHandle f seq s).hasTile i = s.hasTile i := by
  simp only [State.hasTile, commitHandle_tiles]
@[simp] theorem commitHandle_hasPort_of (s : State) (f : Nat) (seq : Nat) (i : Nat) : (commitHandle f seq s).hasPort i = s.hasPort i :=
  congrArg (fun n => decide (i < 16 * n)) (commitHandle_tiles ..)

/-! ### failHandle -/

@[simp] theorem failHandle_pending (s : State) (f : Nat) (seq : Nat) (status : Nat) (detail : Nat) : (failHandle f seq status detail s).pending = s.pending :=
  (failHandle_keeps (V := 8) rfl (.refl _ s)).queue
@[simp] theorem failHandle_tiles (s : State) (f : Nat) (seq : Nat) (status : Nat) (detail : Nat) : (failHandle f seq status detail s).tiles = s.tiles :=
  (failHandle_keeps (V := 8) rfl (.refl _ s)).tiles
@[simp] theorem failHandle_time (s : State) (f : Nat) (seq : Nat) (status : Nat) (detail : Nat) : (failHandle f seq status detail s).time = s.time :=
  (failHandle_keeps (V := 8) rfl (.refl _ s)).frame .time rfl
@[simp] theorem failHandle_regs (s : State) (f : Nat) (seq : Nat) (status : Nat) (detail : Nat) : (failHandle f seq status detail s).regs = s.regs :=
  (failHandle_keeps (V := 8) rfl (.refl _ s)).frame .regs rfl
@[simp] theorem failHandle_stored (s : State) (f : Nat) (seq : Nat) (status : Nat) (detail : Nat) : (failHandle f seq status detail s).stored = s.stored :=
  (failHandle_keeps (V := 8) rfl (.refl _ s)).frame .stored rfl
@[simp] theorem failHandle_ports (s : State) (f : Nat) (seq : Nat) (status : Nat) (detail : Nat) : (failHandle f seq status detail s).ports = s.ports :=
  (failHandle_keeps (V := 8) rfl (.refl _ s)).frame .ports rfl
@[simp] theorem failHandle_nodes (s : State) (f : Nat) (seq : Nat) (status : Nat) (detail : Nat) : (failHandle f seq status detail s).nodes = s.nodes :=
  (failHandle_keeps (V := 8) rfl (.refl _ s)).frame .nodes rfl
@[simp] theorem failHandle_plans (s : State) (f : Nat) (seq : Nat) (status : Nat) (detail : Nat) : (failHandle f seq status detail s).plans = s.plans :=
  (failHandle_keeps (V := 8) rfl (.refl _ s)).frame .plans rfl
@[simp] theorem failHandle_lists (s : State) (f : Nat) (seq : Nat) (status : Nat) (detail : Nat) : (failHandle f seq status detail s).lists = s.lists :=
  (failHandle_keeps (V := 8) rfl (.refl _ s)).frame .lists rfl
@[simp] theorem failHandle_pim (s : State) (f : Nat) (seq : Nat) (status : Nat) (detail : Nat) : (failHandle f seq status detail s).pim = s.pim :=
  (failHandle_keeps (V := 8) rfl (.refl _ s)).frame .pim rfl
@[simp] theorem failHandle_owners (s : State) (f : Nat) (seq : Nat) (status : Nat) (detail : Nat) : (failHandle f seq status detail s).owners = s.owners :=
  (failHandle_keeps (V := 8) rfl (.refl _ s)).frame .owners rfl
@[simp] theorem failHandle_points (s : State) (f : Nat) (seq : Nat) (status : Nat) (detail : Nat) : (failHandle f seq status detail s).points = s.points :=
  (failHandle_keeps (V := 8) rfl (.refl _ s)).frame .points rfl
@[simp] theorem failHandle_grants (s : State) (f : Nat) (seq : Nat) (status : Nat) (detail : Nat) : (failHandle f seq status detail s).grants = s.grants :=
  (failHandle_keeps (V := 8) rfl (.refl _ s)).frame .grants rfl
@[simp] theorem failHandle_rules (s : State) (f : Nat) (seq : Nat) (status : Nat) (detail : Nat) : (failHandle f seq status detail s).rules = s.rules :=
  (failHandle_keeps (V := 8) rfl (.refl _ s)).frame .rules rfl
@[simp] theorem failHandle_remote (s : State) (f : Nat) (seq : Nat) (status : Nat) (detail : Nat) : (failHandle f seq status detail s).remote = s.remote :=
  (failHandle_keeps (V := 8) rfl (.refl _ s)).frame .remote rfl
@[simp] theorem failHandle_copies (s : State) (f : Nat) (seq : Nat) (status : Nat) (detail : Nat) : (failHandle f seq status detail s).copies = s.copies :=
  (failHandle_keeps (V := 8) rfl (.refl _ s)).frame .copies rfl
@[simp] theorem failHandle_unseen (s : State) (f : Nat) (seq : Nat) (status : Nat) (detail : Nat) : (failHandle f seq status detail s).unseen = s.unseen :=
  (failHandle_keeps (V := 8) rfl (.refl _ s)).frame .unseen rfl
@[simp] theorem failHandle_bridge (s : State) (f : Nat) (seq : Nat) (status : Nat) (detail : Nat) : (failHandle f seq status detail s).bridge = s.bridge :=
  (failHandle_keeps (V := 8) rfl (.refl _ s)).frame .bridge rfl
@[simp] theorem failHandle_chans (s : State) (f : Nat) (seq : Nat) (status : Nat) (detail : Nat) : (failHandle f seq status detail s).chans = s.chans :=
  (failHandle_keeps (V := 8) rfl (.refl _ s)).frame .chans rfl
@[simp] theorem failHandle_nonces (s : State) (f : Nat) (seq : Nat) (status : Nat) (detail : Nat) : (failHandle f seq status detail s).nonces = s.nonces :=
  (failHandle_keeps (V := 8) rfl (.refl _ s)).frame .nonces rfl
@[simp] theorem failHandle_quar (s : State) (f : Nat) (seq : Nat) (status : Nat) (detail : Nat) : (failHandle f seq status detail s).quar = s.quar :=
  (failHandle_keeps (V := 8) rfl (.refl _ s)).frame .quar rfl
@[simp] theorem failHandle_policy (s : State) (f : Nat) (seq : Nat) (status : Nat) (detail : Nat) : (failHandle f seq status detail s).policy = s.policy :=
  (failHandle_keeps (V := 8) rfl (.refl _ s)).frame .policy rfl
@[simp] theorem failHandle_journal (s : State) (f : Nat) (seq : Nat) (status : Nat) (detail : Nat) : (failHandle f seq status detail s).journal = s.journal :=
  (failHandle_keeps (V := 8) rfl (.refl _ s)).frame .journal rfl
@[simp] theorem failHandle_half0 (s : State) (f : Nat) (seq : Nat) (status : Nat) (detail : Nat) : (failHandle f seq status detail s).half0 = s.half0 :=
  (failHandle_keeps (V := 8) rfl (.refl _ s)).frame .half0 rfl
@[simp] theorem failHandle_half1 (s : State) (f : Nat) (seq : Nat) (status : Nat) (detail : Nat) : (failHandle f seq status detail s).half1 = s.half1 :=
  (failHandle_keeps (V := 8) rfl (.refl _ s)).frame .half1 rfl
@[simp] theorem failHandle_half (s : State) (f : Nat) (seq : Nat) (status : Nat) (detail : Nat) : (failHandle f seq status detail s).half = s.half :=
  (failHandle_keeps (V := 8) rfl (.refl _ s)).frame .half rfl
@[simp] theorem failHandle_fw (s : State) (f : Nat) (seq : Nat) (status : Nat) (detail : Nat) : (failHandle f seq status detail s).fw = s.fw :=
  (failHandle_keeps (V := 8) rfl (.refl _ s)).frame .fw rfl
@[simp] theorem failHandle_mgt (s : State) (f : Nat) (seq : Nat) (status : Nat) (detail : Nat) : (failHandle f seq status detail s).mgt = s.mgt :=
  (failHandle_keeps (V := 8) rfl (.refl _ s)).frame .mgt rfl
@[simp] theorem failHandle_jtag (s : State) (f : Nat) (seq : Nat) (status : Nat) (detail : Nat) : (failHandle f seq status detail s).jtag = s.jtag :=
  (failHandle_keeps (V := 8) rfl (.refl _ s)).frame .jtag rfl
@[simp] theorem failHandle_pins (s : State) (f : Nat) (seq : Nat) (status : Nat) (detail : Nat) : (failHandle f seq status detail s).pins = s.pins :=
  (failHandle_keeps (V := 8) rfl (.refl _ s)).frame .pins rfl
@[simp] theorem failHandle_boot (s : State) (f : Nat) (seq : Nat) (status : Nat) (detail : Nat) : (failHandle f seq status detail s).boot = s.boot :=
  (failHandle_keeps (V := 8) rfl (.refl _ s)).frame .boot rfl
@[simp] theorem failHandle_chg (s : State) (f : Nat) (seq : Nat) (status : Nat) (detail : Nat) : (failHandle f seq status detail s).chg = s.chg :=
  (failHandle_keeps (V := 8) rfl (.refl _ s)).frame .chg rfl
@[simp] theorem failHandle_tile (s : State) (f : Nat) (seq : Nat) (status : Nat) (detail : Nat) : (failHandle f seq status detail s).tile = s.tile :=
  (failHandle_keeps (V := 8) rfl (.refl _ s)).frame .tile rfl
@[simp] theorem failHandle_mesh (s : State) (f : Nat) (seq : Nat) (status : Nat) (detail : Nat) : (failHandle f seq status detail s).mesh = s.mesh :=
  (failHandle_keeps (V := 8) rfl (.refl _ s)).frame .mesh rfl
@[simp] theorem failHandle_meshFails (s : State) (f : Nat) (seq : Nat) (status : Nat) (detail : Nat) : (failHandle f seq status detail s).meshFails = s.meshFails :=
  (failHandle_keeps (V := 8) rfl (.refl _ s)).frame .meshFails rfl
@[simp] theorem failHandle_ready (s : State) (f : Nat) (seq : Nat) (status : Nat) (detail : Nat) : (failHandle f seq status detail s).ready = s.ready :=
  (failHandle_keeps (V := 8) rfl (.refl _ s)).frame .ready rfl
@[simp] theorem failHandle_link (s : State) (f : Nat) (seq : Nat) (status : Nat) (detail : Nat) : (failHandle f seq status detail s).link = s.link :=
  (failHandle_keeps (V := 8) rfl (.refl _ s)).frame .link rfl
@[simp] theorem failHandle_vfEnable (s : State) (f : Nat) (seq : Nat) (status : Nat) (detail : Nat) : (failHandle f seq status detail s).vfEnable = s.vfEnable :=
  (failHandle_keeps (V := 8) rfl (.refl _ s)).frame .vfEnable rfl
@[simp] theorem failHandle_vfMse (s : State) (f : Nat) (seq : Nat) (status : Nat) (detail : Nat) : (failHandle f seq status detail s).vfMse = s.vfMse :=
  (failHandle_keeps (V := 8) rfl (.refl _ s)).frame .vfMse rfl
@[simp] theorem failHandle_numVfs (s : State) (f : Nat) (seq : Nat) (status : Nat) (detail : Nat) : (failHandle f seq status detail s).numVfs = s.numVfs :=
  (failHandle_keeps (V := 8) rfl (.refl _ s)).frame .numVfs rfl
@[simp] theorem failHandle_ari (s : State) (f : Nat) (seq : Nat) (status : Nat) (detail : Nat) : (failHandle f seq status detail s).ari = s.ari :=
  (failHandle_keeps (V := 8) rfl (.refl _ s)).frame .ari rfl
@[simp] theorem failHandle_stamp (s : State) (f : Nat) (seq : Nat) (status : Nat) (detail : Nat) : (failHandle f seq status detail s).stamp = s.stamp :=
  (failHandle_keeps (V := 8) rfl (.refl _ s)).frame .stamp rfl
@[simp] theorem failHandle_stage (s : State) (f : Nat) (seq : Nat) (status : Nat) (detail : Nat) : (failHandle f seq status detail s).stage = s.stage :=
  (failHandle_keeps (V := 8) rfl (.refl _ s)).frame .stage rfl
@[simp] theorem failHandle_lastCancel (s : State) (f : Nat) (seq : Nat) (status : Nat) (detail : Nat) : (failHandle f seq status detail s).lastCancel = s.lastCancel :=
  (failHandle_keeps (V := 8) rfl (.refl _ s)).frame .lastCancel rfl
@[simp] theorem failHandle_stopping (s : State) (f : Nat) (seq : Nat) (status : Nat) (detail : Nat) : (failHandle f seq status detail s).stopping = s.stopping :=
  (failHandle_keeps (V := 8) rfl (.refl _ s)).frame .stopping rfl
@[simp] theorem failHandle_xogate (s : State) (f : Nat) (seq : Nat) (status : Nat) (detail : Nat) : (failHandle f seq status detail s).xogate = s.xogate :=
  (failHandle_keeps (V := 8) rfl (.refl _ s)).frame .xogate rfl
@[simp] theorem failHandle_evHeld (s : State) (f : Nat) (seq : Nat) (status : Nat) (detail : Nat) : (failHandle f seq status detail s).evHeld = s.evHeld :=
  (failHandle_keeps (V := 8) rfl (.refl _ s)).frame .evHeld rfl
@[simp] theorem failHandle_accepts (s : State) (f : Nat) (seq : Nat) (status : Nat) (detail : Nat) : (failHandle f seq status detail s).accepts = s.accepts :=
  (failHandle_keeps (V := 8) rfl (.refl _ s)).frame .accepts rfl
@[simp] theorem failHandle_free (s : State) (f : Nat) (seq : Nat) (status : Nat) (detail : Nat) : (failHandle f seq status detail s).free = s.free :=
  (failHandle_keeps (V := 8) rfl (.refl _ s)).frame .free rfl
@[simp] theorem failHandle_tlpHeld (s : State) (f : Nat) (seq : Nat) (status : Nat) (detail : Nat) : (failHandle f seq status detail s).tlpHeld = s.tlpHeld :=
  (failHandle_keeps (V := 8) rfl (.refl _ s)).frame .tlpHeld rfl
@[simp] theorem failHandle_wire (s : State) (f : Nat) (seq : Nat) (status : Nat) (detail : Nat) : (failHandle f seq status detail s).wire = s.wire :=
  (failHandle_keeps (V := 8) rfl (.refl _ s)).frame .wire rfl
@[simp] theorem failHandle_port_of (s : State) (f : Nat) (seq : Nat) (status : Nat) (detail : Nat) (i : Nat) : (failHandle f seq status detail s).port i = s.port i := by
  simp only [State.port, failHandle_ports]
@[simp] theorem failHandle_node_of (s : State) (f : Nat) (seq : Nat) (status : Nat) (detail : Nat) (i j : Nat) : (failHandle f seq status detail s).node i j = s.node i j := by
  simp only [State.node, failHandle_nodes]
@[simp] theorem failHandle_tl_of (s : State) (f : Nat) (seq : Nat) (status : Nat) (detail : Nat) (i : Nat) : (failHandle f seq status detail s).tl i = s.tl i := by
  simp only [State.tl, failHandle_tile]
@[simp] theorem failHandle_plan_of (s : State) (f : Nat) (seq : Nat) (status : Nat) (detail : Nat) (i : Nat) : (failHandle f seq status detail s).plan i = s.plan i := by
  simp only [State.plan, failHandle_plans]
@[simp] theorem failHandle_list_of (s : State) (f : Nat) (seq : Nat) (status : Nat) (detail : Nat) (i j : Nat) : (failHandle f seq status detail s).list i j = s.list i j := by
  simp only [State.list, failHandle_lists]
@[simp] theorem failHandle_chan_of (s : State) (f : Nat) (seq : Nat) (status : Nat) (detail : Nat) (i : Nat) : (failHandle f seq status detail s).chan i = s.chan i := by
  simp only [State.chan, failHandle_chans]
@[simp] theorem failHandle_point_of (s : State) (f : Nat) (seq : Nat) (status : Nat) (detail : Nat) (i : Nat) : (failHandle f seq status detail s).point i = s.point i := by
  simp only [State.point, failHandle_points]
@[simp] theorem failHandle_record_of (s : State) (f : Nat) (seq : Nat) (status : Nat) (detail : Nat) (i : Nat) : (failHandle f seq status detail s).record i = s.record i := by
  simp only [State.record, failHandle_pim]
@[simp] theorem failHandle_reg_of (s : State) (f : Nat) (seq : Nat) (status : Nat) (detail : Nat) (e y i o : Nat) : (failHandle f seq status detail s).reg e y i o = s.reg e y i o := by
  simp only [State.reg, failHandle_regs]
@[simp] theorem failHandle_hasTile_of (s : State) (f : Nat) (seq : Nat) (status : Nat) (detail : Nat) (i : Nat) : (failHandle f seq status detail s).hasTile i = s.hasTile i := by
  simp only [State.hasTile, failHandle_tiles]
@[simp] theorem failHandle_hasPort_of (s : State) (f : Nat) (seq : Nat) (status : Nat) (detail : Nat) (i : Nat) : (failHandle f seq status detail s).hasPort i = s.hasPort i :=
  congrArg (fun n => decide (i < 16 * n)) (failHandle_tiles ..)

/-! ### dropSnap -/

@[simp] theorem dropSnap_pending (s : State) (f : Nat) (b : Nat) : (dropSnap f b s).pending = s.pending :=
  (dropSnap_keeps (V := 8) rfl (.refl _ s)).queue
@[simp] theorem dropSnap_tiles (s : State) (f : Nat) (b : Nat) : (dropSnap f b s).tiles = s.tiles :=
  (dropSnap_keeps (V := 8) rfl (.refl _ s)).tiles
@[simp] theorem dropSnap_time (s : State) (f : Nat) (b : Nat) : (dropSnap f b s).time = s.time :=
  (dropSnap_keeps (V := 8) rfl (.refl _ s)).frame .time rfl
@[simp] theorem dropSnap_regs (s : State) (f : Nat) (b : Nat) : (dropSnap f b s).regs = s.regs :=
  (dropSnap_keeps (V := 8) rfl (.refl _ s)).frame .regs rfl
@[simp] theorem dropSnap_stored (s : State) (f : Nat) (b : Nat) : (dropSnap f b s).stored = s.stored :=
  (dropSnap_keeps (V := 8) rfl (.refl _ s)).frame .stored rfl
@[simp] theorem dropSnap_ports (s : State) (f : Nat) (b : Nat) : (dropSnap f b s).ports = s.ports :=
  (dropSnap_keeps (V := 8) rfl (.refl _ s)).frame .ports rfl
@[simp] theorem dropSnap_nodes (s : State) (f : Nat) (b : Nat) : (dropSnap f b s).nodes = s.nodes :=
  (dropSnap_keeps (V := 8) rfl (.refl _ s)).frame .nodes rfl
@[simp] theorem dropSnap_plans (s : State) (f : Nat) (b : Nat) : (dropSnap f b s).plans = s.plans :=
  (dropSnap_keeps (V := 8) rfl (.refl _ s)).frame .plans rfl
@[simp] theorem dropSnap_lists (s : State) (f : Nat) (b : Nat) : (dropSnap f b s).lists = s.lists :=
  (dropSnap_keeps (V := 8) rfl (.refl _ s)).frame .lists rfl
@[simp] theorem dropSnap_pim (s : State) (f : Nat) (b : Nat) : (dropSnap f b s).pim = s.pim :=
  (dropSnap_keeps (V := 8) rfl (.refl _ s)).frame .pim rfl
@[simp] theorem dropSnap_owners (s : State) (f : Nat) (b : Nat) : (dropSnap f b s).owners = s.owners :=
  (dropSnap_keeps (V := 8) rfl (.refl _ s)).frame .owners rfl
@[simp] theorem dropSnap_points (s : State) (f : Nat) (b : Nat) : (dropSnap f b s).points = s.points :=
  (dropSnap_keeps (V := 8) rfl (.refl _ s)).frame .points rfl
@[simp] theorem dropSnap_grants (s : State) (f : Nat) (b : Nat) : (dropSnap f b s).grants = s.grants :=
  (dropSnap_keeps (V := 8) rfl (.refl _ s)).frame .grants rfl
@[simp] theorem dropSnap_rules (s : State) (f : Nat) (b : Nat) : (dropSnap f b s).rules = s.rules :=
  (dropSnap_keeps (V := 8) rfl (.refl _ s)).frame .rules rfl
@[simp] theorem dropSnap_remote (s : State) (f : Nat) (b : Nat) : (dropSnap f b s).remote = s.remote :=
  (dropSnap_keeps (V := 8) rfl (.refl _ s)).frame .remote rfl
@[simp] theorem dropSnap_copies (s : State) (f : Nat) (b : Nat) : (dropSnap f b s).copies = s.copies :=
  (dropSnap_keeps (V := 8) rfl (.refl _ s)).frame .copies rfl
@[simp] theorem dropSnap_unseen (s : State) (f : Nat) (b : Nat) : (dropSnap f b s).unseen = s.unseen :=
  (dropSnap_keeps (V := 8) rfl (.refl _ s)).frame .unseen rfl
@[simp] theorem dropSnap_bridge (s : State) (f : Nat) (b : Nat) : (dropSnap f b s).bridge = s.bridge :=
  (dropSnap_keeps (V := 8) rfl (.refl _ s)).frame .bridge rfl
@[simp] theorem dropSnap_chans (s : State) (f : Nat) (b : Nat) : (dropSnap f b s).chans = s.chans :=
  (dropSnap_keeps (V := 8) rfl (.refl _ s)).frame .chans rfl
@[simp] theorem dropSnap_nonces (s : State) (f : Nat) (b : Nat) : (dropSnap f b s).nonces = s.nonces :=
  (dropSnap_keeps (V := 8) rfl (.refl _ s)).frame .nonces rfl
@[simp] theorem dropSnap_quar (s : State) (f : Nat) (b : Nat) : (dropSnap f b s).quar = s.quar :=
  (dropSnap_keeps (V := 8) rfl (.refl _ s)).frame .quar rfl
@[simp] theorem dropSnap_policy (s : State) (f : Nat) (b : Nat) : (dropSnap f b s).policy = s.policy :=
  (dropSnap_keeps (V := 8) rfl (.refl _ s)).frame .policy rfl
@[simp] theorem dropSnap_journal (s : State) (f : Nat) (b : Nat) : (dropSnap f b s).journal = s.journal :=
  (dropSnap_keeps (V := 8) rfl (.refl _ s)).frame .journal rfl
@[simp] theorem dropSnap_half0 (s : State) (f : Nat) (b : Nat) : (dropSnap f b s).half0 = s.half0 :=
  (dropSnap_keeps (V := 8) rfl (.refl _ s)).frame .half0 rfl
@[simp] theorem dropSnap_half1 (s : State) (f : Nat) (b : Nat) : (dropSnap f b s).half1 = s.half1 :=
  (dropSnap_keeps (V := 8) rfl (.refl _ s)).frame .half1 rfl
@[simp] theorem dropSnap_half (s : State) (f : Nat) (b : Nat) : (dropSnap f b s).half = s.half :=
  (dropSnap_keeps (V := 8) rfl (.refl _ s)).frame .half rfl
@[simp] theorem dropSnap_fw (s : State) (f : Nat) (b : Nat) : (dropSnap f b s).fw = s.fw :=
  (dropSnap_keeps (V := 8) rfl (.refl _ s)).frame .fw rfl
@[simp] theorem dropSnap_mgt (s : State) (f : Nat) (b : Nat) : (dropSnap f b s).mgt = s.mgt :=
  (dropSnap_keeps (V := 8) rfl (.refl _ s)).frame .mgt rfl
@[simp] theorem dropSnap_jtag (s : State) (f : Nat) (b : Nat) : (dropSnap f b s).jtag = s.jtag :=
  (dropSnap_keeps (V := 8) rfl (.refl _ s)).frame .jtag rfl
@[simp] theorem dropSnap_pins (s : State) (f : Nat) (b : Nat) : (dropSnap f b s).pins = s.pins :=
  (dropSnap_keeps (V := 8) rfl (.refl _ s)).frame .pins rfl
@[simp] theorem dropSnap_boot (s : State) (f : Nat) (b : Nat) : (dropSnap f b s).boot = s.boot :=
  (dropSnap_keeps (V := 8) rfl (.refl _ s)).frame .boot rfl
@[simp] theorem dropSnap_chg (s : State) (f : Nat) (b : Nat) : (dropSnap f b s).chg = s.chg :=
  (dropSnap_keeps (V := 8) rfl (.refl _ s)).frame .chg rfl
@[simp] theorem dropSnap_tile (s : State) (f : Nat) (b : Nat) : (dropSnap f b s).tile = s.tile :=
  (dropSnap_keeps (V := 8) rfl (.refl _ s)).frame .tile rfl
@[simp] theorem dropSnap_mesh (s : State) (f : Nat) (b : Nat) : (dropSnap f b s).mesh = s.mesh :=
  (dropSnap_keeps (V := 8) rfl (.refl _ s)).frame .mesh rfl
@[simp] theorem dropSnap_meshFails (s : State) (f : Nat) (b : Nat) : (dropSnap f b s).meshFails = s.meshFails :=
  (dropSnap_keeps (V := 8) rfl (.refl _ s)).frame .meshFails rfl
@[simp] theorem dropSnap_ready (s : State) (f : Nat) (b : Nat) : (dropSnap f b s).ready = s.ready :=
  (dropSnap_keeps (V := 8) rfl (.refl _ s)).frame .ready rfl
@[simp] theorem dropSnap_link (s : State) (f : Nat) (b : Nat) : (dropSnap f b s).link = s.link :=
  (dropSnap_keeps (V := 8) rfl (.refl _ s)).frame .link rfl
@[simp] theorem dropSnap_vfEnable (s : State) (f : Nat) (b : Nat) : (dropSnap f b s).vfEnable = s.vfEnable :=
  (dropSnap_keeps (V := 8) rfl (.refl _ s)).frame .vfEnable rfl
@[simp] theorem dropSnap_vfMse (s : State) (f : Nat) (b : Nat) : (dropSnap f b s).vfMse = s.vfMse :=
  (dropSnap_keeps (V := 8) rfl (.refl _ s)).frame .vfMse rfl
@[simp] theorem dropSnap_numVfs (s : State) (f : Nat) (b : Nat) : (dropSnap f b s).numVfs = s.numVfs :=
  (dropSnap_keeps (V := 8) rfl (.refl _ s)).frame .numVfs rfl
@[simp] theorem dropSnap_ari (s : State) (f : Nat) (b : Nat) : (dropSnap f b s).ari = s.ari :=
  (dropSnap_keeps (V := 8) rfl (.refl _ s)).frame .ari rfl
@[simp] theorem dropSnap_stamp (s : State) (f : Nat) (b : Nat) : (dropSnap f b s).stamp = s.stamp :=
  (dropSnap_keeps (V := 8) rfl (.refl _ s)).frame .stamp rfl
@[simp] theorem dropSnap_stage (s : State) (f : Nat) (b : Nat) : (dropSnap f b s).stage = s.stage :=
  (dropSnap_keeps (V := 8) rfl (.refl _ s)).frame .stage rfl
@[simp] theorem dropSnap_lastCancel (s : State) (f : Nat) (b : Nat) : (dropSnap f b s).lastCancel = s.lastCancel :=
  (dropSnap_keeps (V := 8) rfl (.refl _ s)).frame .lastCancel rfl
@[simp] theorem dropSnap_stopping (s : State) (f : Nat) (b : Nat) : (dropSnap f b s).stopping = s.stopping :=
  (dropSnap_keeps (V := 8) rfl (.refl _ s)).frame .stopping rfl
@[simp] theorem dropSnap_xogate (s : State) (f : Nat) (b : Nat) : (dropSnap f b s).xogate = s.xogate :=
  (dropSnap_keeps (V := 8) rfl (.refl _ s)).frame .xogate rfl
@[simp] theorem dropSnap_evHeld (s : State) (f : Nat) (b : Nat) : (dropSnap f b s).evHeld = s.evHeld :=
  (dropSnap_keeps (V := 8) rfl (.refl _ s)).frame .evHeld rfl
@[simp] theorem dropSnap_accepts (s : State) (f : Nat) (b : Nat) : (dropSnap f b s).accepts = s.accepts :=
  (dropSnap_keeps (V := 8) rfl (.refl _ s)).frame .accepts rfl
@[simp] theorem dropSnap_free (s : State) (f : Nat) (b : Nat) : (dropSnap f b s).free = s.free :=
  (dropSnap_keeps (V := 8) rfl (.refl _ s)).frame .free rfl
@[simp] theorem dropSnap_tlpHeld (s : State) (f : Nat) (b : Nat) : (dropSnap f b s).tlpHeld = s.tlpHeld :=
  (dropSnap_keeps (V := 8) rfl (.refl _ s)).frame .tlpHeld rfl
@[simp] theorem dropSnap_wire (s : State) (f : Nat) (b : Nat) : (dropSnap f b s).wire = s.wire :=
  (dropSnap_keeps (V := 8) rfl (.refl _ s)).frame .wire rfl
@[simp] theorem dropSnap_port_of (s : State) (f : Nat) (b : Nat) (i : Nat) : (dropSnap f b s).port i = s.port i := by
  simp only [State.port, dropSnap_ports]
@[simp] theorem dropSnap_node_of (s : State) (f : Nat) (b : Nat) (i j : Nat) : (dropSnap f b s).node i j = s.node i j := by
  simp only [State.node, dropSnap_nodes]
@[simp] theorem dropSnap_tl_of (s : State) (f : Nat) (b : Nat) (i : Nat) : (dropSnap f b s).tl i = s.tl i := by
  simp only [State.tl, dropSnap_tile]
@[simp] theorem dropSnap_plan_of (s : State) (f : Nat) (b : Nat) (i : Nat) : (dropSnap f b s).plan i = s.plan i := by
  simp only [State.plan, dropSnap_plans]
@[simp] theorem dropSnap_list_of (s : State) (f : Nat) (b : Nat) (i j : Nat) : (dropSnap f b s).list i j = s.list i j := by
  simp only [State.list, dropSnap_lists]
@[simp] theorem dropSnap_chan_of (s : State) (f : Nat) (b : Nat) (i : Nat) : (dropSnap f b s).chan i = s.chan i := by
  simp only [State.chan, dropSnap_chans]
@[simp] theorem dropSnap_point_of (s : State) (f : Nat) (b : Nat) (i : Nat) : (dropSnap f b s).point i = s.point i := by
  simp only [State.point, dropSnap_points]
@[simp] theorem dropSnap_record_of (s : State) (f : Nat) (b : Nat) (i : Nat) : (dropSnap f b s).record i = s.record i := by
  simp only [State.record, dropSnap_pim]
@[simp] theorem dropSnap_reg_of (s : State) (f : Nat) (b : Nat) (e y i o : Nat) : (dropSnap f b s).reg e y i o = s.reg e y i o := by
  simp only [State.reg, dropSnap_regs]
@[simp] theorem dropSnap_hasTile_of (s : State) (f : Nat) (b : Nat) (i : Nat) : (dropSnap f b s).hasTile i = s.hasTile i := by
  simp only [State.hasTile, dropSnap_tiles]
@[simp] theorem dropSnap_hasPort_of (s : State) (f : Nat) (b : Nat) (i : Nat) : (dropSnap f b s).hasPort i = s.hasPort i :=
  congrArg (fun n => decide (i < 16 * n)) (dropSnap_tiles ..)

/-! ### doorbell -/

@[simp] theorem doorbell_pending (s : State) (f : Nat) : (doorbell f s).pending = s.pending :=
  (doorbell_keeps (V := 895004612493322) rfl (.refl _ s)).queue
@[simp] theorem doorbell_tiles (s : State) (f : Nat) : (doorbell f s).tiles = s.tiles :=
  (doorbell_keeps (V := 895004612493322) rfl (.refl _ s)).tiles
@[simp] theorem doorbell_time (s : State) (f : Nat) : (doorbell f s).time = s.time :=
  (doorbell_keeps (V := 895004612493322) rfl (.refl _ s)).frame .time rfl
@[simp] theorem doorbell_stored (s : State) (f : Nat) : (doorbell f s).stored = s.stored :=
  (doorbell_keeps (V := 895004612493322) rfl (.refl _ s)).frame .stored rfl
@[simp] theorem doorbell_ports (s : State) (f : Nat) : (doorbell f s).ports = s.ports :=
  (doorbell_keeps (V := 895004612493322) rfl (.refl _ s)).frame .ports rfl
@[simp] theorem doorbell_nodes (s : State) (f : Nat) : (doorbell f s).nodes = s.nodes :=
  (doorbell_keeps (V := 895004612493322) rfl (.refl _ s)).frame .nodes rfl
@[simp] theorem doorbell_plans (s : State) (f : Nat) : (doorbell f s).plans = s.plans :=
  (doorbell_keeps (V := 895004612493322) rfl (.refl _ s)).frame .plans rfl
@[simp] theorem doorbell_lists (s : State) (f : Nat) : (doorbell f s).lists = s.lists :=
  (doorbell_keeps (V := 895004612493322) rfl (.refl _ s)).frame .lists rfl
@[simp] theorem doorbell_pim (s : State) (f : Nat) : (doorbell f s).pim = s.pim :=
  (doorbell_keeps (V := 895004612493322) rfl (.refl _ s)).frame .pim rfl
@[simp] theorem doorbell_owners (s : State) (f : Nat) : (doorbell f s).owners = s.owners :=
  (doorbell_keeps (V := 895004612493322) rfl (.refl _ s)).frame .owners rfl
@[simp] theorem doorbell_points (s : State) (f : Nat) : (doorbell f s).points = s.points :=
  (doorbell_keeps (V := 895004612493322) rfl (.refl _ s)).frame .points rfl
@[simp] theorem doorbell_grants (s : State) (f : Nat) : (doorbell f s).grants = s.grants :=
  (doorbell_keeps (V := 895004612493322) rfl (.refl _ s)).frame .grants rfl
@[simp] theorem doorbell_rules (s : State) (f : Nat) : (doorbell f s).rules = s.rules :=
  (doorbell_keeps (V := 895004612493322) rfl (.refl _ s)).frame .rules rfl
@[simp] theorem doorbell_remote (s : State) (f : Nat) : (doorbell f s).remote = s.remote :=
  (doorbell_keeps (V := 895004612493322) rfl (.refl _ s)).frame .remote rfl
@[simp] theorem doorbell_copies (s : State) (f : Nat) : (doorbell f s).copies = s.copies :=
  (doorbell_keeps (V := 895004612493322) rfl (.refl _ s)).frame .copies rfl
@[simp] theorem doorbell_unseen (s : State) (f : Nat) : (doorbell f s).unseen = s.unseen :=
  (doorbell_keeps (V := 895004612493322) rfl (.refl _ s)).frame .unseen rfl
@[simp] theorem doorbell_bridge (s : State) (f : Nat) : (doorbell f s).bridge = s.bridge :=
  (doorbell_keeps (V := 895004612493322) rfl (.refl _ s)).frame .bridge rfl
@[simp] theorem doorbell_chans (s : State) (f : Nat) : (doorbell f s).chans = s.chans :=
  (doorbell_keeps (V := 895004612493322) rfl (.refl _ s)).frame .chans rfl
@[simp] theorem doorbell_nonces (s : State) (f : Nat) : (doorbell f s).nonces = s.nonces :=
  (doorbell_keeps (V := 895004612493322) rfl (.refl _ s)).frame .nonces rfl
@[simp] theorem doorbell_quar (s : State) (f : Nat) : (doorbell f s).quar = s.quar :=
  (doorbell_keeps (V := 895004612493322) rfl (.refl _ s)).frame .quar rfl
@[simp] theorem doorbell_policy (s : State) (f : Nat) : (doorbell f s).policy = s.policy :=
  (doorbell_keeps (V := 895004612493322) rfl (.refl _ s)).frame .policy rfl
@[simp] theorem doorbell_journal (s : State) (f : Nat) : (doorbell f s).journal = s.journal :=
  (doorbell_keeps (V := 895004612493322) rfl (.refl _ s)).frame .journal rfl
@[simp] theorem doorbell_half0 (s : State) (f : Nat) : (doorbell f s).half0 = s.half0 :=
  (doorbell_keeps (V := 895004612493322) rfl (.refl _ s)).frame .half0 rfl
@[simp] theorem doorbell_half1 (s : State) (f : Nat) : (doorbell f s).half1 = s.half1 :=
  (doorbell_keeps (V := 895004612493322) rfl (.refl _ s)).frame .half1 rfl
@[simp] theorem doorbell_half (s : State) (f : Nat) : (doorbell f s).half = s.half :=
  (doorbell_keeps (V := 895004612493322) rfl (.refl _ s)).frame .half rfl
@[simp] theorem doorbell_fw (s : State) (f : Nat) : (doorbell f s).fw = s.fw :=
  (doorbell_keeps (V := 895004612493322) rfl (.refl _ s)).frame .fw rfl
@[simp] theorem doorbell_mgt (s : State) (f : Nat) : (doorbell f s).mgt = s.mgt :=
  (doorbell_keeps (V := 895004612493322) rfl (.refl _ s)).frame .mgt rfl
@[simp] theorem doorbell_jtag (s : State) (f : Nat) : (doorbell f s).jtag = s.jtag :=
  (doorbell_keeps (V := 895004612493322) rfl (.refl _ s)).frame .jtag rfl
@[simp] theorem doorbell_pins (s : State) (f : Nat) : (doorbell f s).pins = s.pins :=
  (doorbell_keeps (V := 895004612493322) rfl (.refl _ s)).frame .pins rfl
@[simp] theorem doorbell_boot (s : State) (f : Nat) : (doorbell f s).boot = s.boot :=
  (doorbell_keeps (V := 895004612493322) rfl (.refl _ s)).frame .boot rfl
@[simp] theorem doorbell_chg (s : State) (f : Nat) : (doorbell f s).chg = s.chg :=
  (doorbell_keeps (V := 895004612493322) rfl (.refl _ s)).frame .chg rfl
@[simp] theorem doorbell_mesh (s : State) (f : Nat) : (doorbell f s).mesh = s.mesh :=
  (doorbell_keeps (V := 895004612493322) rfl (.refl _ s)).frame .mesh rfl
@[simp] theorem doorbell_meshFails (s : State) (f : Nat) : (doorbell f s).meshFails = s.meshFails :=
  (doorbell_keeps (V := 895004612493322) rfl (.refl _ s)).frame .meshFails rfl
@[simp] theorem doorbell_ready (s : State) (f : Nat) : (doorbell f s).ready = s.ready :=
  (doorbell_keeps (V := 895004612493322) rfl (.refl _ s)).frame .ready rfl
@[simp] theorem doorbell_link (s : State) (f : Nat) : (doorbell f s).link = s.link :=
  (doorbell_keeps (V := 895004612493322) rfl (.refl _ s)).frame .link rfl
@[simp] theorem doorbell_vfEnable (s : State) (f : Nat) : (doorbell f s).vfEnable = s.vfEnable :=
  (doorbell_keeps (V := 895004612493322) rfl (.refl _ s)).frame .vfEnable rfl
@[simp] theorem doorbell_vfMse (s : State) (f : Nat) : (doorbell f s).vfMse = s.vfMse :=
  (doorbell_keeps (V := 895004612493322) rfl (.refl _ s)).frame .vfMse rfl
@[simp] theorem doorbell_numVfs (s : State) (f : Nat) : (doorbell f s).numVfs = s.numVfs :=
  (doorbell_keeps (V := 895004612493322) rfl (.refl _ s)).frame .numVfs rfl
@[simp] theorem doorbell_ari (s : State) (f : Nat) : (doorbell f s).ari = s.ari :=
  (doorbell_keeps (V := 895004612493322) rfl (.refl _ s)).frame .ari rfl
@[simp] theorem doorbell_stamp (s : State) (f : Nat) : (doorbell f s).stamp = s.stamp :=
  (doorbell_keeps (V := 895004612493322) rfl (.refl _ s)).frame .stamp rfl
@[simp] theorem doorbell_xogate (s : State) (f : Nat) : (doorbell f s).xogate = s.xogate :=
  (doorbell_keeps (V := 895004612493322) rfl (.refl _ s)).frame .xogate rfl
@[simp] theorem doorbell_accepts (s : State) (f : Nat) : (doorbell f s).accepts = s.accepts :=
  (doorbell_keeps (V := 895004612493322) rfl (.refl _ s)).frame .accepts rfl
@[simp] theorem doorbell_free (s : State) (f : Nat) : (doorbell f s).free = s.free :=
  (doorbell_keeps (V := 895004612493322) rfl (.refl _ s)).frame .free rfl
@[simp] theorem doorbell_port_of (s : State) (f : Nat) (i : Nat) : (doorbell f s).port i = s.port i := by
  simp only [State.port, doorbell_ports]
@[simp] theorem doorbell_node_of (s : State) (f : Nat) (i j : Nat) : (doorbell f s).node i j = s.node i j := by
  simp only [State.node, doorbell_nodes]
@[simp] theorem doorbell_plan_of (s : State) (f : Nat) (i : Nat) : (doorbell f s).plan i = s.plan i := by
  simp only [State.plan, doorbell_plans]
@[simp] theorem doorbell_list_of (s : State) (f : Nat) (i j : Nat) : (doorbell f s).list i j = s.list i j := by
  simp only [State.list, doorbell_lists]
@[simp] theorem doorbell_chan_of (s : State) (f : Nat) (i : Nat) : (doorbell f s).chan i = s.chan i := by
  simp only [State.chan, doorbell_chans]
@[simp] theorem doorbell_point_of (s : State) (f : Nat) (i : Nat) : (doorbell f s).point i = s.point i := by
  simp only [State.point, doorbell_points]
@[simp] theorem doorbell_record_of (s : State) (f : Nat) (i : Nat) : (doorbell f s).record i = s.record i := by
  simp only [State.record, doorbell_pim]
@[simp] theorem doorbell_hasTile_of (s : State) (f : Nat) (i : Nat) : (doorbell f s).hasTile i = s.hasTile i := by
  simp only [State.hasTile, doorbell_tiles]
@[simp] theorem doorbell_hasPort_of (s : State) (f : Nat) (i : Nat) : (doorbell f s).hasPort i = s.hasPort i :=
  congrArg (fun n => decide (i < 16 * n)) (doorbell_tiles ..)

/-! ### What they do -/

theorem bit_setBit (w b : Nat) : bit (setBit w b) b = true := by
  unfold setBit
  split
  · assumption
  · rename_i h
    simp only [bit, beq_iff_eq] at h ⊢
    rw [Nat.add_div_right _ (Nat.two_pow_pos b)]
    omega

theorem setBit_lt {w b n : Nat} (hw : w < 2 ^ n) (hb : b < n) : setBit w b < 2 ^ n := by
  unfold setBit
  split
  · exact hw
  · rename_i h
    have h0 : w / 2 ^ b % 2 = 0 := by
      simp only [bit, beq_iff_eq] at h
      omega
    obtain ⟨k, rfl⟩ := Nat.exists_eq_add_of_lt hb
    have hp : (2 : Nat) ^ (b + k + 1) = 2 ^ b * (2 * 2 ^ k) := by
      rw [Nat.pow_add, Nat.pow_add, Nat.pow_one, Nat.mul_assoc, Nat.mul_comm (2 ^ k) 2]
    have hdm := Nat.div_add_mod w (2 ^ b)
    have hlt := Nat.mod_lt w (Nat.two_pow_pos b)
    have hq : w / 2 ^ b < 2 * 2 ^ k := by
      apply Nat.div_lt_of_lt_mul
      rw [← hp]; exact hw
    have hq2 : w / 2 ^ b + 2 ≤ 2 * 2 ^ k := by omega
    calc w + 2 ^ b = 2 ^ b * (w / 2 ^ b) + w % 2 ^ b + 2 ^ b := by rw [hdm]
      _ < 2 ^ b * (w / 2 ^ b) + 2 ^ b + 2 ^ b := by omega
      _ = 2 ^ b * (w / 2 ^ b + 2) := by rw [Nat.mul_add, Nat.add_assoc, Nat.mul_two]
      _ ≤ 2 ^ b * (2 * 2 ^ k) := Nat.mul_le_mul_left _ hq2
      _ = 2 ^ (b + k + 1) := hp.symm

/-- An error bit that is set reads as 1 (R436). -/
theorem setErr_sets (s : State) (ty inst b : Nat) (hb : b < 64) : bit ((setErr ty inst b s).reg 0 ty inst 0x014) b = true := by
  unfold setErr
  dsimp only
  split
  · assumption
  · split
    · rw [State.reg_setReg, Nat.mod_eq_of_lt (setBit_lt (s.reg_lt ..) hb), bit_setBit]
    · rw [raiseNorm_reg_of, State.reg_setReg, Nat.mod_eq_of_lt (setBit_lt (s.reg_lt ..) hb), bit_setBit]

/-- Setting an error bit leaves every other register word alone. -/
theorem setErr_reg_ne (s : State) {ty inst b e y i o : Nat} (h : regKey y i o ≠ regKey ty inst 0x014) :
    (setErr ty inst b s).reg e y i o = s.reg e y i o := by
  unfold setErr
  dsimp only
  split
  · rfl
  · split
    · rw [State.reg_setReg_ne _ h]
    · rw [raiseNorm_reg_of, State.reg_setReg_ne _ h]

/-- A clamp logs the offset of its word, the bit and its number modulo 256, and changes no other word (R528). -/
theorem logClamp_reg_ne (s : State) {ty inst off b e y i o : Nat} (h : regKey y i o ≠ regKey ty inst 0x01C) :
    (logClamp ty inst off b s).reg e y i o = s.reg e y i o := State.reg_setReg_ne _ h

theorem countReg_reg_ne (s : State) {ty inst off lo n k e y i o : Nat} (h : regKey y i o ≠ regKey ty inst off) :
    (countReg ty inst off lo n k s).reg e y i o = s.reg e y i o := State.reg_setReg_ne _ h

/-- A write to a BAR whose function is in D0 is made on the state without the snapshot it discards. -/
theorem mmio_open {f b : Nat} {u : State → State} {s : State} (h : (s.fn f).dstate = 0) : mmio f b u s = u (dropSnap f b s) := by
  rw [mmio, if_pos h]

theorem dropSnap_dstate (s : State) (f b i : Nat) : ((dropSnap f b s).fn i).dstate = (s.fn i).dstate := by
  have key : ∀ u : Fn → Fn, (∀ x, (u x).dstate = x.dstate) → ((s.modFn f u).fn i).dstate = (s.fn i).dstate := by
    intro u hu
    by_cases hi : i = f
    · subst hi; rw [State.fn_modFn, hu]
    · rw [State.fn_modFn_ne _ _ hi]
  unfold dropSnap
  split <;> split <;> first | rfl | exact key _ (fun _ => rfl)

/-! ### Error bits stay, completions are written -/

/-- An error bit that is set stays set when another, or the same, is set. -/
theorem bit_setBit_mono {w b c : Nat} (h : bit w c = true) : bit (setBit w b) c = true := by
  unfold setBit
  split
  · exact h
  · rename_i hb
    simp only [bit, beq_iff_eq] at h hb ⊢
    rcases Nat.lt_trichotomy c b with hc | hc | hc
    · obtain ⟨k, rfl⟩ := Nat.exists_eq_add_of_lt hc
      rw [show c + k + 1 = (k + 1) + c by omega, Nat.pow_add, Nat.add_mul_div_right _ _ (Nat.two_pow_pos c), Nat.pow_succ]
      omega
    · subst hc; exact absurd h (by omega)
    · obtain ⟨k, rfl⟩ := Nat.exists_eq_add_of_lt hc
      have e : ∀ v : Nat, v / 2 ^ (b + k + 1) = v / 2 ^ b / 2 / 2 ^ k := by
        intro v
        rw [Nat.div_div_eq_div_mul, Nat.div_div_eq_div_mul, Nat.pow_add, Nat.pow_add, Nat.pow_one, Nat.mul_assoc,
          Nat.mul_comm (2 ^ k) 2]
      rw [e] at h ⊢
      rw [Nat.add_div_right _ (Nat.two_pow_pos b)]
      rw [show (w / 2 ^ b + 1) / 2 = w / 2 ^ b / 2 by omega]
      exact h

theorem setErr_errBit_mono (s : State) {ty inst b y i c : Nat} (hb : b < 64) (h : s.errBit y i c = true) :
    (setErr ty inst b s).errBit y i c = true := by
  unfold State.errBit at *
  by_cases hk : regKey y i 0x014 = regKey ty inst 0x014
  · unfold setErr
    dsimp only
    have hr : ∀ u : State, u.reg 0 y i 0x014 = u.reg 0 ty inst 0x014 := fun u => by simp only [State.reg, hk]
    split
    · exact h
    · rw [hr] at h
      split
      · rw [hr, State.reg_setReg, Nat.mod_eq_of_lt (setBit_lt (s.reg_lt ..) hb)]; exact bit_setBit_mono h
      · rw [raiseNorm_reg_of, hr, State.reg_setReg, Nat.mod_eq_of_lt (setBit_lt (s.reg_lt ..) hb)]
        exact bit_setBit_mono h
  · rw [setErr_reg_ne _ hk]; exact h

theorem setErr_errBit (s : State) (ty inst b : Nat) (hb : b < 64) : (setErr ty inst b s).errBit ty inst b = true :=
  setErr_sets s ty inst b hb

@[simp] theorem raiseNorm_errBit (s : State) (f src y i c : Nat) : (raiseNorm f src s).errBit y i c = s.errBit y i c := by
  unfold State.errBit; rw [raiseNorm_reg_of]
@[simp] theorem out_errBit (s : State) (o : Output) (y i c : Nat) : (out o s).errBit y i c = s.errBit y i c := by
  unfold State.errBit; rw [out_reg_of]
theorem State.errBit_of_regs {s t : State} (h : t.regs = s.regs) (y i c : Nat) : t.errBit y i c = s.errBit y i c := by
  unfold State.errBit State.reg; rw [h]
@[simp] theorem State.modFn_errBit (s : State) (f : Nat) (u : Fn → Fn) (y i c : Nat) : (s.modFn f u).errBit y i c = s.errBit y i c := rfl
@[simp] theorem State.modPort_errBit (s : State) (f : Nat) (u : Port → Port) (y i c : Nat) : (s.modPort f u).errBit y i c = s.errBit y i c := rfl
@[simp] theorem State.modTile_errBit (s : State) (f : Nat) (u : Tile → Tile) (y i c : Nat) : (s.modTile f u).errBit y i c = s.errBit y i c := rfl
@[simp] theorem State.modNode_errBit (s : State) (f n : Nat) (u : Node → Node) (y i c : Nat) : (s.modNode f n u).errBit y i c = s.errBit y i c := rfl

@[simp] theorem engineWork_errBit (s : State) (t y i c : Nat) : (engineWork t s).errBit y i c = s.errBit y i c := by
  unfold engineWork leaveDoze
  split <;> rfl

@[simp] theorem putRecords_errBit (f q : Nat) (e : Event) (l : List (List Byte)) (s : State) (y i c : Nat) :
    (putRecords f q e l s).errBit y i c = s.errBit y i c := by
  have h : ∀ (d : List Byte) (m : Bool) (u : State), (putRecord f q e d m u).errBit y i c = u.errBit y i c := by
    intro d m u
    unfold putRecord State.modEq
    rw [State.modFn_errBit, out_errBit, engineWork_errBit]
  induction l generalizing s with
  | nil => rfl
  | cons d r ih =>
    cases r with
    | nil => exact h ..
    | cons d2 r2 => exact (ih _).trans (h ..)

@[simp] theorem payOverflow_errBit (s : State) (f q y i c : Nat) : (payOverflow f q s).errBit y i c = s.errBit y i c := by
  unfold payOverflow
  dsimp only
  split
  · rw [raiseNorm_errBit, State.modFn_errBit, putRecords_errBit]
  · rfl

/-- Writing or losing an event sets error bits and clears none. -/
theorem emitTo_errBit (k : Nat) : ∀ (f q : Nat) (e : Event) (s : State) {y i c : Nat},
    s.errBit y i c = true → (emitTo k f q e s).errBit y i c = true := by
  induction k with
  | zero => intro f q e s y i c h; exact h
  | succ k ih =>
    intro f q e s y i c h
    unfold emitTo
    dsimp only
    split
    · exact h
    · split
      · apply ih
        have h1 : ((loseEvent f q e s).modEq f q (fun r => r.stop 7 r.head)).errBit y i c = true := h
        have h2 := setErr_errBit_mono (ty := pTPL) (inst := 0) (b := 0) _ (by decide) h1
        split
        · exact h2
        · apply ih; exact h2
      · split
        · rw [raiseNorm_errBit, putRecords_errBit, payOverflow_errBit]; exact h
        · show (payOverflow f q s).errBit y i c = true
          rw [payOverflow_errBit]; exact h

/-- An event sets error bits and clears none. -/
theorem emit_errBit {f : Nat} {e : Event} {s : State} {y i c : Nat} (h : s.errBit y i c = true) :
    (emit f e s).errBit y i c = true := by
  unfold emit
  split
  · exact h
  · split
    · exact h
    · exact emitTo_errBit 4 _ _ _ _ h

theorem emitMgr_errBit {k n : Nat} {fs : List (Nat × Nat × Nat)} {s : State} {y i c : Nat} (h : s.errBit y i c = true) :
    (emitMgr k n fs s).errBit y i c = true := emit_errBit h

/-! ### Outputs stay, completions are written -/

@[simp] theorem State.modFn_sent (s : State) (f : Nat) (u : Fn → Fn) : (s.modFn f u).sent = s.sent := rfl
@[simp] theorem raiseNorm_sent (s : State) (f src : Nat) : (raiseNorm f src s).sent = s.sent := by
  simp only [State.sent, raiseNorm_wire, raiseNorm_tlpHeld]
theorem mem_out (s : State) (o : Output) : o ∈ (out o s).sent := by
  unfold out State.sent
  split <;> simp

theorem mem_out_of {s : State} {o : Output} (p : Output) (h : o ∈ s.sent) : o ∈ (out p s).sent := by
  unfold out State.sent at *
  simp only [List.mem_append] at h ⊢
  split
  · exact h.imp (List.mem_cons_of_mem _) id
  · exact h.imp id (List.mem_cons_of_mem _)

@[simp] theorem engineWork_sent (s : State) (t : Nat) : (engineWork t s).sent = s.sent := by
  unfold engineWork leaveDoze
  split <;> rfl

theorem engineWork_fn (s : State) (t f : Nat) : (engineWork t s).fn f = s.fn f := by
  unfold engineWork leaveDoze
  split <;> rfl

@[simp] theorem settleDrain_sent (f : Nat) (s : State) : (settleDrain f s).sent = s.sent := by
  unfold settleDrain; split <;> rfl

/-- Rewriting every entry of a map that keeps the default rewrites what each key reads as. -/
theorem nget_nmapAll {α : Type} [DecidableEq α] (d : α) (f : Nat → α → α) (m : NMap α) (i : Nat) (h : f i d = d) :
    nget d (nmapAll d f m) i = f i (nget d m i) := by
  unfold nmapAll
  induction m with
  | nil => exact h.symm
  | cons x r ih =>
    rw [List.foldr_cons, nget_nput]
    by_cases hi : i = x.1
    · subst hi; simp [nget]
    · rw [if_neg hi, ih, nget, if_neg hi]

/-- A list that the device may write is written, and what changes is the wire. -/
theorem writeList_dma {f : Nat} {s : State} (h : s.dmaOk f = true) (addr maxN had : Nat) (recs : List ListRec) :
    (writeList f addr maxN had recs s).1.fns = s.fns ∧ (writeList f addr maxN had recs s).1.tile = s.tile ∧
    (writeList f addr maxN had recs s).1.ready = s.ready ∧ (writeList f addr maxN had recs s).1.fw = s.fw ∧
    (writeList f addr maxN had recs s).2 = true := by
  unfold writeList
  dsimp only
  split
  · exact ⟨rfl, rfl, rfl, rfl, rfl⟩
  · unfold dmaWrite request
    rw [if_pos h]
    exact ⟨out_fns .., out_tile .., out_ready .., out_fw .., rfl⟩

theorem raiseNorm_entries (s : State) (f src i : Nat) : ((raiseNorm f src s).fn i).entries = (s.fn i).entries := by
  have key : ∀ (t : State) (u : Fn → Fn), (∀ x, (u x).entries = x.entries) → ((t.modFn f u).fn i).entries = (t.fn i).entries := by
    intro t u hu
    by_cases hi : i = f
    · subst hi; rw [State.fn_modFn, hu]
    · rw [State.fn_modFn_ne _ _ hi]
  have hc : ∀ (x : Fn) (b : Bool) (v : IntClass), (x.setCls b v).entries = x.entries := by
    intro x b v; unfold Fn.setCls; split <;> rfl
  unfold raiseNorm
  split
  · unfold raiseSrc State.joinEntry
    split
    · rw [key _ _ (fun x => hc ..), key _ _ (fun x => hc ..)]
    · rw [key _ _ (fun x => hc ..)]
  · rfl

theorem Fn.settle_entries (x : Fn) : x.settle.entries = x.entries := rfl
theorem Fn.settle_hold (x : Fn) : x.settle.hold = x.hold := rfl

theorem settleDrain_fn_ne (s : State) {f i : Nat} (h : i ≠ f) : (settleDrain f s).fn i = s.fn i := by
  unfold settleDrain
  split
  · exact State.fn_modFn_ne _ _ h
  · rfl

/-- A drained ring changes nothing of its function but the DRAINING marks of its rings. -/
theorem settleDrain_fn (s : State) (f : Nat) : (settleDrain f s).fn f = s.fn f ∨ (settleDrain f s).fn f = (s.fn f).settle := by
  unfold settleDrain
  split
  · exact .inr (State.fn_modFn ..)
  · exact .inl rfl

theorem settleDrain_entries (s : State) (f i : Nat) : ((settleDrain f s).fn i).entries = (s.fn i).entries := by
  by_cases hi : i = f
  · subst hi
    rcases settleDrain_fn s i with h | h <;> rw [h]
    rfl
  · rw [settleDrain_fn_ne _ hi]

/-- A ring after its DRAINING mark was looked at is the ring with some DRAINING mark. -/
def Ring.sameBut (a b : Ring) : Prop := ∃ d, a = { b with draining := d }

theorem Fn.settle_rings (x : Fn) (q : Nat) :
    (nget {} x.settle.sq q).sameBut (nget {} x.sq q) ∧ (nget {} x.settle.cq q).sameBut (nget {} x.cq q) := by
  have key : ∀ (k : Nat) (m : NMap Ring),
      (nget {} (nmapAll {} (fun (i : Nat) (r : Ring) =>
        if r.draining && !x.busyRing k i r.drainTo then { r with draining := false } else r) m) q).sameBut (nget {} m q) := by
    intro k m
    rw [nget_nmapAll _ _ _ _ (by simp)]
    split
    · exact ⟨false, rfl⟩
    · exact ⟨_, rfl⟩
  exact ⟨key 0 _, key 1 _⟩

theorem settleDrain_rings (s : State) (f q : Nat) :
    ((settleDrain f s).sqR f q).sameBut (s.sqR f q) ∧ ((settleDrain f s).cqR f q).sameBut (s.cqR f q) := by
  unfold State.sqR State.cqR
  rcases settleDrain_fn s f with h | h <;> rw [h]
  · exact ⟨⟨_, rfl⟩, ⟨_, rfl⟩⟩
  · exact Fn.settle_rings ..

/-- A command that ends while its CQ takes a completion has that completion written (R305, R307, R308). -/
theorem finish_told {s : State} {f : Nat} {x : Entry} (h : s.cqTakes f x) (long : Bool) (result status detail : Nat)
    (recs : List ListRec) :
    told f x long result status detail recs.length s (finish f x long result status detail recs s) := by
  obtain ⟨h1, h2, h3, h4, h5, h6⟩ := h
  obtain ⟨w1, w2, w3, w4, w5⟩ := writeList_dma h6 x.listAddr x.listMax 0 recs
  unfold finish
  dsimp only
  rw [w5]
  simp only [Bool.not_true, Bool.and_false, Bool.false_and, Bool.false_eq_true, if_false]
  generalize (writeList f x.listAddr x.listMax 0 recs s).1 = w at w1 w2 w3 w4
  generalize hv : (w.modFn f fun y =>
    { y with entries := y.entries.map (fun y => if y.id = x.id then { y with ended := true } else y), handles := y.handles }) = v
  have hv0 : v.fn f = { s.fn f with
      entries := (s.fn f).entries.map (fun y => if y.id = x.id then { y with ended := true } else y) } := by
    rw [← hv, State.fn_modFn, State.fn, w1]; rfl
  have hvt : v.tile = s.tile ∧ v.ready = s.ready ∧ v.fw = s.fw := by
    rw [← hv]; exact ⟨w2, w3, w4⟩
  have hws : (w.sqR f x.sq) = s.sqR f x.sq := by unfold State.sqR State.fn; rw [w1]
  -- the function's rings, marks and holding buffer after the drain
  obtain ⟨hvt1, hvt2, hvt3⟩ := hvt
  have hut : (settleDrain f v).tile = s.tile ∧ (settleDrain f v).ready = s.ready ∧ (settleDrain f v).fw = s.fw := by
    unfold settleDrain; split <;> exact ⟨hvt1, hvt2, hvt3⟩
  obtain ⟨u1, u2, u3⟩ := hut
  have hst : ((settleDrain f v).fn f).st = (s.fn f).st ∧ ((settleDrain f v).fn f).bme = (s.fn f).bme ∧
      ((settleDrain f v).fn f).dmaBlock = (s.fn f).dmaBlock ∧ ((settleDrain f v).fn f).hold = (s.fn f).hold := by
    rcases settleDrain_fn v f with h | h <;> rw [h, hv0] <;> exact ⟨rfl, rfl, rfl, rfl⟩
  obtain ⟨t1, t2, t3, t4⟩ := hst
  have hvq : ∀ q, v.sqR f q = s.sqR f q ∧ v.cqR f q = s.cqR f q := by
    intro q; unfold State.sqR State.cqR; rw [hv0]; exact ⟨rfl, rfl⟩
  obtain ⟨⟨ds, hsq⟩, -⟩ := settleDrain_rings v f x.sq
  rw [(hvq _).1] at hsq
  obtain ⟨-, ⟨dc, hcq⟩⟩ := settleDrain_rings v f (s.sqR f x.sq).cq
  rw [(hvq _).2] at hcq
  have hws2 : (w.sqR f x.sq).cq = (s.sqR f x.sq).cq := by rw [hws]
  generalize settleDrain f v = u at u1 u2 u3 t1 t2 t3 t4 hsq hcq
  have hal : u.alive f = s.alive f := by unfold State.alive; rw [t1]
  have hdm : u.dmaOk f = s.dmaOk f := by unfold State.dmaOk; rw [hal, t2, t3]
  have hpa : u.paused = s.paused := by
    unfold State.paused State.tl; rw [u1, u2, u3]
  have hrun : (u.cqR f (s.sqR f x.sq).cq).running = true := by rw [hcq]; exact h3
  have hroom : (u.cqR f (s.sqR f x.sq).cq).room ≠ 0 := by rw [hcq]; exact h4
  have hbase : (u.cqR f (s.sqR f x.sq).cq).base = (s.cqR f (s.sqR f x.sq).cq).base := by rw [hcq]
  have hhead : (u.cqR f (s.sqR f x.sq).cq).head = (s.cqR f (s.sqR f x.sq).cq).head := by rw [hcq]
  have hphase : (u.cqR f (s.sqR f x.sq).cq).phase = (s.cqR f (s.sqR f x.sq).cq).phase := by rw [hcq]
  have hsh : (u.sqR f x.sq).head = (s.sqR f x.sq).head := by rw [hsq]
  unfold complete
  dsimp only
  simp only [hal, h1, hpa, h2, hrun, t4, h5, beq_eq_false_iff_ne.mpr hroom, Bool.not_true, Bool.false_eq_true, if_false,
    Bool.or_self]
  unfold writeCompletion
  dsimp only
  simp only [hdm, h6, Bool.not_true, Bool.false_eq_true, if_false, hbase, hhead, hphase, hsh]
  unfold told
  dsimp only
  constructor
  · rw [raiseNorm_sent, settleDrain_sent, State.modFn_sent, State.modCq, State.modFn_sent]
    have hl : decide (recs ≠ [] ∧ x.listAddr ≠ 0 ∧ x.listMax ≠ 0) = decide (recs.length ≠ 0 ∧ x.listAddr ≠ 0 ∧ x.listMax ≠ 0) := by
      cases recs <;> simp
    rw [hl]
    exact mem_out ..
  · rw [raiseNorm_entries, settleDrain_entries, State.fn_modFn]
    intro y hy
    simp only [List.mem_filter, bne_iff_ne] at hy
    exact hy.2

theorem putRecords_sent {o : Output} (f q : Nat) (e : Event) (l : List (List Byte)) {s : State} (h : o ∈ s.sent) :
    o ∈ (putRecords f q e l s).sent := by
  have k : ∀ (d : List Byte) (m : Bool) {u : State}, o ∈ u.sent → o ∈ (putRecord f q e d m u).sent := by
    intro d m u hu
    unfold putRecord State.modEq
    rw [State.modFn_sent]
    refine mem_out_of _ ?_
    rw [engineWork_sent]; exact hu
  induction l generalizing s with
  | nil => exact h
  | cons d r ih =>
    cases r with
    | nil => exact k _ _ h
    | cons d2 r2 => exact ih (k _ _ h)

theorem payOverflow_sent {o : Output} {s : State} (f q : Nat) (h : o ∈ s.sent) : o ∈ (payOverflow f q s).sent := by
  unfold payOverflow
  dsimp only
  split
  · rw [raiseNorm_sent, State.modFn_sent]; exact putRecords_sent _ _ _ _ h
  · exact h

@[simp] theorem setErr_sent (s : State) (ty inst b : Nat) : (setErr ty inst b s).sent = s.sent := by
  simp only [State.sent, setErr_wire, setErr_tlpHeld]

theorem emitTo_sent {o : Output} (k : Nat) : ∀ (f q : Nat) (e : Event) (s : State),
    o ∈ s.sent → o ∈ (emitTo k f q e s).sent := by
  induction k with
  | zero => intro f q e s h; exact h
  | succ k ih =>
    intro f q e s h
    unfold emitTo
    dsimp only
    split
    · exact h
    · split
      · apply ih
        have h2 : o ∈ (setErr pTPL 0 0 ((loseEvent f q e s).modEq f q (fun r => r.stop 7 r.head))).sent := by
          rw [setErr_sent]; exact h
        split
        · exact h2
        · apply ih; exact h2
      · split
        · rw [raiseNorm_sent]; exact putRecords_sent _ _ _ _ (payOverflow_sent _ _ h)
        · exact payOverflow_sent f q h

/-- An event adds outputs and takes none back. -/
theorem emit_sent {o : Output} {f : Nat} {e : Event} {s : State} (h : o ∈ s.sent) : o ∈ (emit f e s).sent := by
  unfold emit
  split
  · exact h
  · split
    · exact h
    · exact emitTo_sent 4 _ _ _ _ h

theorem emitMgr_sent {o : Output} {k n : Nat} {fs : List (Nat × Nat × Nat)} {s : State} (h : o ∈ s.sent) :
    o ∈ (emitMgr k n fs s).sent := emit_sent h

/-- An element taken out of a list and put at its head is a reordering of the list. -/
theorem getElem_cons_eraseIdx_perm {α : Type} : ∀ (l : List α) (i : Nat) (h : i < l.length), (l[i] :: l.eraseIdx i).Perm l := by
  intro l
  induction l with
  | nil => intro i h; exact absurd h (Nat.not_lt_zero i)
  | cons a r ih =>
    intro i h
    cases i with
    | zero => exact List.Perm.refl _
    | succ i => exact (List.Perm.swap _ _ _).trans ((ih i (Nat.lt_of_succ_lt_succ h)).cons a)

/-- Every waiting transaction leaves once: the order of classes loses and doubles none (R413). -/
theorem leaveOrder_perm : ∀ (n : Nat) (l : List Output), (leaveOrder n l).Perm l := by
  intro n
  induction n with
  | zero => intro l; exact List.Perm.refl l
  | succ n ih =>
    intro l
    unfold leaveOrder
    split
    · exact List.Perm.refl l
    · rename_i i _
      by_cases h : i < l.length
      · rw [List.getElem?_eq_getElem h]
        exact (List.Perm.cons _ (ih _)).trans (getElem_cons_eraseIdx_perm l i h)
      · rw [List.getElem?_eq_none (by omega), List.eraseIdx_of_length_le (by omega)]
        exact ih l

end Sys2Proof.Machine
end

