-- ==== Sys2Proof/Tests/Slice0.lean ====
section
/-!
SUPPORT. Slice0: the model's own tests. `witness_<statement>…` shows concrete states and operands that meet the
hypotheses of each clause of a statement of Certificates/Slice0/Obligations.lean (a boundary value where a clause has a
range); `test_ill_…` shows an ill-formed command that each check of WellFormed.lean refuses; the other tests run one
command on a small state, their results computed by hand from the rule that their comment names.
-/

set_option Elab.async false
namespace Sys2Proof.Machine

/-! ## Small states -/

/-- A READY package of eight tiles in RUN, every field tile aligned, PERST# high. -/
def tBase : State :=
  { State.reset with
    ready := true
    link := 1
    tile := (List.range 8).map (fun t => (t, { ready := true, align := .locked }))
    pins := { perst := true, faultN := 2, xoEn := 2 } }

/-- `tBase` with another time state. -/
def tTime (x : TimeSt) : State := { tBase with time := x }

/-- `tBase` with one function. -/
def tFn (f : Nat) (x : Fn) : State := { tBase with fns := [(f, x)], vfEnable := true, vfMse := true, numVfs := 512 }

/-- `tBase` with one port and its nodes, keyed by number. -/
def tPort (g : Nat) (p : Port) (ns : NMap Node) : State :=
  { tBase with ports := [(g, p)], nodes := ns.map (fun x => (nodeKey g x.1, x.2)) }

/-- `tBase` with one tile changed. -/
def tTile (t : Nat) (x : Tile) : State := { tBase with tile := nput {} tBase.tile t x }

/-- `tBase` with another firmware state. -/
def tFw (x : FwSt) : State := { tBase with fw := x }

/-- `tBase` with the plan buffers of port 3. -/
def tPlan (p : PlanSt) : State := { tBase with plans := [(3, p)], ports := [(3, { hop := .up })] }

/-- A map entry: 8 bits of the payload into point 64. -/
def tMap : PmEntry := { point := 64, byteOff := 0, bitOff := 0, width := 8, signed := false, enabled := true }

/-- An upstream entry of node 5: XID 9, two slots from block 1, every tick, one point. -/
def tEntry : AEntry :=
  { node := 5, up := true, retry := false, mute := false, xid := 9, len := 1, k := 0, prio := 0, phase := 0, first := 1,
    func := 1, pmref := 0, phlo := 0, phhi := 0,
    pm := [tMap] }

/-- The facts of `State.runs` and `State.cqTakes`, as checks. -/
theorem runs_of {s : State} {f e opc : Nat} {x : Entry}
    (h : s.ready = true ∧ s.alive f = true ∧ s.paused = false ∧ s.entry? f e opc = some x ∧ s.heldWork f x = false ∧
      s.onDeadTile x = none) : s.runs f e opc x :=
  ⟨h.1, h.2.1, h.2.2.1, h.2.2.2.1, h.2.2.2.2.1, h.2.2.2.2.2⟩

theorem takes_of {s : State} {f : Nat} {x : Entry}
    (h : s.alive f = true ∧ s.paused = false ∧ (s.cqR f (s.sqR f x.sq).cq).running = true ∧
      (s.cqR f (s.sqR f x.sq).cq).room ≠ 0 ∧ (s.fn f).hold.any (·.cq == (s.sqR f x.sq).cq) = false ∧ s.dmaOk f = true) :
    s.cqTakes f x :=
  ⟨h.1, h.2.1, h.2.2.1, h.2.2.2.1, h.2.2.2.2.1, h.2.2.2.2.2⟩

/-- An outstanding entry, number 1, of opcode `opc`. -/
def tX (opc target count p0 : Nat) : Entry :=
  { id := 1, sq := 0, opc, fence := false, cid := 7, target, addr := 4096, count, p0, p1 := 0, listAddr := 0, listMax := 0, p2 := 0 }

/-- A function in service with its rings 0 enabled and that entry outstanding. -/
def tCmdFn (x : Entry) : Fn :=
  { st := .active, bme := true, sq := [(0, { enable := true })], cq := [(0, { enable := true })], eq := [(0, { enable := true })],
    entries := [x] }

/-- `tBase` with function `f` so. -/
def tCmd (f : Nat) (x : Entry) : State := tFn f (tCmdFn x)

theorem bcq_of {s : State} {f : Nat}
    (h : s.alive f = true ∧ s.paused = false ∧ (s.fn f).bulk.ring.running = true ∧ (s.fn f).bulk.ring.room ≠ 0 ∧
      (s.fn f).bulk.recs = [] ∧ s.dmaOk f = true) : s.bcqTakes f :=
  ⟨h.1, h.2.1, h.2.2.1, h.2.2.2.1, h.2.2.2.2.1, h.2.2.2.2.2⟩

/-- The field `p` of the state that a command answers. -/
def after {α : Type} (c : Instr) (s : State) (p : State → α) : Option α :=
  match exec c s with
  | .next t => some (p t)
  | _ => none

/-- A TRAIN block (R124): STEP, PRESET, the LOCKED and ECHORSP bits, ROLE and TURN. -/
def tTrain (step preset : Nat) (locked echo : Bool) (role turn : Nat) : W64 :=
  let b := [BitVec.ofNat 8 (step + 16 * preset), BitVec.ofNat 8 (b2n locked + 4 * b2n echo + 8 * role)] ++ toLe 3 turn ++ [0#8]
  BitVec.ofNat 64 (leNat ([0x78#8] ++ b ++ [BitVec.ofNat 8 (crc8 b)]))

/-- The HEADER of an upstream transfer of one data block (R101), and that block with its CRC (R103). -/
def tHead (node cls xid : Nat) : RxBlock := (2#2, BitVec.ofNat 64 (leNat (headerBytes cls node xid 0 0 1)))
def tBody (node cls xid payload : Nat) : List RxBlock :=
  [(1#2, BitVec.ofNat 64 (payload + crc32c ((headerBytes cls node xid 0 0 1).drop 1 ++ toLe 4 payload) * 2 ^ 32))]

/-- An ECHO block (R116). -/
def tEcho (node rseq turn : Nat) : RxBlock :=
  let b := toLe 2 (node + rseq * 4096) ++ toLe 3 turn ++ [0#8]
  (2#2, BitVec.ofNat 64 (leNat ([0x5A#8] ++ b ++ [BitVec.ofNat 8 (crc8 b)])))

/-! ## Witnesses: every command -/

theorem witness_StepRunsFrontCommand :
    { tBase with pending := [Instr.tickBoundary] }.pending = Instr.tickBoundary :: [] := by decide
theorem witness_CommandsKeepQueueAndPart : ∃ t, exec (.packageReady 5 0) tBase = .next t := ⟨_, rfl⟩
theorem witness_FrameOfEveryCommand : ∃ t, exec .frameBoundary tBase = .next t := ⟨_, rfl⟩
theorem witness_StepKeepsInvariant :
    tBase.Inv ∧ step { tBase with pending := [Instr.tickBoundary] } = exec .tickBoundary tBase :=
  ⟨by constructor <;> decide, rfl⟩
theorem witness_FreshNumbersAreFree : nthFree 0 [1, 2, 4] = 3 ∧ nthFree 1 [1, 2, 4] = 5 := by decide


/-! ## The facts of the statements' hypotheses, as checks -/

theorem serves_of {s : State} {f bar a : Nat}
    (h : hasBar f bar = true ∧ s.answers f = 2 ∧ s.placeOpen f bar a = true ∧ s.deadTile (accTile f bar a) = false ∧
      s.waitsFor f bar a = none) : s.serves f bar a :=
  ⟨h.1, h.2.1, h.2.2.1, h.2.2.2.1, h.2.2.2.2⟩

theorem reaches_of {s : State} {f a ty inst off : Nat}
    (h : (hasBar f 0 = true ∧ s.answers f = 2 ∧ s.placeOpen f 0 a = true ∧ s.deadTile (accTile f 0 a) = false ∧
      s.waitsFor f 0 a = none) ∧ place f a = .page ty inst off ∧ a % 4 = 0) : s.reaches f a ty inst off :=
  ⟨serves_of h.1, h.2.1, h.2.2⟩

theorem comes_of {hb : RxBlock} {body : List RxBlock} {n c x l : Nat}
    (h : hb.isHeader = true ∧ hOk hb.bytes = true ∧ hNode hb.bytes = n ∧ hClass hb.bytes = c ∧ hXid hb.bytes = x ∧
      hLen hb.bytes = l ∧ bodyOk hb.bytes body = true) : comes hb body n c x l :=
  ⟨h.1, h.2.1, h.2.2.1, h.2.2.2.1, h.2.2.2.2.1, h.2.2.2.2.2.1, h.2.2.2.2.2.2⟩

theorem open_of {s : State} (h : s.ready = true ∧ (s.fn 0).dstate = 0) : s.mgrOpen := h

theorem room_of {s : State} {f : Nat} (h : (s.fn f).handles.length < handleLimit f) : s.handleRoom f := h

/-! ## Witnesses: the machine and its clocks -/

namespace TestClock

def tQueue : State := { tBase with pending := [.hubPoll 3] }
def tLocked : State := tTime { locked := true }
def tManager : State := tTime { mode := 2, modeW := 2, sync := false }
def tAsleepTim : State := tTime { sleeping := true }
def tDue : State := tTime { pending := true, tick := 65535, ticklenW := 1, fllog2W := 4, sampleOffW := 5000 }
def tDone : State := tTime { frameDone := some 0 }
/-- IEEE 1588 in force with its port up, and the time state given. -/
def tPtpRegs (x : TimeSt) (r : NMap W64) : State :=
  { tTime x with mgt := { up := true, speed := 2, duplex := true }, regs := r ++ [(regKey pMGT 0 0x00C, 1), (regKey pMGT 0 0x040, 1)] }
def tPtpFree : State := tPtpRegs { mode := 1, modeW := 1, foreign := [9] } []
def tPtpMaster : State := tPtpRegs { mode := 1, modeW := 1, foreign := [9], master := some (9, 77), syncWait := some 2000000, delayReq := some 7, syncRun := 15, msDiff := 40 } []
def tPtpPeer : State := tPtpRegs { mode := 1, modeW := 1, delayReq := some 7, delayWait := some 900 } [(regKey pTIM 0 0x064, 0x10000)]
def tLocking : State := tTile 1 { ready := true, within := 15, align := .drift }
def tDrifting : State := tTile 1 { ready := true, outside := 15, align := .locked }

theorem witness_IdleOnEmptyQueue :
    tBase.pending = [] :=
  by decide +kernel

theorem witness_TimeRegisterWrites :
    (tBase.time.locked = false ∧
      tLocked.time.locked = true ∧
      tManager.time.mode = 2 ∧
      tBase.time.mode ≠ 2) ∧
    tBase.mgrOpen ∧
    tLocked.mgrOpen ∧
    tManager.mgrOpen :=
  ⟨by decide +kernel, open_of (by decide +kernel), open_of (by decide +kernel), open_of (by decide +kernel)⟩

theorem witness_BoundariesAdvanceTime :
    (tBase.clockRuns = true ∧
      tBase.timecfgDue = false ∧
      tAsleepTim.clockRuns = false ∧
      tBase.isFrame = true ∧
      tBase.time.frameDone ≠ some tBase.time.tick ∧
      (tDone.clockRuns = false ∨ tDone.isFrame = false ∨ tDone.time.frameDone = some tDone.time.tick) ∧
      (tBase.ready = false ∨ tBase.timecfgDue = false) ∧
      tDue.ready = true ∧
      tDue.timecfgDue = true) :=
  by decide +kernel

theorem witness_PtpMessages :
    (tPtpFree.ptpOn = true ∧
      BitVec.toNat (254 : BitVec (128 : Nat)) % (2 : Nat) ^ (16 : Nat) < (255 : Nat) ∧
      tPtpFree.time.master = none ∧
      tPtpFree.time.foreign.contains (BitVec.toNat (8 : BitVec (80 : Nat))) = false ∧
      tPtpFree.time.foreign.contains (BitVec.toNat (9 : BitVec (80 : Nat))) = true ∧
      tPtpMaster.ptpOn = true ∧
      1 ≠ tPtpMaster.ptpDomain ∧
      (tPtpMaster.ptpPeer = true ∨ tPtpMaster.time.master.isSome = true) ∧
      tPtpPeer.ptpOn = true ∧
      (tPtpPeer.ptpPeer = true ∨ tPtpPeer.time.master.isSome = true) ∧
      tPtpMaster.time.master = some (9, 77) ∧
      tPtpMaster.time.syncWait = some 2000000) ∧
    (tPtpMaster.time.delayReq = some 7 ∧
      tPtpMaster.ptpPeer = false ∧
      tPtpPeer.time.delayReq = some 7 ∧
      tPtpPeer.ptpPeer = true ∧
      tPtpPeer.time.delayWait = some 900) :=
  ⟨by decide +kernel, by decide +kernel⟩

theorem witness_AlignMeasurements :
    (tLocking.hasTile 1 = true ∧
      (tLocking.tl 1).ready = true ∧
      tDrifting.hasTile 1 = true ∧
      (tDrifting.tl 1).ready = true ∧
      (0 = 0 ∨ tBase.hasTile 0 = false ∨ (tBase.tl 0).ready = false) ∧
      (8 = 0 ∨ tBase.hasTile 8 = false ∨ (tBase.tl 8).ready = false)) :=
  by decide +kernel

end TestClock

/-! ## Witnesses: the management port and the TAP -/

namespace TestMgt

/-- The management port served, both families and ECHO on, address 7, IPv6 address 8, one next hop known, one waited for. -/
def tMgt : State :=
  { tBase with
    mgt := { up := true, speed := 2, duplex := true, hops := [(false, 7, 9)], waiting := [(true, 5, 6, [3#8, 4#8])] }
    regs := [(regKey pMGT 0 0x00C, 1), (regKey pMGT 0 0x040, 7), (regKey pMGT 0 0x048, 0x010203040506), (regKey pMGT 0 0x050, 7), (regKey pMGT 0 0x054, 32),
      (regKey pMGT 0 0x060, 8)] }
/-- The same with a gateway, and ECHO and IPv6 off. -/
def tMgt4 : State := { tMgt with regs := [(regKey pMGT 0 0x00C, 1), (regKey pMGT 0 0x040, 1), (regKey pMGT 0 0x048, 0x010203040506), (regKey pMGT 0 0x050, 7), (regKey pMGT 0 0x054, 32)] }
/-- The port's link up but not served. -/
def tMgtWords : State := { tBase with mgt := { words := [(0x060, 3), (0x080, 4), (0x048, 6)] } }
def tJtag : State := { tBase with pins := {} }

theorem witness_ManagementPort :
    (tMgt.mgtUp = true ∧
      tMgt.ownAddr false 7 = true ∧
      tMgt.ownAddr false 6 = false ∧
      tMgt.ownAddr true (tMgt.mgtWide 96) = true ∧
      tMgt.ownAddr true 6 = false ∧
      bit (tMgt.sreg 4 pMGT 0 64) 2 = true ∧
      tMgt.nextHop false 7 = some 7 ∧
      ((tMgt.mgt.hops.any fun (h : Bool × Nat × Nat) => h.fst == false && h.snd.fst == 7) = true) ∧
      tMgt.ownAddr true 8 = true ∧
      tMgt.nextHop true 8 = some 8 ∧
      ((tMgt.mgt.hops.any fun (h : Bool × Nat × Nat) => h.fst == true && h.snd.fst == 8) = false) ∧
      tMgt.nextHop false 6 = none) ∧
    (tMgt4.mgtUp = true ∧
      (tMgt4.ownAddr false 7 = false ∨ bit (tMgt4.sreg 4 pMGT 0 64) 2 = false) ∧
      (tMgt.ownAddr false 6 = false ∨ bit (tMgt.sreg 4 pMGT 0 64) 2 = false) ∧
      tMgt.familyOn true = true ∧
      tMgt4.familyOn true = false ∧
      State.reset.mgtUp = false ∧
      Instr.mgtArpRequest 1 2 ∈ [Instr.mgtArpRequest 1 2, Instr.mgtNeighborSolicitation 1 2, Instr.mgtEchoRequest false 1 2 [], Instr.mgtUnwantedFrame true, Instr.nextHopResolutionReply false 1 2] ∧
      Instr.nextHopResolutionReply false 1 2 ∈ [Instr.mgtArpRequest 1 2, Instr.mgtNeighborSolicitation 1 2, Instr.mgtEchoRequest false 1 2 [], Instr.mgtUnwantedFrame true, Instr.nextHopResolutionReply false 1 2] ∧
      128 ∈ [96, 128] ∧
      2 < 3 ∧
      96 ∈ [96, 128] ∧
      (addrReg 80 = none ∧ (4 = 8 → addrReg (80 + 4) = none))) ∧
    State.reset.ready = false ∧
    tMgtWords.mgrOpen :=
  ⟨by decide +kernel, by decide +kernel, by decide +kernel, open_of (by decide +kernel)⟩

theorem witness_BoundaryScan :
    (tJtag.pins.perst = false ∧
      ¬BitVec.toNat (255 : BitVec (8 : Nat)) ∈ [(0 : Nat), (1 : Nat), (2 : Nat), (4 : Nat), (8 : Nat)] ∧
      tBase.pins.perst = true ∧
      Instr.jtagClamp ∈ [Instr.jtagExtest 5, Instr.jtagSamplePreload 5, Instr.jtagIdcode, Instr.jtagClamp, Instr.jtagHighz, Instr.jtagBypass 255] ∧
      BitVec.toNat (4 : BitVec (8 : Nat)) ∈ [(0 : Nat), (1 : Nat), (2 : Nat), (4 : Nat), (8 : Nat)]) :=
  by decide +kernel

end TestMgt

/-! ## Witnesses: the link -/

namespace TestLinkUp

def tLink (p : Port) : State := tPort 3 p []
def tIdlePort : State := tLink { enumNow := some (0, 0, 5), sigdet := true, blockLock := true }
def tLock : State := tLink { hop := .lock, blockLock := true, sigdet := true }
def tEq : State := tLink { hop := .eq, blockLock := true, sigdet := true, hops := [(1, { preset := 4 })] }
def tEqLast : State := tLink { hop := .eq, blockLock := true, sigdet := true, hops := [(1, { preset := 10, tried := (List.range 10).map (fun p => (p, 3)) })] }
def tIdent : State := tLink { hop := .ident, blockLock := true, sigdet := true, hopDelay := 9 }
def tIdentEnum : State := tLink { hop := .ident, blockLock := true, sigdet := true, enumNow := some (0, 0, 5) }
def bad : W64 := 0x0100000000000078
def tEqUp (r : Hop) : State := tPort 3 { hop := .up, blockLock := true, sigdet := true, hops := [(1, r)] }
  [(5, { st := .admitted, bound := true, depth := 1, delayValid := true }), (6, { st := .admitted, bound := true, depth := 2, delayValid := true })]
def tSteady : State := tEqUp {}
def tWorse : State := tEqUp { preset := 6, margin := some 20, stepFrom := some 5 }
def tPend : State := tEqUp { pending := some (7, 9) }
def tPendNow : State := tEqUp { pending := some (7, 0) }
def tRefused : State := tLink { refusedLocs := [(0, 0)], trainFails := [(0, 0, 3)], holdDown := true }
def tLinkOff : State := { tRefused with regs := [(regKey pTPT 3 0x040, 0x80C)] }
def tTrunk : State :=
  { tTile 1 { pow := .drydown, align := .notStarted } with ports := [(19, { hop := .wakeDetect })] }

theorem witness_FirstHopTrains :
    (tIdlePort.hasPort 3 = true ∧
      (tIdlePort.port 3).hop = HopSt.down ∧
      tIdlePort.transmits 3 = true ∧
      (tIdlePort.port 3).roleBad = false ∧
      (tIdlePort.port 3).enumNow.isSome = true ∧
      (tIdlePort.port 3).sigdet = true ∧
      tLock.hasPort 3 = true ∧
      ((tLock.port 3).hop = HopSt.lock ∨ (tLock.port 3).hop = HopSt.ident) ∧
      tIdent.hasPort 3 = true ∧
      ((tIdent.port 3).hop = HopSt.lock ∨ (tIdent.port 3).hop = HopSt.ident) ∧
      tEq.hasPort 3 = true ∧
      (tEq.port 3).hop = HopSt.eq) ∧
    (tEqLast.hasPort 3 = true ∧
      (tEqLast.port 3).hop = HopSt.eq ∧
      (tLock.port 3).hop = HopSt.lock ∧
      (tLock.port 3).blockLock = true ∧
      (tIdent.port 3).blockLock = true ∧
      (tIdent.port 3).hop ≠ HopSt.lock ∧
      ((tIdent.port 3).hop = HopSt.lock ∨ (tIdent.port 3).hop = HopSt.eq ∨ (tIdent.port 3).hop = HopSt.ident) ∧
      blockOk (120 : Nat) (toLe (8 : Nat) (BitVec.toNat bad)) = false ∧
      ((tLock.port 3).hop = HopSt.lock ∨ (tLock.port 3).hop = HopSt.eq ∨ (tLock.port 3).hop = HopSt.ident) ∧
      blockOk (120 : Nat) (toLe (8 : Nat) (BitVec.toNat (tTrain (1 : Nat) (0 : Nat) true false (4 : Nat) (0 : Nat)))) = true ∧
      trainRole (toLe (8 : Nat) (BitVec.toNat (tTrain (1 : Nat) (0 : Nat) true false (4 : Nat) (0 : Nat)))) ≠ (2 : Nat) ∧
      trainRole (toLe (8 : Nat) (BitVec.toNat (tTrain (1 : Nat) (0 : Nat) true false (4 : Nat) (0 : Nat)))) ≠ (3 : Nat)) ∧
    (blockOk (120 : Nat) (toLe (8 : Nat) (BitVec.toNat (tTrain (1 : Nat) (0 : Nat) true false (2 : Nat) (0 : Nat)))) = true ∧
      (trainRole (toLe (8 : Nat) (BitVec.toNat (tTrain (1 : Nat) (0 : Nat) true false (2 : Nat) (0 : Nat)))) = (2 : Nat) ∨ trainRole (toLe (8 : Nat) (BitVec.toNat (tTrain (1 : Nat) (0 : Nat) true false (2 : Nat) (0 : Nat)))) = (3 : Nat)) ∧
      trainStep (toLe (8 : Nat) (BitVec.toNat (tTrain (1 : Nat) (0 : Nat) true false (2 : Nat) (0 : Nat)))) = (1 : Nat) ∧
      trainLocked (toLe (8 : Nat) (BitVec.toNat (tTrain (1 : Nat) (0 : Nat) true false (2 : Nat) (0 : Nat)))) = true ∧
      blockOk (120 : Nat) (toLe (8 : Nat) (BitVec.toNat (tTrain (2 : Nat) (4 : Nat) true false (2 : Nat) (0 : Nat)))) = true ∧
      (trainRole (toLe (8 : Nat) (BitVec.toNat (tTrain (2 : Nat) (4 : Nat) true false (2 : Nat) (0 : Nat)))) = (2 : Nat) ∨ trainRole (toLe (8 : Nat) (BitVec.toNat (tTrain (2 : Nat) (4 : Nat) true false (2 : Nat) (0 : Nat)))) = (3 : Nat)) ∧
      trainStep (toLe (8 : Nat) (BitVec.toNat (tTrain (2 : Nat) (4 : Nat) true false (2 : Nat) (0 : Nat)))) = (2 : Nat) ∧
      trainPreset (toLe (8 : Nat) (BitVec.toNat (tTrain (2 : Nat) (4 : Nat) true false (2 : Nat) (0 : Nat)))) = (tEq.rx (3 : Nat) (1 : Nat)).preset ∧
      bits (tEq.linkcfg 3) 8 4 ≤ 8 % 64 ∧
      blockOk (120 : Nat) (toLe (8 : Nat) (BitVec.toNat (tTrain (2 : Nat) (4 : Nat) true false (3 : Nat) (0 : Nat)))) = true ∧
      (trainRole (toLe (8 : Nat) (BitVec.toNat (tTrain (2 : Nat) (4 : Nat) true false (3 : Nat) (0 : Nat)))) = (2 : Nat) ∨ trainRole (toLe (8 : Nat) (BitVec.toNat (tTrain (2 : Nat) (4 : Nat) true false (3 : Nat) (0 : Nat)))) = (3 : Nat)) ∧
      trainStep (toLe (8 : Nat) (BitVec.toNat (tTrain (2 : Nat) (4 : Nat) true false (3 : Nat) (0 : Nat)))) = (2 : Nat)) ∧
    (trainPreset (toLe (8 : Nat) (BitVec.toNat (tTrain (2 : Nat) (4 : Nat) true false (3 : Nat) (0 : Nat)))) = (tEq.rx (3 : Nat) (1 : Nat)).preset ∧
      (true = false ∨ 7 % 64 < bits (tEq.linkcfg 3) 8 4) ∧
      (List.find? (fun (p : Nat) => !((tEq.rx 3 1).tried ++ [((tEq.rx 3 1).preset, 7 % 64)]).any fun (x : Nat × Nat) => x.fst == p) (List.range 11) = some 0) ∧
      blockOk (120 : Nat) (toLe (8 : Nat) (BitVec.toNat (tTrain (2 : Nat) (10 : Nat) true false (2 : Nat) (0 : Nat)))) = true ∧
      (trainRole (toLe (8 : Nat) (BitVec.toNat (tTrain (2 : Nat) (10 : Nat) true false (2 : Nat) (0 : Nat)))) = (2 : Nat) ∨ trainRole (toLe (8 : Nat) (BitVec.toNat (tTrain (2 : Nat) (10 : Nat) true false (2 : Nat) (0 : Nat)))) = (3 : Nat)) ∧
      trainStep (toLe (8 : Nat) (BitVec.toNat (tTrain (2 : Nat) (10 : Nat) true false (2 : Nat) (0 : Nat)))) = (2 : Nat) ∧
      trainPreset (toLe (8 : Nat) (BitVec.toNat (tTrain (2 : Nat) (10 : Nat) true false (2 : Nat) (0 : Nat)))) = (tEqLast.rx (3 : Nat) (1 : Nat)).preset ∧
      (false = false ∨ 7 % 64 < bits (tEqLast.linkcfg 3) 8 4) ∧
      (List.find? (fun (p : Nat) => !((tEqLast.rx 3 1).tried ++ [((tEqLast.rx 3 1).preset, 7 % 64)]).any fun (x : Nat × Nat) => x.fst == p) (List.range 11) = none) ∧
      blockOk (120 : Nat) (toLe (8 : Nat) (BitVec.toNat (tTrain (3 : Nat) (0 : Nat) true true (2 : Nat) (11 : Nat)))) = true ∧
      (trainRole (toLe (8 : Nat) (BitVec.toNat (tTrain (3 : Nat) (0 : Nat) true true (2 : Nat) (11 : Nat)))) = (2 : Nat) ∨ trainRole (toLe (8 : Nat) (BitVec.toNat (tTrain (3 : Nat) (0 : Nat) true true (2 : Nat) (11 : Nat)))) = (3 : Nat)) ∧
      (tIdent.port 3).hop = HopSt.ident) ∧
    (trainStep (toLe (8 : Nat) (BitVec.toNat (tTrain (3 : Nat) (0 : Nat) true true (2 : Nat) (11 : Nat)))) = (3 : Nat) ∧
      trainEcho (toLe (8 : Nat) (BitVec.toNat (tTrain (3 : Nat) (0 : Nat) true true (2 : Nat) (11 : Nat)))) = true ∧
      (tIdent.port 3).enumNow = none ∧
      tIdentEnum.hasPort 3 = true ∧
      (tIdentEnum.port 3).hop = HopSt.ident ∧
      (tIdentEnum.port 3).enumNow = some (0, 0, 5)) :=
  ⟨by decide +kernel, by decide +kernel, by decide +kernel, by decide +kernel, by decide +kernel⟩

theorem witness_EqualisationAndWakeDetect :
    (tSteady.hopUp 3 = true ∧
      bit (tSteady.linkcfg 3) 2 = true ∧
      tWorse.hopUp 3 = true ∧
      bit (tWorse.linkcfg 3) 2 = true ∧
      (tIdent.hopUp 3 = false ∨ bit (tIdent.linkcfg 3) 2 = false) ∧
      (tPend.rx 3 1).pending = some (7, 9) ∧
      tPend.time.tick < 9 ∧
      (tPendNow.rx 3 1).pending = some (7, 0) ∧
      0 ≤ tPendNow.time.tick ∧
      tRefused.accWaits (3 / 16) = false ∧
      tRefused.hasPort 3 = true ∧
      tRefused.tileOpen (3 / 16) = true) ∧
    (bit (BitVec.toNat (268 : W32)) (0 : Nat) = false ∧
      bit (BitVec.toNat (269 : W32)) (0 : Nat) = true ∧
      tLinkOff.accWaits (3 / 16) = false ∧
      tLinkOff.hasPort 3 = true ∧
      tLinkOff.tileOpen (3 / 16) = true ∧
      (tTrunk.port 19).hop = HopSt.wakeDetect ∧
      tTrunk.hasPort 19 = true ∧
      19 / 16 ≠ 0 ∧
      tTrunk.stage = 0 ∧
      (tTrunk.tl (19 / 16)).pow = PowSt.drydown ∧
      (tTrunk.tl (19 / 16)).pwr.off7 = false ∧
      tTrunk.asleep 0 = false) ∧
    (tTrunk.tl (19 / 16)).pwr.rearm.contains 19 = false ∧
    tRefused.mgrOpen ∧
    tLinkOff.mgrOpen :=
  ⟨by decide +kernel, by decide +kernel, by decide +kernel, open_of (by decide +kernel), open_of (by decide +kernel)⟩

end TestLinkUp

/-! ## Witnesses: the tree -/

namespace TestTree

def tDev : Node := { st := .admitted, bound := true, depth := 1, lessee := 1, delay := 40, delayValid := true, bankLoaded := true, resumed := true }
def tTree (p : Port) (n : Node) : State :=
  { tPort 3 { p with hop := .up, blockLock := true, sigdet := true } [(5, n)] with
    plans := [(3, { run := { entries := [tEntry], planid := 7 } })] }
def tUp : State := tTree {} tDev
def tRetry : Retry := { node := 5, xid := 9, tseq := none, tick := 0, left := 1, due := 0 }
def tUpLast : State := tTree { retries := [tRetry] } tDev
def tAsk (n : Node) (p : Port) : State := tTree { p with echoes := [(5, 0, 2)] } n
def tEchoS : State := tAsk tDev {}
def tEchoWait : State := tAsk { tDev with stepWait := some 90 } {}
def tEchoMiss : State := tAsk { tDev with missedEcho := 2 } {}
def tHub : State := tTree {} { tDev with isHub := true, branches := 4 }
def tMreq (p : Purpose) (op : Nat) (w : List Nat) : MReq := { node := 5, op, words := w, purpose := p, attempt := 0, mseq := 3 }
def tDelayReq : State := tTree { mreqs := [tMreq (.delay 44) 2 [lnkDelay, 44 + 2 ^ 31]] } tDev
def tCapsReq : State := tTree { mreqs := [tMreq .caps 1 [lnkCaps, 1]] } { tDev with st := .numbering }
def tEnumHub : State := tTree { enumNow := some (6, 2, 9) } { tDev with isHub := true, branches := 4 }
def tEnumFirst (p : Port) : State := tPort 3 { p with enumNow := some (0, 0, 5) } [(5, { st := .numbering, depth := 1 })]
def tEnum0 : State := tEnumFirst {}
def tEnum3 : State := tEnumFirst { trainFails := [(0, 0, 2)] }
def tOwner (n : Node) : State :=
  { tTree {} n with fns := [(1, { st := .active, bme := true })], vfEnable := true, vfMse := true, numVfs := 512 }
def tLook (l : Look) : State := tOwner { st := .admitting, bound := true, depth := 1, hash := List.replicate 16 7#8, look := some l }
def tLook0 : State := tLook { owner := 1, addr := 4096 }
def tLook1 : State := tLook { owner := 1, addr := 4096, hdr := false, hi := 3 }
def tGenFn : State := tFn 1 { st := .active, allowAddr := some 4096 }
def tAdm (n : Node) : State := { tTree {} { n with bound := true, depth := 1 } with plans := [] }
def tAuth1 : State := { tAdm { st := .admitting, authTry := 1, nonce := [1#8] } with nonces := [[1#8]] }
def tAuth2 : State := tAdm { st := .admitting, authTry := 2 }
def tLease1 : State := tAdm { st := .admitting, leaseLook := 1, leaseAddr := 4096 }
def tRelet : State := tAdm { st := .admitted, leaseLook := 2, leaseAddr := 4096, relet := true }
def tQuarPort : State := tPort 3 { quarPort := true } []

theorem witness_UpstreamTransfers :
    (tUp.hopUp 3 = true ∧
      (tUp.port 3).gates = [] ∧
      tUp.listens 3 tEntry.node = true ∧
      tEntry.mute = false ∧
      (List.find? (fun (e : AEntry) => e.first == 1) (List.filter (fun (e : AEntry) => e.up && e.due tUp.time.tick) (tUp.planNow 3).entries) = some tEntry) ∧
      (tUp.node 3 tEntry.node).run + 1 < bits (tUp.treecfg 3) 8 8 ∧
      (tUp.node 3 tEntry.node).win + 1 < bits (tUp.misswin 3) 0 8 ∧
      (List.find? (fun (x : AEntry) => x.up && x.due tUp.time.tick && x.node == tEntry.node && x.xid == tEntry.xid) ((tUp.plan 3).at tUp.time.tick).entries = some tEntry) ∧
      tUpLast.hopUp 3 = true ∧
      (tUpLast.port 3).gates = [] ∧
      tUpLast.listens 3 tEntry.node = true ∧
      (tUpLast.node 3 tEntry.node).run + 1 < bits (tUpLast.treecfg 3) 8 8) ∧
    ((tUpLast.node 3 tEntry.node).win + 1 < bits (tUpLast.misswin 3) 0 8 ∧
      tUpLast.retry? 3 tEntry.node tEntry.xid = some (tRetry, tEntry) ∧
      tRetry.left ≤ 1 ∧
      (tRetry.tseq = none ∨ tRetry.tseq = some (hTseq (tHead 5 4 9).bytes))) ∧
    comes (tHead 5 0 9) (tBody 5 0 9 85) tEntry.node 0 tEntry.xid tEntry.len ∧
    comes (tHead 5 4 9) (tBody 5 4 9 85) tEntry.node 4 tEntry.xid tEntry.len :=
  ⟨by decide +kernel, by decide +kernel, comes_of (by decide +kernel), comes_of (by decide +kernel)⟩

theorem witness_EchoesAndAnswers :
    (tEchoS.hopUp 3 = true ∧
      (List.find? (fun (x : Nat × Nat × Nat) => x.snd.fst == tEchoS.time.tick) (tEchoS.port 3).echoes = some (5, 0, 2)) ∧
      (tEcho 5 2 0).fst = 2#2 ∧
      blockOk 90 (tEcho 5 2 0).bytes = true ∧
      byteField (tEcho 5 2 0).bytes 1 2 = 5 + 2 * 2 ^ 12 ∧
      tEchoWait.hopUp 3 = true ∧
      (List.find? (fun (x : Nat × Nat × Nat) => x.snd.fst == tEchoWait.time.tick) (tEchoWait.port 3).echoes = some (5, 0, 2)) ∧
      (tEcho 5 2 10).fst = 2#2 ∧
      blockOk 90 (tEcho 5 2 10).bytes = true ∧
      byteField (tEcho 5 2 10).bytes 1 2 = 5 + 2 * 2 ^ 12 ∧
      tEchoMiss.hopUp 3 = true ∧
      (List.find? (fun (x : Nat × Nat × Nat) => x.snd.fst == tEchoMiss.time.tick) (tEchoMiss.port 3).echoes = some (5, 0, 2))) ∧
    ((true = true ∨ (tEcho 5 2 0).fst ≠ 2#2 ∨ blockOk 90 (tEcho 5 2 0).bytes = false ∨ byteField (tEcho 5 2 0).bytes 1 2 ≠ 5 + 2 * 2 ^ 12) ∧
      (tEchoMiss.node 3 5).missedEcho < 3 ∧
      (false = true ∨ (tEcho 5 3 0).fst ≠ 2#2 ∨ blockOk 90 (tEcho 5 3 0).bytes = false ∨ byteField (tEcho 5 3 0).bytes 1 2 ≠ 5 + 2 * 2 ^ 12) ∧
      tUp.hopUp 3 = true ∧
      (List.find? (fun (x : Nat × Nat × Nat) => x.snd.fst == tUp.time.tick) (tUp.port 3).echoes = none) ∧
      RxBlock.isIdle (2#2, 30) = true ∧
      tHub.hopUp 3 = true ∧
      ([5] = List.filter (fun (n : Nat) => (tHub.node 3 n).isHub && (tHub.node 3 n).present) (tHub.nodesOf 3)) ∧
      ((List.find? (fun (h : Nat) => decide ((tHub.port 3).pollLast < h + 1)) [5] <|> [5].head?) = some 5) ∧
      ([] = List.filter (fun (n : Nat) => (tUp.node 3 n).isHub && (tUp.node 3 n).present) (tUp.nodesOf 3)) ∧
      (tUp.node 3 5).present = true ∧
      (tUp.node 3 5).isHub = false) ∧
    ((tHub.node 3 5).present = true ∧
      (tHub.node 3 5).isHub = true ∧
      tDelayReq.hopUp 3 = true ∧
      3 < 256 ∧
      (List.find? (fun (x : MReq) => x.mseq == 3) (tDelayReq.port 3).mreqs = some (tMreq (Purpose.delay 44) 2 [lnkDelay, 44 + 2 ^ 31])) ∧
      (tMreq (Purpose.delay 44) 2 [lnkDelay, 44 + 2 ^ 31]).purpose = Purpose.delay 44 ∧
      tCapsReq.hopUp 3 = true ∧
      (List.find? (fun (x : MReq) => x.mseq == 3) (tCapsReq.port 3).mreqs = some (tMreq Purpose.caps 1 [lnkCaps, 1])) ∧
      (tMreq Purpose.caps 1 [lnkCaps, 1]).purpose = Purpose.caps ∧
      (tMreq (Purpose.delay 44) 2 [lnkDelay, 44 + 2 ^ 31]).attempt = 0) ∧
    comes (tHead 5 2 32768) (tBody 5 2 32768 0) 5 2 (128 * 256) 1 ∧
    comes (tHead 5 2 32768) (tBody 5 2 32768 65538) 5 2 (128 * 256) 1 ∧
    comes (tHead 5 2 3) (tBody 5 2 3 0) (tMreq (Purpose.delay 44) 2 [lnkDelay, 44 + 2 ^ 31]).node 2 3 (answerLen (tMreq (Purpose.delay 44) 2 [lnkDelay, 44 + 2 ^ 31]).op (tMreq (Purpose.delay 44) 2 [lnkDelay, 44 + 2 ^ 31]).words - 1) ∧
    comes (tHead 5 2 3) (tBody 5 2 3 1193046) (tMreq Purpose.caps 1 [lnkCaps, 1]).node 2 3 (answerLen (tMreq Purpose.caps 1 [lnkCaps, 1]).op (tMreq Purpose.caps 1 [lnkCaps, 1]).words - 1) :=
  ⟨by decide +kernel, by decide +kernel, by decide +kernel, comes_of (by decide +kernel), comes_of (by decide +kernel), comes_of (by decide +kernel), comes_of (by decide +kernel)⟩

theorem witness_EnumerationAndLookups :
    ((tEnumHub.port 3).enumNow = some (6, 2, 9) ∧
      tEnumHub.hopUp 3 = true ∧
      (∀ (e : Nat × Nat × Nat), e ∈ (tEnum0.port 3).enumNow → e.fst = 0) ∧
      (tEnum3.port 3).enumNow = some (0, 0, 5) ∧
      (0, 0, 5).snd.snd = 5 ∧
      (List.find? (fun (t : Nat × Nat × Nat) => t.fst == (tEnum3.placeOf 3 5).fst && t.snd.fst == (tEnum3.placeOf 3 5).snd) (tEnum3.port 3).trainFails = some (0, 0, 2)) ∧
      2 ≤ (0, 0, 2).snd.snd ∧
      (tEnum0.port 3).enumNow = some (0, 0, 5) ∧
      (tEnum0.port 3).trainFails = [] ∧
      (tEnum0.placeOf 3 5).fst = 0 ∧
      (tEnum0.port 3).sigdet = false ∧
      (tUp.port 3).enumNow = none) ∧
    ((tLook0.node 3 5).look = some { owner := 1, addr := 4096 : Look } ∧
      { owner := 1, addr := 4096 : Look }.retry = false ∧
      { owner := 1, addr := 4096 : Look }.hdr = true ∧
      0 < byteField (toLe 8 6 ++ toLe 8 70000) 8 4 ∧
      tLook0.dmaOk { owner := 1, addr := 4096 : Look }.owner = true ∧
      (tLook1.node 3 5).look = some { owner := 1, addr := 4096, hdr := false, hi := 3 : Look } ∧
      { owner := 1, addr := 4096, hdr := false, hi := 3 : Look }.retry = false ∧
      { owner := 1, addr := 4096, hdr := false, hi := 3 : Look }.hdr = false ∧
      { owner := 1, addr := 4096, hdr := false, hi := 3 : Look }.loH = [] ∧
      { owner := 1, addr := 4096, hdr := false, hi := 3 : Look }.hiH = [] ∧
      List.take 16 (List.replicate 16 7#8) = (tLook1.node 3 5).hash ∧
      (tGenFn.fn 1).allowAddr.isSome = true) ∧
    ((tGenFn.fn 1).allowGen = none ∧
      (tLook0.node 3 5).look.isSome = true ∧
      (tUp.node 3 5).look = none) :=
  ⟨by decide +kernel, by decide +kernel, by decide +kernel⟩

theorem witness_ChallengesAndLeases :
    ((tAuth1.node 3 5).st = NodeSt.admitting ∧
      (tAuth1.node 3 5).waitNonce = false ∧
      (tAuth1.node 3 5).waitSig = false ∧
      (tAuth1.node 3 5).authTry ≠ 0 ∧
      tAuth1.hopUp 3 = true ∧
      (tAuth1.node 3 5).authTry = 1 ∧
      tAuth1.rngOk = true ∧
      tAuth1.nonces.length < 2 ^ 256 ∧
      (tAuth2.node 3 5).st = NodeSt.admitting ∧
      (tAuth2.node 3 5).waitNonce = false ∧
      (tAuth2.node 3 5).waitSig = false ∧
      (tAuth2.node 3 5).authTry ≠ 0) ∧
    (tAuth2.hopUp 3 = true ∧
      2 ≤ (tAuth2.node 3 5).authTry ∧
      (tUp.node 3 5).st ≠ NodeSt.admitting ∧
      ((tLease1.node 3 5).leaseLook = 1 ∨ (tLease1.node 3 5).leaseLook = 2) ∧
      (tLease1.node 3 5).leaseLook = 1 ∧
      0 < byteField (toLe 8 6 ++ toLe 8 5000) 8 4 ∧
      (tRelet.node 3 5).leaseLook ≠ 0 ∧
      (tRelet.node 3 5).leaseForList = false ∧
      ((tRelet.node 3 5).relet = true) ∧
      (tLease1.node 3 5).leaseLook ≠ 0 ∧
      (tLease1.node 3 5).leaseForList = false ∧
      ((tLease1.node 3 5).relet = false)) ∧
    ((tLease1.node 3 5).lastHash = none ∧
      (tLease1.node 3 5).isHub = false ∧
      tLease1.nodeEntries 3 5 = [] ∧
      tQuarPort.hasPort 3 = true ∧
      tQuarPort.accWaits (3 / 16) = false ∧
      tQuarPort.tileOpen (3 / 16) = true ∧
      (tQuarPort.port 3).quarPort = true ∧
      (List.find? (fun (n : Nat) => (tQuarPort.node 3 n).st == NodeSt.quarantined && (tQuarPort.node 3 n).gateAt == some (0, 0)) (tQuarPort.nodesOf 3) = none)) ∧
    tQuarPort.mgrOpen :=
  ⟨by decide +kernel, by decide +kernel, by decide +kernel, open_of (by decide +kernel)⟩

end TestTree

/-! ## Witnesses: the bridge -/

namespace TestBridge

/-- Function 1 in service with its window on node 5 of port 3, which is in service; the lessee and the accesses given. -/
def tBrg (lessee : Nat) (v : BridgeView) (l : List BAcc) : State :=
  { tPort 3 { hop := .up, blockLock := true, sigdet := true }
      [(5, { st := .admitted, bound := true, depth := 1, lessee := lessee, readers := [1], delay := 40, delayValid := true,
             bankLoaded := true, resumed := true })] with
    fns := [(1, { st := .active, bme := true, bridge := { v with winbase := 5 + 3 * 4096 } })]
    vfEnable := true, vfMse := true, numVfs := 512, bridge := l }
def tBAcc (fn : Nat) (load wide : Bool) (btag : Nat) : BAcc := { fn, g := 3, node := 5, load, wide, addr := 64, tag := 7, btag }
def tBrgFree : State := tBrg 1 {} []
def tBrgReader : State := tBrg 0 {} []
def tBrgNone : State := { tBrgFree with nodes := [] }
def tBrgLoad : State := tBrg 1 {} [tBAcc 1 true false 3]
def tBrgStore : State := tBrg 1 {} [tBAcc 1 false false 3]
def tBrgMgr : State := tBrg 1 {} [tBAcc 0 true false 3]
def tBrgHeld : State := tBrg 1 {} [tBAcc 1 true true 0]
def tMark : State := tBrg 1 { wfault := [nodeKey 3 5, nodeKey 3 6] } []
def tLocked (n : Nat) (s : State) : State := s.modNode 3 n (fun x => { x with lockHolder := some 1, lockToken := 2 })
def tSem : State := tLocked 5 tBrgFree
def tSilent : State := { tBrgFree with time := { tick := 2 ^ 10 }, pending := [] }
def tSel (n : Nat) : State := { tBrgFree with regs := [(regKey pBRG 0 0x040, n + 3 * 4096), (regKey pBRG 0 0x044, 64), (regKey pBRG 0 0x048, 9)] }
def tSel5 : State := tSel 5
def tSel6 : State := tSel 6

theorem witness_BridgeAccesses :
    ((4 = 4 ∨ 4 = 8) ∧
      64 % 4 = 0 ∧
      64 < 2 ^ 24 ∧
      tBrgFree.pagesOpen 1 = true ∧
      (tBrgFree.fn 1).st = TenSt.active ∧
      tBrgFree.unreachable (tBrgFree.winPort 1) (tBrgFree.winNode 1) = none ∧
      (tBrgFree.right 1 (tBrgFree.winPort 1) (tBrgFree.winNode 1) = 2 ∨ tBrgFree.right 1 (tBrgFree.winPort 1) (tBrgFree.winNode 1) = 1 ∧ tBrgFree.sensAccess (tBrgFree.winPort 1) (tBrgFree.winNode 1) (tBrgFree.winRegion 1 * 2 ^ 24 + 64) (4 == 8) = false) ∧
      tBrgFree.heldCount 1 < 8 ∧
      (8 = 4 ∨ 8 = 8) ∧
      64 % 8 = 0 ∧
      tBrgReader.pagesOpen 1 = true ∧
      (tBrgReader.fn 1).st = TenSt.active) ∧
    (tBrgReader.unreachable (tBrgReader.winPort 1) (tBrgReader.winNode 1) = none ∧
      (tBrgReader.right 1 (tBrgReader.winPort 1) (tBrgReader.winNode 1) = 2 ∨ tBrgReader.right 1 (tBrgReader.winPort 1) (tBrgReader.winNode 1) = 1 ∧ tBrgReader.sensAccess (tBrgReader.winPort 1) (tBrgReader.winNode 1) (tBrgReader.winRegion 1 * 2 ^ 24 + 64) (8 == 8) = false) ∧
      tBrgReader.heldCount 1 < 8 ∧
      tBrgFree.right 1 (tBrgFree.winPort 1) (tBrgFree.winNode 1) = 2 ∧
      tBrgFree.queuedCount 1 < 64 ∧
      (tBrgFree.fn 1).bridge.wfault.contains (nodeKey (tBrgFree.winPort 1) (tBrgFree.winNode 1)) = false ∧
      tBrgNone.pagesOpen 1 = true ∧
      (tBrgNone.fn 1).st = TenSt.active ∧
      (tBrgNone.right 1 (tBrgNone.winPort 1) (tBrgNone.winNode 1) = 0 ∨ (tBrgNone.unreachable (tBrgNone.winPort 1) (tBrgNone.winNode 1)).isSome = true) ∧
      (tBrgLoad.bridgeSent 3)[0]? = some (tBAcc 1 true false 3) ∧
      (tBAcc 1 true false 3).btag ≠ 0 ∧
      (tBAcc 1 true false 3).btag < 256) ∧
    ((tBAcc 1 true false 3).load = true ∧
      (tBAcc 1 true false 3).fn = 1 ∧
      (tBAcc 1 true false 3).ended = none ∧
      (tBrgMgr.bridgeSent 3)[0]? = some (tBAcc 0 true false 3) ∧
      (tBAcc 0 true false 3).btag ≠ 0 ∧
      (tBAcc 0 true false 3).btag < 256 ∧
      (tBAcc 0 true false 3).load = true ∧
      (tBAcc 0 true false 3).fn = 0 ∧
      (tBrgStore.bridgeSent 3)[0]? = some (tBAcc 1 false false 3) ∧
      (tBAcc 1 false false 3).fn = 1 ∧
      (tBAcc 1 false false 3).load = false ∧
      (List.find? (fun (a : BAcc) => BAcc.held 1 a && a.tag == 7) tBrgHeld.bridge = some (tBAcc 1 true true 0))) ∧
    ((List.find? (fun (a : BAcc) => BAcc.held 1 a && a.tag == 7) tBrgLoad.bridge = some (tBAcc 1 true false 3)) ∧
      (tBrgFree.node 3 5).present = true ∧
      tBrgFree.hopUp 3 = true) ∧
    comes (tHead 5 1 3) (tBody 5 1 3 99) (tBAcc 1 true false 3).node 1 (tBAcc 1 true false 3).btag ((tBAcc 1 true false 3).slots - 1) ∧
    comes (tHead 5 1 3) (tBody 5 1 3 99) (tBAcc 0 true false 3).node 1 (tBAcc 0 true false 3).btag ((tBAcc 0 true false 3).slots - 1) ∧
    comes (tHead 5 1 32768) (tBody 5 1 32768 0) 5 1 (128 * 256) 1 :=
  ⟨by decide +kernel, by decide +kernel, by decide +kernel, by decide +kernel, comes_of (by decide +kernel), comes_of (by decide +kernel), comes_of (by decide +kernel)⟩

theorem witness_BridgeWindowAndSemaphores :
    (tBrgFree.pagesOpen 1 = true ∧
      List.filter (BAcc.held 1) tBrgFree.bridge = [] ∧
      tMark.pagesOpen 1 = true ∧
      (tBrgFree.node (tBrgFree.winPort 1) (tBrgFree.winNode 1)).lockHolder = none ∧
      tSem.pagesOpen 1 = true ∧
      (tSem.node (tSem.winPort 1) (tSem.winNode 1)).lockHolder ≠ none ∧
      (tSem.lockOf (1 : Nat) (BitVec.toNat (2 : BitVec (16 : Nat)))).isSome = true ∧
      tSem.lockOf (1 : Nat) (BitVec.toNat (3 : BitVec (16 : Nat))) = none ∧
      tSem.lockOf (1 : Nat) (BitVec.toNat (2 : BitVec (16 : Nat))) = some (nodeKey (3 : Nat) (5 : Nat)) ∧
      (tSem.node 3 5).lockHolder ≠ none ∧
      (tBrgFree.node 3 5).lockHolder = none ∧
      (tSilent.node 3 5).present = true) ∧
    (tSilent.hopUp 3 = true ∧
      tSilent.brgQuiet (3 / 16) = false ∧
      (tSilent.node 3 5).lastHeader + 2 ^ tSilent.pollK 3 5 ≤ tSilent.time.tick ∧
      (tBrgFree.node 3 5).present = true ∧
      tBrgFree.hopUp 3 = true ∧
      tBrgFree.brgQuiet (3 / 16) = false ∧
      tBrgFree.time.tick < (tBrgFree.node 3 5).lastHeader + 2 ^ tBrgFree.pollK 3 5 ∧
      tSel5.accWaits 0 = false ∧
      tSel5.tileOpen 0 = true ∧
      tSel5.mgrBusy 0 = false ∧
      tSel5.unreachable (16 * 0 + bits (tSel5.reg 0 pBRG 0 64) 12 4) (bits (tSel5.reg 0 pBRG 0 64) 0 12) = none ∧
      tSel6.accWaits 0 = false) ∧
    (tSel6.tileOpen 0 = true ∧
      tSel6.mgrBusy 0 = false ∧
      tSel6.unreachable (16 * 0 + bits (tSel6.reg 0 pBRG 0 64) 12 4) (bits (tSel6.reg 0 pBRG 0 64) 0 12) = some (64, 0)) ∧
    tSel5.mgrOpen ∧
    tSel6.mgrOpen :=
  ⟨by decide +kernel, by decide +kernel, by decide +kernel, open_of (by decide +kernel), open_of (by decide +kernel)⟩

end TestBridge

/-! ## Witnesses: rings, commands and interrupts -/

namespace TestRing

/-- Function 1 in service with ring 0 of each kind as given, and the other fields of `x`. -/
def tRing (x : Fn) (r : Ring) : State :=
  tFn 1 { x with st := .active, bme := true, sq := [(0, r)], cq := [(0, r)], eq := [(0, r)], bulk := { x.bulk with ring := r } }
def tOn : Ring := { enable := true, phase := true }
def tRingsOff : State := tRing {} {}
def tRingsOn : State := tRing {} tOn
def tRingsUsed : State := tRing {} { tOn with head := 5, tail := 3, unfreed := 2 }
def tRingsStop : State := tRing {} { tOn with stopped := true, reason := 3 }
def tRingsShut : State := { tRingsOn with ready := false }
def tRingsEntry : State := { tRingsOn with stage := 1 }
def offCmds (f kind q : Nat) (w : W32) (v : BitVec 16) : List Instr :=
  [Instr.ringEnable f kind q w, .ringDisable f kind q w, .sqTailDoorbell f q v, .cqHeadDoorbell f q v, .eqHeadDoorbell f q v]
def tFetch : State := tRing { share := { credits := 4 } } { tOn with tail := 3 }
def tFetch0 : State := tRing { share := { credits := 4 }, dmaBlock := true } { tOn with tail := 3 }
def tFetched : State := tRing { share := { credits := 4 }, fetching := [(0, some 0)] } { tOn with tail := 3 }
def tFetchedOff : State := { tFetched with vfEnable := false, fns := [(1, { (tFetched.fn 1) with st := .resetting })] }
def tNop : Entry := tX 0 0 0 0
def tNopS : State := tCmd 1 tNop
def tHold : Completion := { id := 0, sq := 0, cq := 0, cid := 7, long := false, listed := false, ovf := false, adj := false, result := 0, status := 0, detail := 0, nlist := 0 }
def tHeld : State := tRing { hold := [tHold] } tOn
def tLost : State := tRing { eqlost := [(0, 3)] } tOn
def tHandle : Handle := { seq := 4, cid := 7, opc := 0x09, done := true }
def tWaiting : State := tRing { handles := [tHandle], waiting := [4] } tOn
def dNop (ph : Bool) : List Byte := [0#8, BitVec.ofNat 8 (b2n ph)] ++ List.replicate 62 0#8
def tInts (fast norm : IntClass) : State :=
  tFn 1 { st := .active, bme := true, msixEn := true, share := { vectors := 4 }, fast, norm,
          msix := [(0, { addr := 0xFEE00000, data := 0x31, masked := false })] }
def tPend : State := tInts { pend := 5 } { pend := 3 }
def tEnter : State := tInts { st := .entry, cause := 5, pend := 2, stamp := 2 } {}
def tEnterNorm : State := tInts {} { st := .entry, cause := 3, stamp := 2 }
def tEnterBoth : State := tInts { st := .entry, cause := 5, stamp := 3 } { st := .entry, cause := 3, stamp := 2 }
def tEnterAhead : State := { tInts { st := .entry, cause := 5, stamp := 3 } { } with fns := [(1, { (tInts { st := .entry, cause := 5, stamp := 3 } {}).fn 1 with }), (2, { fast := { st := .entry, stamp := 1 } })] }
def tMasked : State := { tEnter with fns := [(1, { (tEnter.fn 1) with fnMask := true })] }
def tServ : State := tInts { st := .service, cause := 5, pend := 2 } { st := .service, cause := 3 }
def tDeadX : Entry := tX 0x22 0x10000 0 0
def tDead : State := { tCmd 0 tDeadX with tile := nput {} tBase.tile 1 { pow := .off } }
def tAsleepCmd : State := { tCmd 0 tDeadX with tile := nput {} tBase.tile 1 { pow := .drydown } }

theorem witness_RingsAndDoorbells :
    (tRingsShut.pagesOpen 1 = false ∧
      Instr.ringEnable 1 0 0 0 ∈ [Instr.ringEnable 1 0 0 0, Instr.ringDisable 1 0 0 0, Instr.sqTailDoorbell 1 0 5, Instr.cqHeadDoorbell 1 0 5, Instr.eqHeadDoorbell 1 0 5] ∧
      tRingsEntry.pagesOpen 1 = true ∧
      tRingsEntry.stage ≠ 0 ∧
      tRingsEntry.asleep 0 = false ∧
      Instr.sqTailDoorbell 1 0 5 ∈ [Instr.sqTailDoorbell 1 0 5, Instr.cqHeadDoorbell 1 0 5, Instr.eqHeadDoorbell 1 0 5] ∧
      Instr.cqHeadDoorbell 1 0 5 ∈ [Instr.sqTailDoorbell 1 0 5, Instr.cqHeadDoorbell 1 0 5, Instr.eqHeadDoorbell 1 0 5] ∧
      Instr.eqHeadDoorbell 1 9 5 ∈ [Instr.sqTailDoorbell 1 9 5, Instr.cqHeadDoorbell 1 9 5, Instr.eqHeadDoorbell 1 9 5] ∧
      tRingsOff.pagesOpen 1 = true ∧
      tRingsOff.stage = 0 ∧
      hasRing 1 0 0 = true ∧
      (tRingsOff.ring 1 0 0).enable = false) ∧
    ((tRingsOff.ring 1 0 0).draining = false ∧
      bit (BitVec.toNat (2147483666 : W32)) (31 : Nat) = true ∧
      hasRing 1 1 0 = true ∧
      (tRingsOff.ring 1 1 0).enable = false ∧
      (tRingsOff.ring 1 1 0).draining = false ∧
      hasRing 1 2 0 = true ∧
      (tRingsOff.ring 1 2 0).enable = false ∧
      (tRingsOff.ring 1 2 0).draining = false ∧
      bit (BitVec.toNat (2147483650 : W32)) (31 : Nat) = true ∧
      hasRing 1 3 0 = true ∧
      (tRingsOff.ring 1 3 0).enable = false ∧
      (tRingsOff.ring 1 3 0).draining = false) ∧
    (tRingsOn.pagesOpen 1 = true ∧
      tRingsOn.stage = 0 ∧
      ((tRingsOn.ring 1 0 0).enable = true ∨ (tRingsOn.ring 1 0 0).draining = true) ∧
      ((tRingsOn.ring 1 1 0).enable = true ∨ (tRingsOn.ring 1 1 0).draining = true) ∧
      ((tRingsOn.ring 1 2 0).enable = true ∨ (tRingsOn.ring 1 2 0).draining = true) ∧
      ((tRingsOn.ring 1 3 0).enable = true ∨ (tRingsOn.ring 1 3 0).draining = true) ∧
      (tRingsOn.ring 1 0 0).enable = true ∧
      bit (BitVec.toNat (4 : W32)) (31 : Nat) = false ∧
      Ring.clearsAlone (0 : Nat) (BitVec.toNat (4 : W32)) (tRingsOn.ring (1 : Nat) (0 : Nat) (0 : Nat)) = true ∧
      (0 = 1 → ((List.range 8).any fun (i : Nat) => (tRingsOn.sqR 1 i).enable && (tRingsOn.sqR 1 i).cq == 0) = false) ∧
      (tRingsOn.ring 1 2 0).enable = true ∧
      Ring.clearsAlone (2 : Nat) (BitVec.toNat (4 : W32)) (tRingsOn.ring (1 : Nat) (2 : Nat) (0 : Nat)) = true) ∧
    ((2 = 1 → ((List.range 8).any fun (i : Nat) => (tRingsOn.sqR 1 i).enable && (tRingsOn.sqR 1 i).cq == 0) = false) ∧
      (tRingsOn.ring 1 3 0).enable = true ∧
      Ring.clearsAlone (3 : Nat) (BitVec.toNat (4 : W32)) (tRingsOn.ring (1 : Nat) (3 : Nat) (0 : Nat)) = true ∧
      (3 = 1 → ((List.range 8).any fun (i : Nat) => (tRingsOn.sqR 1 i).enable && (tRingsOn.sqR 1 i).cq == 0) = false) ∧
      bit (BitVec.toNat (5 : W32)) (31 : Nat) = false ∧
      (Ring.clearsAlone (0 : Nat) (BitVec.toNat (5 : W32)) (tRingsOn.ring (1 : Nat) (0 : Nat) (0 : Nat)) = false ∨ (0 : Nat) = (1 : Nat) ∧ ((List.range (8 : Nat)).any fun (i : Nat) => (tRingsOn.sqR (1 : Nat) i).enable && (tRingsOn.sqR (1 : Nat) i).cq == (0 : Nat)) = true) ∧
      (tRingsOn.ring 1 1 0).enable = true ∧
      (Ring.clearsAlone (1 : Nat) (BitVec.toNat (4 : W32)) (tRingsOn.ring (1 : Nat) (1 : Nat) (0 : Nat)) = false ∨ (1 : Nat) = (1 : Nat) ∧ ((List.range (8 : Nat)).any fun (i : Nat) => (tRingsOn.sqR (1 : Nat) i).enable && (tRingsOn.sqR (1 : Nat) i).cq == (0 : Nat)) = true) ∧
      ((tRingsOff.ring (1 : Nat) (0 : Nat) (0 : Nat)).enable = false ∨ bit (BitVec.toNat (4 : W32)) (31 : Nat) = true) ∧
      hasRing 1 0 9 = false ∧
      Instr.ringEnable 1 0 9 4 ∈ [Instr.ringEnable 1 0 9 4, Instr.ringDisable 1 0 9 4] ∧
      hasQueue 1 1 9 = false) ∧
    ((1 = 0 ∧ Instr.cqHeadDoorbell 1 9 4 = Instr.sqTailDoorbell 1 9 4 ∨ 1 = 1 ∧ Instr.cqHeadDoorbell 1 9 4 = Instr.cqHeadDoorbell 1 9 4 ∨ 1 = 2 ∧ Instr.cqHeadDoorbell 1 9 4 = Instr.eqHeadDoorbell 1 9 4) ∧
      hasQueue 1 0 0 = true ∧
      (tRingsOff.sqR 1 0).enable = false ∧
      tRingsStop.pagesOpen 1 = true ∧
      tRingsStop.stage = 0 ∧
      (tRingsStop.sqR 1 0).enable = true ∧
      (tRingsStop.sqR 1 0).stopped = true ∧
      tRingsUsed.pagesOpen 1 = true ∧
      tRingsUsed.stage = 0 ∧
      (tRingsUsed.sqR 1 0).enable = true ∧
      (tRingsUsed.sqR 1 0).stopped = false ∧
      BitVec.toNat (4 : BitVec (16 : Nat)) < (tRingsUsed.sqR (1 : Nat) (0 : Nat)).size) ∧
    ((tRingsUsed.sqR (1 : Nat) (0 : Nat)).span (tRingsUsed.sqR (1 : Nat) (0 : Nat)).tail (BitVec.toNat (4 : BitVec (16 : Nat))) ≤ (tRingsUsed.sqR (1 : Nat) (0 : Nat)).size - (1 : Nat) - (tRingsUsed.sqR (1 : Nat) (0 : Nat)).span (tRingsUsed.sqR (1 : Nat) (0 : Nat)).head (tRingsUsed.sqR (1 : Nat) (0 : Nat)).tail ∧
      (tRingsOn.sqR 1 0).enable = true ∧
      (tRingsOn.sqR 1 0).stopped = false ∧
      BitVec.toNat (15 : BitVec (16 : Nat)) < (tRingsOn.sqR (1 : Nat) (0 : Nat)).size ∧
      (tRingsOn.sqR (1 : Nat) (0 : Nat)).span (tRingsOn.sqR (1 : Nat) (0 : Nat)).tail (BitVec.toNat (15 : BitVec (16 : Nat))) ≤ (tRingsOn.sqR (1 : Nat) (0 : Nat)).size - (1 : Nat) - (tRingsOn.sqR (1 : Nat) (0 : Nat)).span (tRingsOn.sqR (1 : Nat) (0 : Nat)).head (tRingsOn.sqR (1 : Nat) (0 : Nat)).tail ∧
      (tRingsOn.sqR (1 : Nat) (0 : Nat)).size ≤ BitVec.toNat (16 : BitVec (16 : Nat)) ∧
      BitVec.toNat (6 : BitVec (16 : Nat)) < (tRingsUsed.sqR (1 : Nat) (0 : Nat)).size ∧
      (tRingsUsed.sqR (1 : Nat) (0 : Nat)).size - (1 : Nat) - (tRingsUsed.sqR (1 : Nat) (0 : Nat)).span (tRingsUsed.sqR (1 : Nat) (0 : Nat)).head (tRingsUsed.sqR (1 : Nat) (0 : Nat)).tail < (tRingsUsed.sqR (1 : Nat) (0 : Nat)).span (tRingsUsed.sqR (1 : Nat) (0 : Nat)).tail (BitVec.toNat (6 : BitVec (16 : Nat))) ∧
      hasQueue 1 1 0 = true ∧
      hasQueue 1 2 0 = true ∧
      (tRingsStop.ring 1 2 0).enable = true ∧
      (tRingsStop.ring 1 2 0).stopped = true) ∧
    ((tRingsUsed.ring 1 1 0).enable = true ∧
      (tRingsUsed.ring 1 1 0).stopped = false ∧
      (tRingsUsed.ring (1 : Nat) (1 : Nat) (0 : Nat)).size ≤ BitVec.toNat (16 : BitVec (16 : Nat)) ∧
      BitVec.toNat (5 : BitVec (16 : Nat)) < (tRingsUsed.ring (1 : Nat) (1 : Nat) (0 : Nat)).size ∧
      (tRingsUsed.ring (1 : Nat) (1 : Nat) (0 : Nat)).freedBy (BitVec.toNat (5 : BitVec (16 : Nat))) ≤ (tRingsUsed.ring (1 : Nat) (1 : Nat) (0 : Nat)).unfreed ∧
      (tRingsUsed.ring 1 2 0).enable = true ∧
      (tRingsUsed.ring 1 2 0).stopped = false ∧
      BitVec.toNat (6 : BitVec (16 : Nat)) < (tRingsUsed.ring (1 : Nat) (2 : Nat) (0 : Nat)).size ∧
      (tRingsUsed.ring (1 : Nat) (2 : Nat) (0 : Nat)).unfreed < (tRingsUsed.ring (1 : Nat) (2 : Nat) (0 : Nat)).freedBy (BitVec.toNat (6 : BitVec (16 : Nat)))) :=
  ⟨by decide +kernel, by decide +kernel, by decide +kernel, by decide +kernel, by decide +kernel, by decide +kernel, by decide +kernel⟩

theorem witness_FetchAndCompletions :
    (tFetch.mayFetch 1 = true ∧
      tFetch.nextSq 1 = some 0 ∧
      tFetch.dmaOk 1 = true ∧
      tFetch0.mayFetch 1 = true ∧
      tFetch0.nextSq 1 = some 0 ∧
      tFetch0.dmaOk 1 = false ∧
      (tRingsOn.mayFetch 1 = false ∨ tRingsOn.nextSq 1 = none) ∧
      (tFetch.fn 1).fetch 0 = none ∧
      (tFetchedOff.fn 1).fetch 0 = some 0 ∧
      tFetchedOff.alive 1 = false ∧
      (tFetched.fn 1).fetch 0 = some 0 ∧
      tFetched.alive 1 = true) ∧
    (bit (byteField (dNop false) 1 1) 0 ≠ (tFetched.sqR 1 0).phase ∧
      bit (byteField (dNop true) 1 1) 0 = (tFetched.sqR 1 0).phase ∧
      badOpcode 1 (parseEntry (tFetched.fn 1).nextEntry 0 (dNop true)) = none ∧
      (∀ (y : Entry), y ∈ (tFetched.fn 1).entries → badOpcode 1 y = none) ∧
      tHeld.alive 1 = true ∧
      tHeld.paused = false ∧
      (List.find? (fun (x : Completion) => x.cq == 0) (tHeld.fn 1).hold = some tHold) ∧
      (tHeld.cqR 1 0).running = true ∧
      0 < (tHeld.cqR 1 0).room ∧
      tHeld.dmaOk 1 = true ∧
      (State.reset.alive 1 = false ∨ State.reset.paused = true) ∧
      0 < 2) ∧
    (tLost.alive 1 = true ∧
      tLost.paused = false ∧
      (tLost.eqR 1 0).running = true ∧
      tLost.dmaOk 1 = true ∧
      nget 0 (tLost.fn 1).eqlost 0 ≠ 0 ∧
      0 < (tLost.eqR 1 0).room ∧
      (State.reset.alive 1 = false ∨ State.reset.paused = true ∨ (State.reset.eqR 1 0).running = false ∨ State.reset.dmaOk 1 = false) ∧
      (tWaiting.fn 1).waiting.head? = some 4 ∧
      tWaiting.handle? 1 4 = some tHandle ∧
      (tWaiting.fn 1).st ≠ TenSt.frozen ∧
      tWaiting.paused = false ∧
      tWaiting.alive 1 = true) ∧
    (tWaiting.dmaOk 1 = true ∧
      (tWaiting.eqR 1 0).running = true ∧
      0 < (tWaiting.eqR 1 0).room ∧
      nget 0 (tWaiting.fn 1).eqlost 0 = 0 ∧
      ((tWaiting.fn 1).waiting.head? ≠ some 5 ∨ (tWaiting.fn 1).st = TenSt.frozen ∨ tWaiting.paused = true ∨ tWaiting.alive 1 = false ∨ (tWaiting.eqR 1 0).running = false)) ∧
    tNopS.runs 1 1 0 tNop ∧
    tNopS.cqTakes 1 tNop :=
  ⟨by decide +kernel, by decide +kernel, by decide +kernel, by decide +kernel, runs_of (by decide +kernel), takes_of (by decide +kernel)⟩

theorem witness_InterruptsEnterCommitLeave :
    (((tPend.fn 1).cls true).st = ClsState.idle ∧
      tPend.eligible 1 true ≠ [] ∧
      ((tPend.fn 1).cls false).st = ClsState.idle ∧
      tPend.eligible 1 false ≠ [] ∧
      (((tServ.fn 1).cls true).st ≠ ClsState.idle ∨ tServ.eligible 1 true = []) ∧
      ((tEnter.fn 1).cls true).st = ClsState.entry ∧
      (true = false → (tEnter.fn 1).fast.st ≠ ClsState.entry) ∧
      tEnter.ahead 1 true = false ∧
      (commitPick (tEnter.joinEntry 1 true) 1 true).fst = some 2 ∧
      ((tEnterNorm.fn 1).cls false).st = ClsState.entry ∧
      (false = false → (tEnterNorm.fn 1).fast.st ≠ ClsState.entry) ∧
      tEnterNorm.ahead 1 false = false) ∧
    ((commitPick (tEnterNorm.joinEntry 1 false) 1 false).fst = some 1 ∧
      ((tMasked.fn 1).cls true).st = ClsState.entry ∧
      (true = false → (tMasked.fn 1).fast.st ≠ ClsState.entry) ∧
      tMasked.ahead 1 true = false ∧
      (commitPick (tMasked.joinEntry 1 true) 1 true).fst = none ∧
      ((tEnterAhead.fn 1).cls true).st = ClsState.entry ∧
      (true = false → (tEnterAhead.fn 1).fast.st ≠ ClsState.entry) ∧
      tEnterAhead.ahead 1 true = true ∧
      ((tServ.fn 1).cls true).st ≠ ClsState.entry ∧
      (tEnterBoth.fn 1).norm.st = ClsState.entry ∧
      (tEnterBoth.fn 1).fast.st = ClsState.entry ∧
      tServ.pagesOpen 1 = true) ∧
    ((tServ.fn 1).fast.st = ClsState.service ∧
      tPend.pagesOpen 1 = true ∧
      (tPend.fn 1).fast.st ≠ ClsState.service ∧
      (tServ.fn 1).norm.st = ClsState.service ∧
      (tPend.fn 1).norm.st ≠ ClsState.service ∧
      15 < 16 ∧
      tRingsShut.pagesOpen 1 = false ∧
      Instr.fibAckWrite 1 5 true ∈ [Instr.fibAckWrite 1 5 true, Instr.nibAckWrite 1 6, Instr.msixTableWrite 1 0 0 4 5] ∧
      tServ.reach 1 = true ∧
      State.reset.reach 1 = false) :=
  ⟨by decide +kernel, by decide +kernel, by decide +kernel⟩

theorem witness_CommandsThatCannotRun :
    ((0, Instr.nop 1 1) ∈ [(0, Instr.nop 1 1), (1, Instr.listAttach 1 1), (2, Instr.listDetach 1 1), (8, Instr.pointAlloc 1 1), (9, Instr.pointFree 1 1), (10, Instr.pointConfig 1 1), (11, Instr.pointShare 1 1), (12, Instr.imageSet 1 1), (16, Instr.ruleSet 1 1), (17, Instr.alertBind 1 1), (24, Instr.allowlistSet 1 1), (25, Instr.nodePromote 1 1), (31, Instr.abort 1 1), (32, Instr.leasepolicySet 1 1), (33, Instr.leaseSet 1 1), (34, Instr.nodeAdmit 1 1), (35, Instr.nodeUnbind 1 1), (36, Instr.nodeRelease 1 1), (48, Instr.tenantCreate 1 1), (49, Instr.tenantShare 1 1), (50, Instr.tenantFreeze 1 1), (51, Instr.tenantThaw 1 1), (52, Instr.tenantSave 1 1), (53, Instr.tenantRestore 1 1), (54, Instr.tenantDestroy 1 1), (64, Instr.fwSession 1 1), (65, Instr.fwChunk 1 1), (66, Instr.fwVerify 1 1), (67, Instr.fwActivate 1 1 0 0 none), (68, Instr.fwConfirm 1 1), (72, Instr.settingsSave 1 1), (80, Instr.powerSet 1 1)] ∧
      (State.reset.ready = false ∨ State.reset.alive 1 = false ∨ State.reset.paused = true ∨ State.reset.entry? 1 1 (0, Instr.nop 1 1).fst = none) ∧
      (34, Instr.nodeAdmit 0 1) ∈ [(0, Instr.nop 0 1), (1, Instr.listAttach 0 1), (2, Instr.listDetach 0 1), (8, Instr.pointAlloc 0 1), (9, Instr.pointFree 0 1), (10, Instr.pointConfig 0 1), (11, Instr.pointShare 0 1), (12, Instr.imageSet 0 1), (16, Instr.ruleSet 0 1), (17, Instr.alertBind 0 1), (24, Instr.allowlistSet 0 1), (25, Instr.nodePromote 0 1), (31, Instr.abort 0 1), (32, Instr.leasepolicySet 0 1), (33, Instr.leaseSet 0 1), (34, Instr.nodeAdmit 0 1), (35, Instr.nodeUnbind 0 1), (36, Instr.nodeRelease 0 1), (48, Instr.tenantCreate 0 1), (49, Instr.tenantShare 0 1), (50, Instr.tenantFreeze 0 1), (51, Instr.tenantThaw 0 1), (52, Instr.tenantSave 0 1), (53, Instr.tenantRestore 0 1), (54, Instr.tenantDestroy 0 1), (64, Instr.fwSession 0 1), (65, Instr.fwChunk 0 1), (66, Instr.fwVerify 0 1), (67, Instr.fwActivate 0 1 0 0 none), (68, Instr.fwConfirm 0 1), (72, Instr.settingsSave 0 1), (80, Instr.powerSet 0 1)] ∧
      tDead.ready = true ∧
      tDead.alive 0 = true ∧
      tDead.paused = false ∧
      tDead.entry? 0 1 (34, Instr.nodeAdmit 0 1).fst = some tDeadX ∧
      tDead.onDeadTile tDeadX = some 1 ∧
      tAsleepCmd.ready = true ∧
      tAsleepCmd.alive 0 = true ∧
      tAsleepCmd.paused = false ∧
      tAsleepCmd.entry? 0 1 (34, Instr.nodeAdmit 0 1).fst = some tDeadX) ∧
    (tAsleepCmd.onDeadTile tDeadX = none ∧
      tAsleepCmd.heldWork 0 tDeadX = true) ∧
    tDead.cqTakes 0 tDeadX :=
  ⟨by decide +kernel, by decide +kernel, takes_of (by decide +kernel)⟩

end TestRing

/-! ## Witnesses: lists and Accords -/

namespace TestPlan

def tAttX (opc g : Nat) : Entry := tX opc g 0 0
def tAtt1 : State := tCmd 1 (tAttX 1 3)
def tAtt2 : State := { tCmd 1 (tAttX 2 3) with lists := [(listKey 1 3, { st := .idle, addr := 4096, gen := some 2 })] }
def tAttBad1 : State := { tCmd 1 (tAttX 1 127) with tiles := 4 }
def tAttBad2 : State := { tCmd 1 (tAttX 2 127) with tiles := 4 }
def tListS (l : SList) : State := { tFn 1 { st := .active, bme := true } with lists := [(listKey 1 3, l)], ports := [(3, { hop := .up })] }
def tStopped : State := tListS { st := .stopped, addr := 4096, gen := some 2 }
def tHdr : State := tListS { st := .header, addr := 4096, gen := some 2 }
def tHdrAgain : State := tListS { st := .header, addr := 4096, gen := some 2, restart := true }
/-- A header of port 3 (R182): COUNT, GEN, NEXT, PMAPADDR and PMAPCOUNT. -/
def hdr (count gen next pma pmc : Nat) : List Byte :=
  toLe 2 1 ++ toLe 2 count ++ toLe 4 3 ++ toLe 8 gen ++ toLe 8 next ++ toLe 8 pma ++ toLe 8 pmc ++ List.replicate 24 0#8
def tFet (f : Fn) (u : Nat) : State :=
  { tFn 1 { f with st := .active, bme := true } with
    lists := [(listKey 1 3, { st := .fetching, addr := 4096, gen := some 2, fetchGen := 4, fetchSeq := 9, fetchUnits := u })]
    ports := [(3, { hop := .up })] }
def tFetchL : State := tFet { handles := [{ seq := 9, cid := 0, opc := 0 }] } 0
def tFetchFew : State := tFet { fetchLeft := 1 } 0
def tCause : State := tPlan { cause := true, pendingGens := [(1, 4)] }
def tSame : State := tPlan { run := { entries := [tEntry] }, idle := { entries := [tEntry] }, idleSt := .compiling, compiledAt := 0 }
def tDiff : State := tPlan { idle := { entries := [tEntry] }, idleSt := .compiling, compiledAt := 0 }
def tLoad0 : State := tPlan { idle := { planid := 5 }, idleSt := .loading }
def tLoad1 : State := { tLoad0 with ports := [(3, { hop := .up, mreqs := [{ node := 5, op := 2, words := [], purpose := .table 5 0, attempt := 0, mseq := 3 }] })] }
def tReady (tick : Nat) (p : Port) : State :=
  { tPlan { idle := { planid := 5, entries := [tEntry] }, idleSt := .ready } with time := { tBase.time with tick := tick }, ports := [(3, { p with hop := .up })] }
def tReadyS : State := tReady 8184 { grants := [{ tick := 8192, node := 5, cls := 2, upslot := 4, len := 2, gseq := 1 }] }
def tFixed : State := tPlan { idle := { planid := 5, entries := [tEntry] }, idleSt := .ready, fixed := some 0 }
def tShr (dl : Nat) : State :=
  { tFn 1 { st := .active, bme := true } with
    lists := [(listKey 1 3, { st := .idle, addr := 4096, gen := some 2, deadline := some dl, base := { gen := 2, descs := [{ didx := 0, node := 5, up := true, retry := false, xid := 9, len := 1, k := 0, prio := 0, phlo := 0, phhi := 0, pmFirst := 0, pm := [tMap] }] } })]
    ports := [(3, { hop := .up })], plans := [(3, { run := { entries := [tEntry], planid := 4 } })] }
def tShrink : State := tShr 0
def tShrinkLater : State := tShr 9

theorem witness_ScheduleLists :
    (tAtt1.hasPort (bits (tAttX 1 3).target 0 7) = true ∧
      tAttBad1.hasPort (bits (tAttX 1 127).target 0 7) = false ∧
      tAtt2.hasPort (bits (tAttX 2 3).target 0 7) = true ∧
      tAttBad2.hasPort (bits (tAttX 2 127).target 0 7) = false ∧
      tStopped.pagesOpen 1 = true ∧
      tStopped.stage = 0 ∧
      (tStopped.list (1 : Nat) (min (BitVec.toNat (131 : W32) % (128 : Nat)) (tStopped.portCount - (1 : Nat)))).st = ListSt.stopped ∧
      tHdr.pagesOpen 1 = true ∧
      tHdr.stage = 0 ∧
      (tHdr.list (1 : Nat) (min (BitVec.toNat (3 : W32) % (128 : Nat)) (tHdr.portCount - (1 : Nat)))).st ≠ ListSt.stopped ∧
      (tStopped.list 1 3).st ≠ ListSt.header ∧
      (tHdr.list 1 3).st = ListSt.header) ∧
    (tHdr.listsFrozen 1 = false ∧
      (tHdr.list 1 3).restart = false ∧
      ((tHdr.list 1 3).gen = some (byteField (hdr 1 2 0 0 0) 8 8) ∨ byteField (hdr 1 2 0 0 0) 8 8 % 2 = 1) ∧
      ((tHdr.list 1 3).gen = some (byteField (hdr 1 5 0 0 0) 8 8) ∨ byteField (hdr 1 5 0 0 0) 8 8 % 2 = 1) ∧
      byteField (hdr 1 0 0 0 0) 8 8 = 0 ∧
      (tHdr.list 1 3).gen ≠ some 0 ∧
      ((tHdr.list 1 3).restart = true ∨ byteField (hdr 3 4 0 8192 7) 8 8 ≠ 0 ∧ byteField (hdr 3 4 0 8192 7) 8 8 % 2 = 0 ∧ (tHdr.list 1 3).gen ≠ some (byteField (hdr 3 4 0 8192 7) 8 8)) ∧
      tHdr.dmaOk 1 = true ∧
      (tHdrAgain.list 1 3).st = ListSt.header ∧
      tHdrAgain.listsFrozen 1 = false ∧
      ((tHdrAgain.list 1 3).restart = true ∨ byteField (hdr 3 5 0 8192 0) 8 8 ≠ 0 ∧ byteField (hdr 3 5 0 8192 0) 8 8 % 2 = 0 ∧ (tHdrAgain.list 1 3).gen ≠ some (byteField (hdr 3 5 0 8192 0) 8 8)) ∧
      tHdrAgain.dmaOk 1 = true) ∧
    ((tHdr.list 1 3).st ≠ ListSt.fetching ∧
      (tFetchL.list 1 3).st = ListSt.fetching ∧
      chainFails 3 0 [] (tFetchL.list 1 3).addr [hdr 1 4 4096 0 0] = some (3, 0) ∧
      chainFails 3 0 [] (tFetchL.list 1 3).addr [hdr 1 4 8192 0 0, hdr 0 4 7 0 0] = some (7, 1) ∧
      (tFetchFew.list 1 3).st = ListSt.fetching ∧
      chainFails 3 0 [] (tFetchFew.list 1 3).addr [hdr 2 4 0 0 0] = none ∧
      ((tFetchFew.list 1 3).fetchUnits + (tFetchFew.fn 1).fetchLeft < List.foldl (fun (a : Nat) (h : List Byte) => a + segCount h) 0 [hdr 2 4 0 0 0] + (mapCount ([hdr 2 4 0 0 0][0]?.getD []) + 3) / 4) ∧
      chainFails 3 0 [] (tFetchL.list 1 3).addr [hdr 2 4 0 0 0] = none ∧
      (List.foldl (fun (a : Nat) (h : List Byte) => a + segCount h) 0 [hdr 2 4 0 0 0] + (mapCount ([hdr 2 4 0 0 0][0]?.getD []) + 3) / 4 ≤ (tFetchL.list 1 3).fetchUnits + (tFetchL.fn 1).fetchLeft) ∧
      tFetchL.dmaOk 1 = true ∧
      4 = (tFetchL.list 1 3).fetchGen ∧
      6 ≠ (tFetchL.list 1 3).fetchGen) ∧
    tAtt1.cqTakes 1 (tAttX 1 3) ∧
    tAtt1.runs 1 1 1 (tAttX 1 3) ∧
    tAttBad1.cqTakes 1 (tAttX 1 127) ∧
    tAttBad1.runs 1 1 1 (tAttX 1 127) ∧
    tAtt2.cqTakes 1 (tAttX 2 3) ∧
    tAtt2.runs 1 1 2 (tAttX 2 3) ∧
    tAttBad2.cqTakes 1 (tAttX 2 127) ∧
    tAttBad2.runs 1 1 2 (tAttX 2 127) ∧
    tHdr.handleRoom 1 ∧
    tHdrAgain.handleRoom 1 :=
  ⟨by decide +kernel, by decide +kernel, by decide +kernel, takes_of (by decide +kernel), runs_of (by decide +kernel), takes_of (by decide +kernel), runs_of (by decide +kernel), takes_of (by decide +kernel), runs_of (by decide +kernel), takes_of (by decide +kernel), runs_of (by decide +kernel), room_of (by decide +kernel), room_of (by decide +kernel)⟩

theorem witness_CompilesAndSwaps :
    (tCause.hasPort 3 = true ∧
      tCause.ready = true ∧
      (tCause.tl (3 / 16)).ready = true ∧
      (tCause.plan 3).idleSt = IdleSt.empty ∧
      (tCause.plan 3).cause = true ∧
      (((tCause.listFns 3).any fun (f : Nat) => (tCause.list f 3).st == ListSt.fetching) = false) ∧
      ((tSame.plan 3).idleSt ≠ IdleSt.empty ∨ (tSame.plan 3).cause = false) ∧
      (tSame.plan 3).idleSt = IdleSt.compiling ∧
      sameEntries (tSame.plan 3).idle.entries (tSame.plan 3).run.entries = true ∧
      (tSame.plan 3).idle.sampleOff = (tSame.plan 3).run.sampleOff ∧
      (tDiff.plan 3).idleSt = IdleSt.compiling ∧
      (sameEntries (tDiff.plan 3).idle.entries (tDiff.plan 3).run.entries = false ∨ (tDiff.plan 3).idle.entries ≠ [] ∧ (tDiff.plan 3).idle.sampleOff ≠ (tDiff.plan 3).run.sampleOff)) ∧
    ((tCause.plan 3).idleSt ≠ IdleSt.compiling ∧
      (tLoad0.plan 3).idleSt = IdleSt.loading ∧
      tLoad0.loading 3 (tLoad0.plan 3).idle.planid = false ∧
      (tLoad1.plan 3).idleSt = IdleSt.loading ∧
      tLoad1.loading 3 (tLoad1.plan 3).idle.planid = true ∧
      (tReadyS.plan 3).idleSt = IdleSt.ready ∧
      (tReadyS.plan 3).fixed = none ∧
      tReadyS.holdSwap 3 = false ∧
      tReadyS.time.pending = false ∧
      (tReadyS.tl (3 / 16)).ready = true ∧
      (tReadyS.time.tick + 8) % tReadyS.frameLen = 0 ∧
      (∀ (x : Grant), x ∈ (tReadyS.port 3).grants → x.tick = tReadyS.time.tick + 8 → ∀ (b : Nat), b ∈ upRun x.len x.upslot → ¬b ∈ (tReadyS.plan 3).idle.busyUp (tReadyS.time.tick + 8))) ∧
    ((tFixed.plan 3).fixed = some tFixed.time.tick ∧
      (tCause.plan 3).fixed ≠ some tCause.time.tick ∧
      (tShrinkLater.list 1 3).deadline = some 9 ∧
      tShrinkLater.time.tick < 9 ∧
      (tShrink.list 1 3).deadline = some 0 ∧
      0 ≤ tShrink.time.tick ∧
      tShrink.time.tick % tShrink.frameLen = 0 ∧
      (((tShrink.plan 3).taken.any fun (x : Nat × Nat) => x.fst == 1) = false) ∧
      (((tShrink.plan 3).idle.covers.any fun (x : Cover) => x.func == 1) = false)) :=
  ⟨by decide +kernel, by decide +kernel, by decide +kernel⟩

end TestPlan

/-! ## Witnesses: the process image and reflex -/

namespace TestImage

/-- Function 1 with granule 1 of tile 0 (points 64-127), the records and points given, and an outstanding entry. -/
def tPts (ps : NMap Point) (recs : List (Nat × Nat)) (x : Entry) : State :=
  { tFn 1 { (tCmdFn x) with share := { granules := [(0, 4)], rules := [(0, 16)] } } with owners := [(1, 2)], points := ps, pim := recs.foldl (fun m r => memWrite m (8 * r.1) r.2 8) [], regs := [(regKey pPIM 0 0x040, 3)] }
def tRec (v q : Nat) : Nat := mkRec v 0 q 7
def tPtX (opc target count p0 : Nat) : Entry := tX opc target count p0
def tAlloc : State := tPts [] [] (tPtX 8 128 64 0)
def tAllocOwn : State := tPts [] [] (tPtX 8 64 64 0)
def tFree : State := tPts [] [] (tPtX 9 64 64 0)
def tConf : State := tPts [] [] (tPtX 10 64 5 0)
def tShare : State := tPts [] [] (tPtX 11 70 5 600)
def tOut8 : State := { tPts [] [] (tPtX 8 0x700000 64 0) with tiles := 4 }
def tOut9 : State := { tPts [] [] (tPtX 9 0x700000 64 0) with tiles := 4 }
def tOutB : State := { tPts [] [] (tPtX 11 0x700000 64 0) with tiles := 4 }
def tWin : State := tPts [] [(64, tRec 5 1)] (tPtX 0 0 0 0)
def tWinLock : State := tPts [(64, { kind := 2, locks := [.reset] })] [(64, tRec 5 1)] (tPtX 0 0 0 0)
def tWinOff : State := { tWin with regs := [] }
def tOutPt : State := tPts [(64, { kind := 2, fsmode := true, preset := 9 })] [(64, tRec 5 1)] (tPtX 0 0 0 0)
def tDesc : ImageDesc := { outpos := 0, bufs := [4096, 8192, 12288, 16384, 0], wins := [[1, 1, 64, 1, 1, 64]] }
def tImg (i : ImageSt) : State := { tPts [] [] (tPtX 12 0 0 0) with fns := [(1, { (tCmdFn (tPtX 12 0 0 0)) with image := i })] }
def tImage : State := tImg { desc := some tDesc }
def tPub : State := tImg { desc := some tDesc, pub := some (1, 4, true) }
def tPubShut : State := { tPub with fns := [(1, { (tPub.fn 1) with bme := false })] }
def tImageShut : State := { tImage with fns := [(1, { (tImage.fn 1) with bme := false })] }
def tImg0 : State := tImg { desc := some tDesc, outsel := 1 }
def tImgRead : State := tImg { desc := some tDesc, outRead := some 0 }
def tImgLate : State := { tImage with time := { tick := 1 } }
def tRuleE : RuleEntry := { cond := 1, action := 1, ina := 64, out := 65, hi := 50, lo := 10, val1 := 7 }
def tRuleC : RuleEntry := { cond := 1, action := 5, ina := 64, out := 66, hi := 50, lo := 10 }
def tRfx (v : Nat) (e : RuleEntry) (p : Point) : State :=
  { tPts [(65, p)] [(64, tRec v 1), (65, tRec 5 1)] (tPtX 16 0 1 0) with rules := [(ruleKey 0 1 0, { e := e })] }
def tRfxFire : State := tRfx 60 tRuleE { kind := 2 }
def tRfxIdle : State := tRfx 20 tRuleE { kind := 2 }
def tRfxLock : State := tRfx 60 tRuleE { kind := 2, locks := [.reset] }
def tRfxCount : State := tRfx 60 tRuleC { kind := 2 }
def tCopy : State := { tBase with copies := [(1, 64, 77, 0)] }
def tCopyLate : State := { tCopy with time := { tick := 3 } }
def tRuleSet7 : State := { tPts [] [] (tPtX 16 0x70000 1 0) with tiles := 4 }
def tLessee (lessee : Nat) (x : Entry) (n : Node) (f : IntClass) : State :=
  { tPort 3 { hop := .up, blockLock := true, sigdet := true } [(5, { n with st := .admitted, bound := true, depth := 1, lessee := lessee, resumed := true })] with
    fns := [(1, { (tCmdFn x) with fast := f })], vfEnable := true, vfMse := true, numVfs := 512 }
def tBind : State := tLessee 1 (tPtX 0x11 0x3005 0 70) {} {}
def tBindOther : State := tLessee 2 (tPtX 0x11 0x3005 0 70) {} {}
def tAl : State := tLessee 1 (tPtX 0 0 0 0) {} {}
def tAlAgain : State := tLessee 1 (tPtX 0 0 0 0) { aseq := some 4 } {}
def tAlFull : State := tLessee 1 (tPtX 0 0 0 0) { alertsFrame := 200 } {}
def tAlBusy : State := tLessee 1 (tPtX 0 0 0 0) {} { pend := 1#64 <<< 61 }
def tAlNone : State := { tAl with nodes := [] }
/-- An ALERT block (R115): node, ASEQ, code, priority and data. -/
def tAlert (node aseq code prio data : Nat) : W64 :=
  let b := toLe 2 (node + aseq * 4096) ++ [BitVec.ofNat 8 code, BitVec.ofNat 8 prio] ++ toLe 2 data
  BitVec.ofNat 64 (leNat ([0x55#8] ++ b ++ [BitVec.ofNat 8 (crc8 b)]))

theorem witness_PointsAndRecords :
    (tAlloc.hasTile (ptTile ((tPtX 8 128 64 0).target % 2 ^ 23)) = true ∧
      (granuleRange (tPtX 8 128 64 0)).snd.fst = 1 ∧
      tAlloc.allocated (64 * (granuleRange (tPtX 8 128 64 0)).fst) = false ∧
      tAlloc.mayClaim 1 (ptTile (64 * (granuleRange (tPtX 8 128 64 0)).fst)) = true ∧
      tAllocOwn.hasTile (ptTile ((tPtX 8 64 64 0).target % 2 ^ 23)) = true ∧
      (granuleRange (tPtX 8 64 64 0)).snd.fst = 1 ∧
      (tAllocOwn.allocated (64 * (granuleRange (tPtX 8 64 64 0)).fst) = true ∨ tAllocOwn.mayClaim 1 (ptTile (64 * (granuleRange (tPtX 8 64 64 0)).fst)) = false) ∧
      tFree.hasTile (ptTile ((tPtX 9 64 64 0).target % 2 ^ 23)) = true ∧
      tShare.hasTile (ptTile ((tPtX 11 70 5 600).target % 2 ^ 23)) = true ∧
      tOut8.hasTile (ptTile ((tPtX 8 7340032 64 0).target % 2 ^ 23)) = false ∧
      tOut9.hasTile (ptTile ((tPtX 9 7340032 64 0).target % 2 ^ 23)) = false ∧
      tOutB.hasTile (ptTile ((tPtX 11 7340032 64 0).target % 2 ^ 23)) = false) ∧
    (tConf.dmaOk 1 = true ∧
      tWinOff.hasTile (ptTile (512 / 8)) = true ∧
      (tWinOff.tl (ptTile (512 / 8))).ready = true ∧
      tWinOff.accWaits (ptTile (512 / 8)) = false ∧
      (8 = 4 ∨ 8 = 8) ∧
      512 % 8 = 0 ∧
      bit (tWinOff.pimCtl (ptTile (512 / 8))) 0 = false ∧
      tWin.hasTile (ptTile (516 / 8)) = true ∧
      (tWin.tl (ptTile (516 / 8))).ready = true ∧
      tWin.accWaits (ptTile (516 / 8)) = false ∧
      (4 = 4 ∨ 4 = 8) ∧
      516 % 4 = 0) ∧
    (bit (tWin.pimCtl (ptTile (516 / 8))) 0 = true ∧
      (false = true ∨ 516 % 8 = 4) ∧
      tWin.hasTile (ptTile (1024 / 8)) = true ∧
      (tWin.tl (ptTile (1024 / 8))).ready = true ∧
      tWin.accWaits (ptTile (1024 / 8)) = false ∧
      1024 % 4 = 0 ∧
      bit (tWin.pimCtl (ptTile (1024 / 8))) 0 = true ∧
      1024 % 8 = 0 ∧
      tWin.allocated (1024 / 8) = false ∧
      tWin.hasTile (ptTile (512 / 8)) = true ∧
      (tWin.tl (ptTile (512 / 8))).ready = true ∧
      tWin.accWaits (ptTile (512 / 8)) = false) ∧
    (bit (tWin.pimCtl (ptTile (512 / 8))) 0 = true ∧
      tWin.allocated (512 / 8) = true ∧
      (tWin.point (512 / 8)).locks = [] ∧
      tWinLock.hasTile (ptTile (512 / 8)) = true ∧
      (tWinLock.tl (ptTile (512 / 8))).ready = true ∧
      tWinLock.accWaits (ptTile (512 / 8)) = false ∧
      bit (tWinLock.pimCtl (ptTile (512 / 8))) 0 = true ∧
      tWinLock.allocated (512 / 8) = true ∧
      (tWinLock.point (512 / 8)).locks ≠ [] ∧
      tWin.allocated 64 = true ∧
      tWin.hasTile (ptTile 64) = true ∧
      (tWin.tl (ptTile 64)).ready = true) ∧
    ((true = false ∨ bit (tWin.pimCtl (ptTile 64)) 1 = true) ∧
      (false = false ∨ bit (tWin.pimCtl (ptTile 64)) 1 = true) ∧
      2 ≤ 2 ∧
      tOutPt.allocated 64 = true ∧
      tOutPt.hasTile (ptTile 64) = true ∧
      (tOutPt.tl (ptTile 64)).ready = true ∧
      (true = false ∨ bit (tOutPt.pimCtl (ptTile 64)) 1 = true) ∧
      2 ≤ 5) ∧
    tAlloc.cqTakes 1 (tPtX 8 128 64 0) ∧
    tAlloc.runs 1 1 8 (tPtX 8 128 64 0) ∧
    tAllocOwn.cqTakes 1 (tPtX 8 64 64 0) ∧
    tAllocOwn.runs 1 1 8 (tPtX 8 64 64 0) ∧
    tFree.cqTakes 1 (tPtX 9 64 64 0) ∧
    tFree.runs 1 1 9 (tPtX 9 64 64 0) ∧
    tFree.handleRoom 1 ∧
    tShare.cqTakes 1 (tPtX 11 70 5 600) ∧
    tShare.runs 1 1 11 (tPtX 11 70 5 600) ∧
    tShare.handleRoom 1 ∧
    tOut8.cqTakes 1 (tPtX 8 7340032 64 0) ∧
    tOut8.runs 1 1 8 (tPtX 8 7340032 64 0) ∧
    tOut9.cqTakes 1 (tPtX 9 7340032 64 0) ∧
    tOut9.runs 1 1 9 (tPtX 9 7340032 64 0) ∧
    tOutB.cqTakes 1 (tPtX 11 7340032 64 0) ∧
    tOutB.runs 1 1 11 (tPtX 11 7340032 64 0) ∧
    tConf.runs 1 1 10 (tPtX 10 64 5 0) ∧
    tWinOff.mgrOpen ∧
    tWin.mgrOpen ∧
    tWinLock.mgrOpen :=
  ⟨by decide +kernel, by decide +kernel, by decide +kernel, by decide +kernel, by decide +kernel, takes_of (by decide +kernel), runs_of (by decide +kernel), takes_of (by decide +kernel), runs_of (by decide +kernel), takes_of (by decide +kernel), runs_of (by decide +kernel), room_of (by decide +kernel), takes_of (by decide +kernel), runs_of (by decide +kernel), room_of (by decide +kernel), takes_of (by decide +kernel), runs_of (by decide +kernel), takes_of (by decide +kernel), runs_of (by decide +kernel), takes_of (by decide +kernel), runs_of (by decide +kernel), runs_of (by decide +kernel), open_of (by decide +kernel), open_of (by decide +kernel), open_of (by decide +kernel)⟩

theorem witness_ImagesPublishAndApply :
    ((tPub.fn 1).image.pub = some (1, 4, true) ∧
      (tPub.fn 1).image.desc = some tDesc ∧
      tPub.paused = false ∧
      tPub.dmaOk 1 = true ∧
      (tPubShut.fn 1).image.pub = some (1, 4, true) ∧
      (tPubShut.fn 1).image.desc = some tDesc ∧
      tPubShut.paused = false ∧
      tPubShut.dmaOk 1 = false ∧
      (tImage.paused = true ∨ (tImage.fn 1).image.pub = none) ∧
      tImage.pagesOpen 1 = true ∧
      State.reset.pagesOpen 1 = false ∧
      (tImage.fn 1).image.desc = some tDesc) ∧
    (tImage.imageRuns 1 = true ∧
      tImage.time.tick % tImage.frameLen = tDesc.outpos ∧
      (tImage.fn 1).image.outTick ≠ some tImage.time.tick ∧
      tDesc.bufs[3 + (tImage.fn 1).image.outsel]?.getD 0 ≠ 0 ∧
      tImage.dmaOk 1 = true ∧
      (tImgRead.fn 1).image.desc = some tDesc ∧
      tImgRead.imageRuns 1 = true ∧
      tImgRead.time.tick % tImgRead.frameLen = tDesc.outpos ∧
      (tImgRead.fn 1).image.outTick ≠ some tImgRead.time.tick ∧
      tDesc.bufs[3 + (tImgRead.fn 1).image.outsel]?.getD 0 ≠ 0 ∧
      tImgRead.dmaOk 1 = true ∧
      (tImg0.fn 1).image.desc = some tDesc) ∧
    (tImg0.imageRuns 1 = true ∧
      tImg0.time.tick % tImg0.frameLen = tDesc.outpos ∧
      (tImg0.fn 1).image.outTick ≠ some tImg0.time.tick ∧
      tDesc.bufs[3 + (tImg0.fn 1).image.outsel]?.getD 0 = 0 ∧
      (tImageShut.fn 1).image.desc = some tDesc ∧
      tImageShut.imageRuns 1 = true ∧
      tImageShut.time.tick % tImageShut.frameLen = tDesc.outpos ∧
      (tImageShut.fn 1).image.outTick ≠ some tImageShut.time.tick ∧
      tDesc.bufs[3 + (tImageShut.fn 1).image.outsel]?.getD 0 ≠ 0 ∧
      tImageShut.dmaOk 1 = false ∧
      (tImgLate.fn 1).image.desc = some tDesc ∧
      (tImgLate.imageRuns 1 = false ∨ tImgLate.time.tick % tImgLate.frameLen ≠ tDesc.outpos)) ∧
    ((tImgRead.fn 1).image.outRead = some 0 ∧
      (tImage.fn 1).image.outRead = none) ∧
    tImage.runs 1 1 12 (tPtX 12 0 0 0) ∧
    tImage.cqTakes 1 (tPtX 12 0 0 0) ∧
    tImage.handleRoom 1 :=
  ⟨by decide +kernel, by decide +kernel, by decide +kernel, by decide +kernel, runs_of (by decide +kernel), takes_of (by decide +kernel), room_of (by decide +kernel)⟩

theorem witness_ReflexAndAlerts :
    (tRfxFire.rfxRuns 0 = true ∧
      (tRfxFire.tl 0).rfxTick ≠ some tRfxFire.time.tick ∧
      tRfxIdle.rfxRuns 0 = true ∧
      (tRfxIdle.tl 0).rfxTick ≠ some tRfxIdle.time.tick ∧
      tRfxIdle.rulesOn 0 = [(ruleKey 0 1 0, { e := tRuleE : Rule })] ∧
      (tRfxIdle.tl 0).cuts = [] ∧
      tRfxIdle.unseen = [] ∧
      (∀ (p : Nat), p ∈ { e := tRuleE : Rule }.e.inputs → ptTile p = 0 ∧ tRfxIdle.mayRead (ruleFn (ruleKey 0 1 0)) p = true ∧ goodRec (tRfxIdle.record p) = true) ∧
      ({ e := tRuleE : Rule }.e.writes = true → tRfxIdle.outOk (ruleFn (ruleKey 0 1 0)) 0 { e := tRuleE : Rule }.e = true) ∧
      (ruleWrite { e := tRuleE : Rule } ({ e := tRuleE : Rule }.evalGood (recVal (tRfxIdle.record { e := tRuleE : Rule }.e.ina)) (if { e := tRuleE : Rule }.e.qual = 0 then 0 else recVal (tRfxIdle.record { e := tRuleE : Rule }.e.inb))) ({ e := tRuleE : Rule }.fires ({ e := tRuleE : Rule }.evalGood (recVal (tRfxIdle.record { e := tRuleE : Rule }.e.ina)) (if { e := tRuleE : Rule }.e.qual = 0 then 0 else recVal (tRfxIdle.record { e := tRuleE : Rule }.e.inb)))) = none) ∧
      tRfxFire.rulesOn 0 = [(ruleKey 0 1 0, { e := tRuleE : Rule })] ∧
      (tRfxFire.tl 0).cuts = []) ∧
    (tRfxFire.unseen = [] ∧
      (∀ (p : Nat), p ∈ { e := tRuleE : Rule }.e.inputs → ptTile p = 0 ∧ tRfxFire.mayRead (ruleFn (ruleKey 0 1 0)) p = true ∧ goodRec (tRfxFire.record p) = true) ∧
      ({ e := tRuleE : Rule }.e.writes = true → tRfxFire.outOk (ruleFn (ruleKey 0 1 0)) 0 { e := tRuleE : Rule }.e = true) ∧
      (ruleWrite { e := tRuleE : Rule } ({ e := tRuleE : Rule }.evalGood (recVal (tRfxFire.record { e := tRuleE : Rule }.e.ina)) (if { e := tRuleE : Rule }.e.qual = 0 then 0 else recVal (tRfxFire.record { e := tRuleE : Rule }.e.inb))) ({ e := tRuleE : Rule }.fires ({ e := tRuleE : Rule }.evalGood (recVal (tRfxFire.record { e := tRuleE : Rule }.e.ina)) (if { e := tRuleE : Rule }.e.qual = 0 then 0 else recVal (tRfxFire.record { e := tRuleE : Rule }.e.inb)))) = some (some 7)) ∧
      (tRfxFire.point { e := tRuleE : Rule }.e.out).locks = [] ∧
      tRfxLock.rfxRuns 0 = true ∧
      (tRfxLock.tl 0).rfxTick ≠ some tRfxLock.time.tick ∧
      tRfxLock.rulesOn 0 = [(ruleKey 0 1 0, { e := tRuleE : Rule })] ∧
      (tRfxLock.tl 0).cuts = [] ∧
      tRfxLock.unseen = [] ∧
      (∀ (p : Nat), p ∈ { e := tRuleE : Rule }.e.inputs → ptTile p = 0 ∧ tRfxLock.mayRead (ruleFn (ruleKey 0 1 0)) p = true ∧ goodRec (tRfxLock.record p) = true) ∧
      ({ e := tRuleE : Rule }.e.writes = true → tRfxLock.outOk (ruleFn (ruleKey 0 1 0)) 0 { e := tRuleE : Rule }.e = true)) ∧
    ((ruleWrite { e := tRuleE : Rule } ({ e := tRuleE : Rule }.evalGood (recVal (tRfxLock.record { e := tRuleE : Rule }.e.ina)) (if { e := tRuleE : Rule }.e.qual = 0 then 0 else recVal (tRfxLock.record { e := tRuleE : Rule }.e.inb))) ({ e := tRuleE : Rule }.fires ({ e := tRuleE : Rule }.evalGood (recVal (tRfxLock.record { e := tRuleE : Rule }.e.ina)) (if { e := tRuleE : Rule }.e.qual = 0 then 0 else recVal (tRfxLock.record { e := tRuleE : Rule }.e.inb)))) = some (some 7)) ∧
      (tRfxLock.point { e := tRuleE : Rule }.e.out).locks ≠ [] ∧
      tRfxCount.rfxRuns 0 = true ∧
      (tRfxCount.tl 0).rfxTick ≠ some tRfxCount.time.tick ∧
      tRfxCount.rulesOn 0 = [(ruleKey 0 1 0, { e := tRuleC : Rule })] ∧
      (tRfxCount.tl 0).cuts = [] ∧
      tRfxCount.unseen = [] ∧
      (∀ (p : Nat), p ∈ { e := tRuleC : Rule }.e.inputs → ptTile p = 0 ∧ tRfxCount.mayRead (ruleFn (ruleKey 0 1 0)) p = true ∧ goodRec (tRfxCount.record p) = true) ∧
      ({ e := tRuleC : Rule }.e.writes = true → tRfxCount.outOk (ruleFn (ruleKey 0 1 0)) 0 { e := tRuleC : Rule }.e = true) ∧
      (ruleWrite { e := tRuleC : Rule } ({ e := tRuleC : Rule }.evalGood (recVal (tRfxCount.record { e := tRuleC : Rule }.e.ina)) (if { e := tRuleC : Rule }.e.qual = 0 then 0 else recVal (tRfxCount.record { e := tRuleC : Rule }.e.inb))) ({ e := tRuleC : Rule }.fires ({ e := tRuleC : Rule }.evalGood (recVal (tRfxCount.record { e := tRuleC : Rule }.e.ina)) (if { e := tRuleC : Rule }.e.qual = 0 then 0 else recVal (tRfxCount.record { e := tRuleC : Rule }.e.inb)))) = some none) ∧
      (tRfxCount.point { e := tRuleC : Rule }.e.out).locks = [] ∧
      (State.reset.rfxRuns 0 = false ∨ (State.reset.tl 0).rfxTick = some State.reset.time.tick)) ∧
    ((List.find? (fun (c : Nat × Nat × Nat × Nat) => c.fst == 1 && c.snd.fst == 64) tBase.copies = none) ∧
      (List.find? (fun (c : Nat × Nat × Nat × Nat) => c.fst == 1 && c.snd.fst == 64) tCopy.copies = some (1, 64, 77, 0)) ∧
      (1, 64, 77, 0).snd.snd.snd = tCopy.time.tick ∧
      (tCopy.tl 1).rfxTick ≠ some tCopy.time.tick ∧
      (List.find? (fun (c : Nat × Nat × Nat × Nat) => c.fst == 1 && c.snd.fst == 64) tCopyLate.copies = some (1, 64, 77, 0)) ∧
      ((1, 64, 77, 0).snd.snd.snd ≠ tCopyLate.time.tick ∨ (tCopyLate.tl 1).rfxTick = some tCopyLate.time.tick) ∧
      tRfxFire.hasTile (bits (tPtX 16 0 1 0).target 16 3) = true ∧
      tRuleSet7.hasTile (bits (tPtX 16 458752 1 0).target 16 3) = false ∧
      tBind.hasPort (bits (tPtX 17 12293 0 70).target 12 7) = true ∧
      (tBind.node (bits (tPtX 17 12293 0 70).target 12 7) (bits (tPtX 17 12293 0 70).target 0 12)).st ≠ NodeSt.free ∧
      (tBind.node (bits (tPtX 17 12293 0 70).target 12 7) (bits (tPtX 17 12293 0 70).target 0 12)).lessee = 1 ∧
      tBindOther.hasPort (bits (tPtX 17 12293 0 70).target 12 7) = true) ∧
    ((tBindOther.node (bits (tPtX 17 12293 0 70).target 12 7) (bits (tPtX 17 12293 0 70).target 0 12)).st ≠ NodeSt.free ∧
      (tBindOther.node (bits (tPtX 17 12293 0 70).target 12 7) (bits (tPtX 17 12293 0 70).target 0 12)).lessee ≠ 1 ∧
      (State.reset.hopUp 3 = false ∨ State.reset.hasPort 3 = false) ∧
      tAl.hopUp 3 = true ∧
      tAl.hasPort 3 = true ∧
      20 % 20 = 0 ∧
      tAlNone.hopUp 3 = true ∧
      tAlNone.hasPort 3 = true ∧
      blockOk (85 : Nat) (toLe (8 : Nat) (BitVec.toNat (tAlert (5 : Nat) (4 : Nat) (9 : Nat) (1 : Nat) (77 : Nat)))) = true ∧
      (tAlNone.node (3 : Nat) (byteField (toLe (8 : Nat) (BitVec.toNat (tAlert (5 : Nat) (4 : Nat) (9 : Nat) (1 : Nat) (77 : Nat)))) (1 : Nat) (2 : Nat) % (2 : Nat) ^ (12 : Nat))).present = false ∧
      tAlAgain.hopUp 3 = true ∧
      tAlAgain.hasPort 3 = true) ∧
    ((tAlAgain.node (3 : Nat) (byteField (toLe (8 : Nat) (BitVec.toNat (tAlert (5 : Nat) (4 : Nat) (9 : Nat) (1 : Nat) (77 : Nat)))) (1 : Nat) (2 : Nat) % (2 : Nat) ^ (12 : Nat))).present = true ∧
      (tAlAgain.node (3 : Nat) (byteField (toLe (8 : Nat) (BitVec.toNat (tAlert (5 : Nat) (4 : Nat) (9 : Nat) (1 : Nat) (77 : Nat)))) (1 : Nat) (2 : Nat) % (2 : Nat) ^ (12 : Nat))).aseq = some (byteField (toLe (8 : Nat) (BitVec.toNat (tAlert (5 : Nat) (4 : Nat) (9 : Nat) (1 : Nat) (77 : Nat)))) (1 : Nat) (2 : Nat) / (2 : Nat) ^ (12 : Nat)) ∧
      tAlFull.hopUp 3 = true ∧
      tAlFull.hasPort 3 = true ∧
      (tAlFull.node (3 : Nat) (byteField (toLe (8 : Nat) (BitVec.toNat (tAlert (5 : Nat) (4 : Nat) (9 : Nat) (1 : Nat) (77 : Nat)))) (1 : Nat) (2 : Nat) % (2 : Nat) ^ (12 : Nat))).present = true ∧
      (tAlFull.node (3 : Nat) (byteField (toLe (8 : Nat) (BitVec.toNat (tAlert (5 : Nat) (4 : Nat) (9 : Nat) (1 : Nat) (77 : Nat)))) (1 : Nat) (2 : Nat) % (2 : Nat) ^ (12 : Nat))).aseq ≠ some (byteField (toLe (8 : Nat) (BitVec.toNat (tAlert (5 : Nat) (4 : Nat) (9 : Nat) (1 : Nat) (77 : Nat)))) (1 : Nat) (2 : Nat) / (2 : Nat) ^ (12 : Nat)) ∧
      bits (tAlFull.misswin (3 : Nat)) (8 : Nat) (8 : Nat) ≤ (tAlFull.node (3 : Nat) (byteField (toLe (8 : Nat) (BitVec.toNat (tAlert (5 : Nat) (4 : Nat) (9 : Nat) (1 : Nat) (77 : Nat)))) (1 : Nat) (2 : Nat) % (2 : Nat) ^ (12 : Nat))).alertsFrame ∧
      (tAl.node (3 : Nat) (byteField (toLe (8 : Nat) (BitVec.toNat (tAlert (5 : Nat) (4 : Nat) (9 : Nat) (1 : Nat) (77 : Nat)))) (1 : Nat) (2 : Nat) % (2 : Nat) ^ (12 : Nat))).present = true ∧
      (tAl.node (3 : Nat) (byteField (toLe (8 : Nat) (BitVec.toNat (tAlert (5 : Nat) (4 : Nat) (9 : Nat) (1 : Nat) (77 : Nat)))) (1 : Nat) (2 : Nat) % (2 : Nat) ^ (12 : Nat))).aseq ≠ some (byteField (toLe (8 : Nat) (BitVec.toNat (tAlert (5 : Nat) (4 : Nat) (9 : Nat) (1 : Nat) (77 : Nat)))) (1 : Nat) (2 : Nat) / (2 : Nat) ^ (12 : Nat)) ∧
      (tAl.node (3 : Nat) (byteField (toLe (8 : Nat) (BitVec.toNat (tAlert (5 : Nat) (4 : Nat) (9 : Nat) (1 : Nat) (77 : Nat)))) (1 : Nat) (2 : Nat) % (2 : Nat) ^ (12 : Nat))).alertsFrame < bits (tAl.misswin (3 : Nat)) (8 : Nat) (8 : Nat) ∧
      tAlBusy.hopUp 3 = true ∧
      tAlBusy.hasPort 3 = true) ∧
    ((tAlBusy.node (3 : Nat) (byteField (toLe (8 : Nat) (BitVec.toNat (tAlert (5 : Nat) (4 : Nat) (9 : Nat) (1 : Nat) (77 : Nat)))) (1 : Nat) (2 : Nat) % (2 : Nat) ^ (12 : Nat))).present = true ∧
      (tAlBusy.node (3 : Nat) (byteField (toLe (8 : Nat) (BitVec.toNat (tAlert (5 : Nat) (4 : Nat) (9 : Nat) (1 : Nat) (77 : Nat)))) (1 : Nat) (2 : Nat) % (2 : Nat) ^ (12 : Nat))).aseq ≠ some (byteField (toLe (8 : Nat) (BitVec.toNat (tAlert (5 : Nat) (4 : Nat) (9 : Nat) (1 : Nat) (77 : Nat)))) (1 : Nat) (2 : Nat) / (2 : Nat) ^ (12 : Nat)) ∧
      (tAlBusy.node (3 : Nat) (byteField (toLe (8 : Nat) (BitVec.toNat (tAlert (5 : Nat) (4 : Nat) (9 : Nat) (1 : Nat) (77 : Nat)))) (1 : Nat) (2 : Nat) % (2 : Nat) ^ (12 : Nat))).alertsFrame < bits (tAlBusy.misswin (3 : Nat)) (8 : Nat) (8 : Nat)) ∧
    tRfxFire.cqTakes 1 (tPtX 16 0 1 0) ∧
    tRfxFire.runs 1 1 16 (tPtX 16 0 1 0) ∧
    tRfxFire.handleRoom 1 ∧
    tRuleSet7.cqTakes 1 (tPtX 16 458752 1 0) ∧
    tRuleSet7.runs 1 1 16 (tPtX 16 458752 1 0) ∧
    tBind.cqTakes 1 (tPtX 17 12293 0 70) ∧
    tBind.runs 1 1 17 (tPtX 17 12293 0 70) ∧
    tBindOther.cqTakes 1 (tPtX 17 12293 0 70) ∧
    tBindOther.runs 1 1 17 (tPtX 17 12293 0 70) :=
  ⟨by decide +kernel, by decide +kernel, by decide +kernel, by decide +kernel, by decide +kernel, by decide +kernel, by decide +kernel, takes_of (by decide +kernel), runs_of (by decide +kernel), room_of (by decide +kernel), takes_of (by decide +kernel), runs_of (by decide +kernel), takes_of (by decide +kernel), runs_of (by decide +kernel), takes_of (by decide +kernel), runs_of (by decide +kernel)⟩

end TestImage

/-! ## Witnesses: the bulk mover -/

namespace TestBulk

/-- Function 1 in service, lessee of node 5 of port 3, with view 0 on channel 2 of tile 0 as given and its BCQ so. -/
def tBk (r : Ring) (recs : List (Nat × Bool × List Byte)) (c : Chan) : State :=
  { tPort 3 { hop := .up, blockLock := true, sigdet := true }
      [(5, { st := .admitted, bound := true, depth := 1, lessee := 1, delay := 40, delayValid := true, bankLoaded := true, resumed := true })] with
    fns := [(1, { st := .active, bme := true, bulk := { ring := r, views := [(0, 2)], recs := recs } })]
    vfEnable := true, vfMse := true, numVfs := 512, chans := [(2, c)]
    stored := [(regKey pBMC 1 0x044, 0x00080064)], regs := [(regKey pBMC 1 0x044, 0x00080064)] }
def tBq : Ring := { enable := true, phase := true }
def tJob : JobSet := { host := 8192, naddr := 64, len := 80, node := 5 + 3 * 4096, ctl := 0, tag := 3 }
def tBad : JobSet := { tJob with node := 6 + 3 * 4096 }
def tArm0 : State := tBk tBq [] { nxt := tJob }
def tArm1 : State := tBk tBq [] { nxt := tJob, arm := true, st := .run, cur := tJob }
def tArmRun : State := tBk tBq [] { nxt := tJob, st := .run, cur := tJob }
def tArmBad : State := tBk tBq [] { nxt := tBad }
def tBurst : Burst := { bseq := 4, len := 2, naddr := 64, probe := false }
def tRunOut : State := tBk tBq [] { nxt := tJob, st := .run, cur := tJob, out := [tBurst], bseq := 5 }
def tBqUsed : State := tBk { tBq with head := 5, tail := 3, unfreed := 2 } [] {}
def tBqStop : State := tBk { tBq with stopped := true, reason := 3 } [] {}
def tBqOff : State := tBk {} [] {}
def tRec1 : List Byte := List.replicate 31 1#8
def tBqRec : State := tBk tBq [(2, true, tRec1)] { st := .hold, cur := tJob }
def tArmNext : State := tBk tBq [] { nxt := tJob, arm := true, st := .run, cur := tJob, jobseq := 3 }
def tBurst2 : Burst := { tBurst with misses := 2 }
def tRunOut2 : State := tBk tBq [] { nxt := tJob, st := .run, cur := tJob, out := [tBurst2], bseq := 5 }
def tProbe : Burst := { bseq := 4, len := 1, naddr := 64, probe := true }
def tProbing : State := tBk tBq [] { nxt := tJob, st := .probe, cur := tJob, out := [tProbe], bseq := 5 }
def tJobUp : JobSet := { tJob with ctl := 1 }
def tUpOut : State := tBk tBq [] { nxt := tJobUp, st := .run, cur := tJobUp, out := [tBurst], bseq := 5 }
def tWaitIn : State := tBk tBq [] { nxt := tJob, st := .wait, cur := tJob, bseq := 5, probeAt := 0 }
def tWaitTill : State := tBk tBq [] { nxt := tJob, st := .wait, cur := tJob, bseq := 5, probeAt := 9 }
def tReading : State := tBk tBq [] { nxt := tJob, st := .run, cur := tJob, reading := some 16 }
def tReadMore : State := tBk tBq [] { nxt := tJob, st := .run, cur := tJob, reading := some 16, buf := List.replicate 16 7#8 }

theorem witness_BulkJobs :
    (tArmNext.pagesOpen 1 = true ∧
      tArmNext.viewChan 1 0 = some 2 ∧
      tArmNext.chanOwner 2 = some (1, 0) ∧
      ((tArmNext.chan 2).st = ChanSt.run ∨ (tArmNext.chan 2).st = ChanSt.wait ∨ (tArmNext.chan 2).st = ChanSt.probe) ∧
      (tArmNext.chan 2).ends = none ∧
      (tArmNext.chan 2).out = [] ∧
      tArm1.pagesOpen 1 = true ∧
      tArm1.viewChan 1 0 = some 2 ∧
      tArm1.chanOwner 2 = some (1, 0) ∧
      (tArm1.chan 2).arm = true ∧
      tArmRun.pagesOpen 1 = true ∧
      tArmRun.viewChan 1 0 = some 2) ∧
    (tArmRun.chanOwner 2 = some (1, 0) ∧
      (tArmRun.chan 2).arm = false ∧
      (tArmRun.chan 2).st ≠ ChanSt.idle ∧
      tArm0.pagesOpen 1 = true ∧
      tArm0.viewChan 1 0 = some 2 ∧
      tArm0.chanOwner 2 = some (1, 0) ∧
      (tArm0.chan 2).arm = false ∧
      (tArm0.chan 2).st = ChanSt.idle ∧
      (tArm0.fn 1).st = TenSt.active ∧
      tArm0.bmvQuiet (2 / 32) = false ∧
      tArm0.jobFails (1 : Nat) (2 : Nat) { host := (tArm0.chan (2 : Nat)).nxt.host, naddr := (tArm0.chan (2 : Nat)).nxt.naddr, len := (tArm0.chan (2 : Nat)).nxt.len, node := (tArm0.chan (2 : Nat)).nxt.node, ctl := BitVec.toNat (1 : W32) % (64 : Nat), tag := (tArm0.chan (2 : Nat)).nxt.tag } = none ∧
      tArmBad.pagesOpen 1 = true) ∧
    (tArmBad.viewChan 1 0 = some 2 ∧
      tArmBad.chanOwner 2 = some (1, 0) ∧
      (tArmBad.chan 2).arm = false ∧
      (tArmBad.chan 2).st = ChanSt.idle ∧
      (tArmBad.fn 1).st = TenSt.active ∧
      tArmBad.bmvQuiet (2 / 32) = false ∧
      tArmBad.jobFails (1 : Nat) (2 : Nat) { host := (tArmBad.chan (2 : Nat)).nxt.host, naddr := (tArmBad.chan (2 : Nat)).nxt.naddr, len := (tArmBad.chan (2 : Nat)).nxt.len, node := (tArmBad.chan (2 : Nat)).nxt.node, ctl := BitVec.toNat (1 : W32) % (64 : Nat), tag := (tArmBad.chan (2 : Nat)).nxt.tag } = some ((97 : Nat), (0 : Nat)) ∧
      ((tArmRun.chan 2).st = ChanSt.run ∨ (tArmRun.chan 2).st = ChanSt.wait ∨ (tArmRun.chan 2).st = ChanSt.probe) ∧
      (tArmRun.chan 2).ends = none ∧
      (tArmRun.chan 2).out = [] ∧
      tRunOut.pagesOpen 1 = true ∧
      tRunOut.viewChan 1 0 = some 2) ∧
    (tRunOut.chanOwner 2 = some (1, 0) ∧
      ((tRunOut.chan 2).st = ChanSt.run ∨ (tRunOut.chan 2).st = ChanSt.wait ∨ (tRunOut.chan 2).st = ChanSt.probe) ∧
      (tRunOut.chan 2).ends = none ∧
      (tRunOut.chan 2).out ≠ [] ∧
      (tArm0.chan 2).st ≠ ChanSt.run ∧
      (tArm0.chan 2).st ≠ ChanSt.wait ∧
      (tArm0.chan 2).st ≠ ChanSt.probe ∧
      tBqOff.pagesOpen 1 = true ∧
      tBqOff.viewChan 1 0 = some 2 ∧
      tBqOff.chanOwner 2 = some (1, 0) ∧
      tBqOff.stage = 0 ∧
      (tBqOff.fn 1).bulk.ring.enable = false) ∧
    (tBqStop.pagesOpen 1 = true ∧
      tBqStop.viewChan 1 0 = some 2 ∧
      tBqStop.chanOwner 2 = some (1, 0) ∧
      tBqStop.stage = 0 ∧
      (tBqStop.fn 1).bulk.ring.enable = true ∧
      (tBqStop.fn 1).bulk.ring.stopped = true ∧
      tBqUsed.pagesOpen 1 = true ∧
      tBqUsed.viewChan 1 0 = some 2 ∧
      tBqUsed.chanOwner 2 = some (1, 0) ∧
      tBqUsed.stage = 0 ∧
      (tBqUsed.fn 1).bulk.ring.enable = true ∧
      (tBqUsed.fn 1).bulk.ring.stopped = false) ∧
    ((tBqUsed.fn (1 : Nat)).bulk.ring.size ≤ BitVec.toNat (16 : BitVec (16 : Nat)) ∧
      BitVec.toNat (5 : BitVec (16 : Nat)) < (tBqUsed.fn (1 : Nat)).bulk.ring.size ∧
      (tBqUsed.fn (1 : Nat)).bulk.ring.freedBy (BitVec.toNat (5 : BitVec (16 : Nat))) ≤ (tBqUsed.fn (1 : Nat)).bulk.ring.unfreed ∧
      BitVec.toNat (6 : BitVec (16 : Nat)) < (tBqUsed.fn (1 : Nat)).bulk.ring.size ∧
      (tBqUsed.fn (1 : Nat)).bulk.ring.unfreed < (tBqUsed.fn (1 : Nat)).bulk.ring.freedBy (BitVec.toNat (6 : BitVec (16 : Nat))) ∧
      tBqRec.pagesOpen 1 = true ∧
      tBqRec.viewChan 1 0 = some 2 ∧
      tBqRec.chanOwner 2 = some (1, 0) ∧
      (tBqRec.fn 1).bulk.recs = [(2, true, tRec1)] ∧
      (tBqRec.fn 1).bulk.ring.running = true ∧
      0 < (tBqRec.fn 1).bulk.ring.room ∧
      tBqRec.paused = false) ∧
    (tBqRec.dmaOk 1 = true ∧
      (tBqRec.chan 2).st = ChanSt.hold ∧
      (tBqRec.chan 2).arm = false ∧
      (tArm0.fn 1).bulk.recs = []) ∧
    tArmNext.bcqTakes 1 ∧
    tArmBad.bcqTakes 1 ∧
    tArmRun.bcqTakes 1 :=
  ⟨by decide +kernel, by decide +kernel, by decide +kernel, by decide +kernel, by decide +kernel, by decide +kernel, by decide +kernel, bcq_of (by decide +kernel), bcq_of (by decide +kernel), bcq_of (by decide +kernel)⟩

theorem witness_BulkAnswers :
    (2 < 32 ∧
      tRunOut.chanOwner (0 * 32 + 2) = some (1, 0) ∧
      4 < 8 ∧
      tRunOut.burst? (0 * 32 + 2) 4 = some tBurst ∧
      tBurst.probe = false ∧
      (tRunOut.chan (0 * 32 + 2)).cur.up = false ∧
      0 ≤ 3 ∧
      bits (bodyNum (tHead 5 3 (2 + 32 * 4)).bytes (tBody 5 3 (2 + 32 * 4) 257)) 0 6 ≤ tBurst.len - 1 ∧
      ((tRunOut.chan (0 * 32 + 2)).arm = false ∨ (tRunOut.chan (0 * 32 + 2)).ends = none ∧ 8 * bits (bodyNum (tHead 5 3 (2 + 32 * 4)).bytes (tBody 5 3 (2 + 32 * 4) 257)) 0 6 < (tRunOut.chan (0 * 32 + 2)).cur.len) ∧
      bits (bodyNum (tHead 5 3 (2 + 32 * 4)).bytes (tBody 5 3 (2 + 32 * 4) 0)) 0 6 ≤ tBurst.len - 1 ∧
      ((tRunOut.chan (0 * 32 + 2)).arm = false ∨ (tRunOut.chan (0 * 32 + 2)).ends = none ∧ 8 * bits (bodyNum (tHead 5 3 (2 + 32 * 4)).bytes (tBody 5 3 (2 + 32 * 4) 0)) 0 6 < (tRunOut.chan (0 * 32 + 2)).cur.len) ∧
      2 ≤ 3) ∧
    ((tRunOut.chan (0 * 32 + 2)).out = [tBurst] ∧
      (tRunOut.chan (0 * 32 + 2)).ends = none ∧
      tBurst.misses < 2 ∧
      tRunOut2.chanOwner (0 * 32 + 2) = some (1, 0) ∧
      tRunOut2.burst? (0 * 32 + 2) 4 = some tBurst2 ∧
      tBurst2.probe = false ∧
      (tRunOut2.chan (0 * 32 + 2)).cur.up = false ∧
      (true = true ∨ [tHead 5 3 4] = []) ∧
      2 ≤ tBurst2.misses ∧
      (tRunOut2.chan (0 * 32 + 2)).out = [tBurst2] ∧
      (tRunOut2.chan (0 * 32 + 2)).ends = none ∧
      (tHead 6 3 4).isHeader = true) ∧
    (hOk (tHead 6 3 4).bytes = true ∧
      hNode (tHead 6 3 4).bytes ≠ (tRunOut.chan (0 * 32 + 2)).cur.nodeNo ∧
      tProbing.chanOwner (0 * 32 + 2) = some (1, 0) ∧
      tProbing.burst? (0 * 32 + 2) 4 = some tProbe ∧
      tProbe.probe = true ∧
      (tProbing.chan (0 * 32 + 2)).ends = none ∧
      bits (bodyNum (tHead 5 3 (2 + 32 * 4 + 512)).bytes (tBody 5 3 (2 + 32 * 4 + 512) 256)) 0 6 = 0 ∧
      bits (bodyNum (tHead 5 3 (2 + 32 * 4 + 512)).bytes (tBody 5 3 (2 + 32 * 4 + 512) 0)) 0 6 = 0 ∧
      tUpOut.chanOwner (0 * 32 + 2) = some (1, 0) ∧
      tUpOut.burst? (0 * 32 + 2) 4 = some tBurst ∧
      (tUpOut.chan (0 * 32 + 2)).cur.up = true ∧
      1 ≤ tBurst.len) ∧
    (tUpOut.dmaOk 1 = true ∧
      ((tUpOut.chan (0 * 32 + 2)).arm = false ∨ (tUpOut.chan (0 * 32 + 2)).ends = none ∧ min (8 * (1 - 1)) (tUpOut.chan (0 * 32 + 2)).cur.len < (tUpOut.chan (0 * 32 + 2)).cur.len) ∧
      byteField (bodyBytes (tHead 5 3 (2 + 32 * 4 + 256)).bytes (tBody 5 3 (2 + 32 * 4 + 256) 64)) 0 4 = tBurst.naddr ∧
      tArm0.chanOwner (0 * 32 + 2) = some (1, 0) ∧
      tArm0.burst? (0 * 32 + 2) 3 = none ∧
      tWaitIn.chanOwner (0 * 32 + 2) = some (1, 0) ∧
      (tWaitIn.chan (0 * 32 + 2)).st = ChanSt.wait ∧
      tWaitIn.hopUp (tWaitIn.chan (0 * 32 + 2)).cur.port = true ∧
      tWaitIn.bmvQuiet 0 = false ∧
      (tWaitIn.chan (0 * 32 + 2)).probeAt ≤ tWaitIn.time.tick ∧
      2 ≤ (tWaitIn.downFree (tWaitIn.chan (0 * 32 + 2)).cur.port).snd ∧
      tWaitTill.chanOwner (0 * 32 + 2) = some (1, 0)) ∧
    ((tWaitTill.chan (0 * 32 + 2)).st = ChanSt.wait ∧
      tWaitTill.hopUp (tWaitTill.chan (0 * 32 + 2)).cur.port = true ∧
      tWaitTill.bmvQuiet 0 = false ∧
      tWaitTill.time.tick < (tWaitTill.chan (0 * 32 + 2)).probeAt ∧
      ((tWaitIn.chan (0 * 32 + 2)).st = ChanSt.wait ∨ (tWaitIn.chan (0 * 32 + 2)).st = ChanSt.probe) ∧
      bits (tWaitIn.bmcWait 1) 0 13 ≠ 0 ∧
      tReading.chanOwner (0 * 32 + 2) = some (1, 0) ∧
      (tReading.chan (0 * 32 + 2)).reading = some 16 ∧
      (tReading.chan (0 * 32 + 2)).buf.length < 8 ∧
      (tReading.chan (0 * 32 + 2)).out = [] ∧
      (tReading.chan (0 * 32 + 2)).ends = none ∧
      tReadMore.chanOwner (0 * 32 + 2) = some (1, 0)) ∧
    ((tReadMore.chan (0 * 32 + 2)).reading = some 16 ∧
      8 ≤ (tReadMore.chan (0 * 32 + 2)).buf.length ∧
      (tArm0.chan (0 * 32 + 2)).reading = none) ∧
    comes (tHead 5 3 (2 + 32 * 4)) (tBody 5 3 (2 + 32 * 4) 257) (tRunOut.chan (0 * 32 + 2)).cur.nodeNo 3 (bulkXid 2 4 false false + 1024 * 0) 1 ∧
    comes (tHead 5 3 (2 + 32 * 4)) (tBody 5 3 (2 + 32 * 4) 0) (tRunOut.chan (0 * 32 + 2)).cur.nodeNo 3 (bulkXid 2 4 false false + 1024 * 0) 1 ∧
    tRunOut.bcqTakes 1 ∧
    comes (tHead 5 3 (2 + 32 * 4 + 2048)) (tBody 5 3 (2 + 32 * 4 + 2048) 0) (tRunOut.chan (0 * 32 + 2)).cur.nodeNo 3 (bulkXid 2 4 false false + 1024 * 2) 1 ∧
    tRunOut2.bcqTakes 1 ∧
    comes (tHead 5 3 (2 + 32 * 4 + 512)) (tBody 5 3 (2 + 32 * 4 + 512) 256) (tProbing.chan (0 * 32 + 2)).cur.nodeNo 3 (bulkXid 2 4 (tProbing.chan (0 * 32 + 2)).cur.up true) 1 ∧
    comes (tHead 5 3 (2 + 32 * 4 + 512)) (tBody 5 3 (2 + 32 * 4 + 512) 0) (tProbing.chan (0 * 32 + 2)).cur.nodeNo 3 (bulkXid 2 4 (tProbing.chan (0 * 32 + 2)).cur.up true) 1 ∧
    comes (tHead 5 3 (2 + 32 * 4 + 256)) (tBody 5 3 (2 + 32 * 4 + 256) 64) (tUpOut.chan (0 * 32 + 2)).cur.nodeNo 3 (bulkXid 2 4 true false) 1 ∧
    tWaitIn.bcqTakes 1 ∧
    tReading.bcqTakes 1 :=
  ⟨by decide +kernel, by decide +kernel, by decide +kernel, by decide +kernel, by decide +kernel, by decide +kernel, comes_of (by decide +kernel), comes_of (by decide +kernel), bcq_of (by decide +kernel), comes_of (by decide +kernel), bcq_of (by decide +kernel), comes_of (by decide +kernel), comes_of (by decide +kernel), comes_of (by decide +kernel), bcq_of (by decide +kernel), bcq_of (by decide +kernel)⟩

end TestBulk

/-! ## Witnesses: tenants, nodes and aborts -/

namespace TestTenant

/-- The manager with the outstanding entry `x`, function 1 as `y`, VF Enable and ARI. -/
def tTen (x : Entry) (hs : List Handle) (y : Fn) : State :=
  { tBase with
    fns := [(0, { (tCmdFn x) with handles := hs }), (1, y)], vfEnable := true, vfMse := true, numVfs := 512, ari := true }
def tTenX (opc u addr : Nat) : Entry := { tX opc u 0 0 with addr := addr }
def tOp : Handle := { seq := 300, cid := 1, opc := 0x32, op := .tenantFreeze 1 }
def tNoTen (opc : Nat) : State := tTen (tTenX opc 0 64) [] {}
def tNone (opc addr : Nat) : State := tTen (tTenX opc 1 addr) [] {}
def tActive (opc addr : Nat) : State := tTen (tTenX opc 1 addr) [] { st := .active }
def tFrozen (opc : Nat) : State := tTen (tTenX opc 1 64) [] { st := .frozen }
def tBusy (opc : Nat) : State := tTen (tTenX opc 1 64) [tOp] { st := .active }
def tReset3 (opc : Nat) : State := tTen (tTenX opc 1 64) [] { st := .resetting }
def tAct : State := tFn 1 { st := .active, share := { granules := [(0, 4)] } }
def tFreezing : State := tFn 1 { st := .freezing }
def tFreezeBusy : State := tFn 1 { st := .freezing, entries := [tX 0 0 0 0] }
def tRst : State := tFn 1 { st := .resetting, share := { granules := [(0, 4)] } }
def tRstBusy : State := { tRst with bridge := [{ fn := 1, g := 3, node := 5, load := true, wide := false, addr := 64, tag := 7 }] }
def tRstDestroy : State := { tRst with fns := [(0, { handles := [{ seq := 4, cid := 1, opc := 0x36, op := .tenantDestroy 1 }] })] ++ tRst.fns }
def tAri : State := { tAct with ari := true }
def tVfNone : State := { tAct with fns := [(1, {})] }
def tAbX (hf seq : Nat) : Entry := tX 0x1F (hf * 2 ^ 22 + seq) 0 0
def tAb (x : Entry) (l : List Handle) : State := tFn 1 { (tCmdFn x) with handles := l, nextSeq := 10 }
def tAbH (w : HandleWord) (op : LongOp) : Handle := { seq := 4, cid := 1, opc := 0x09, word := w, op := op }
def tAbPend : State := tAb (tAbX 1 4) [tAbH .pending (.tenantThaw 2)]
def tAbPendFree : State := tAb (tAbX 1 4) [tAbH .pending (.pointFree [1])]
def tAbComm : State := tAb (tAbX 1 4) [tAbH .committed .idle]
def tAbFail : State := tAb (tAbX 1 4) [tAbH .failed .idle]
def tAbOld : State := tAb (tAbX 1 4) []
def tAbNone : State := tAb (tAbX 1 400) []
def tStrX : Entry := { tX 0x18 0 0 0 with reading := true }
def tStr : State := tCmd 1 tStrX
def tStrH : State := tFn 1 { (tCmdFn (tX 0 0 0 0)) with handles := [tAbH .pending (.imageSet none)] }
def tReadsAll : State :=
  { tPort 3 {} [(5, { look := some { owner := 1, addr := 4096 }, leaseLook := 1 })] with
    fns := [(1, { st := .active, bme := true, fetching := [(0, some 3)], sq := [(0, { enable := true })],
                  image := { desc := some {}, outRead := some 0 } })]
    lists := [(listKey 1 3, { st := .header, addr := 4096 }), (listKey 1 4, { st := .fetching, addr := 4096, fetchSeq := 9 })]
    chans := [(2, { st := .run, reading := some 8, out := [{ bseq := 4, len := 2, naddr := 64, probe := false }] })] }
def tChanRead : State :=
  { tFn 1 { st := .active, bme := true, bulk := { ring := { enable := true, phase := true }, views := [(0, 2)] } } with
    chans := [(2, { st := .run, reading := some 8 })] }
def tNodeX (opc p0 : Nat) : Entry := tX opc 0x3005 0 p0
def tNode (x : Entry) (n : Node) : State :=
  { tPort 3 { hop := .up, blockLock := true, sigdet := true } [(5, { n with bound := true, depth := 1 })] with
    fns := [(0, tCmdFn x), (1, tCmdFn x)], vfEnable := true, vfMse := true, numVfs := 512 }
def tNodeIn (opc p0 : Nat) : State := tNode (tNodeX opc p0) { st := .admitted, lessee := 1, resumed := true }
def tNodeSt (opc : Nat) (st : NodeSt) : State := tNode (tNodeX opc 0) { st := st, lessee := 1 }
def tNoPort (opc : Nat) : State := { tNodeIn opc 0 with fns := [(0, tCmdFn (tX opc 0x7F005 0 0))], tiles := 4 }
def tNodeFree (opc : Nat) : State := { tNodeIn opc 0 with nodes := [] }
def tQuar : State := { tNode (tNodeX 0x24 0) { st := .quarantined, hash := [7#8], suspect := true, gateAt := some (0, 0) } with quar := [[7#8]] }
def tDeep : State := { tPort 3 { hop := .up, blockLock := true, sigdet := true }
    [(4, { st := .admitted, bound := true, depth := 1, isHub := true, branches := 4 }), (5, { st := .refused, bound := true, depth := 2, path := 1 })] with
    fns := [(0, tCmdFn (tNodeX 0x24 0))] }
def tRd (opc : Nat) : Entry := { tX opc 64 1 0 with reading := true }
def tRdS (f opc : Nat) : State := { tCmd f (tRd opc) with owners := [(1, f + 1)] }
def tH0 (op : LongOp) : Handle := { seq := 4, cid := 1, opc := 0x30, op := op }
def tStrs (op : LongOp) (y : Fn) : State := { tBase with fns := [(0, { (tCmdFn (tX 0 0 0 0)) with handles := [tH0 op] }), (1, y)], vfEnable := true, vfMse := true, numVfs := 512 }
def tFull : State := { tStrs (.tenantCreate 1 none) { st := .creating } with fns := [(0, { (tCmdFn (tX 0 0 0 0)) with handles := [tH0 (.tenantCreate 1 none)] }), (1, { st := .creating }), (2, { st := .active, share := { credits := 1048576 } })] }
def d1 (n : Nat) : List Byte := toLe 2 1 ++ List.replicate n 0#8

theorem witness_TenantCommands :
    ((48, Instr.tenantCreate 0 1) ∈ [(48, Instr.tenantCreate 0 1), (49, Instr.tenantShare 0 1), (50, Instr.tenantFreeze 0 1), (51, Instr.tenantThaw 0 1), (52, Instr.tenantSave 0 1), (53, Instr.tenantRestore 0 1), (54, Instr.tenantDestroy 0 1)] ∧
      ((tTenX 48 0 64).target % 1024 = 0 ∨ 512 < (tTenX 48 0 64).target % 1024 ∨ (tNoTen 48).numVfs < (tTenX 48 0 64).target % 1024) ∧
      (51, Instr.tenantThaw 0 1) ∈ [(48, Instr.tenantCreate 0 1), (49, Instr.tenantShare 0 1), (50, Instr.tenantFreeze 0 1), (51, Instr.tenantThaw 0 1), (52, Instr.tenantSave 0 1), (53, Instr.tenantRestore 0 1), (54, Instr.tenantDestroy 0 1)] ∧
      1 ≤ (tTenX 51 1 64).target % 1024 ∧
      (tTenX 51 1 64).target % 1024 ≤ 512 ∧
      (tTenX 51 1 64).target % 1024 ≤ (tBusy 51).numVfs ∧
      (tBusy 51).tenantOp ((tTenX 51 1 64).target % 1024) = some tOp ∧
      (49, Instr.tenantShare 0 1) ∈ [(48, Instr.tenantCreate 0 1), (49, Instr.tenantShare 0 1), (50, Instr.tenantFreeze 0 1), (51, Instr.tenantThaw 0 1), (52, Instr.tenantSave 0 1), (53, Instr.tenantRestore 0 1), (54, Instr.tenantDestroy 0 1)] ∧
      1 ≤ (tTenX 49 1 64).target % 1024 ∧
      (tTenX 49 1 64).target % 1024 ≤ 512 ∧
      (tTenX 49 1 64).target % 1024 ≤ (tNone 49 64).numVfs ∧
      (tNone 49 64).tenantOp ((tTenX 49 1 64).target % 1024) = none) ∧
    (((tNone 49 64).fn ((tTenX 49 1 64).target % 1024)).st = TenSt.none ∧
      (49, Instr.tenantShare 0 1).fst ≠ 48 ∧
      (49, Instr.tenantShare 0 1).fst ≠ 53 ∧
      1 ≤ (tTenX 48 1 64).target % 1024 ∧
      (tTenX 48 1 64).target % 1024 ≤ 512 ∧
      (tTenX 48 1 64).target % 1024 ≤ (tActive 48 64).numVfs ∧
      (tActive 48 64).tenantOp ((tTenX 48 1 64).target % 1024) = none ∧
      ((tActive 48 64).fn ((tTenX 48 1 64).target % 1024)).st ≠ TenSt.none ∧
      1 ≤ (tTenX 48 1 65).target % 1024 ∧
      (tTenX 48 1 65).target % 1024 ≤ 512 ∧
      (tTenX 48 1 65).target % 1024 ≤ (tNone 48 65).numVfs ∧
      (tNone 48 65).tenantOp ((tTenX 48 1 65).target % 1024) = none) ∧
    (((tNone 48 65).fn ((tTenX 48 1 65).target % 1024)).st = TenSt.none ∧
      (tTenX 48 1 65).addr % 64 ≠ 0 ∧
      (tTenX 48 1 64).target % 1024 ≤ (tNone 48 64).numVfs ∧
      (tNone 48 64).tenantOp ((tTenX 48 1 64).target % 1024) = none ∧
      ((tNone 48 64).fn ((tTenX 48 1 64).target % 1024)).st = TenSt.none ∧
      (tTenX 48 1 64).addr % 64 = 0 ∧
      1 ≤ (tTenX 53 1 64).target % 1024 ∧
      (tTenX 53 1 64).target % 1024 ≤ 512 ∧
      (tTenX 53 1 64).target % 1024 ≤ (tActive 53 64).numVfs ∧
      (tActive 53 64).tenantOp ((tTenX 53 1 64).target % 1024) = none ∧
      ((tActive 53 64).fn ((tTenX 53 1 64).target % 1024)).st ≠ TenSt.none ∧
      (tTenX 53 1 64).target % 1024 ≤ (tNone 53 64).numVfs) ∧
    ((tNone 53 64).tenantOp ((tTenX 53 1 64).target % 1024) = none ∧
      ((tNone 53 64).fn ((tTenX 53 1 64).target % 1024)).st = TenSt.none ∧
      1 ≤ (tTenX 49 1 65).target % 1024 ∧
      (tTenX 49 1 65).target % 1024 ≤ 512 ∧
      (tTenX 49 1 65).target % 1024 ≤ (tActive 49 65).numVfs ∧
      (tActive 49 65).tenantOp ((tTenX 49 1 65).target % 1024) = none ∧
      ((tActive 49 65).fn ((tTenX 49 1 65).target % 1024)).st ≠ TenSt.none ∧
      (tTenX 49 1 65).addr % 64 ≠ 0 ∧
      (tTenX 49 1 64).target % 1024 ≤ (tActive 49 64).numVfs ∧
      (tActive 49 64).tenantOp ((tTenX 49 1 64).target % 1024) = none ∧
      ((tActive 49 64).fn ((tTenX 49 1 64).target % 1024)).st ≠ TenSt.none ∧
      (tTenX 49 1 64).addr % 64 = 0) ∧
    (1 ≤ (tTenX 50 1 64).target % 1024 ∧
      (tTenX 50 1 64).target % 1024 ≤ 512 ∧
      (tTenX 50 1 64).target % 1024 ≤ (tActive 50 64).numVfs ∧
      (tActive 50 64).tenantOp ((tTenX 50 1 64).target % 1024) = none ∧
      ((tActive 50 64).fn ((tTenX 50 1 64).target % 1024)).st ≠ TenSt.none ∧
      ((tActive 50 64).fn ((tTenX 50 1 64).target % 1024)).st = TenSt.active ∧
      (tTenX 50 1 64).target % 1024 ≤ (tFrozen 50).numVfs ∧
      (tFrozen 50).tenantOp ((tTenX 50 1 64).target % 1024) = none ∧
      ((tFrozen 50).fn ((tTenX 50 1 64).target % 1024)).st ≠ TenSt.none ∧
      ((tFrozen 50).fn ((tTenX 50 1 64).target % 1024)).st = TenSt.frozen ∧
      (tTenX 50 1 64).target % 1024 ≤ (tReset3 50).numVfs ∧
      (tReset3 50).tenantOp ((tTenX 50 1 64).target % 1024) = none) ∧
    (((tReset3 50).fn ((tTenX 50 1 64).target % 1024)).st ≠ TenSt.none ∧
      ((tReset3 50).fn ((tTenX 50 1 64).target % 1024)).st ≠ TenSt.active ∧
      ((tReset3 50).fn ((tTenX 50 1 64).target % 1024)).st ≠ TenSt.frozen ∧
      (tTenX 51 1 64).target % 1024 ≤ (tFrozen 51).numVfs ∧
      (tFrozen 51).tenantOp ((tTenX 51 1 64).target % 1024) = none ∧
      ((tFrozen 51).fn ((tTenX 51 1 64).target % 1024)).st ≠ TenSt.none ∧
      ((tFrozen 51).fn ((tTenX 51 1 64).target % 1024)).st = TenSt.frozen ∧
      (tTenX 51 1 64).target % 1024 ≤ (tActive 51 64).numVfs ∧
      (tActive 51 64).tenantOp ((tTenX 51 1 64).target % 1024) = none ∧
      ((tActive 51 64).fn ((tTenX 51 1 64).target % 1024)).st ≠ TenSt.none ∧
      ((tActive 51 64).fn ((tTenX 51 1 64).target % 1024)).st = TenSt.active ∧
      (tTenX 51 1 64).target % 1024 ≤ (tReset3 51).numVfs) ∧
    ((tReset3 51).tenantOp ((tTenX 51 1 64).target % 1024) = none ∧
      ((tReset3 51).fn ((tTenX 51 1 64).target % 1024)).st ≠ TenSt.none ∧
      ((tReset3 51).fn ((tTenX 51 1 64).target % 1024)).st ≠ TenSt.active ∧
      ((tReset3 51).fn ((tTenX 51 1 64).target % 1024)).st ≠ TenSt.frozen ∧
      1 ≤ (tTenX 52 1 64).target % 1024 ∧
      (tTenX 52 1 64).target % 1024 ≤ 512 ∧
      (tTenX 52 1 64).target % 1024 ≤ (tFrozen 52).numVfs ∧
      (tFrozen 52).tenantOp ((tTenX 52 1 64).target % 1024) = none ∧
      ((tFrozen 52).fn ((tTenX 52 1 64).target % 1024)).st ≠ TenSt.none ∧
      ((tFrozen 52).fn ((tTenX 52 1 64).target % 1024)).st = TenSt.frozen ∧
      (tTenX 52 1 64).target % 1024 ≤ (tActive 52 64).numVfs ∧
      (tActive 52 64).tenantOp ((tTenX 52 1 64).target % 1024) = none) ∧
    (((tActive 52 64).fn ((tTenX 52 1 64).target % 1024)).st ≠ TenSt.none ∧
      ((tActive 52 64).fn ((tTenX 52 1 64).target % 1024)).st = TenSt.active ∧
      (tTenX 52 1 64).target % 1024 ≤ (tReset3 52).numVfs ∧
      (tReset3 52).tenantOp ((tTenX 52 1 64).target % 1024) = none ∧
      ((tReset3 52).fn ((tTenX 52 1 64).target % 1024)).st ≠ TenSt.none ∧
      ((tReset3 52).fn ((tTenX 52 1 64).target % 1024)).st ≠ TenSt.active ∧
      ((tReset3 52).fn ((tTenX 52 1 64).target % 1024)).st ≠ TenSt.frozen ∧
      1 ≤ (tTenX 54 1 64).target % 1024 ∧
      (tTenX 54 1 64).target % 1024 ≤ 512 ∧
      (tTenX 54 1 64).target % 1024 ≤ (tActive 54 64).numVfs ∧
      (tActive 54 64).tenantOp ((tTenX 54 1 64).target % 1024) = none ∧
      ((tActive 54 64).fn ((tTenX 54 1 64).target % 1024)).st ≠ TenSt.none) ∧
    (tNoTen 48).cqTakes 0 (tTenX 48 0 64) ∧
    (tNoTen 48).runs 0 1 (48, Instr.tenantCreate 0 1).fst (tTenX 48 0 64) ∧
    (tBusy 51).cqTakes 0 (tTenX 51 1 64) ∧
    (tBusy 51).runs 0 1 (51, Instr.tenantThaw 0 1).fst (tTenX 51 1 64) ∧
    (tNone 49 64).cqTakes 0 (tTenX 49 1 64) ∧
    (tNone 49 64).runs 0 1 (49, Instr.tenantShare 0 1).fst (tTenX 49 1 64) ∧
    (tActive 48 64).cqTakes 0 (tTenX 48 1 64) ∧
    (tActive 48 64).runs 0 1 48 (tTenX 48 1 64) ∧
    (tNone 48 65).cqTakes 0 (tTenX 48 1 65) ∧
    (tNone 48 65).runs 0 1 48 (tTenX 48 1 65) ∧
    (tNone 48 64).cqTakes 0 (tTenX 48 1 64) ∧
    (tNone 48 64).runs 0 1 48 (tTenX 48 1 64) ∧
    (tNone 48 64).handleRoom 0 ∧
    (tActive 53 64).cqTakes 0 (tTenX 53 1 64) ∧
    (tActive 53 64).runs 0 1 53 (tTenX 53 1 64) ∧
    (tNone 53 64).cqTakes 0 (tTenX 53 1 64) ∧
    (tNone 53 64).runs 0 1 53 (tTenX 53 1 64) ∧
    (tNone 53 64).handleRoom 0 ∧
    (tActive 49 65).cqTakes 0 (tTenX 49 1 65) ∧
    (tActive 49 65).runs 0 1 49 (tTenX 49 1 65) ∧
    (tActive 49 64).cqTakes 0 (tTenX 49 1 64) ∧
    (tActive 49 64).runs 0 1 49 (tTenX 49 1 64) ∧
    (tActive 49 64).handleRoom 0 ∧
    (tActive 50 64).cqTakes 0 (tTenX 50 1 64) ∧
    (tActive 50 64).runs 0 1 50 (tTenX 50 1 64) ∧
    (tActive 50 64).handleRoom 0 ∧
    (tFrozen 50).cqTakes 0 (tTenX 50 1 64) ∧
    (tFrozen 50).runs 0 1 50 (tTenX 50 1 64) ∧
    (tReset3 50).cqTakes 0 (tTenX 50 1 64) ∧
    (tReset3 50).runs 0 1 50 (tTenX 50 1 64) ∧
    (tFrozen 51).cqTakes 0 (tTenX 51 1 64) ∧
    (tFrozen 51).runs 0 1 51 (tTenX 51 1 64) ∧
    (tFrozen 51).handleRoom 0 ∧
    (tActive 51 64).cqTakes 0 (tTenX 51 1 64) ∧
    (tActive 51 64).runs 0 1 51 (tTenX 51 1 64) ∧
    (tReset3 51).cqTakes 0 (tTenX 51 1 64) ∧
    (tReset3 51).runs 0 1 51 (tTenX 51 1 64) ∧
    (tFrozen 52).cqTakes 0 (tTenX 52 1 64) ∧
    (tFrozen 52).runs 0 1 52 (tTenX 52 1 64) ∧
    (tFrozen 52).handleRoom 0 ∧
    (tActive 52 64).cqTakes 0 (tTenX 52 1 64) ∧
    (tActive 52 64).runs 0 1 52 (tTenX 52 1 64) ∧
    (tActive 52 64).handleRoom 0 ∧
    (tReset3 52).cqTakes 0 (tTenX 52 1 64) ∧
    (tReset3 52).runs 0 1 52 (tTenX 52 1 64) ∧
    (tActive 54 64).cqTakes 0 (tTenX 54 1 64) ∧
    (tActive 54 64).runs 0 1 54 (tTenX 54 1 64) ∧
    (tActive 54 64).handleRoom 0 :=
  ⟨by decide +kernel, by decide +kernel, by decide +kernel, by decide +kernel, by decide +kernel, by decide +kernel, by decide +kernel, by decide +kernel, takes_of (by decide +kernel), runs_of (by decide +kernel), takes_of (by decide +kernel), runs_of (by decide +kernel), takes_of (by decide +kernel), runs_of (by decide +kernel), takes_of (by decide +kernel), runs_of (by decide +kernel), takes_of (by decide +kernel), runs_of (by decide +kernel), takes_of (by decide +kernel), runs_of (by decide +kernel), room_of (by decide +kernel), takes_of (by decide +kernel), runs_of (by decide +kernel), takes_of (by decide +kernel), runs_of (by decide +kernel), room_of (by decide +kernel), takes_of (by decide +kernel), runs_of (by decide +kernel), takes_of (by decide +kernel), runs_of (by decide +kernel), room_of (by decide +kernel), takes_of (by decide +kernel), runs_of (by decide +kernel), room_of (by decide +kernel), takes_of (by decide +kernel), runs_of (by decide +kernel), takes_of (by decide +kernel), runs_of (by decide +kernel), takes_of (by decide +kernel), runs_of (by decide +kernel), room_of (by decide +kernel), takes_of (by decide +kernel), runs_of (by decide +kernel), takes_of (by decide +kernel), runs_of (by decide +kernel), takes_of (by decide +kernel), runs_of (by decide +kernel), room_of (by decide +kernel), takes_of (by decide +kernel), runs_of (by decide +kernel), room_of (by decide +kernel), takes_of (by decide +kernel), runs_of (by decide +kernel), takes_of (by decide +kernel), runs_of (by decide +kernel), room_of (by decide +kernel)⟩

theorem witness_FreezeAndResets :
    (tAri.ari = true ∧
      tAct.ari = false ∧
      tAct.vfEnable = true ∧
      tVfNone.vfEnable = true ∧
      State.reset.vfEnable = false ∧
      tAct.ready = true ∧
      tAct.reach 1 = true ∧
      tAct.resettable 1 = true ∧
      (State.reset.ready = false ∨ State.reset.reach 1 = false ∨ State.reset.resettable 1 = false) ∧
      (tRst.fn 1).st = TenSt.resetting ∧
      tRst.resetQuiet 1 = true ∧
      ((tRst.mgrOp fun (x : LongOp) => x == LongOp.tenantDestroy 1) = none)) ∧
    ((tRstDestroy.fn 1).st = TenSt.resetting ∧
      tRstDestroy.resetQuiet 1 = true ∧
      ((tRstDestroy.mgrOp fun (x : LongOp) => x == LongOp.tenantDestroy 1).isSome = true) ∧
      ((tRstBusy.fn 1).st ≠ TenSt.resetting ∨ tRstBusy.resetQuiet 1 = false) ∧
      (tFreezing.fn 1).st = TenSt.freezing ∧
      tFreezing.freezeDrained 1 = true ∧
      (tFreezeBusy.fn 1).st = TenSt.freezing ∧
      tFreezeBusy.freezeDrained 1 = false ∧
      (tAct.fn 1).st ≠ TenSt.freezing) :=
  ⟨by decide +kernel, by decide +kernel⟩

theorem witness_AbortsAndStructureReads :
    ((1 = 0 ∨ (tAbX 1 4).target / 2 ^ 22 = 1) ∧
      tAbPend.handle? ((tAbX 1 4).target / 2 ^ 22) ((tAbX 1 4).target % 2 ^ 22) = some (tAbH HandleWord.pending (LongOp.tenantThaw 2)) ∧
      (tAbH HandleWord.pending (LongOp.tenantThaw 2)).assigned = true ∧
      (tAbH HandleWord.pending (LongOp.tenantThaw 2)).word = HandleWord.pending ∧
      (tAbH HandleWord.pending (LongOp.tenantThaw 2)).done = false ∧
      (tAbH HandleWord.pending (LongOp.tenantThaw 2)).op = LongOp.tenantThaw 2 ∧
      tAbPendFree.handle? ((tAbX 1 4).target / 2 ^ 22) ((tAbX 1 4).target % 2 ^ 22) = some (tAbH HandleWord.pending (LongOp.pointFree [1])) ∧
      (tAbH HandleWord.pending (LongOp.pointFree [1])).assigned = true ∧
      (tAbH HandleWord.pending (LongOp.pointFree [1])).word = HandleWord.pending ∧
      tAbComm.handle? ((tAbX 1 4).target / 2 ^ 22) ((tAbX 1 4).target % 2 ^ 22) = some (tAbH HandleWord.committed LongOp.idle) ∧
      (tAbH HandleWord.committed LongOp.idle).assigned = true ∧
      (tAbH HandleWord.committed LongOp.idle).word = HandleWord.committed) ∧
    (tAbFail.handle? ((tAbX 1 4).target / 2 ^ 22) ((tAbX 1 4).target % 2 ^ 22) = some (tAbH HandleWord.failed LongOp.idle) ∧
      (tAbH HandleWord.failed LongOp.idle).assigned = true ∧
      ((tAbH HandleWord.failed LongOp.idle).word = HandleWord.aborted ∨ (tAbH HandleWord.failed LongOp.idle).word = HandleWord.failed) ∧
      (1 ≠ 0 ∧ (tAbX 1 4).target / 2 ^ 22 ≠ 1 ∨ Option.filter Handle.assigned (tAbOld.handle? ((tAbX 1 4).target / 2 ^ 22) ((tAbX 1 4).target % 2 ^ 22)) = none) ∧
      (tAbX 1 4).target / 2 ^ 22 = 1 ∧
      recentSeq (tAbOld.fn 1).nextSeq ((tAbX 1 4).target % 2 ^ 22) = true ∧
      (1 ≠ 0 ∧ (tAbX 1 400).target / 2 ^ 22 ≠ 1 ∨ Option.filter Handle.assigned (tAbNone.handle? ((tAbX 1 400).target / 2 ^ 22) ((tAbX 1 400).target % 2 ^ 22)) = none) ∧
      ((tAbX 1 400).target / 2 ^ 22 ≠ 1 ∨ recentSeq (tAbNone.fn 1).nextSeq ((tAbX 1 400).target % 2 ^ 22) = false) ∧
      tStr.readingEntry 1 1 = some tStrX ∧
      tStr.readingEntry 1 2 = none ∧
      tStr.awaitsRead 1 2 = none ∧
      tStrH.awaitsRead 1 4 = some (tAbH HandleWord.pending (LongOp.imageSet none))) ∧
    ((tReadsAll.fn 1).fetch 0 = some 3 ∧
      (tReadsAll.fn 1).fetch 1 = none ∧
      (tReadsAll.list 1 3).st = ListSt.header ∧
      (tReadsAll.list 1 4).st = ListSt.fetching ∧
      (tReadsAll.list 1 5).st ≠ ListSt.header ∧
      (tReadsAll.list 1 5).st ≠ ListSt.fetching ∧
      (tReadsAll.fn 1).image.outRead.isSome = true ∧
      (tStr.fn 1).image.outRead = none ∧
      (tReadsAll.chan 2).reading.isSome = true ∧
      (tReadsAll.chan 2).ends = none ∧
      (tReadsAll.chan 2).out ≠ [] ∧
      (tChanRead.chan 2).reading.isSome = true) ∧
    ((tChanRead.chan 2).ends = none ∧
      (tChanRead.chan 2).out = [] ∧
      tChanRead.chanOwner 2 = some (1, 0) ∧
      (tStr.chan 1).reading = none ∧
      (tReadsAll.node 3 5).look = some { owner := 1, addr := 4096 : Look } ∧
      { owner := 1, addr := 4096 : Look }.retry = false ∧
      (128 = 128 ∨ ∀ (l : Look), (tReadsAll.node 128 5).look = some l → l.retry = true) ∧
      ((tReadsAll.node 3 5).leaseLook = 1 ∨ (tReadsAll.node 3 5).leaseLook = 2) ∧
      (tStr.node 3 5).leaseLook ≠ 1 ∧
      (tStr.node 3 5).leaseLook ≠ 2 ∧
      7 < 8) ∧
    tAbPend.runs 1 1 31 (tAbX 1 4) ∧
    tAbPend.cqTakes 1 (tAbX 1 4) ∧
    tAbPendFree.runs 1 1 31 (tAbX 1 4) ∧
    tAbPendFree.cqTakes 1 (tAbX 1 4) ∧
    tAbComm.runs 1 1 31 (tAbX 1 4) ∧
    tAbComm.cqTakes 1 (tAbX 1 4) ∧
    tAbFail.runs 1 1 31 (tAbX 1 4) ∧
    tAbFail.cqTakes 1 (tAbX 1 4) ∧
    tAbOld.runs 1 1 31 (tAbX 1 4) ∧
    tAbOld.cqTakes 1 (tAbX 1 4) ∧
    tAbNone.runs 1 1 31 (tAbX 1 400) ∧
    tAbNone.cqTakes 1 (tAbX 1 400) ∧
    tStr.cqTakes 1 tStrX ∧
    tChanRead.bcqTakes 1 ∧
    (∀ (u : Nat) (sh : Option Share) (a : Nat), (tAbH HandleWord.pending (LongOp.imageSet none)).op = LongOp.tenantCreate u sh ∨ (tAbH HandleWord.pending (LongOp.imageSet none)).op = LongOp.tenantRestore u a → u ≠ 1) :=
  ⟨by decide +kernel, by decide +kernel, by decide +kernel, by decide +kernel, runs_of (by decide +kernel), takes_of (by decide +kernel), runs_of (by decide +kernel), takes_of (by decide +kernel), runs_of (by decide +kernel), takes_of (by decide +kernel), runs_of (by decide +kernel), takes_of (by decide +kernel), runs_of (by decide +kernel), takes_of (by decide +kernel), runs_of (by decide +kernel), takes_of (by decide +kernel), takes_of (by decide +kernel), bcq_of (by decide +kernel), fun _ _ _ h => by rcases h with h | h <;> simp [tAbH] at h⟩

theorem witness_NodeCommands :
    ((tTenX 24 0 0).addr = 0 ∧
      (tTenX 24 0 64).addr ≠ 0 ∧
      (tNoPort 36).hasPort (bits (tX 36 520197 0 0).target 12 7) = false ∧
      (36, Instr.nodeRelease 0 1) ∈ [(25, Instr.nodePromote 0 1), (33, Instr.leaseSet 0 1), (34, Instr.nodeAdmit 0 1), (35, Instr.nodeUnbind 0 1), (36, Instr.nodeRelease 0 1)] ∧
      (tNodeFree 34).hasPort (bits (tNodeX 34 0).target 12 7) = true ∧
      ((tNodeFree 34).node (bits (tNodeX 34 0).target 12 7) (bits (tNodeX 34 0).target 0 12)).st = NodeSt.free ∧
      (34, Instr.nodeAdmit 0 1) ∈ [(25, Instr.nodePromote 0 1), (33, Instr.leaseSet 0 1), (34, Instr.nodeAdmit 0 1), (35, Instr.nodeUnbind 0 1), (36, Instr.nodeRelease 0 1)] ∧
      (34, Instr.nodeAdmit 0 1).fst ≠ 35 ∧
      (tNodeIn 25 0).hasPort (bits (tNodeX 25 0).target 12 7) = true ∧
      ((tNodeIn 25 0).node (bits (tNodeX 25 0).target 12 7) (bits (tNodeX 25 0).target 0 12)).st ≠ NodeSt.free ∧
      (1 = 0 ∨ ((tNodeIn 25 0).node (bits (tNodeX 25 0).target 12 7) (bits (tNodeX 25 0).target 0 12)).lessee = 1) ∧
      ((tNodeIn 25 0).node (bits (tNodeX 25 0).target 12 7) (bits (tNodeX 25 0).target 0 12)).present = true) ∧
    ((tNodeSt 25 NodeSt.absent).hasPort (bits (tNodeX 25 0).target 12 7) = true ∧
      ((tNodeSt 25 NodeSt.absent).node (bits (tNodeX 25 0).target 12 7) (bits (tNodeX 25 0).target 0 12)).st ≠ NodeSt.free ∧
      (1 = 0 ∨ ((tNodeSt 25 NodeSt.absent).node (bits (tNodeX 25 0).target 12 7) (bits (tNodeX 25 0).target 0 12)).lessee = 1) ∧
      ((tNodeSt 25 NodeSt.absent).node (bits (tNodeX 25 0).target 12 7) (bits (tNodeX 25 0).target 0 12)).st = NodeSt.absent ∧
      (tNodeSt 25 NodeSt.held).hasPort (bits (tNodeX 25 0).target 12 7) = true ∧
      ((tNodeSt 25 NodeSt.held).node (bits (tNodeX 25 0).target 12 7) (bits (tNodeX 25 0).target 0 12)).st ≠ NodeSt.free ∧
      (1 = 0 ∨ ((tNodeSt 25 NodeSt.held).node (bits (tNodeX 25 0).target 12 7) (bits (tNodeX 25 0).target 0 12)).lessee = 1) ∧
      ((tNodeSt 25 NodeSt.held).node (bits (tNodeX 25 0).target 12 7) (bits (tNodeX 25 0).target 0 12)).present = false ∧
      ((tNodeSt 25 NodeSt.held).node (bits (tNodeX 25 0).target 12 7) (bits (tNodeX 25 0).target 0 12)).st ≠ NodeSt.absent ∧
      (tNode (tNodeX 25 0) { st := NodeSt.admitted : Node }).hasPort (bits (tNodeX 25 0).target 12 7) = true ∧
      ((tNode (tNodeX 25 0) { st := NodeSt.admitted : Node }).node (bits (tNodeX 25 0).target 12 7) (bits (tNodeX 25 0).target 0 12)).st ≠ NodeSt.free ∧
      ((tNode (tNodeX 25 0) { st := NodeSt.admitted : Node }).node (bits (tNodeX 25 0).target 12 7) (bits (tNodeX 25 0).target 0 12)).lessee ≠ 1) ∧
    ((tNodeIn 33 600).hasPort (bits (tNodeX 33 600).target 12 7) = true ∧
      ((tNodeIn 33 600).node (bits (tNodeX 33 600).target 12 7) (bits (tNodeX 33 600).target 0 12)).st ≠ NodeSt.free ∧
      (tNodeSt 34 NodeSt.held).hasPort (bits (tNodeX 34 0).target 12 7) = true ∧
      ((tNodeSt 34 NodeSt.held).node (bits (tNodeX 34 0).target 12 7) (bits (tNodeX 34 0).target 0 12)).st ≠ NodeSt.free ∧
      ((tNodeSt 34 NodeSt.held).node (bits (tNodeX 34 0).target 12 7) (bits (tNodeX 34 0).target 0 12)).st = NodeSt.held ∧
      (tNodeSt 34 NodeSt.absent).hasPort (bits (tNodeX 34 0).target 12 7) = true ∧
      ((tNodeSt 34 NodeSt.absent).node (bits (tNodeX 34 0).target 12 7) (bits (tNodeX 34 0).target 0 12)).st ≠ NodeSt.free ∧
      ((tNodeSt 34 NodeSt.absent).node (bits (tNodeX 34 0).target 12 7) (bits (tNodeX 34 0).target 0 12)).st = NodeSt.absent ∧
      (tNodeSt 34 NodeSt.refused).hasPort (bits (tNodeX 34 0).target 12 7) = true ∧
      ((tNodeSt 34 NodeSt.refused).node (bits (tNodeX 34 0).target 12 7) (bits (tNodeX 34 0).target 0 12)).st ≠ NodeSt.free ∧
      ((tNodeSt 34 NodeSt.refused).node (bits (tNodeX 34 0).target 12 7) (bits (tNodeX 34 0).target 0 12)).st ≠ NodeSt.held ∧
      ((tNodeSt 34 NodeSt.refused).node (bits (tNodeX 34 0).target 12 7) (bits (tNodeX 34 0).target 0 12)).st ≠ NodeSt.absent) ∧
    ((tNodeSt 35 NodeSt.absent).hasPort (bits (tNodeX 35 0).target 12 7) = true ∧
      (tNodeSt 35 NodeSt.absent).named (bits (tNodeX 35 0).target 12 7) (bits (tNodeX 35 0).target 0 12) = false ∧
      (((tNodeSt 35 NodeSt.absent).node (bits (tNodeX 35 0).target 12 7) (bits (tNodeX 35 0).target 0 12)).st = NodeSt.free ∨ ((tNodeSt 35 NodeSt.absent).node (bits (tNodeX 35 0).target 12 7) (bits (tNodeX 35 0).target 0 12)).st = NodeSt.absent ∨ ((tNodeSt 35 NodeSt.absent).node (bits (tNodeX 35 0).target 12 7) (bits (tNodeX 35 0).target 0 12)).st = NodeSt.refused) ∧
      (tNodeSt 35 NodeSt.admitted).hasPort (bits (tNodeX 35 0).target 12 7) = true ∧
      ((tNodeSt 35 NodeSt.admitted).named (bits (tNodeX 35 0).target 12 7) (bits (tNodeX 35 0).target 0 12) = true ∨ ((tNodeSt 35 NodeSt.admitted).node (bits (tNodeX 35 0).target 12 7) (bits (tNodeX 35 0).target 0 12)).st ≠ NodeSt.free ∧ ((tNodeSt 35 NodeSt.admitted).node (bits (tNodeX 35 0).target 12 7) (bits (tNodeX 35 0).target 0 12)).st ≠ NodeSt.absent ∧ ((tNodeSt 35 NodeSt.admitted).node (bits (tNodeX 35 0).target 12 7) (bits (tNodeX 35 0).target 0 12)).st ≠ NodeSt.refused) ∧
      (tNodeSt 36 NodeSt.refused).hasPort (bits (tNodeX 36 0).target 12 7) = true ∧
      ((tNodeSt 36 NodeSt.refused).node (bits (tNodeX 36 0).target 12 7) (bits (tNodeX 36 0).target 0 12)).st = NodeSt.refused ∧
      tDeep.hasPort (bits (tNodeX 36 0).target 12 7) = true ∧
      (tDeep.node (bits (tNodeX 36 0).target 12 7) (bits (tNodeX 36 0).target 0 12)).st = NodeSt.refused ∧
      (tDeep.placeOf (bits (tNodeX 36 0).target 12 7) (bits (tNodeX 36 0).target 0 12)).fst ≠ 0 ∧
      tQuar.hasPort (bits (tNodeX 36 0).target 12 7) = true ∧
      (tQuar.node (bits (tNodeX 36 0).target 12 7) (bits (tNodeX 36 0).target 0 12)).st = NodeSt.quarantined) ∧
    ((tNodeSt 36 NodeSt.absent).hasPort (bits (tNodeX 36 0).target 12 7) = true ∧
      ((tNodeSt 36 NodeSt.absent).node (bits (tNodeX 36 0).target 12 7) (bits (tNodeX 36 0).target 0 12)).st = NodeSt.absent ∧
      (tNodeSt 36 NodeSt.admitted).hasPort (bits (tNodeX 36 0).target 12 7) = true ∧
      ((tNodeSt 36 NodeSt.admitted).node (bits (tNodeX 36 0).target 12 7) (bits (tNodeX 36 0).target 0 12)).st ≠ NodeSt.refused ∧
      ((tNodeSt 36 NodeSt.admitted).node (bits (tNodeX 36 0).target 12 7) (bits (tNodeX 36 0).target 0 12)).st ≠ NodeSt.quarantined ∧
      ((tNodeSt 36 NodeSt.admitted).node (bits (tNodeX 36 0).target 12 7) (bits (tNodeX 36 0).target 0 12)).st ≠ NodeSt.absent ∧
      ((tNodeSt 36 NodeSt.admitted).node (bits (tNodeX 36 0).target 12 7) (bits (tNodeX 36 0).target 0 12)).st ≠ NodeSt.free) ∧
    (tCmd 1 (tTenX 24 0 0)).cqTakes 1 (tTenX 24 0 0) ∧
    (tCmd 1 (tTenX 24 0 0)).runs 1 1 24 (tTenX 24 0 0) ∧
    (tCmd 1 (tTenX 24 0 64)).cqTakes 1 (tTenX 24 0 64) ∧
    (tCmd 1 (tTenX 24 0 64)).runs 1 1 24 (tTenX 24 0 64) ∧
    (tCmd 0 (tTenX 32 0 64)).cqTakes 0 (tTenX 32 0 64) ∧
    (tCmd 0 (tTenX 32 0 64)).runs 0 1 32 (tTenX 32 0 64) ∧
    (tNoPort 36).cqTakes 0 (tX 36 520197 0 0) ∧
    (tNoPort 36).runs 0 1 (36, Instr.nodeRelease 0 1).fst (tX 36 520197 0 0) ∧
    (tNodeFree 34).cqTakes 0 (tNodeX 34 0) ∧
    (tNodeFree 34).runs 0 1 (34, Instr.nodeAdmit 0 1).fst (tNodeX 34 0) ∧
    (tNodeIn 25 0).cqTakes 1 (tNodeX 25 0) ∧
    (tNodeIn 25 0).runs 1 1 25 (tNodeX 25 0) ∧
    (tNodeIn 25 0).handleRoom 1 ∧
    (tNodeSt 25 NodeSt.absent).cqTakes 1 (tNodeX 25 0) ∧
    (tNodeSt 25 NodeSt.absent).runs 1 1 25 (tNodeX 25 0) ∧
    (tNodeSt 25 NodeSt.held).cqTakes 1 (tNodeX 25 0) ∧
    (tNodeSt 25 NodeSt.held).runs 1 1 25 (tNodeX 25 0) ∧
    (tNode (tNodeX 25 0) { st := NodeSt.admitted : Node }).cqTakes 1 (tNodeX 25 0) ∧
    (tNode (tNodeX 25 0) { st := NodeSt.admitted : Node }).runs 1 1 25 (tNodeX 25 0) ∧
    (tNodeIn 33 600).cqTakes 0 (tNodeX 33 600) ∧
    (tNodeIn 33 600).runs 0 1 33 (tNodeX 33 600) ∧
    (tNodeIn 33 600).handleRoom 0 ∧
    (tNodeSt 34 NodeSt.held).cqTakes 0 (tNodeX 34 0) ∧
    (tNodeSt 34 NodeSt.held).runs 0 1 34 (tNodeX 34 0) ∧
    (tNodeSt 34 NodeSt.held).handleRoom 0 ∧
    (tNodeSt 34 NodeSt.absent).cqTakes 0 (tNodeX 34 0) ∧
    (tNodeSt 34 NodeSt.absent).runs 0 1 34 (tNodeX 34 0) ∧
    (tNodeSt 34 NodeSt.refused).cqTakes 0 (tNodeX 34 0) ∧
    (tNodeSt 34 NodeSt.refused).runs 0 1 34 (tNodeX 34 0) ∧
    (tNodeSt 35 NodeSt.absent).cqTakes 0 (tNodeX 35 0) ∧
    (tNodeSt 35 NodeSt.absent).runs 0 1 35 (tNodeX 35 0) ∧
    (tNodeSt 35 NodeSt.admitted).cqTakes 0 (tNodeX 35 0) ∧
    (tNodeSt 35 NodeSt.admitted).runs 0 1 35 (tNodeX 35 0) ∧
    (tNodeSt 36 NodeSt.refused).cqTakes 0 (tNodeX 36 0) ∧
    (tNodeSt 36 NodeSt.refused).runs 0 1 36 (tNodeX 36 0) ∧
    tDeep.cqTakes 0 (tNodeX 36 0) ∧
    tDeep.runs 0 1 36 (tNodeX 36 0) ∧
    tQuar.cqTakes 0 (tNodeX 36 0) ∧
    tQuar.runs 0 1 36 (tNodeX 36 0) ∧
    (tNodeSt 36 NodeSt.absent).cqTakes 0 (tNodeX 36 0) ∧
    (tNodeSt 36 NodeSt.absent).runs 0 1 36 (tNodeX 36 0) ∧
    (tNodeSt 36 NodeSt.admitted).cqTakes 0 (tNodeX 36 0) ∧
    (tNodeSt 36 NodeSt.admitted).runs 0 1 36 (tNodeX 36 0) :=
  ⟨by decide +kernel, by decide +kernel, by decide +kernel, by decide +kernel, by decide +kernel, takes_of (by decide +kernel), runs_of (by decide +kernel), takes_of (by decide +kernel), runs_of (by decide +kernel), takes_of (by decide +kernel), runs_of (by decide +kernel), takes_of (by decide +kernel), runs_of (by decide +kernel), takes_of (by decide +kernel), runs_of (by decide +kernel), takes_of (by decide +kernel), runs_of (by decide +kernel), room_of (by decide +kernel), takes_of (by decide +kernel), runs_of (by decide +kernel), takes_of (by decide +kernel), runs_of (by decide +kernel), takes_of (by decide +kernel), runs_of (by decide +kernel), takes_of (by decide +kernel), runs_of (by decide +kernel), room_of (by decide +kernel), takes_of (by decide +kernel), runs_of (by decide +kernel), room_of (by decide +kernel), takes_of (by decide +kernel), runs_of (by decide +kernel), takes_of (by decide +kernel), runs_of (by decide +kernel), takes_of (by decide +kernel), runs_of (by decide +kernel), takes_of (by decide +kernel), runs_of (by decide +kernel), takes_of (by decide +kernel), runs_of (by decide +kernel), takes_of (by decide +kernel), runs_of (by decide +kernel), takes_of (by decide +kernel), runs_of (by decide +kernel), takes_of (by decide +kernel), runs_of (by decide +kernel), takes_of (by decide +kernel), runs_of (by decide +kernel)⟩

theorem witness_StructuresArrive :
    ((tRdS 1 10).readingEntry 1 1 = some (tRd 10) ∧
      (tRd 10).opc = 10 ∧
      (tRdS 1 24).readingEntry 1 1 = some (tRd 24) ∧
      (tRd 24).opc = 24 ∧
      (tRdS 0 32).readingEntry 0 1 = some (tRd 32) ∧
      (tRd 32).opc = 32 ∧
      (tStrs (LongOp.tenantCreate 1 none) { st := TenSt.creating : Fn }).awaitsRead 0 4 = some (tH0 (LongOp.tenantCreate 1 none)) ∧
      byteField [] 0 2 ≠ 1 ∧
      tFull.awaitsRead 0 4 = some (tH0 (LongOp.tenantCreate 1 none)) ∧
      byteField (d1 1214) 0 2 = 1 ∧
      tFull.poolFree Cell.credits = 0 ∧
      (tStrs (LongOp.tenantCreate 1 none) { st := TenSt.creating : Fn }).poolFree Cell.credits ≠ 0) ∧
    ((tStrs (LongOp.tenantShare 1 none) { st := TenSt.active : Fn }).awaitsRead 0 4 = some (tH0 (LongOp.tenantShare 1 none)) ∧
      (tStrs (LongOp.imageSet none) { st := TenSt.active : Fn }).awaitsRead 0 4 = some (tH0 (LongOp.imageSet none)) ∧
      imageFails [] (parseImage (tStrs (LongOp.imageSet none) { st := TenSt.active : Fn }) 0 []).fst ≠ 0 ∧
      imageFails (d1 318) (parseImage (tStrs (LongOp.imageSet none) { st := TenSt.active : Fn }) 0 (d1 318)).fst = 0 ∧
      (tStrs (LongOp.ruleSet 0 0 1 []) { st := TenSt.active : Fn }).awaitsRead 0 4 = some (tH0 (LongOp.ruleSet 0 0 1 [])) ∧
      (tStrs (LongOp.tenantRestore 1 64) { st := TenSt.restoring : Fn }).awaitsRead 0 4 = some (tH0 (LongOp.tenantRestore 1 64)) ∧
      (tStrs (LongOp.tenantRestore 1 64) { st := TenSt.restoring : Fn }).restoreCheck 1 [] = Sum.inr (9, 1, [])) ∧
    (tRdS 1 10).cqTakes 1 (tRd 10) ∧
    (tRdS 1 24).cqTakes 1 (tRd 24) ∧
    (tRdS 0 32).cqTakes 0 (tRd 32) :=
  ⟨by decide +kernel, by decide +kernel, takes_of (by decide +kernel), takes_of (by decide +kernel), takes_of (by decide +kernel)⟩

end TestTenant

/-! ## Witnesses: engines and the mesh -/

namespace TestEngine

def tTaskC : Task := { ctx := 0, level := 4, fn := 1, work := .compile 3, st := .running 2 }
def tTaskX : Task := { ctx := 1, level := 4, fn := 1, work := .command 1 1, st := .running 3 }
def tEngX : Entry := tX 0x18 0 0 0
def tEng (faults : List Nat) (es : List Entry) (p : PlanSt) : State :=
  { tTile 1 { ready := true, align := .locked, tasks := [tTaskC, tTaskX], faults := faults, reload := [7] } with
    fns := [(1, { tCmdFn tEngX with entries := es })], vfEnable := true, vfMse := true, numVfs := 512, plans := [(3, p)] }
def tEngOver : State := tEng [] [] {}
def tEngGo : State := tEng [] [tEngX] { idleSt := .compiling }
def tEngThird : State := tEng [0, 0] [tEngX] {}
def tMesh (m : W64) (n : Nat) : State := { tBase with mesh := m, meshFails := [(0, n)] }
def tMeshUp : State := tMesh 1 3
def tMeshBad : State := tMesh 1 8
def tMeshDown : State := tMesh 0 3

theorem witness_EnginesAndMesh :
    (tEngOver.runningOn 1 2 = some tTaskC ∧
      (tEngOver.tl 1).ctxq = [] ∧
      ((tEngOver.tl 1).pwr.forced = true ∨ (tEngOver.plan 3).idleSt ≠ IdleSt.compiling) ∧
      tEngGo.runningOn 1 2 = some tTaskC ∧
      (tEngGo.tl 1).ctxq = [] ∧
      (tEngGo.tl 1).pwr.forced = false ∧
      (tEngGo.plan 3).idleSt = IdleSt.compiling ∧
      tEngGo.alive tTaskC.fn = true ∧
      tEngOver.runningOn 1 3 = some tTaskX ∧
      (tEngOver.tl 1).pwr.forced = false ∧
      (∀ (y : Entry), y ∈ (tEngOver.fn 1).entries → y.id ≠ 1) ∧
      (∀ (y : Entry), y ∈ (tEngOver.fn 1).entries → badOpcode 1 y = none)) ∧
    ((∀ (h : Handle), h ∈ (tEngOver.fn 1).handles → h.eid ≠ 1) ∧
      600 < 601 ∧
      (tEngGo.runningOn 1 2 = none ∨ 600 ≤ 600) ∧
      ((List.filter (fun (m : Nat) => decide (tEngGo.time.tick < m + tEngGo.ticksOf 1000000)) (tEngGo.tl 1).faults).length < 2) ∧
      tEngGo.runningOn 1 3 = some tTaskX ∧
      (List.find? (fun (y : Entry) => y.id == 1 && !y.ended) (tEngGo.fn 1).entries = some tEngX) ∧
      tEngGo.openHandles 1 1 = [] ∧
      tEngThird.runningOn 1 2 = some tTaskC ∧
      (2 ≤ (List.filter (fun (m : Nat) => decide (tEngThird.time.tick < m + tEngThird.ticksOf 1000000)) (tEngThird.tl 1).faults).length) ∧
      tEngThird.hasTile 1 = true ∧
      tEngGo.runningOn 1 5 = none ∧
      (tEngGo.tl 1).reload.contains 7 = true) ∧
    ((tEngGo.tl 1).reload.contains 5 = false ∧
      tMeshUp.meshEnds 0 = some (0, 1, 0) ∧
      bit (BitVec.toNat tMeshUp.mesh) (0 : Nat) = true ∧
      nget 0 tMeshUp.meshFails 0 < 8 ∧
      tMeshBad.meshEnds 0 = some (0, 1, 0) ∧
      bit (BitVec.toNat tMeshBad.mesh) (0 : Nat) = true ∧
      8 ≤ nget 0 tMeshBad.meshFails 0 ∧
      tMeshDown.meshEnds 0 = some (0, 1, 0) ∧
      tMeshDown.tiles ≤ 8 ∧
      bit (BitVec.toNat tMeshDown.mesh) (0 : Nat) = false ∧
      tMeshDown.ready = true ∧
      tMeshDown.meshOn (0, 1, 0).fst = true) ∧
    (tMeshDown.meshOn (0, 1, 0).snd.fst = true ∧
      (bit (BitVec.toNat tMeshUp.mesh) (0 : Nat) = true ∨ tMeshUp.ready = false ∨ tMeshUp.meshOn ((0 : Nat), (1 : Nat), (0 : Nat)).fst = false ∨ tMeshUp.meshOn ((0 : Nat), (1 : Nat), (0 : Nat)).snd.fst = false) ∧
      tMeshUp.meshEnds 99 = none ∧
      (tMeshUp.meshEnds (99 : Nat) = none ∨ bit (BitVec.toNat tMeshUp.mesh) (99 : Nat) = false)) ∧
    tEngGo.cqTakes 1 tEngX :=
  ⟨by decide +kernel, by decide +kernel, by decide +kernel, by decide +kernel, takes_of (by decide +kernel)⟩

end TestEngine

/-! ## Witnesses: power -/

namespace TestPower

def tPowS (k : Nat) (st : PowSt) (p : PwrSt) : State := tTile k { ready := true, align := .locked, pow := st, pwr := p }
def tRun1 : State := tPowS 1 .run {}
def tDead1 : State := tPowS 1 .off {}
def tWaking1 : State := tPowS 1 .waking {}
def tSleep1 : State := tPowS 1 .drydown {}
def tTwo : State := { tBase with tiles := 2 }
def tLv1 : State := tPowS 1 .run { change := some (2, 1), trims := [(2, -3)] }
def tLv2 : State := tPowS 1 .run { change := some (2, 2) }
def tLv2Bus : State := tPowS 1 .run { change := some (2, 2), bus := [{ rail := 0, mv := 700, why := .level }] }
def tLv3 : State := tPowS 1 .run { change := some (2, 3), level := 2 }
def tTrim (n : Int) (low : Nat) : State := { tPowS 1 .run { trim := n, lowRun := low } with regs := [(regKey pPMT 1 0x040, 0x11)] }
def tTrim0 : State := tTrim 0 3
def tTrimMin : State := tTrim (-12) 3
def tTrimMax : State := tTrim 12 3
def tTrimLim : State := tTrim 12 15
def tTrimOff : State := { tTrim 0 3 with regs := [(regKey pPMT 1 0x040, 0x01)] }
def tBusT (fails : Nat) (why : BusFor) : BusTx := { rail := 0, mv := 700, why := why, fails := fails }
def tBus (st : PowSt) (l : List BusTx) (off7 : Bool) : State := tPowS 1 st { bus := l, off7 := off7, attempt := if st = .waking then 1 else 0 }
def tBusOk : State := tBus .run [tBusT 0 .avs] false
def tBusOff : State := tBus .drydown [tBusT 0 .off] true
def tBusOff2 : State := tBus .drydown [tBusT 0 .off, tBusT 0 .off] true
def tBusFail : State := tBus .run [tBusT 2 .avs] false
def tBusWake : State := tBus .waking [tBusT 2 .wake] false
def tIdleLong : State := tPowS 1 .run { idle := 0x7FFF }
def tPset (st : PowSt) (x : Entry) (l : List Handle) : State :=
  { tCmd 0 x with tile := nput {} tBase.tile 1 { ready := true, pow := st }, fns := [(0, { tCmdFn x with handles := l })] }
def tPx (op : Nat) : Entry := tX 0x50 0x10000 0 op
def tPh : Handle := { seq := 300, cid := 1, opc := 0x50, op := .powerSet 1 1 }
def tPsetNo : State := { tPset .run (tPx 1) [] with tiles := 1 }
def tPwr (st : PowSt) (p : PwrSt) : State := tPowS 1 st p
def tDrying : State := { tPowS 1 .drying { dryB := some 0, dryHandle := some 300 } with fns := [(0, { handles := [tPh] })] }
def tDryLong : State := { tDrying with time := { tick := 6000 } }
def tWakeN : State := tPowS 1 .drydown {}
def tNoWakeN : State := { tBase with regs := [(regKey pPWR 0 0x04C, 0x100)] }
def tL3 : State := { tPowS 0 .drydown {} with link := 3 }
def tL3Awake : State := { tBase with link := 3 }
def tL3Stage : State := { tBase with link := 3, stage := 3 }
def tWk (p : PwrSt) : State := tPowS 1 .waking p
def tWk0 : State := tWk { attempt := 1, lost := 5 }
def tWkGood : State := tWk { attempt := 1, pgood := true }
def tWkDry : State := tWk { attempt := 1, pgood := true, dryHandle := some 300 }
def tWk2 : State := tWk { attempt := 2 }
def tWkAnchor : State := tPowS 0 .waking { attempt := 2 }
def tWkRetry : State := tWk { attempt := 1, retryWait := true }
def tSb (v stage : Nat) : State := { tBase with regs := [(regKey pPWR 0 0x040, BitVec.ofNat 64 v)], stage := stage }
def tSb0 : State := tSb 0 0
def tSb1 : State := tSb 1 1
def tSb3 : State := { tBase with stage := 3 }
def tStop : State := { tPowS 0 .drying { dryB := some 0 } with stage := 2, stopping := true, xogate := true }
def tSlept : State := { tBase with time := { sleeping := true, entryTick := 5 }, stage := 3, link := 3 }
def tHeldTlp : State := { tBase with link := 2, tlpHeld := [.ltr 1] }
def tHeldTlp3 : State := { tHeldTlp with stage := 3 }

theorem witness_TilesFail :
    (tRun1.hasTile 1 = true ∧
      tRun1.ready = true ∧
      tRun1.meshOn 1 = true ∧
      ((tRun1.tl 1).pow = PowSt.run ∨ (tRun1.tl 1).pow = PowSt.doze ∨ (tRun1.tl 1).pow = PowSt.drying ∨ (tRun1.tl 1).pow = PowSt.waking ∧ (tRun1.tl 1).pwr.pgood = true) ∧
      tSleep1.hasTile 1 = true ∧
      tBase.hasTile 0 = true ∧
      (tBase.tl 0).pow ≠ PowSt.off ∧
      ((tBase.tl 0).pow = PowSt.run ∨ (tBase.tl 0).pow = PowSt.doze ∨ (tBase.tl 0).pow = PowSt.drying ∨ (tBase.tl 0).pow = PowSt.waking ∧ (tBase.tl 0).pwr.pgood = true) ∧
      (tSleep1.tl 1).pow = PowSt.drydown ∧
      tWaking1.hasTile 1 = true ∧
      ((tWaking1.tl 1).pow = PowSt.off ∨ (tWaking1.tl 1).pow = PowSt.waking ∧ (tWaking1.tl 1).pwr.pgood = false) ∧
      (1 = 0 ∨ tSleep1.ready = false ∨ tSleep1.meshOn 1 = false)) ∧
    tTwo.hasTile 5 = false :=
  ⟨by decide +kernel, by decide +kernel⟩

theorem witness_LevelsVoltageDoze :
    ((tRun1.fn 0).dstate = 0 ∧
      tRun1.tileOpen 1 = true ∧
      tRun1.accWaits 1 = false ∧
      ((tRun1.tl 1).pow = PowSt.run ∨ (tRun1.tl 1).pow = PowSt.doze) ∧
      (tRun1.tl 1).pwr.change = none ∧
      tRun1.avsFail 1 = false ∧
      (tSleep1.fn 0).dstate = 0 ∧
      tSleep1.accWaits 1 = true ∧
      (tDead1.fn 0).dstate = 0 ∧
      tDead1.tileOpen 1 = false ∧
      tDead1.accWaits 1 = false ∧
      (tLv1.tl 1).pwr.change = some (2, 1)) ∧
    ((tLv2.tl 1).pwr.change = some (2, 2) ∧
      (((tLv2.tl 1).pwr.bus.any fun (b : BusTx) => b.why == BusFor.level) = false) ∧
      tLv2.avsFail 1 = false ∧
      (tLv2Bus.tl 1).pwr.change = some (2, 2) ∧
      (((tLv2Bus.tl 1).pwr.bus.any fun (b : BusTx) => b.why == BusFor.level) = true ∨ tLv2Bus.avsFail 1 = true) ∧
      (tLv3.tl 1).pwr.change = some (2, 3) ∧
      tLv3.avsFail 1 = false ∧
      ((tLv3.tl 1).pow = PowSt.run ∨ (tLv3.tl 1).pow = PowSt.doze) ∧
      ((tTrim0.tl 1).pow = PowSt.run ∨ (tTrim0.tl 1).pow = PowSt.doze) ∧
      bit (tTrim0.pmtCtl 1) 4 = true ∧
      (tTrim0.tl 1).pwr.change = none ∧
      tTrim0.avsFail 1 = false) ∧
    (-12 ≤ (tTrim0.tl 1).pwr.trim ∧
      (tTrim0.tl 1).pwr.trim ≤ 12 ∧
      bits (tTrim0.reg 20520 pPMT 1 76) 0 8 ≤ 60 ∧
      (60 ≤ bits (tTrim0.reg 20520 pPMT 1 76) 8 8 ∨ (tTrim0.tl 1).pwr.trim = -12) ∧
      ((tTrimMin.tl 1).pow = PowSt.run ∨ (tTrimMin.tl 1).pow = PowSt.doze) ∧
      bit (tTrimMin.pmtCtl 1) 4 = true ∧
      (tTrimMin.tl 1).pwr.change = none ∧
      tTrimMin.avsFail 1 = false ∧
      -12 ≤ (tTrimMin.tl 1).pwr.trim ∧
      (tTrimMin.tl 1).pwr.trim ≤ 12 ∧
      bits (tTrimMin.reg 20520 pPMT 1 76) 0 8 ≤ 99 ∧
      (99 ≤ bits (tTrimMin.reg 20520 pPMT 1 76) 8 8 ∨ (tTrimMin.tl 1).pwr.trim = -12)) ∧
    (39 < bits (tTrim0.reg 20520 pPMT 1 76) 0 8 ∧
      (tTrim0.tl 1).pwr.trim < 12 ∧
      bits (tTrim0.reg 20520 pPMT 1 76) 0 8 ≤ 81 ∧
      bits (tTrim0.reg 20520 pPMT 1 76) 8 8 < 81 ∧
      -12 < (tTrim0.tl 1).pwr.trim ∧
      ((tTrimMax.tl 1).pow = PowSt.run ∨ (tTrimMax.tl 1).pow = PowSt.doze) ∧
      bit (tTrimMax.pmtCtl 1) 4 = true ∧
      (tTrimMax.tl 1).pwr.change = none ∧
      tTrimMax.avsFail 1 = false ∧
      -12 ≤ (tTrimMax.tl 1).pwr.trim ∧
      (tTrimMax.tl 1).pwr.trim ≤ 12 ∧
      39 < bits (tTrimMax.reg 20520 pPMT 1 76) 0 8) ∧
    ((tTrimMax.tl 1).pwr.trim = 12 ∧
      (tTrimMax.tl 1).pwr.lowRun < 15 ∧
      ((tTrimLim.tl 1).pow = PowSt.run ∨ (tTrimLim.tl 1).pow = PowSt.doze) ∧
      bit (tTrimLim.pmtCtl 1) 4 = true ∧
      (tTrimLim.tl 1).pwr.change = none ∧
      tTrimLim.avsFail 1 = false ∧
      -12 ≤ (tTrimLim.tl 1).pwr.trim ∧
      (tTrimLim.tl 1).pwr.trim ≤ 12 ∧
      39 < bits (tTrimLim.reg 20520 pPMT 1 76) 0 8 ∧
      (tTrimLim.tl 1).pwr.trim = 12 ∧
      15 ≤ (tTrimLim.tl 1).pwr.lowRun ∧
      ((tTrimOff.tl 1).pow ≠ PowSt.run ∧ (tTrimOff.tl 1).pow ≠ PowSt.doze ∨ bit (tTrimOff.pmtCtl 1) 4 = false ∨ (tTrimOff.tl 1).pwr.change.isSome = true ∨ tTrimOff.avsFail 1 = true)) ∧
    ((tTrim0.tileRuns 1 = true ∧ (tTrim0.tl 1).pwr.change = none ∧ (tTrim0.tl 1).pwr.trim ≠ (tTrim0.tl 1).pwr.storedTrim (tTrim0.tl 1).pwr.level ∧ ∀ (j : Nat), (tTrim0.tl 1).pwr.trimTick = some j → j + tTrim0.ticksOf 600000000 ≤ tTrim0.time.tick) ∧
      (¬(tDead1.tileRuns 1 = true ∧ (tDead1.tl 1).pwr.change = none ∧ (tDead1.tl 1).pwr.trim ≠ (tDead1.tl 1).pwr.storedTrim (tDead1.tl 1).pwr.level ∧ ∀ (j : Nat), (tDead1.tl 1).pwr.trimTick = some j → j + tDead1.ticksOf 600000000 ≤ tDead1.time.tick)) ∧
      (tRun1.tl 1).pwr.bus[0]? = none ∧
      (tBusOk.tl 1).pwr.bus[0]? = some (tBusT 0 BusFor.avs) ∧
      (tBusOk.tl 1).pwr.off7 = false ∧
      (tBusOff2.tl 1).pwr.bus[0]? = some (tBusT 0 BusFor.off) ∧
      (tBusOff2.tl 1).pwr.off7 = true ∧
      ((((tBusOff2.tl 1).pwr.bus.eraseIdx 0).any fun (b : BusTx) => b.why == BusFor.off) = true) ∧
      (tBusOff.tl 1).pwr.bus[0]? = some (tBusT 0 BusFor.off) ∧
      (tBusOff.tl 1).pwr.off7 = true ∧
      ((((tBusOff.tl 1).pwr.bus.eraseIdx 0).any fun (b : BusTx) => b.why == BusFor.off) = false) ∧
      (tBusOff.tl 1).pwr.late = none) ∧
    ((tBusT 0 BusFor.avs).fails < 2 ∧
      (tBusFail.tl 1).pwr.bus[0]? = some (tBusT 2 BusFor.avs) ∧
      2 ≤ (tBusT 2 BusFor.avs).fails ∧
      (tBusT 2 BusFor.avs).why ≠ BusFor.wake ∧
      (tBusFail.tl 1).pwr.off7 = false ∧
      (tBusWake.tl 1).pwr.bus[0]? = some (tBusT 2 BusFor.wake) ∧
      2 ≤ (tBusT 2 BusFor.wake).fails ∧
      (tBusT 2 BusFor.wake).why = BusFor.wake ∧
      tBusWake.attempting 1 = true ∧
      (tBusWake.tl 1).pwr.attempt < 2 ∧
      tIdleLong.hasTile 1 = true ∧
      tIdleLong.dozeOk 1 = true) ∧
    (bits (tIdleLong.pmtDoze 1) 0 16 ≤ (tIdleLong.tl 1).pwr.idle ∧
      (tRun1.hasTile 1 = false ∨ tRun1.dozeOk 1 = false ∨ (tRun1.tl 1).pwr.idle < bits (tRun1.pmtDoze 1) 0 16)) :=
  ⟨by decide +kernel, by decide +kernel, by decide +kernel, by decide +kernel, by decide +kernel, by decide +kernel, by decide +kernel, by decide +kernel⟩

theorem witness_DrydownAndWakes :
    ((tPsetNo.hasTile (bits (tPx 1).target 16 3) = false ∨ (tPx 1).p0 % 4 = 1 ∧ bits (tPx 1).target 16 3 = 0) ∧
      (tPset PowSt.drydown (tPx 1) []).hasTile (bits (tPx 1).target 16 3) = true ∧
      (tPx 1).p0 % 4 = 1 ∧
      bits (tPx 1).target 16 3 ≠ 0 ∧
      (((tPset PowSt.drydown (tPx 1) []).tl (bits (tPx 1).target 16 3)).pow = PowSt.drying ∨ ((tPset PowSt.drydown (tPx 1) []).tl (bits (tPx 1).target 16 3)).pow = PowSt.drydown) ∧
      (tPset PowSt.run (tPx 1) [tPh]).hasTile (bits (tPx 1).target 16 3) = true ∧
      (((tPset PowSt.run (tPx 1) [tPh]).tl (bits (tPx 1).target 16 3)).pow = PowSt.run ∨ ((tPset PowSt.run (tPx 1) [tPh]).tl (bits (tPx 1).target 16 3)).pow = PowSt.doze ∨ ((tPset PowSt.run (tPx 1) [tPh]).tl (bits (tPx 1).target 16 3)).pow = PowSt.waking) ∧
      (tPset PowSt.run (tPx 1) [tPh]).powerPending (bits (tPx 1).target 16 3) = some 300 ∧
      (tPset PowSt.run (tPx 1) []).hasTile (bits (tPx 1).target 16 3) = true ∧
      (tPset PowSt.run (tPx 1) []).powerPending (bits (tPx 1).target 16 3) = none ∧
      (((tPset PowSt.run (tPx 1) []).tl (bits (tPx 1).target 16 3)).pow = PowSt.run ∨ ((tPset PowSt.run (tPx 1) []).tl (bits (tPx 1).target 16 3)).pow = PowSt.doze) ∧
      (tPset PowSt.waking (tPx 1) []).hasTile (bits (tPx 1).target 16 3) = true) ∧
    ((tPset PowSt.waking (tPx 1) []).powerPending (bits (tPx 1).target 16 3) = none ∧
      ((tPset PowSt.waking (tPx 1) []).tl (bits (tPx 1).target 16 3)).pow = PowSt.waking ∧
      (tPset PowSt.waking (tPx 2) [tPh]).hasTile (bits (tPx 2).target 16 3) = true ∧
      (tPx 2).p0 % 4 ≠ 1 ∧
      (tPset PowSt.waking (tPx 2) [tPh]).powerPending (bits (tPx 2).target 16 3) = some 300 ∧
      (tPset PowSt.run (tPx 0) []).hasTile (bits (tPx 0).target 16 3) = true ∧
      (tPx 0).p0 % 4 ≠ 1 ∧
      (tPset PowSt.run (tPx 0) []).powerPending (bits (tPx 0).target 16 3) = none ∧
      (((tPset PowSt.run (tPx 0) []).tl (bits (tPx 0).target 16 3)).pow = PowSt.run ∨ ((tPset PowSt.run (tPx 0) []).tl (bits (tPx 0).target 16 3)).pow = PowSt.doze) ∧
      (tPset PowSt.drydown (tPx 2) []).hasTile (bits (tPx 2).target 16 3) = true ∧
      (tPset PowSt.drydown (tPx 2) []).powerPending (bits (tPx 2).target 16 3) = none ∧
      ((tPset PowSt.drydown (tPx 2) []).tl (bits (tPx 2).target 16 3)).pow = PowSt.drydown) ∧
    (((tPset PowSt.drydown (tPx 2) []).tl (bits (tPx 2).target 16 3)).pwr.off7 = false ∧
      (bits (tPx 2).target 16 3 = 0 ∨ (tPset PowSt.drydown (tPx 2) []).asleep 0 = false) ∧
      (tPset PowSt.waking (tPx 3) []).hasTile (bits (tPx 3).target 16 3) = true ∧
      (tPx 3).p0 % 4 ≠ 1 ∧
      (tPset PowSt.waking (tPx 3) []).powerPending (bits (tPx 3).target 16 3) = none ∧
      ((tPset PowSt.waking (tPx 3) []).tl (bits (tPx 3).target 16 3)).pow = PowSt.waking ∧
      tDrying.hasTile 1 = true ∧
      tDrying.drained 1 = true ∧
      (1 = 0 ∨ tRun1.hasTile 1 = false ∨ tRun1.drained 1 = false) ∧
      (tDryLong.tl 1).pwr.dryB = some 0 ∧
      (tDryLong.tl 1).pow = PowSt.drying ∧
      0 + tDryLong.ticksOf 5000 ≤ tDryLong.time.tick) ∧
    ((tDrying.tl 1).pwr.dryB = some 0 ∧
      ((tDrying.tl 1).pow ≠ PowSt.drying ∨ tDrying.time.tick < 0 + tDrying.ticksOf 5000) ∧
      (tRun1.tl 1).pwr.dryB = none ∧
      tWakeN.hasTile 1 = true ∧
      bit (tWakeN.reg 255 pPWR 0 76) 1 = true ∧
      (tWakeN.tl 1).pow = PowSt.drydown ∧
      (tWakeN.tl 1).pwr.off7 = false ∧
      (1 = 0 ∨ tWakeN.asleep 0 = false) ∧
      (∀ (i : Nat), i < tNoWakeN.tiles → bit (tNoWakeN.reg 255 pPWR 0 76) i = false) ∧
      tL3.link = 3 ∧
      tL3.hasTile 0 = true ∧
      (tL3.tl 0).pow = PowSt.drydown) ∧
    ((tL3.tl 0).pwr.off7 = false ∧
      tL3Awake.link = 3 ∧
      tL3Awake.asleep 0 = false ∧
      tL3Awake.stage ≠ 3 ∧
      tL3Stage.link = 3 ∧
      tL3Stage.asleep 0 = false ∧
      tL3Stage.stage = 3 ∧
      tRun1.link ≠ 3 ∧
      tWk0.attempting 1 = true ∧
      (tWk0.tl 1).pwr.pgood = false ∧
      (tWk0.tl 1).pwr.bus = [] ∧
      tWkGood.attempting 1 = true) ∧
    (tWkGood.hasTile 1 = true ∧
      (tWkGood.tl 1).pwr.pgood = true ∧
      (tWkGood.tl 1).pwr.xoWait = false ∧
      (tWkGood.tl 1).pwr.held = [] ∧
      (1 = 0 ∨ { pending := tWkGood.pending, tiles := tWkGood.tiles, time := tWkGood.time, regs := tWkGood.regs, stored := tWkGood.stored, fns := tWkGood.fns, ports := tWkGood.ports, nodes := tWkGood.nodes, plans := tWkGood.plans, lists := tWkGood.lists, pim := tWkGood.pim, owners := tWkGood.owners, points := tWkGood.points, grants := tWkGood.grants, rules := tWkGood.rules, remote := tWkGood.remote, copies := tWkGood.copies, unseen := tWkGood.unseen, bridge := tWkGood.bridge, chans := tWkGood.chans, nonces := tWkGood.nonces, quar := tWkGood.quar, policy := tWkGood.policy, journal := tWkGood.journal, half0 := tWkGood.half0, half1 := tWkGood.half1, half := tWkGood.half, fw := tWkGood.fw, mgt := tWkGood.mgt, jtag := tWkGood.jtag, pins := tWkGood.pins, boot := tWkGood.boot, chg := tWkGood.chg, tile := tWkGood.tile, mesh := BitVec.ofNat 64 (trainedMesh 1 (2 ^ 56 - 1) (tWkGood.modTile 1 fun (x : Tile) => { offset := x.offset, align := x.align, within := x.within, outside := x.outside, ready := x.ready, pwr := x.pwr, tasks := x.tasks, ctxq := x.ctxq, reload := x.reload, faults := x.faults, rfxTick := x.rfxTick, cuts := x.cuts, scanLast := x.scanLast, scanPeak := x.scanPeak, resetAt := x.resetAt, resetTasks := x.resetTasks : Tile })), meshFails := tWkGood.meshFails, ready := tWkGood.ready, link := tWkGood.link, vfEnable := tWkGood.vfEnable, vfMse := tWkGood.vfMse, numVfs := tWkGood.numVfs, ari := tWkGood.ari, stamp := tWkGood.stamp, stage := tWkGood.stage, lastCancel := tWkGood.lastCancel, stopping := tWkGood.stopping, xogate := tWkGood.xogate, evHeld := tWkGood.evHeld, accepts := tWkGood.accepts, free := tWkGood.free, tlpHeld := tWkGood.tlpHeld, wire := tWkGood.wire : State }.pathTo 0 1 = true) ∧
      tWkDry.attempting 1 = true ∧
      tWkDry.hasTile 1 = true ∧
      (tWkDry.tl 1).pwr.pgood = true ∧
      (tWkDry.tl 1).pwr.xoWait = false ∧
      (tWkDry.tl 1).pwr.held = [] ∧
      (1 = 0 ∨ { pending := tWkDry.pending, tiles := tWkDry.tiles, time := tWkDry.time, regs := tWkDry.regs, stored := tWkDry.stored, fns := tWkDry.fns, ports := tWkDry.ports, nodes := tWkDry.nodes, plans := tWkDry.plans, lists := tWkDry.lists, pim := tWkDry.pim, owners := tWkDry.owners, points := tWkDry.points, grants := tWkDry.grants, rules := tWkDry.rules, remote := tWkDry.remote, copies := tWkDry.copies, unseen := tWkDry.unseen, bridge := tWkDry.bridge, chans := tWkDry.chans, nonces := tWkDry.nonces, quar := tWkDry.quar, policy := tWkDry.policy, journal := tWkDry.journal, half0 := tWkDry.half0, half1 := tWkDry.half1, half := tWkDry.half, fw := tWkDry.fw, mgt := tWkDry.mgt, jtag := tWkDry.jtag, pins := tWkDry.pins, boot := tWkDry.boot, chg := tWkDry.chg, tile := tWkDry.tile, mesh := BitVec.ofNat 64 (trainedMesh 1 (2 ^ 56 - 1) (tWkDry.modTile 1 fun (x : Tile) => { offset := x.offset, align := x.align, within := x.within, outside := x.outside, ready := x.ready, pwr := x.pwr, tasks := x.tasks, ctxq := x.ctxq, reload := x.reload, faults := x.faults, rfxTick := x.rfxTick, cuts := x.cuts, scanLast := x.scanLast, scanPeak := x.scanPeak, resetAt := x.resetAt, resetTasks := x.resetTasks : Tile })), meshFails := tWkDry.meshFails, ready := tWkDry.ready, link := tWkDry.link, vfEnable := tWkDry.vfEnable, vfMse := tWkDry.vfMse, numVfs := tWkDry.numVfs, ari := tWkDry.ari, stamp := tWkDry.stamp, stage := tWkDry.stage, lastCancel := tWkDry.lastCancel, stopping := tWkDry.stopping, xogate := tWkDry.xogate, evHeld := tWkDry.evHeld, accepts := tWkDry.accepts, free := tWkDry.free, tlpHeld := tWkDry.tlpHeld, wire := tWkDry.wire : State }.pathTo 0 1 = true) ∧
      ((1 = 1 ∨ 1 = 2) ∧ (tWk0.tl 1).pwr.pgood = false ∨ 1 = 3 ∧ (tWk0.tl 1).pwr.xoWait = true ∨ 1 = 5 ∧ (tWk0.tl 1).pwr.pgood = true ∧ (tWk0.tl 1).pwr.xoWait = false)) ∧
    ((tWk0.tl 1).pwr.attempt < 2 ∧
      tWk2.attempting 1 = true ∧
      ((2 = 1 ∨ 2 = 2) ∧ (tWk2.tl 1).pwr.pgood = false ∨ 2 = 3 ∧ (tWk2.tl 1).pwr.xoWait = true ∨ 2 = 5 ∧ (tWk2.tl 1).pwr.pgood = true ∧ (tWk2.tl 1).pwr.xoWait = false) ∧
      2 ≤ (tWk2.tl 1).pwr.attempt ∧
      tWkAnchor.attempting 0 = true ∧
      ((2 = 1 ∨ 2 = 2) ∧ (tWkAnchor.tl 0).pwr.pgood = false ∨ 2 = 3 ∧ (tWkAnchor.tl 0).pwr.xoWait = true ∨ 2 = 5 ∧ (tWkAnchor.tl 0).pwr.pgood = true ∧ (tWkAnchor.tl 0).pwr.xoWait = false) ∧
      2 ≤ (tWkAnchor.tl 0).pwr.attempt ∧
      (¬((3 = 1 ∨ 3 = 2) ∧ (tWk0.tl 1).pwr.pgood = false ∨ 3 = 3 ∧ (tWk0.tl 1).pwr.xoWait = true ∨ 3 = 5 ∧ (tWk0.tl 1).pwr.pgood = true ∧ (tWk0.tl 1).pwr.xoWait = false)) ∧
      tRun1.attempting 1 = false ∧
      ((tWkGood.tl 1).pwr.pgood = true ∨ (tWkGood.tl 1).pwr.bus ≠ []) ∧
      ((tWk0.tl 1).pwr.pgood = false ∨ (tWk0.tl 1).pwr.xoWait = true) ∧
      (tWkRetry.tl 1).pow = PowSt.waking) ∧
    ((tWkRetry.tl 1).pwr.retryWait = true ∧
      ((tWk0.tl 1).pow ≠ PowSt.waking ∨ (tWk0.tl 1).pwr.retryWait = false)) ∧
    tPsetNo.runs 0 1 80 (tPx 1) ∧
    tPsetNo.cqTakes 0 (tPx 1) ∧
    (tPset PowSt.drydown (tPx 1) []).runs 0 1 80 (tPx 1) ∧
    (tPset PowSt.drydown (tPx 1) []).cqTakes 0 (tPx 1) ∧
    (tPset PowSt.run (tPx 1) [tPh]).runs 0 1 80 (tPx 1) ∧
    (tPset PowSt.run (tPx 1) [tPh]).cqTakes 0 (tPx 1) ∧
    (tPset PowSt.run (tPx 1) []).runs 0 1 80 (tPx 1) ∧
    (tPset PowSt.run (tPx 1) []).cqTakes 0 (tPx 1) ∧
    (tPset PowSt.run (tPx 1) []).handleRoom 0 ∧
    (tPset PowSt.waking (tPx 1) []).runs 0 1 80 (tPx 1) ∧
    (tPset PowSt.waking (tPx 1) []).cqTakes 0 (tPx 1) ∧
    (tPset PowSt.waking (tPx 1) []).handleRoom 0 ∧
    (tPset PowSt.waking (tPx 2) [tPh]).runs 0 1 80 (tPx 2) ∧
    (tPset PowSt.waking (tPx 2) [tPh]).cqTakes 0 (tPx 2) ∧
    (tPset PowSt.run (tPx 0) []).runs 0 1 80 (tPx 0) ∧
    (tPset PowSt.run (tPx 0) []).cqTakes 0 (tPx 0) ∧
    (tPset PowSt.drydown (tPx 2) []).runs 0 1 80 (tPx 2) ∧
    (tPset PowSt.drydown (tPx 2) []).cqTakes 0 (tPx 2) ∧
    (tPset PowSt.drydown (tPx 2) []).handleRoom 0 ∧
    (tPset PowSt.waking (tPx 3) []).runs 0 1 80 (tPx 3) ∧
    (tPset PowSt.waking (tPx 3) []).cqTakes 0 (tPx 3) ∧
    (tPset PowSt.waking (tPx 3) []).handleRoom 0 :=
  ⟨by decide +kernel, by decide +kernel, by decide +kernel, by decide +kernel, by decide +kernel, by decide +kernel, by decide +kernel, by decide +kernel, runs_of (by decide +kernel), takes_of (by decide +kernel), runs_of (by decide +kernel), takes_of (by decide +kernel), runs_of (by decide +kernel), takes_of (by decide +kernel), runs_of (by decide +kernel), takes_of (by decide +kernel), room_of (by decide +kernel), runs_of (by decide +kernel), takes_of (by decide +kernel), room_of (by decide +kernel), runs_of (by decide +kernel), takes_of (by decide +kernel), runs_of (by decide +kernel), takes_of (by decide +kernel), runs_of (by decide +kernel), takes_of (by decide +kernel), room_of (by decide +kernel), runs_of (by decide +kernel), takes_of (by decide +kernel), room_of (by decide +kernel)⟩

theorem witness_Standby :
    (bit (BitVec.toNat (1 : W32)) (0 : Nat) = true ∧
      bit tSb0.stbyCtl 0 = false ∧
      bit tSb1.stbyCtl 0 = true ∧
      bit (BitVec.toNat (0 : W32)) (0 : Nat) = false ∧
      tSb1.stage ≠ 0 ∧
      tSb1.asleep 0 = false ∧
      (State.reset.ready = false ∨ (State.reset.fn 0).dstate ≠ 0) ∧
      Instr.standbyArm 1 ∈ [Instr.standbyArm 1, Instr.standbyDisarm 1] ∧
      (tStop.stage = 2 ∧ tStop.stopping = true ∧ tStop.drained 0 = true ∧ tStop.allWritten = true) ∧
      (¬(tSb0.stage = 2 ∧ tSb0.stopping = true ∧ tSb0.drained 0 = true ∧ tSb0.allWritten = true)) ∧
      tSb3.link ≠ 0 ∧
      tSb3.stage = 3) ∧
    (tSb3.asleep 0 = false ∧
      tSb0.link ≠ 0 ∧
      (tSb0.stage ≠ 3 ∨ tSb0.asleep 0 = true) ∧
      State.reset.link = 0 ∧
      tHeldTlp.pins.perst = true ∧
      tHeldTlp.boot.dead = false ∧
      tHeldTlp.link ≠ 1 ∧
      tHeldTlp.asleep 0 = false ∧
      tHeldTlp.stage ≠ 3 ∧
      tHeldTlp3.pins.perst = true ∧
      tHeldTlp3.boot.dead = false ∧
      tHeldTlp3.link ≠ 1) ∧
    (tHeldTlp3.asleep 0 = false ∧
      tHeldTlp3.stage = 3 ∧
      (tSb0.pins.perst = false ∨ tSb0.boot.dead = true ∨ tSb0.link = 1 ∨ tSb0.asleep 0 = true) ∧
      tSlept.time.sleeping = true ∧
      (tSlept.tl 0).pow = PowSt.run ∧
      (tSb0.time.sleeping = false ∨ (tSb0.tl 0).pow ≠ PowSt.run)) ∧
    tSb0.mgrOpen ∧
    tSb1.mgrOpen :=
  ⟨by decide +kernel, by decide +kernel, by decide +kernel, open_of (by decide +kernel), open_of (by decide +kernel)⟩

end TestPower

/-! ## Witnesses: firmware download -/

namespace TestFirmware

def tFwCmd (x : Entry) (fw : FwSt) (hs : List Handle) : State := { tFn 0 { tCmdFn x with handles := hs } with fw := fw }
def tXs (cnt p0 p1 : Nat) : Entry := { tX 0x40 0 cnt p0 with p1 := p1 }
def tSess : Session := { gen := 1, stored := true, pkgid := toLe 8 77 ++ toLe 8 0, count := 2, tag := 5, slot := 1, pos := 0 }
def tH (op : LongOp) : Handle := { seq := 300, cid := 1, opc := 0x42, op := op }
def tFwNo : State := tFwCmd (tXs 2 0 77) { flashOk := false } []
def tTrialFw : FwSt := { boot0 := some { gen := 1, slot := 1, trial := true } }
def tFwTr : State := tFwCmd (tXs 2 0 77) tTrialFw []
def tFwBusy : State := tFwCmd (tXs 2 0 77) {} [tH .fwVerify]
def tFwProg : State := tFwCmd (tXs 2 0 77) { prog := some false } []
def tFwClose : State := tFwCmd (tXs 1 1 77) {} []
def tFwOpened : FwSt := { sess0 := some tSess, marked := [0] }
def tFwRecent : FwSt := { sess0 := some tSess, marked := [0], sessTick := some 0 }
def tFwClose1 : State := tFwCmd (tXs 9000 1 77) tFwRecent []
def tFwClose2 : State := tFwCmd (tXs 9000 1 77) tFwOpened []
def tFwSame : State := tFwCmd (tXs 2 0 77) tFwRecent []
def tFwNew1 : State := tFwCmd (tXs 3 0 77) tFwRecent []
def tFwNew2 : State := { tFwCmd (tXs 3 0 77) tFwOpened [] with regs := [(regKey pCRY 0 0x014, 1)] }
def tFwNew3 : State := tFwCmd (tXs 9000 0 77) tFwOpened []
def tFwChunk : State := tFwCmd (tX 0x41 0 0 0) {} []
def tFwVer1 : State := tFwCmd (tX 0x42 0 0 0) {} [tH .fwActivate]
def tFwVer2 : State := tFwCmd (tX 0x42 0 0 0) {} []
def tFwVer3 : State := tFwCmd (tX 0x42 0 0 0) tFwOpened []
def tQ : ChunkReq := { origin := .command 1, index := 1, data := [7#8] }
def tPg (again : Bool) (count : Nat) : State :=
  tFwCmd (tX 0x41 0 0 1) { sess0 := some { tSess with count := count }, prog := some again, queue := [tQ] } []
def tPg0 : State := tPg false 2
def tPg0one : State := tPg false 1
def tPg1 : State := tPg true 2
def tUdp (fw : FwSt) : State := { tBase with
    mgt := { up := true, speed := 2, duplex := true, hops := [(false, 7, 9)] }
    regs := [(regKey pMGT 0 0x00C, 1), (regKey pMGT 0 0x040, 7), (regKey pMGT 0 0x048, 0x010203040506), (regKey pMGT 0 0x050, 7), (regKey pMGT 0 0x054, 32), (regKey pFWU 0 0x06C, 0x1C6C1)]
    fw := fw }
def tUdp0 : State := tUdp {}
def tUdpS : State := tUdp tFwOpened
def tSegs (n : Nat) : List (Nat × List Byte) := (List.range n).map (fun i => (i, [BitVec.ofNat 8 i]))
def tUdpB (n : Nat) (q : List ChunkReq) (prog : Option Bool) : State :=
  tUdp { sess0 := some tSess, bufs := [{ chunk := 1, src := 14, segs := tSegs n }], queue := q, prog := prog }
def tUdpB1 : State := tUdpB 1 [] none
def tUdpB3 : State := tUdpB 3 [] (some false)
def tUdpBq : State := tUdpB 3 [{ origin := .udp 14, index := 1, data := [] }] (some false)
def tUdpFull : State := tUdp { sess0 := some tSess, bufs := (List.range 64).map (fun i => { chunk := i + 5, src := 14, segs := [] }) }
def tDg (kind seg chunk tag n : Nat) : List Byte := toLe 1 kind ++ toLe 1 seg ++ toLe 2 0 ++ toLe 4 chunk ++ toLe 8 tag ++ List.replicate n 0#8
def tSeg : List Byte := tDg 1 3 1 5 1024
def tQry : List Byte := tDg 2 0 0 5 0
def tVer (fw : FwSt) : State := { tFn 0 { (tCmdFn (tX 0 0 0 0)) with handles := [tH .fwVerify], entries := [] } with fw := fw }
def tVer0 : State := tVer tFwOpened
def tVer1 : State := tVer { sess0 := some tSess, marked := [0, 1] }

theorem witness_FirmwareDownload :
    (tFwNo.fw.flashOk = false ∧
      tFwTr.fw.flashOk = true ∧
      tFwTr.fw.onTrial = true ∧
      tFwBusy.fw.flashOk = true ∧
      tFwBusy.fw.onTrial = false ∧
      tFwBusy.fwBusy = some 44 ∧
      tFwProg.fw.flashOk = true ∧
      tFwProg.fw.onTrial = false ∧
      tFwProg.fwBusy = none ∧
      tFwProg.fw.prog.isSome = true ∧
      tFwClose.fw.flashOk = true ∧
      tFwClose.fw.onTrial = false) ∧
    (tFwClose.fwBusy = none ∧
      tFwClose.fw.prog = none ∧
      bit (tXs 1 1 77).p0 0 = true ∧
      tFwClose.fw.session = none ∧
      tFwClose1.fw.flashOk = true ∧
      tFwClose1.fw.onTrial = false ∧
      tFwClose1.fwBusy = none ∧
      tFwClose1.fw.prog = none ∧
      bit (tXs 9000 1 77).p0 0 = true ∧
      tFwClose1.fw.session.isSome = true ∧
      tFwClose1.sessRecent = true ∧
      tFwClose2.fw.flashOk = true) ∧
    (tFwClose2.fw.onTrial = false ∧
      tFwClose2.fwBusy = none ∧
      tFwClose2.fw.prog = none ∧
      tFwClose2.fw.session.isSome = true ∧
      tFwClose2.sessRecent = false ∧
      tFwSame.fw.flashOk = true ∧
      tFwSame.fw.onTrial = false ∧
      tFwSame.fwBusy = none ∧
      tFwSame.fw.prog = none ∧
      bit (tXs 2 0 77).p0 0 = false ∧
      (Option.any (fun (r : Session) => r.pkgid == toLe 8 (tXs 2 0 77).p1 ++ toLe 8 (tXs 2 0 77).p2 && r.count == if (tXs 2 0 77).count < 2 then 2 else min (tXs 2 0 77).count 8192) tFwSame.fw.session = true) ∧
      tFwNew1.fw.flashOk = true) ∧
    (tFwNew1.fw.onTrial = false ∧
      tFwNew1.fwBusy = none ∧
      tFwNew1.fw.prog = none ∧
      bit (tXs 3 0 77).p0 0 = false ∧
      (Option.any (fun (r : Session) => r.pkgid == toLe 8 (tXs 3 0 77).p1 ++ toLe 8 (tXs 3 0 77).p2 && r.count == if (tXs 3 0 77).count < 2 then 2 else min (tXs 3 0 77).count 8192) tFwNew1.fw.session = false) ∧
      tFwNew1.sessRecent = true ∧
      tFwNew2.fw.flashOk = true ∧
      tFwNew2.fw.onTrial = false ∧
      tFwNew2.fwBusy = none ∧
      tFwNew2.fw.prog = none ∧
      (Option.any (fun (r : Session) => r.pkgid == toLe 8 (tXs 3 0 77).p1 ++ toLe 8 (tXs 3 0 77).p2 && r.count == if (tXs 3 0 77).count < 2 then 2 else min (tXs 3 0 77).count 8192) tFwNew2.fw.session = false) ∧
      tFwNew2.sessRecent = false) ∧
    (tFwNew2.rngOk = false ∧
      tFwNew3.fw.flashOk = true ∧
      tFwNew3.fw.onTrial = false ∧
      tFwNew3.fwBusy = none ∧
      tFwNew3.fw.prog = none ∧
      bit (tXs 9000 0 77).p0 0 = false ∧
      (Option.any (fun (r : Session) => r.pkgid == toLe 8 (tXs 9000 0 77).p1 ++ toLe 8 (tXs 9000 0 77).p2 && r.count == if (tXs 9000 0 77).count < 2 then 2 else min (tXs 9000 0 77).count 8192) tFwNew3.fw.session = false) ∧
      tFwNew3.sessRecent = false ∧
      tFwNew3.rngOk = true ∧
      tFwVer1.fwBusy = some 44 ∧
      tFwVer2.fwBusy = none ∧
      tFwVer2.fw.session = none) ∧
    (tFwVer3.fwBusy = none ∧
      tFwVer3.fw.session.isSome = true ∧
      tPg0.fw.prog = some false ∧
      tPg0.fw.queue = [tQ] ∧
      tPg0.fw.session = some tSess ∧
      tPg0.fw.sessWait = [] ∧
      tPg1.fw.prog = some true ∧
      tPg1.fw.queue = [tQ] ∧
      tPg1.fw.session = some tSess ∧
      tPg1.fw.sessWait = [] ∧
      tPg0one.fw.prog = some false ∧
      tPg0one.fw.queue = [tQ]) ∧
    (tPg0one.fw.session = some { gen := tSess.gen, stored := tSess.stored, pkgid := tSess.pkgid, count := 1, tag := tSess.tag, slot := tSess.slot, pos := tSess.pos : Session } ∧
      tPg0one.fw.sessWait = [] ∧
      (tFwVer3.fw.prog = none ∨ tFwVer3.fw.queue = [] ∨ tFwVer3.fw.session = none) ∧
      tBase.udpOn 14 = false ∧
      tUdp0.udpOn 14 = true ∧
      (¬(tSeg.length = 1040 ∧ byteField tSeg 0 1 = 1 ∧ tUdp0.tagOk tSeg = true)) ∧
      tUdpS.udpOn 14 = true ∧
      (tSeg.length = 1040 ∧ byteField tSeg 0 1 = 1 ∧ tUdpS.tagOk tSeg = true) ∧
      (List.find? (fun (x : AsmBuf) => x.chunk == byteField tSeg 4 4) tUdpS.fw.bufs = none) ∧
      tUdpS.fw.bufs.length < 64 ∧
      tUdpFull.udpOn 14 = true ∧
      (tSeg.length = 1040 ∧ byteField tSeg 0 1 = 1 ∧ tUdpFull.tagOk tSeg = true)) ∧
    ((List.find? (fun (x : AsmBuf) => x.chunk == byteField tSeg 4 4) tUdpFull.fw.bufs = none) ∧
      64 ≤ tUdpFull.fw.bufs.length ∧
      tUdpBq.udpOn 14 = true ∧
      (tSeg.length = 1040 ∧ byteField tSeg 0 1 = 1 ∧ tUdpBq.tagOk tSeg = true) ∧
      (List.find? (fun (x : AsmBuf) => x.chunk == byteField tSeg 4 4) tUdpBq.fw.bufs = some { chunk := 1, src := 14, segs := tSegs 3 : AsmBuf }) ∧
      ((tUdpBq.fw.queue.any fun (q : ChunkReq) => q.index == byteField tSeg 4 4 && match q.origin with | ChunkFrom.udp _ => true | _ => false) = true) ∧
      tUdpB1.udpOn 14 = true ∧
      (tSeg.length = 1040 ∧ byteField tSeg 0 1 = 1 ∧ tUdpB1.tagOk tSeg = true) ∧
      (List.find? (fun (x : AsmBuf) => x.chunk == byteField tSeg 4 4) tUdpB1.fw.bufs = some { chunk := 1, src := 14, segs := tSegs 1 : AsmBuf }) ∧
      ((tUdpB1.fw.queue.any fun (q : ChunkReq) => q.index == byteField tSeg 4 4 && match q.origin with | ChunkFrom.udp _ => true | _ => false) = false) ∧
      ((List.filter (fun (x : Nat × List Byte) => x.fst != byteField tSeg 1 1 % 4) { chunk := 1, src := 14, segs := tSegs 1 : AsmBuf }.segs ++ [(byteField tSeg 1 1 % 4, List.drop 16 tSeg)]).length ≠ 4) ∧
      tUdpB3.udpOn 14 = true) ∧
    ((tSeg.length = 1040 ∧ byteField tSeg 0 1 = 1 ∧ tUdpB3.tagOk tSeg = true) ∧
      (List.find? (fun (x : AsmBuf) => x.chunk == byteField tSeg 4 4) tUdpB3.fw.bufs = some { chunk := 1, src := 14, segs := tSegs 3 : AsmBuf }) ∧
      ((tUdpB3.fw.queue.any fun (q : ChunkReq) => q.index == byteField tSeg 4 4 && match q.origin with | ChunkFrom.udp _ => true | _ => false) = false) ∧
      ((List.filter (fun (x : Nat × List Byte) => x.fst != byteField tSeg 1 1 % 4) { chunk := 1, src := 14, segs := tSegs 3 : AsmBuf }.segs ++ [(byteField tSeg 1 1 % 4, List.drop 16 tSeg)]).length = 4) ∧
      tUdpB3.fw.prog.isSome = true ∧
      tUdpS.fw.session = some tSess ∧
      tQry.length = 16 ∧
      byteField tQry 0 1 = 2 ∧
      tUdpS.tagOk tQry = true ∧
      tUdpS.nextHop (14 % 2 == 1) (14 / 2) = some 7 ∧
      ((tUdpS.mgt.hops.any fun (h : Bool × Nat × Nat) => h.fst == (14 % 2 == 1) && h.snd.fst == 7) = true) ∧
      (tSeg.length ≠ 16 ∨ byteField tSeg 0 1 ≠ 2 ∨ tUdpS.tagOk tSeg = false)) ∧
    (tUdp0.fw.session = none ∧
      ((tUdpB1.fw.prog.isSome && Option.any (fun (q : ChunkReq) => q.index == 1 && match q.origin with | ChunkFrom.udp _ => true | _ => false) tUdpB1.fw.queue.head?) = false) ∧
      ((tUdpBq.fw.prog.isSome && Option.any (fun (q : ChunkReq) => q.index == 1 && match q.origin with | ChunkFrom.udp _ => true | _ => false) tUdpBq.fw.queue.head?) = true) ∧
      ((tVer0.mgrOp fun (x : LongOp) => x == LongOp.fwVerify) = some (tH LongOp.fwVerify)) ∧
      tVer0.handle? 0 (tH LongOp.fwVerify).seq = some (tH LongOp.fwVerify) ∧
      tVer0.fw.session = some tSess ∧
      tVer0.fw.queue = [] ∧
      (List.filter (fun (i : Nat) => !tVer0.fw.marked.contains i) (List.range tSess.count) ≠ []) ∧
      ((tVer1.mgrOp fun (x : LongOp) => x == LongOp.fwVerify) = some (tH LongOp.fwVerify)) ∧
      tVer1.handle? 0 (tH LongOp.fwVerify).seq = some (tH LongOp.fwVerify) ∧
      tVer1.fw.session = some tSess ∧
      tVer1.fw.queue = []) ∧
    ((List.filter (fun (i : Nat) => !tVer1.fw.marked.contains i) (List.range tSess.count) = []) ∧
      (manifestGood (tVer1.fw.manifest tSess.slot) tSess.count tVer1).fst = false ∧
      ((tBase.mgrOp fun (x : LongOp) => x == LongOp.fwVerify) = none ∨ tBase.fw.session = none)) ∧
    tFwNo.cqTakes 0 (tXs 2 0 77) ∧
    tFwNo.runs 0 1 64 (tXs 2 0 77) ∧
    tFwTr.cqTakes 0 (tXs 2 0 77) ∧
    tFwTr.runs 0 1 64 (tXs 2 0 77) ∧
    tFwBusy.cqTakes 0 (tXs 2 0 77) ∧
    tFwBusy.runs 0 1 64 (tXs 2 0 77) ∧
    tFwProg.cqTakes 0 (tXs 2 0 77) ∧
    tFwProg.runs 0 1 64 (tXs 2 0 77) ∧
    tFwClose.cqTakes 0 (tXs 1 1 77) ∧
    tFwClose.runs 0 1 64 (tXs 1 1 77) ∧
    tFwClose1.cqTakes 0 (tXs 9000 1 77) ∧
    tFwClose1.runs 0 1 64 (tXs 9000 1 77) ∧
    tFwClose2.cqTakes 0 (tXs 9000 1 77) ∧
    tFwClose2.runs 0 1 64 (tXs 9000 1 77) ∧
    tFwSame.cqTakes 0 (tXs 2 0 77) ∧
    tFwSame.runs 0 1 64 (tXs 2 0 77) ∧
    tFwNew1.cqTakes 0 (tXs 3 0 77) ∧
    tFwNew1.runs 0 1 64 (tXs 3 0 77) ∧
    tFwNew2.cqTakes 0 (tXs 3 0 77) ∧
    tFwNew2.runs 0 1 64 (tXs 3 0 77) ∧
    tFwNew3.cqTakes 0 (tXs 9000 0 77) ∧
    tFwNew3.runs 0 1 64 (tXs 9000 0 77) ∧
    tFwChunk.cqTakes 0 (tX 65 0 0 0) ∧
    tFwChunk.runs 0 1 65 (tX 65 0 0 0) ∧
    tFwVer1.cqTakes 0 (tX 66 0 0 0) ∧
    tFwVer1.runs 0 1 66 (tX 66 0 0 0) ∧
    tFwVer2.cqTakes 0 (tX 66 0 0 0) ∧
    tFwVer2.runs 0 1 66 (tX 66 0 0 0) ∧
    tFwVer3.cqTakes 0 (tX 66 0 0 0) ∧
    tFwVer3.runs 0 1 66 (tX 66 0 0 0) ∧
    tFwVer3.handleRoom 0 :=
  ⟨by decide +kernel, by decide +kernel, by decide +kernel, by decide +kernel, by decide +kernel, by decide +kernel, by decide +kernel, by decide +kernel, by decide +kernel, by decide +kernel, by decide +kernel, takes_of (by decide +kernel), runs_of (by decide +kernel), takes_of (by decide +kernel), runs_of (by decide +kernel), takes_of (by decide +kernel), runs_of (by decide +kernel), takes_of (by decide +kernel), runs_of (by decide +kernel), takes_of (by decide +kernel), runs_of (by decide +kernel), takes_of (by decide +kernel), runs_of (by decide +kernel), takes_of (by decide +kernel), runs_of (by decide +kernel), takes_of (by decide +kernel), runs_of (by decide +kernel), takes_of (by decide +kernel), runs_of (by decide +kernel), takes_of (by decide +kernel), runs_of (by decide +kernel), takes_of (by decide +kernel), runs_of (by decide +kernel), takes_of (by decide +kernel), runs_of (by decide +kernel), takes_of (by decide +kernel), runs_of (by decide +kernel), takes_of (by decide +kernel), runs_of (by decide +kernel), takes_of (by decide +kernel), runs_of (by decide +kernel), room_of (by decide +kernel)⟩

end TestFirmware

/-! ## Witnesses: activation and settings -/

namespace TestActivation

def tFwCmd' (x : Entry) (fw : FwSt) (hs : List Handle) : State := { tFn 0 { tCmdFn x with handles := hs } with fw := fw }
def tXa : Entry := tX 0x43 0 0 0
def tHa (op : LongOp) : Handle := { seq := 300, cid := 1, opc := 0x43, op := op }
def tBoot : BootRec := { gen := 3, slot := 1, prevSlot := 2, prevBank := 1, prevFwver := 9, fwver := 11 }
def tFwV : FwSt := { verified := true, boot0 := some tBoot }
def tAct0 : State := { tFwCmd' tXa {} [] with pins := { tBase.pins with straps := 8 } }
def tAct1 : State := tFwCmd' tXa {} []
def tAct2 : State := tFwCmd' tXa { tFwV with boot0 := some { tBoot with trial := true } } []
def tAct3 : State := tFwCmd' tXa tFwV []
def tAct4 : State := tFwCmd' tXa tFwV [tHa (.powerSet 1 1)]
def tAct5 : State := tFwCmd' tXa { tFwV with rollWait := some 2 } []
def tStaged : State := tFwCmd' (tX 0 0 0 0) { tFwV with act := some { seq := 300, stage := 3 } } [tHa .fwActivate]
def tStaged1 : State := tFwCmd' (tX 0 0 0 0) { tFwV with act := some { seq := 300, stage := 1 } } [tHa .fwActivate]
def tSwR (rollback : Bool) : Switching := { rollback := rollback, seq := none, tile := 1, todo := [2, 0] }
def tSw : State := tFw { tFwV with switch := some (tSwR false) }
def tSwB : State := tFw { tFwV with switch := some (tSwR true) }
def tSwReset : State := { tSw with tile := nput {} tBase.tile 1 { ready := false, resetAt := some 0 } }
def tBt (x : BootRec) : State := tFw { boot0 := some x, adminFetch := some 0 }
def tTr : BootRec := { tBoot with trial := true, qh := 7, hourMax := 3, acHours := 2, autoConf := true }
def tTrLast : BootRec := { tTr with qh := 11 }
def tTrNo : BootRec := { tTr with qh := 1 }
def tBtLast : State := tBt tTrLast
def tBtNo : State := tBt tTrNo
def tBtAuto : State := tBt tTr
def tBtOver : State := tBt tBoot
def tRoll : State := tFw { tFwV with rollWait := some 2 }
def tXc (p0 : Nat) : Entry := tX 0x44 0 0 p0
def tCf0 : State := { tFwCmd' (tXc 0) {} [] with pins := { tBase.pins with straps := 8 } }
def tCf1 : State := tFwCmd' (tXc 0) {} []
def tCf2 : State := tFwCmd' (tXc 1) { boot0 := some tTr } []
def tCf3 : State := tFwCmd' (tXc 0) { boot0 := some tTr, rollWait := some 2 } []
def tXs8 : Entry := tX 0x48 0 0 0
def tHs (op : LongOp) : Handle := { seq := 300, cid := 1, opc := 0x48, op := op }
def tSv0 : State := { tFwCmd' tXs8 {} [] with pins := { tBase.pins with straps := 8 } }
def tSv1 : State := tFwCmd' tXs8 {} [tHs .settingsSave]
def tSv2 : State := tFwCmd' tXs8 {} []
def tCopy : SetCopy := { format := 1, gen := 4, body := none }
def tSvS (copy : Nat) (forAct : Bool) (seq : Option Nat) : SaveSt := { bank := 1, content := tCopy, copy := copy, seq := seq, forAct := forAct }
def tCp0 : State := tFw { save := some (tSvS 0 false (some 300)) }
def tCp1 : State := tFw { save := some (tSvS 1 false none) }
def tCp2 : State := { tFwCmd' (tX 0 0 0 0) { save := some (tSvS 2 false (some 300)) } [tHs .settingsSave] with pending := [] }
def tCp2a : State := tFw { save := some (tSvS 2 true none), act := some { seq := 300, stage := 2 } }
def tGw : State := tFw { saveWait := some 300, genTick := [(0, some 0)] }
def tGwOk : State := { tFw { saveWait := some 300, copies := [(1, some tCopy)] } with pending := [] }
def tGa : State := tFw { act := some { seq := 300, stage := 1 } }
def tGaNo : State := tFw { act := some { seq := 300, stage := 1 }, genTick := [(1, some 0)] }
def tJr : State := { tBase with journal := [(1, 2, 3, []), (2, 3, 4, [])], half1 := { base := some { seq := 4, nodes := [], quar := [] } }, half := 1 }
def tJr0 : State := { tBase with journal := [(1, 2, 3, [])] }
def tMotion (ok : Bool) : State := tFn 5 { st := .active, bme := true, share := { motion := ok } }
def tMotionY : State := tMotion true
def tMotionN : State := tMotion false

theorem witness_ActivationAndTrial :
    (tAct0.golden = true ∧
      tAct1.golden = false ∧
      tAct1.fw.verified = false ∧
      tAct2.golden = false ∧
      tAct2.fw.verified = true ∧
      tAct2.fw.onTrial = true ∧
      tAct3.golden = false ∧
      tAct3.fw.verified = true ∧
      tAct3.fw.onTrial = false ∧
      tAct3.actFails 254 255 none = some (132, 0) ∧
      tAct3.actFails 255 127 none = some (133, 0) ∧
      tAct4.golden = false) ∧
    (tAct4.fw.verified = true ∧
      tAct4.fw.onTrial = false ∧
      tAct4.actFails 255 255 none = none ∧
      ((tAct4.mgrOp fun (o : LongOp) => o == LongOp.fwActivate || match o with | LongOp.powerSet _ _ => true | _ => false) = some (tHa (LongOp.powerSet 1 1))) ∧
      tAct5.golden = false ∧
      tAct5.fw.verified = true ∧
      tAct5.fw.onTrial = false ∧
      tAct5.actFails 255 255 none = none ∧
      ((tAct5.mgrOp fun (o : LongOp) => o == LongOp.fwActivate || match o with | LongOp.powerSet _ _ => true | _ => false) = none) ∧
      (tAct5.fw.rollWait.isSome = true ∨ tAct5.fw.switch.isSome = true) ∧
      tAct3.actFails 255 255 none = none ∧
      ((tAct3.mgrOp fun (o : LongOp) => o == LongOp.fwActivate || match o with | LongOp.powerSet _ _ => true | _ => false) = none)) ∧
    (tAct3.fw.rollWait = none ∧
      tAct3.fw.switch = none ∧
      tStaged.fw.act = some { seq := 300, stage := 3 : Activation } ∧
      { seq := 300, stage := 3 : Activation }.stage = 3 ∧
      tStaged.actFails 254 255 none = some (132, 0) ∧
      tStaged.fw.queue = [] ∧
      tStaged.handle? 0 { seq := 300, stage := 3 : Activation }.seq = some (tHa LongOp.fwActivate) ∧
      (tHa LongOp.fwActivate).done = false ∧
      tStaged.actFails 255 255 none = none ∧
      (∀ (a : Activation), tStaged1.fw.act = some a → a.stage ≠ 3) ∧
      tSw.fw.switch = some (tSwR false) ∧
      (tSwR false).tile = 1) ∧
    ((tSw.tl 1).resetAt = none ∧
      (tSwR false).rollback = false ∧
      tSw.golden = false ∧
      tSw.fw.rollWait = none ∧
      tSwB.fw.switch = some (tSwR true) ∧
      (tSwR true).tile = 1 ∧
      (tSwR true).rollback = true ∧
      (∀ (w : Switching), tSw.fw.switch = some w → w.tile ≠ 2) ∧
      (tSwReset.tl 1).resetAt.isSome = true ∧
      tBtLast.fw.winner = some tTrLast ∧
      tTrLast.trial = true ∧
      tBtLast.golden = false) ∧
    (tBtLast.ready = true ∧
      tTrLast.qh + 1 = 4 * tTrLast.hourMax ∧
      tBtNo.fw.winner = some tTrNo ∧
      tTrNo.trial = true ∧
      tBtNo.golden = false ∧
      tBtNo.ready = true ∧
      tTrNo.qh + 1 ≠ 4 * tTrNo.hourMax ∧
      (¬(tTrNo.autoConf = true ∧ 4 * tTrNo.acHours ≤ tTrNo.qh + 1 ∧ tBtNo.fw.trialBad = false ∧ tBtNo.fw.rollWait = none ∧ ∃ (j : Nat), tBtNo.fw.adminFetch = some j ∧ tBtNo.time.tick ≤ j + tBtNo.ticksOf 900000000)) ∧
      tBtAuto.fw.winner = some tTr ∧
      tTr.trial = true ∧
      tBtAuto.golden = false ∧
      tBtAuto.ready = true) ∧
    (tTr.qh + 1 ≠ 4 * tTr.hourMax ∧
      tTr.autoConf = true ∧
      4 * tTr.acHours ≤ tTr.qh + 1 ∧
      tBtAuto.fw.trialBad = false ∧
      tBtAuto.fw.rollWait = none ∧
      tBtAuto.fw.adminFetch = some 0 ∧
      tBtAuto.time.tick ≤ 0 + tBtAuto.ticksOf 900000000 ∧
      tBtOver.fw.winner = some tBoot ∧
      (tBoot.trial = false ∨ tBtOver.golden = true ∨ tBtOver.ready = false) ∧
      tRoll.fw.winner = some tBoot ∧
      tRoll.fw.rollWait = some 2 ∧
      tRoll.holdupFails 255 none = none) ∧
    (tRoll.fw.switch = none ∧
      tBase.fw.winner = none ∧
      (tBase.fw.rollWait = none ∨ (tBase.holdupFails 255 none).isSome = true ∨ tBase.fw.switch.isSome = true) ∧
      tCf0.golden = true ∧
      tCf1.golden = false ∧
      tCf1.fw.onTrial = false ∧
      tCf2.golden = false ∧
      tCf2.fw.onTrial = true ∧
      bit (tXc 1).p0 0 = true ∧
      tCf3.golden = false ∧
      tCf3.fw.onTrial = true ∧
      bit (tXc 0).p0 0 = false) ∧
    tAct0.runs 0 1 67 tXa ∧
    tAct0.cqTakes 0 tXa ∧
    tAct1.runs 0 1 67 tXa ∧
    tAct1.cqTakes 0 tXa ∧
    tAct2.runs 0 1 67 tXa ∧
    tAct2.cqTakes 0 tXa ∧
    tAct3.runs 0 1 67 tXa ∧
    tAct3.cqTakes 0 tXa ∧
    tAct4.runs 0 1 67 tXa ∧
    tAct4.cqTakes 0 tXa ∧
    tAct5.runs 0 1 67 tXa ∧
    tAct5.cqTakes 0 tXa ∧
    tAct3.handleRoom 0 ∧
    tCf0.runs 0 1 68 (tXc 0) ∧
    tCf0.cqTakes 0 (tXc 0) ∧
    tCf1.runs 0 1 68 (tXc 0) ∧
    tCf1.cqTakes 0 (tXc 0) ∧
    tCf2.runs 0 1 68 (tXc 1) ∧
    tCf2.cqTakes 0 (tXc 1) ∧
    tCf3.runs 0 1 68 (tXc 0) ∧
    tCf3.cqTakes 0 (tXc 0) :=
  ⟨by decide +kernel, by decide +kernel, by decide +kernel, by decide +kernel, by decide +kernel, by decide +kernel, by decide +kernel, runs_of (by decide +kernel), takes_of (by decide +kernel), runs_of (by decide +kernel), takes_of (by decide +kernel), runs_of (by decide +kernel), takes_of (by decide +kernel), runs_of (by decide +kernel), takes_of (by decide +kernel), runs_of (by decide +kernel), takes_of (by decide +kernel), runs_of (by decide +kernel), takes_of (by decide +kernel), room_of (by decide +kernel), runs_of (by decide +kernel), takes_of (by decide +kernel), runs_of (by decide +kernel), takes_of (by decide +kernel), runs_of (by decide +kernel), takes_of (by decide +kernel), runs_of (by decide +kernel), takes_of (by decide +kernel)⟩

theorem witness_SettingsAndTables :
    (tSv0.golden = true ∧
      tSv1.golden = false ∧
      ((tSv1.mgrOp fun (x : LongOp) => x == LongOp.settingsSave) = some (tHs LongOp.settingsSave)) ∧
      tSv2.golden = false ∧
      ((tSv2.mgrOp fun (x : LongOp) => x == LongOp.settingsSave) = none) ∧
      tCp0.fw.save = some (tSvS 0 false (some 300)) ∧
      (tSvS 0 false (some 300)).copy < 2 ∧
      tCp1.fw.save = some (tSvS 1 false none) ∧
      (tSvS 1 false none).copy < 2 ∧
      tCp2.fw.save = some (tSvS 2 false (some 300)) ∧
      (tSvS 2 false (some 300)).copy = 2 ∧
      (tSvS 2 false (some 300)).forAct = false) ∧
    (tCp2.fw.act = none ∧
      tCp2.fw.saveWait = none ∧
      tCp2a.fw.save = some (tSvS 2 true none) ∧
      (tSvS 2 true none).copy = 2 ∧
      (tSvS 2 true none).forAct = true ∧
      tCp2a.fw.act = some { seq := 300, stage := 2 : Activation } ∧
      tBase.fw.save = none ∧
      tGwOk.fw.save = none ∧
      tGwOk.fw.act = none ∧
      tGwOk.fw.saveWait = some 300 ∧
      tGwOk.bankFree tGwOk.fw.setBank = true ∧
      (Option.all (fun (x : Switching) => x.rollback) tGwOk.fw.switch = true)) ∧
    (tGw.fw.save = none ∧
      tGw.fw.act = none ∧
      tGw.fw.saveWait = some 300 ∧
      (tGw.bankFree tGw.fw.setBank = false ∨ Option.all (fun (x : Switching) => x.rollback) tGw.fw.switch = false) ∧
      tGa.fw.save = none ∧
      tGa.fw.act = some { seq := 300, stage := 1 : Activation } ∧
      { seq := 300, stage := 1 : Activation }.stage = 1 ∧
      tGa.bankFree (1 - tGa.fw.setBank) = true ∧
      tGaNo.fw.save = none ∧
      tGaNo.fw.act = some { seq := 300, stage := 1 : Activation } ∧
      tGaNo.bankFree (1 - tGaNo.fw.setBank) = false ∧
      (tBase.fw.save.isSome = true ∨ tBase.fw.act = none ∧ tBase.fw.saveWait = none)) ∧
    ((tCp0.fw.save.isSome = true ∨ tCp0.fw.act = none ∧ tCp0.fw.saveWait = none) ∧
      tBase.journal = [] ∧
      tJr.journal = [(1, 2, 3, []), (2, 3, 4, [])] ∧
      (tJr.ntHalf tJr.half).base = some { seq := 4, nodes := [], quar := [] : NtBase } ∧
      tJr.half < 2 ∧
      tJr0.journal = [(1, 2, 3, [])] ∧
      (tJr0.ntHalf tJr0.half).base = none ∧
      tMotionY.pagesOpen 5 = true ∧
      (tMotionY.fn 5).share.motion = true ∧
      tMotionN.pagesOpen 5 = true ∧
      (tMotionN.fn 5).share.motion = false ∧
      (0 = 0 ∨ tBase.pagesOpen 0 = false)) ∧
    ((List.filter (fun (x : Nat × Node) => x.snd.waitNonce) tBase.nodes = []) ∧
      tBase.fw.rngWait = []) ∧
    tSv0.runs 0 1 72 tXs8 ∧
    tSv0.cqTakes 0 tXs8 ∧
    tSv1.runs 0 1 72 tXs8 ∧
    tSv1.cqTakes 0 tXs8 ∧
    tSv2.runs 0 1 72 tXs8 ∧
    tSv2.cqTakes 0 tXs8 ∧
    tSv2.handleRoom 0 :=
  ⟨by decide +kernel, by decide +kernel, by decide +kernel, by decide +kernel, by decide +kernel, runs_of (by decide +kernel), takes_of (by decide +kernel), runs_of (by decide +kernel), takes_of (by decide +kernel), runs_of (by decide +kernel), takes_of (by decide +kernel), room_of (by decide +kernel)⟩

end TestActivation

/-! ## Witnesses: resets -/

namespace TestReset

def tPo (st : PowSt) (reset : Option Nat) (hd : List HeldAcc) : State :=
  tTile 1 { ready := reset.isNone, align := .locked, pow := st, resetAt := reset, pwr := { held := hd } }
def tPinsLow : State := { tBase with ready := false, pins := { perst := false, supply := true } }
def tPinsLowN : State := { tBase with ready := false, pins := { perst := false, supply := false } }
def tPinsNo : State := { tBase with ready := false, pins := { perst := true, supply := false } }
def tD3 : State := { tFn 0 { dstate := 3 } with link := 1 }
def tBooting : State := { State.reset with boot := { running := true } }
def tRn : State := tPo .run none []
def tDz : State := tPo .doze none []
def tDry : State := tPo .drying none []
def tSl : State := tPo .drydown none []
def tOff : State := tPo .off none []
def tRs : State := tPo .run (some 0) []
def tRsHeld : State := tPo .run (some 0) [regAcc pTIL 1 0x00C 4]
def tPrt (st : PowSt) (reset : Option Nat) : State := { tPo st reset [] with ports := [(16, { hop := .up, quarPort := true })], regs := [(regKey pTPT 16 0x050, 0x123)] }
def tPrtUp : State := tPrt .run none
def tPrtSl : State := tPrt .drydown none
def tPrtRs : State := tPrt .run (some 0)
def tFwPend : State := { tFn 0 { handles := [{ seq := 300, cid := 1, opc := 0x42, op := .fwVerify }] } with link := 1 }

theorem witness_PackageReset :
    ((Instr.powerOn = Instr.powerOn ∨ Instr.powerOn = Instr.supplyDrop ∨ Instr.powerOn = Instr.perstAssert ∧ tBase.pins.perst = true) ∧
      (Instr.supplyDrop = Instr.powerOn ∨ Instr.supplyDrop = Instr.supplyDrop ∨ Instr.supplyDrop = Instr.perstAssert ∧ tBase.pins.perst = true) ∧
      (Instr.perstAssert = Instr.powerOn ∨ Instr.perstAssert = Instr.supplyDrop ∨ Instr.perstAssert = Instr.perstAssert ∧ tBase.pins.perst = true) ∧
      (Instr.perstAssert = Instr.powerOn ∨ Instr.perstAssert = Instr.supplyDrop ∨ Instr.perstAssert = Instr.perstAssert ∧ tPinsNo.pins.perst = true) ∧
      tPinsLow.pins.perst = false ∧
      tPinsLow.pins.supply = true ∧
      tPinsLowN.pins.perst = false ∧
      tPinsLowN.pins.supply = false ∧
      tBase.pins.perst = true ∧
      tPinsNo.pins.perst = true ∧
      tPinsNo.pins.supply = false ∧
      tBase.pins.supply = true) ∧
    (tBase.powered = true ∧
      (tBase.fn 0).dstate = 0 ∧
      tPinsNo.powered = false ∧
      (tPinsNo.powered = false ∨ (tPinsNo.fn 0).dstate ≠ 0) ∧
      (tD3.powered = false ∨ (tD3.fn 0).dstate ≠ 0) ∧
      tBooting.ready = false ∧
      tBooting.boot.running = true ∧
      tBooting.boot.dead = false ∧
      (tBase.ready = true ∨ tBase.boot.running = false ∨ tBase.boot.dead = true)) :=
  ⟨by decide +kernel, by decide +kernel⟩

theorem witness_TilePortBlockResets :
    ((tRn.tl 1).resetAt = none ∧
      (tRs.tl 1).resetAt.isSome = true ∧
      (tRs.tl 1).pwr.held = [] ∧
      (tRsHeld.tl 1).resetAt.isSome = true ∧
      tRn.hasTile 1 = true ∧
      ((tRn.tl 1).pow = PowSt.run ∨ (tRn.tl 1).pow = PowSt.doze ∨ (tRn.tl 1).pow = PowSt.drying) ∧
      tDz.hasTile 1 = true ∧
      ((tDz.tl 1).pow = PowSt.run ∨ (tDz.tl 1).pow = PowSt.doze ∨ (tDz.tl 1).pow = PowSt.drying) ∧
      tDry.hasTile 1 = true ∧
      ((tDry.tl 1).pow = PowSt.run ∨ (tDry.tl 1).pow = PowSt.doze ∨ (tDry.tl 1).pow = PowSt.drying) ∧
      tSl.hasTile 1 = true ∧
      tSl.asleep 1 = true) ∧
    (tOff.hasTile 1 = true ∧
      (tOff.tl 1).pow = PowSt.off ∧
      tBase.hasTile 0 = true ∧
      ((tBase.tl 0).pow = PowSt.run ∨ (tBase.tl 0).pow = PowSt.doze ∨ (tBase.tl 0).pow = PowSt.drying) ∧
      tRn.hasTile 8 = false ∧
      tPrtUp.hasPort 16 = true ∧
      tPrtUp.tileOpen (16 / 16) = true ∧
      (tPrtUp.tl (16 / 16)).resetAt = none ∧
      tPrtSl.hasPort 16 = true ∧
      tPrtSl.asleep (16 / 16) = true ∧
      (tPrtUp.hasPort 128 = false ∨ tPrtUp.asleep (128 / 16) = false ∧ (tPrtUp.tileOpen (128 / 16) = false ∨ (tPrtUp.tl (128 / 16)).resetAt.isSome = true)) ∧
      (tPrtRs.hasPort 16 = false ∨ tPrtRs.asleep (16 / 16) = false ∧ (tPrtRs.tileOpen (16 / 16) = false ∨ (tPrtRs.tl (16 / 16)).resetAt.isSome = true))) ∧
    (blockPage pPIM = true ∧
      tRn.hasPage pPIM 1 = true ∧
      pPIM ≠ pFWU ∧
      pPIM ≠ pADM ∧
      (tRn.accWaits 1 = false ∧ tRn.tileOpen 1 = true) ∧
      pageTile pPIM 1 = some 1 ∧
      tSl.accWaits 1 = true ∧
      tRs.accWaits 1 = true ∧
      tOff.accWaits 1 = false ∧
      tOff.tileOpen 1 = false ∧
      (blockPage pPIM = false ∨ tRn.hasPage pPIM 9 = false) ∧
      (∀ (u : Nat), pageTile pPIM 9 = some u → tRn.accWaits u = false)) ∧
    (tRn.fwBusy = none ∧
      tRn.fw.switch = none ∧
      (tFwPend.fwBusy ≠ none ∨ tFwPend.fw.switch ≠ none)) ∧
    tRn.mgrOpen ∧
    tDz.mgrOpen ∧
    tDry.mgrOpen ∧
    tSl.mgrOpen ∧
    tOff.mgrOpen ∧
    tBase.mgrOpen ∧
    tPrtUp.mgrOpen ∧
    tPrtSl.mgrOpen ∧
    tPrtRs.mgrOpen ∧
    tRs.mgrOpen ∧
    tFwPend.mgrOpen :=
  ⟨by decide +kernel, by decide +kernel, by decide +kernel, by decide +kernel, open_of (by decide +kernel), open_of (by decide +kernel), open_of (by decide +kernel), open_of (by decide +kernel), open_of (by decide +kernel), open_of (by decide +kernel), open_of (by decide +kernel), open_of (by decide +kernel), open_of (by decide +kernel), open_of (by decide +kernel), open_of (by decide +kernel)⟩

end TestReset

/-! ## Witnesses: register accesses -/

namespace TestAccess

def tAcc : State :=
  { tBase with
    fns := [(0, { st := .active, bme := true }), (5, { st := .active, bme := true })], vfEnable := true, vfMse := true, numVfs := 512
    ports := [(16, { hop := .up })] }
def tEr : State := { tAcc with regs := [(regKey pPIM 1 0x014, 0x1F), (regKey pPIM 1 0x018, 0)] }
def tSleepA : State := { tAcc with tile := nput {} tAcc.tile 1 { ready := true, align := .locked, pow := .drydown } }
def tDozeA : State := { tAcc with tile := nput {} tAcc.tile 1 { ready := true, align := .locked, pow := .doze } }
def tRstA : State := { tAcc with tile := nput {} tAcc.tile 1 { ready := false, resetAt := some 0 } }
def tOffA : State := { tAcc with tile := nput {} tAcc.tile 1 { pow := .off } }
def tNotReady : State := { tAcc with ready := false }
def tD3A : State := { tAcc with fns := [(0, { dstate := 3 })] }
def aPIM : Nat := pageAddr pPIM 1 0
def aTSK : Nat := pageAddr pTSK 1 0
def aTIL : Nat := pageAddr pTIL 1 0
def aTPT : Nat := pageAddr pTPT 16 0
def tSnap : State := { tAcc with fns := [(0, { st := .active, bme := true, snap0 := some (0x1000 + 0x7C, 9), snap2 := some (0x800004, 8), ptSnap := some 77 }), (5, { st := .active, bme := true, tnhSnap := some 78, snap0 := some (0x4C, 3) })] }
def aTIM : Nat := 0x1000
def aADM : Nat := pageAddr pADM 0 0
def tPlanR : State := { tAcc with plans := [(16, { swaps := 0x123456789, movesOpt := 3, movesForced := 5 })], nodes := [(nodeKey 16 7, { misses := 4, recovered := 3 })], regs := [(regKey pTPT 16 0x90, 7), (regKey pTSK 1 0x48, 3), (regKey pTSK 1 (waitOff 3), 88)] }
def tFnR : State := { tAcc with fns := [(0, { st := .active, bme := true, eqovf := [(2, 5), (3, 6)], fast := { entries := 5 }, norm := { entries := 6 } }), (5, { st := .active, bme := true, eqovf := [(2, 5), (3, 6)], fast := { entries := 5 }, norm := { entries := 6 }, image := { skipIn := 3, skipOut := 4, lost := 5 } })] }
def P5 (ty off : Nat) : Nat := pageAddr ty 5 off
def tPbaSnap : State := { tAcc with fns := [(0, { bme := true, snap0 := some (0xF09004, 5) })] }

theorem witness_RegisterAccesses :
    (tAcc.mapped pTSK 9 = false ∧
      aligned (aPIM + 4) 4 = true ∧
      (∀ (k : Nat), accTile 0 0 aPIM = some k → tAcc.asleep k = false) ∧
      hasBar 5 2 = false ∧
      hasBar 0 0 = true ∧
      (tD3A.answers (0 : Nat) = (0 : Nat) ∨ tD3A.waitsFor (0 : Nat) (0 : Nat) aPIM = none ∧ (tD3A.answers (0 : Nat) ≠ (2 : Nat) ∨ tD3A.placeOpen (0 : Nat) (0 : Nat) aPIM = false ∨ tD3A.deadTile (accTile (0 : Nat) (0 : Nat) aPIM) = true ∨ tilAtOnce (0 : Nat) aPIM tD3A = true ∧ (aPIM % (4096 : Nat) = (12 : Nat) → bit (BitVec.toNat (0 : W64)) (2 : Nat) = false))) ∧
      (tNotReady.answers (0 : Nat) = (0 : Nat) ∨ tNotReady.waitsFor (0 : Nat) (0 : Nat) aPIM = none ∧ (tNotReady.answers (0 : Nat) ≠ (2 : Nat) ∨ tNotReady.placeOpen (0 : Nat) (0 : Nat) aPIM = false ∨ tNotReady.deadTile (accTile (0 : Nat) (0 : Nat) aPIM) = true ∨ tilAtOnce (0 : Nat) aPIM tNotReady = true ∧ (aPIM % (4096 : Nat) = (12 : Nat) → bit (BitVec.toNat (0 : W64)) (2 : Nat) = false))) ∧
      (tOffA.answers (0 : Nat) = (0 : Nat) ∨ tOffA.waitsFor (0 : Nat) (0 : Nat) aPIM = none ∧ (tOffA.answers (0 : Nat) ≠ (2 : Nat) ∨ tOffA.placeOpen (0 : Nat) (0 : Nat) aPIM = false ∨ tOffA.deadTile (accTile (0 : Nat) (0 : Nat) aPIM) = true ∨ tilAtOnce (0 : Nat) aPIM tOffA = true ∧ (aPIM % (4096 : Nat) = (12 : Nat) → bit (BitVec.toNat (0 : W64)) (2 : Nat) = false))) ∧
      (tRstA.answers (0 : Nat) = (0 : Nat) ∨ tRstA.waitsFor (0 : Nat) (0 : Nat) (aTIL + (12 : Nat)) = none ∧ (tRstA.answers (0 : Nat) ≠ (2 : Nat) ∨ tRstA.placeOpen (0 : Nat) (0 : Nat) (aTIL + (12 : Nat)) = false ∨ tRstA.deadTile (accTile (0 : Nat) (0 : Nat) (aTIL + (12 : Nat))) = true ∨ tilAtOnce (0 : Nat) (aTIL + (12 : Nat)) tRstA = true ∧ ((aTIL + (12 : Nat)) % (4096 : Nat) = (12 : Nat) → bit (BitVec.toNat (3 : W64)) (2 : Nat) = false))) ∧
      tSleepA.answers 0 ≠ 0 ∧
      tSleepA.waitsFor 0 0 (aPIM + 64) = some 1 ∧
      resetAbsorbed (0 : Nat) (aPIM + (64 : Nat)) (4 : Nat) (BitVec.toNat (3 : W64)) false tSleepA = false) ∧
    (tRstA.answers 0 ≠ 0 ∧
      tRstA.waitsFor 0 0 (aTPT + 12) = some 1 ∧
      resetAbsorbed (0 : Nat) (aTPT + (12 : Nat)) (4 : Nat) (BitVec.toNat (4 : W64)) false tRstA = true ∧
      aligned 8388612 8 = false ∧
      named pPIM 64 = true ∧
      place 0 (aPIM + 64) = Loc.page pPIM 1 64 ∧
      tilAtOnce 0 (aPIM + 64) tAcc = false ∧
      (true = true ∨ aligned (aPIM + 64) 4 = false) ∧
      named pPIM 96 = false ∧
      place 0 (aPIM + 96) = Loc.page pPIM 1 96 ∧
      tilAtOnce 0 (aPIM + 96) tAcc = false ∧
      (true = true ∨ aligned (aPIM + 96) 4 = false)) ∧
    ((aPIM + 96) % 4 = 0 ∧
      (pTSK = pTSK ∨ pTSK = pATZ) ∧
      ((tDozeA.tl (if pTSK = pTSK then 1 else 1 / 16)).pow = PowSt.doze) ∧
      place 0 (aTSK + 64) = Loc.page pTSK 1 64 ∧
      tilAtOnce 0 (aTSK + 64) tDozeA = false ∧
      (true = true ∨ aligned (aTSK + 64) 4 = true) ∧
      (false = true ∨ aligned (aTSK + 64) 4 = true) ∧
      place 0 (aPIM + 20) = Loc.page pPIM 1 20 ∧
      tilAtOnce 0 (aPIM + 20) tEr = false ∧
      (aPIM + 20) % 4 = 0 ∧
      0 = pageFn pPIM 1 ∧
      tEr.mapped pPIM 1 = true) ∧
    (place 0 (aPIM + 24) = Loc.page pPIM 1 24 ∧
      tilAtOnce 0 (aPIM + 24) tEr = false ∧
      aPIM + 24 = pageAddr pPIM 1 24 ∧
      place 0 (pageAddr pMGT 0 12) = Loc.page pMGT 0 12 ∧
      tilAtOnce 0 (pageAddr pMGT 0 12) tAcc = false ∧
      pageAddr pMGT 0 12 = pageAddr pMGT 0 12 ∧
      0 = pageFn pMGT 0 ∧
      tAcc.mapped pMGT 0 = true ∧
      (pMGT = pMGT ∨ pMGT = pATZ) ∧
      place 0 (pageAddr pATZ 16 12) = Loc.page pATZ 16 12 ∧
      tilAtOnce 0 (pageAddr pATZ 16 12) tAcc = false ∧
      pageAddr pATZ 16 12 = pageAddr pATZ 16 12) ∧
    (0 = pageFn pATZ 16 ∧
      tAcc.mapped pATZ 16 = true ∧
      (pATZ = pMGT ∨ pATZ = pATZ) ∧
      pPIM ≠ pMGT ∧
      pPIM ≠ pATZ ∧
      bit (tEr.reg 1 pPIM 1 12) 1 = false ∧
      place 0 (aPIM + 12) = Loc.page pPIM 1 12 ∧
      tilAtOnce 0 (aPIM + 12) tEr = false ∧
      aPIM + 12 = pageAddr pPIM 1 12 ∧
      place 0 (pageAddr pBRG 1 12) = Loc.page pBRG 1 12 ∧
      tilAtOnce 0 (pageAddr pBRG 1 12) tAcc = false ∧
      pageAddr pBRG 1 12 = pageAddr pBRG 1 12) ∧
    (0 = pageFn pBRG 1 ∧
      tAcc.mapped pBRG 1 = true ∧
      (pBRG = pBRG ∨ pBRG = pBMV ∨ pBRG = pADM) ∧
      pPIM ≠ pBRG ∧
      pPIM ≠ pBMV ∧
      pPIM ≠ pADM ∧
      bit (tEr.reg 1 pPIM 1 12) 0 = true) ∧
    tAcc.serves 0 2 8388612 ∧
    tAcc.serves 0 0 (aPIM + 64) ∧
    tAcc.serves 0 0 (aPIM + 96) ∧
    tDozeA.serves 0 0 (aTSK + 64) ∧
    tEr.serves 0 0 (aPIM + 20) ∧
    tEr.serves 0 0 (aPIM + 24) ∧
    tAcc.serves 0 0 (pageAddr pMGT 0 12) ∧
    tAcc.serves 0 0 (pageAddr pATZ 16 12) ∧
    tEr.serves 0 0 (aPIM + 12) ∧
    tAcc.serves 0 0 (pageAddr pBRG 1 12) ∧
    (∀ (ty inst off : Nat), place 0 aPIM = Loc.page ty inst off → ty ≠ pTSK ∧ ty ≠ pATZ) :=
  ⟨by decide +kernel, by decide +kernel, by decide +kernel, by decide +kernel, by decide +kernel, by decide +kernel, serves_of (by decide +kernel), serves_of (by decide +kernel), serves_of (by decide +kernel), serves_of (by decide +kernel), serves_of (by decide +kernel), serves_of (by decide +kernel), serves_of (by decide +kernel), serves_of (by decide +kernel), serves_of (by decide +kernel), serves_of (by decide +kernel), fun ty inst off h => by
    have e : place 0 aPIM = Loc.page pPIM 1 0 := (by decide +kernel)
    rw [e] at h; cases h; decide⟩

theorem witness_ConfigurationWrites :
    (tAcc.reach 5 = true ∧
      (3 = 0 ∨ 3 = 3) ∧
      2 ≤ 2 ∧
      tAcc.reach 0 = true ∧
      4 < 5 ∧
      tAcc.reach 600 = false ∧
      tBase.vfEnable = false ∧
      tAcc.vfEnable = true) :=
  by decide +kernel

theorem witness_RegisterReads :
    (hasBar 5 2 = false ∧
      hasBar 0 0 = true ∧
      (tD3A.answers 0 = 0 ∨ aligned aPIM 4 = false) ∧
      hasBar 0 2 = true ∧
      (tAcc.answers 0 = 0 ∨ aligned 8388610 4 = false) ∧
      tSleepA.answers 0 ≠ 0 ∧
      aligned aPIM 4 = true ∧
      tSleepA.waitsFor 0 0 aPIM = some 1 ∧
      tNotReady.answers 0 ≠ 0 ∧
      tNotReady.waitsFor 0 0 aPIM = none ∧
      (tNotReady.answers 0 = 1 ∨ tNotReady.placeOpen 0 0 aPIM = false ∨ tNotReady.deadTile (accTile 0 0 aPIM) = true) ∧
      tOffA.answers 0 ≠ 0) ∧
    (tOffA.waitsFor 0 0 aPIM = none ∧
      (tOffA.answers 0 = 1 ∨ tOffA.placeOpen 0 0 aPIM = false ∨ tOffA.deadTile (accTile 0 0 aPIM) = true) ∧
      wide pTIM 120 = true ∧
      wide pTIM 128 = true ∧
      4224 % 8 = 0 ∧
      wide pTNH 80 = true ∧
      124 % 8 = 4 ∧
      wide pTIM (124 - 4) = true ∧
      wide pTIM 124 = false ∧
      (tSnap.fn 0).snap0 = some (4220, 9) ∧
      wide pPIM 72 = false ∧
      (¬(72 % 8 = 4 ∧ wide pPIM (72 - 4) = true))) ∧
    ((aPIM + 72) % 8 = 0 ∧
      wide pBWV 80 = false ∧
      (¬(80 % 8 = 4 ∧ wide pBWV (80 - 4) = true)) ∧
      15728640 % 4 = 0 ∧
      place 0 15728640 = Loc.hole ∧
      15761424 % 4 = 0 ∧
      place 0 15761424 = Loc.msix 16 ∧
      15765504 % 4 = 0 ∧
      place 0 15765504 = Loc.pba 0 ∧
      15765504 % 8 = 0 ∧
      15765508 % 4 = 0 ∧
      place 0 15765508 = Loc.pba 4) ∧
    ((tPbaSnap.fn 0).snap0 = some (15765508, 5) ∧
      (tAcc.fn 0).snap0 = none ∧
      8388608 % 8 = 0 ∧
      8388612 % 8 = 4 ∧
      (tSnap.fn 0).snap2 = some (8388612, 8) ∧
      (tAcc.fn 0).snap2 = none ∧
      (8 = 4 ∨ 8 = 8) ∧
      (4 = 4 ∨ 4 = 8) ∧
      (8 = 4 ∨ 8 = 8 ∧ pageAddr pSEQ 16 104 % 8 = 0) ∧
      (pDBL = pDBL ∨ pDBL = pADM) ∧
      1 < 7 ∧
      596 = 592 + 4 * 1) ∧
    (pADM = pDBL ∨ pADM = pADM) ∧
    tSnap.reaches 0 4216 pTIM 0 120 ∧
    tSnap.reaches 0 4224 pTIM 0 128 ∧
    tSnap.reaches 5 80 pTNH 5 80 ∧
    tSnap.reaches 0 4220 pTIM 0 124 ∧
    tAcc.reaches 0 4220 pTIM 0 124 ∧
    tSnap.reaches 0 (aPIM + 72) pPIM 1 72 ∧
    tSnap.reaches 5 (P5 pBWV 80) pBWV 5 80 ∧
    tAcc.serves 0 0 15728640 ∧
    tAcc.serves 0 0 15761424 ∧
    tAcc.serves 0 0 15765504 ∧
    tPbaSnap.serves 0 0 15765508 ∧
    tAcc.serves 0 0 15765508 ∧
    tSnap.serves 0 2 8388608 ∧
    tSnap.serves 0 2 8388612 ∧
    tAcc.serves 0 2 8388612 ∧
    tAcc.serves 0 0 4216 ∧
    tAcc.serves 5 0 72 ∧
    tPlanR.reaches 0 (aTSK + 80) pTSK 1 80 ∧
    tPlanR.reaches 0 (aTPT + 152) pTPT 16 152 ∧
    tPlanR.reaches 0 (pageAddr pSEQ 16 104) pSEQ 16 104 ∧
    tPlanR.reaches 0 (pageAddr pATZ 16 88) pATZ 16 88 ∧
    tFnR.reaches 5 (P5 pTNH 152) pTNH 5 152 ∧
    tFnR.reaches 5 (P5 pTNH 156) pTNH 5 156 ∧
    tFnR.reaches 5 (P5 pDBL 596) pDBL 5 596 ∧
    tFnR.reaches 0 (aADM + 596) pADM 0 596 ∧
    tFnR.reaches 5 (P5 pFIB 128) pFIB 5 128 ∧
    tFnR.reaches 5 (P5 pNIB 88) pNIB 5 88 :=
  ⟨by decide +kernel, by decide +kernel, by decide +kernel, by decide +kernel, by decide +kernel, reaches_of (by decide +kernel), reaches_of (by decide +kernel), reaches_of (by decide +kernel), reaches_of (by decide +kernel), reaches_of (by decide +kernel), reaches_of (by decide +kernel), reaches_of (by decide +kernel), serves_of (by decide +kernel), serves_of (by decide +kernel), serves_of (by decide +kernel), serves_of (by decide +kernel), serves_of (by decide +kernel), serves_of (by decide +kernel), serves_of (by decide +kernel), serves_of (by decide +kernel), serves_of (by decide +kernel), serves_of (by decide +kernel), reaches_of (by decide +kernel), reaches_of (by decide +kernel), reaches_of (by decide +kernel), reaches_of (by decide +kernel), reaches_of (by decide +kernel), reaches_of (by decide +kernel), reaches_of (by decide +kernel), reaches_of (by decide +kernel), reaches_of (by decide +kernel), reaches_of (by decide +kernel)⟩

end TestAccess

/-! ## Witnesses: the stated rules -/

namespace TestStated

def tLocked : State := tTime { tick := 5, locked := true }
def tSwapE (es : List AEntry) : State := { tPlan { fixed := some 0, idleSt := .ready, idle := { planid := 3, entries := es } } with fns := [(1, { st := .active })] }
def tSwap1 : State := tSwapE [tEntry]
def tSwap0 : State := tSwapE []
def tPinsLow : State := { tBase with ready := false, pins := { perst := false, supply := true } }
def tStore : State := { State.reset with pins := { perst := false, supply := true }, fw := { copies := [(0, some { format := 1, gen := 4, body := some [(regKey pTIM 0 0x040, 0xC1)] })] } }
def tStore1 : State := { tStore with fw := { copies := [(0, some { format := 0, gen := 4, body := some [(regKey pTIM 0 0x040, 0xC1)] })] } }
def tWake : State := { tBase with time := { sleeping := true, entryTick := 5, tick := 5 }, stage := 3, link := 3 }
def tWrap : State := { tBase with time := { tick := 2 ^ 64 - 1 } }
def tModeW : State := { tBase with time := { modeW := 2 } }
def tPtp : State :=
  { tBase with
    time := { mode := 1, modeW := 1, sync := true, plant := 9, rate := 4, foreign := [7] }
    mgt := { up := true, speed := 2, duplex := true }
    regs := [(regKey pMGT 0 0x00C, 1), (regKey pMGT 0 0x040, 7)] }
def tReq (att : Nat) : MReq := { op := 1, node := 5, words := [], mseq := 4, purpose := .poll, attempt := att }
def tMg (att : Nat) : State := { tPort 3 { hop := .up, blockLock := true, sigdet := true, mreqs := [tReq att] } [(5, { st := .admitted, bound := true, depth := 1, resumed := true })] with plans := [(3, { run := { entries := [tEntry], planid := 7 } })] }
def tMg0 : State := tMg 0
def tMg1 : State := tMg 1
def tPlan2 (id : Nat) (st : IdleSt) (es : List AEntry) : State := { tPlan { run := { planid := id, entries := es }, idleSt := st, idle := { planid := 9 } } with fns := [(1, { st := .active })] }
def tPl1 : State := tPlan2 0xFF .compiling [tEntry]
def tPl2 : State := tPlan2 0 .compiling [tEntry]
def tPl3 : State := tPlan2 0 .compiling []
def tPl4 : State := { tPlan { run := { planid := 7 }, fixed := some 0, idle := { planid := 8 } } with pending := [] }
def tXk : Entry := { tX 0x41 0 0 1 with reading := true }
def tCk (fw : FwSt) (x : Entry) : State := { tFn 0 (tCmdFn x) with fw := fw }
def tSs : Session := { gen := 1, stored := true, pkgid := [], count := 9, tag := 5, slot := 1, pos := 0 }
def tCk0 : State := tCk {} tXk
def tCk1 : State := tCk { sess0 := some tSs } tXk
def tCkq : ChunkReq := { origin := .command 1, index := 1, data := [] }
def tCk2 (again : Bool) : State := tCk { sess0 := some tSs, queue := [tCkq], prog := some again } tXk
def tCk2f : State := tCk2 false
def tCk2t : State := tCk2 true
def tCkS : State := tCk {} (tX 0x41 0 0 1)

theorem witness_TickConfigurationLocks :
    (tBase.time.locked = false ∧
      tLocked.time.locked = true ∧
      (tSwap1.plan 3).fixed = some tSwap1.time.tick ∧
      (tSwap1.plan 3).idle.entries ≠ [] ∧
      (tSwap0.plan 3).fixed = some tSwap0.time.tick ∧
      (tSwap0.plan 3).idle.entries = [] ∧
      (Instr.powerOn = Instr.powerOn ∨ Instr.powerOn = Instr.supplyDrop ∨ Instr.powerOn = Instr.perstAssert ∧ tLocked.pins.perst = true) ∧
      (Instr.supplyDrop = Instr.powerOn ∨ Instr.supplyDrop = Instr.supplyDrop ∨ Instr.supplyDrop = Instr.perstAssert ∧ tLocked.pins.perst = true) ∧
      (Instr.perstAssert = Instr.powerOn ∨ Instr.perstAssert = Instr.supplyDrop ∨ Instr.perstAssert = Instr.perstAssert ∧ tLocked.pins.perst = true) ∧
      tLocked.powered = true ∧
      tLocked.ready = true ∧
      (tLocked.fn 0).dstate = 0) ∧
    tBase.mgrOpen ∧
    tLocked.mgrOpen :=
  ⟨by decide +kernel, open_of (by decide +kernel), open_of (by decide +kernel)⟩

theorem witness_StoredTickConfiguration :
    (tStore.pins.perst = false ∧
      tStore.pins.supply = true ∧
      tStore.stored = [] ∧
      tStore.time = State.reset.time ∧
      tStore1.pins.perst = false ∧
      tStore1.pins.supply = true ∧
      tStore1.stored = [] ∧
      tStore1.time = State.reset.time) :=
  by decide +kernel

theorem witness_TickCannotBeWritten :
    (tBase.ready = true ∧
      tBase.clockRuns = true ∧
      tBase.timecfgDue = false ∧
      tWrap.ready = true ∧
      tWrap.clockRuns = true ∧
      tWrap.timecfgDue = false ∧
      tWake.ready = true ∧
      tWake.time.sleeping = true ∧
      (tWake.tl 0).pow = PowSt.run) :=
  by decide +kernel

theorem witness_PlantTimeModes :
    (bits (BitVec.toNat (2 : W32)) (0 : Nat) (2 : Nat) ≤ (2 : Nat) ∧
      bits (BitVec.toNat (0 : W32)) (0 : Nat) (2 : Nat) ≤ (2 : Nat) ∧
      tModeW.clockRuns = true ∧
      (Instr.powerOn = Instr.powerOn ∨ Instr.powerOn = Instr.supplyDrop ∨ Instr.powerOn = Instr.perstAssert ∧ tLocked.pins.perst = true) ∧
      (Instr.supplyDrop = Instr.powerOn ∨ Instr.supplyDrop = Instr.supplyDrop ∨ Instr.supplyDrop = Instr.perstAssert ∧ tLocked.pins.perst = true) ∧
      (Instr.perstAssert = Instr.powerOn ∨ Instr.perstAssert = Instr.supplyDrop ∨ Instr.perstAssert = Instr.perstAssert ∧ tLocked.pins.perst = true) ∧
      tLocked.powered = true ∧
      tLocked.ready = true ∧
      (tLocked.fn 0).dstate = 0) ∧
    tBase.mgrOpen :=
  ⟨by decide +kernel, open_of (by decide +kernel)⟩

theorem witness_MasterLossGivesHoldover :
    (tPtp.ready = true ∧
      tPtp.time.mode = 1 ∧
      tPtp.ptpOn = true ∧
      tPtp.time.master = none ∧
      tPtp.time.foreign.contains (BitVec.toNat (7 : BitVec (80 : Nat))) = true ∧
      BitVec.toNat (5 : BitVec (128 : Nat)) % (2 : Nat) ^ (16 : Nat) < (255 : Nat)) :=
  by decide +kernel

theorem witness_ManagementAnswersFail :
    (tMg0.hopUp 3 = true ∧
      (List.find? (fun (x : MReq) => x.mseq == 4) (tMg0.port 3).mreqs = some (tReq 0)) ∧
      (tReq 0).attempt = 0 ∧
      (hNode (tHead 5 2 4).bytes = (tReq 0).node ∧ hClass (tHead 5 2 4).bytes = 2 ∧ hXid (tHead 5 2 4).bytes % 256 = 4 ∧ hLen (tHead 5 2 4).bytes ≤ answerLen (tReq 0).op (tReq 0).words - 1 ∧ bodyOk (tHead 5 2 4).bytes [] = false) ∧
      RxBlock.isHeader (2, 0) = false ∧
      tMg1.hopUp 3 = true ∧
      (List.find? (fun (x : MReq) => x.mseq == 4) (tMg1.port 3).mreqs = some (tReq 1)) ∧
      (tReq 1).attempt ≠ 0 ∧
      (tMg1.node 3 (tReq 1).node).leaves = true ∧
      (tMg1.node 3 (tReq 1).node).run + 1 < bits (tMg1.treecfg 3) 8 8 ∧
      (tMg1.node 3 (tReq 1).node).win + 1 < bits (tMg1.misswin 3) 0 8 ∧
      (tHead 6 2 4).isHeader = true) ∧
    (hOk (tHead 6 2 4).bytes = true ∧
      (hNode (tHead 6 2 4).bytes ≠ (tReq 0).node ∨ hXid (tHead 6 2 4).bytes % 256 ≠ 4) ∧
      (tHead 5 2 5).isHeader = true ∧
      hOk (tHead 5 2 5).bytes = true ∧
      (hNode (tHead 5 2 5).bytes ≠ (tReq 0).node ∨ hXid (tHead 5 2 5).bytes % 256 ≠ 4)) :=
  ⟨by decide +kernel, by decide +kernel⟩

theorem witness_PlanidsFollow :
    ((tPl1.plan 3).run.planid ≤ 255 ∧
      (tPl1.plan 3).idleSt = IdleSt.compiling ∧
      (tPl2.plan 3).run.planid ≤ 255 ∧
      (tPl2.plan 3).idleSt = IdleSt.compiling ∧
      (tPl3.plan 3).run.planid ≤ 255 ∧
      (tPl3.plan 3).idleSt = IdleSt.compiling ∧
      (tPl4.plan 3).run.planid ≤ 255 ∧
      (tPl4.plan 3).fixed = some tPl4.time.tick) :=
  by decide +kernel

theorem witness_FirmwareChunkCommand :
    (tCkS.dmaOk 0 = true ∧
      (List.filter (fun (x : Entry) => x.id == tXk.id) (tCk0.fn 0).entries = [tXk]) ∧
      tXk.ended = false ∧
      tXk.opc = 65 ∧
      tXk.reading = true ∧
      tCk0.fw.queue = [] ∧
      tCk0.fw.prog = none ∧
      ((tCk0.mgrOp fun (o : LongOp) => o == LongOp.fwVerify || o == LongOp.fwActivate) = none) ∧
      tCk0.chunkCheck { origin := ChunkFrom.command tXk.id, index := tXk.p0, data := [] : ChunkReq } = some (130, 0, false) ∧
      (List.filter (fun (x : Entry) => x.id == tXk.id) (tCk1.fn 0).entries = [tXk]) ∧
      tCk1.fw.queue = [] ∧
      tCk1.fw.prog = none) ∧
    (((tCk1.mgrOp fun (o : LongOp) => o == LongOp.fwVerify || o == LongOp.fwActivate) = none) ∧
      tCk1.chunkCheck { origin := ChunkFrom.command tXk.id, index := tXk.p0, data := [] : ChunkReq } = none ∧
      (List.filter (fun (x : Entry) => x.id == tXk.id) (tCk2f.fn 0).entries = [tXk]) ∧
      tCkq.origin = ChunkFrom.command tXk.id ∧
      tCk2f.fw.queue = [tCkq] ∧
      tCk2f.fw.session = some tSs ∧
      tCk2f.fw.prog = some false ∧
      tCk2f.fw.sessWait = [] ∧
      (List.filter (fun (x : Entry) => x.id == tXk.id) (tCk2t.fn 0).entries = [tXk]) ∧
      tCk2t.fw.queue = [tCkq] ∧
      tCk2t.fw.session = some tSs ∧
      tCk2t.fw.prog = some true) ∧
    tCk2t.fw.sessWait = [] ∧
    tCkS.runs 0 1 65 (tX 65 0 0 1) ∧
    tCk0.cqTakes 0 tXk ∧
    tCk1.cqTakes 0 tXk ∧
    tCk2f.cqTakes 0 tXk ∧
    tCk2t.cqTakes 0 tXk :=
  ⟨by decide +kernel, by decide +kernel, by decide +kernel, runs_of (by decide +kernel), takes_of (by decide +kernel), takes_of (by decide +kernel), takes_of (by decide +kernel), takes_of (by decide +kernel)⟩

end TestStated

/-! ## Witnesses under what an opaque constant answers

The hash and signature functions are opaque constants of Config.lean, so no closed proof says that a signature is good:
this witness takes as premises that the functions answer so for the package of `tGood`. -/

/-- The first chunk of a package of one manifest chunk and one image chunk (R479): FORMAT 1, PARTS 4, key slot 0. -/
def tChunk0 : List Byte :=
  toLe 2 1 ++ toLe 2 1 ++ toLe 2 1 ++ toLe 2 0 ++ toLe 4 100 ++ toLe 4 5 ++ toLe 8 0 ++ [4#8, 0#8, 0#8]
/-- Slot A holds that package, both chunks marked, and FW_VERIFY is pending. -/
def tGood : State := TestFirmware.tVer { sess0 := some TestFirmware.tSess, marked := [0, 1], chunks := [(8192, tChunk0)] }

theorem witness_FirmwareDownload_good
    (hk : Config.sha384 (((tGood.fw.manifest 1).drop 32).take 96) = Config.fuseKey 0)
    (hv : manSigned (tGood.fw.manifest 1) = true)
    (hi : Config.sha256 (tGood.fw.chunk 1 1) = manHash (tGood.fw.manifest 1) 0) :
    (manifestGood (tGood.fw.manifest 1) 2 tGood).1 = true ∧ tGood.fw.fusedSvn ≤ manSvn (tGood.fw.manifest 1) ∧
    tGood.fw.badChunks 1 = [] ∧ tGood.fw.session = some TestFirmware.tSess ∧ tGood.fw.queue = [] ∧
    tGood.mgrOp (· == .fwVerify) = some (TestFirmware.tH .fwVerify) := by
  have hf : (manFields (tGood.fw.manifest 1) 2 && tGood.partOk (manParts (tGood.fw.manifest 1)) &&
    !bit tGood.fw.revoked (manKey (tGood.fw.manifest 1))) = true := by decide +kernel
  have h0 : manKey (tGood.fw.manifest 1) = 0 := by decide +kernel
  have h1 : manImage (tGood.fw.manifest 1) = 1 := by decide +kernel
  have h2 : manChunks (tGood.fw.manifest 1) = 1 := by decide +kernel
  refine ⟨?_, by decide +kernel, ?_, by decide +kernel, by decide +kernel, by decide +kernel⟩
  · unfold manifestGood
    dsimp only
    rw [hf, h0, hk]
    simp [hv]
  · unfold FwSt.badChunks
    simp [h1, h2, hi, List.range, List.range.loop]

/-! ## Ill-formed commands: one for each check of WellFormed.lean -/

theorem test_ill_fn : wellFormed (.nop 513 0) = false ∧ wellFormed (.nop 512 0) = true := by decide
theorem test_ill_tenant : wellFormed (.tnhPttickRead 0 8) = false ∧ wellFormed (.tnhPttickRead 512 8) = true := by decide
theorem test_ill_tile : wellFormed (.tileReset 8) = false ∧ wellFormed (.tileReset 7) = true := by decide
theorem test_ill_port : wellFormed (.portReset 128) = false ∧ wellFormed (.portReset 127) = true := by decide
theorem test_ill_node : wellFormed (.challengeTimeout 0 4096) = false ∧ wellFormed (.challengeTimeout 0 4095) = true := by decide
theorem test_ill_point : wellFormed (.pimScrub (2 ^ 23) 0 true) = false ∧ wellFormed (.pimScrub (2 ^ 23 - 1) 0 true) = true := by decide
theorem test_ill_queue :
    wellFormed (.sqTailDoorbell 0 1 0) = false ∧ wellFormed (.sqTailDoorbell 1 8 0) = false ∧ wellFormed (.sqTailDoorbell 1 7 0) = true := by
  decide
theorem test_ill_ring :
    wellFormed (.ringEnable 1 4 0 0x80000000) = false ∧ wellFormed (.ringEnable 1 3 1 0x80000000) = false ∧
    wellFormed (.ringEnable 1 2 0 0) = false ∧ wellFormed (.ringDisable 1 2 0 0x80000000) = false ∧
    wellFormed (.ringEnable 1 2 1 0x80000000) = true := by decide
theorem test_ill_eq : wellFormed (.eqHeadDoorbell 1 2 0) = false ∧ wellFormed (.waitingEventRelease 1 2) = false := by decide
theorem test_ill_engine : wellFormed (.engineReloadDone 0 12) = false ∧ wellFormed (.engineReloadDone 0 11) = true := by decide
theorem test_ill_chan : wellFormed (.bulkProbeDue 0 32) = false ∧ wellFormed (.bulkProbeDue 0 31) = true := by decide
theorem test_ill_view : wellFormed (.bulkStop 1 16) = false ∧ wellFormed (.bulkStop 1 15) = true := by decide
theorem test_ill_mesh : wellFormed (.meshTransferReceived 56 true) = false ∧ wellFormed (.meshTransferReceived 55 true) = true := by decide
theorem test_ill_bar : wellFormed (.registerWrite 0 1 0 4 0 false) = false ∧ wellFormed (.registerWrite 0 2 0 4 0 false) = true := by decide
theorem test_ill_size : wellFormed (.pttickRead 2) = false ∧ wellFormed (.pttickRead 8) = true := by decide
theorem test_ill_err : wellFormed (.outputImageReadDone 1 4 []) = false ∧ wellFormed (.outputImageReadDone 1 3 []) = true := by decide
theorem test_ill_mac : wellFormed (.mgtArpRequest 0 (2 ^ 48)) = false ∧ wellFormed (.mgtArpRequest (2 ^ 32) 0) = false := by decide
theorem test_ill_page :
    wellFormed (.errmaskWrite 0x0B 0 0) = false ∧ wellFormed (.errmaskWrite 0x01 1 0) = false ∧ wellFormed (.errmaskWrite 0x16 8 0) = false ∧
    wellFormed (.errmaskWrite 0x23 128 0) = false ∧ wellFormed (.errmaskWrite 0x35 0 0) = false ∧ wellFormed (.errmaskWrite 0x35 512 0) = true := by
  decide
theorem test_ill_ranges :
    wellFormed (.upstreamSlotRunEnd 0 6 0 0) = false ∧ wellFormed (.managementAnswer 0 0 false []) = false ∧
    wellFormed (.managementAnswer 0 256 false []) = false ∧ wellFormed (.listFetchDone 0 0 4 0 0 [] [] [] 0) = false ∧
    wellFormed (.dmaReadTimeout 8 0 0 0 0) = false ∧ wellFormed (.pimWindowWrite (2 ^ 26) 4 0 false) = false ∧
    wellFormed (.bridgeLoad 1 (2 ^ 24) 4) = false ∧ wellFormed (.nxtArm 1 0 0) = false ∧
    wellFormed (.bulkBurstReply 0 0 8 false []) = false ∧ wellFormed (.stepOverrun 0 0 600) = false ∧
    wellFormed (.engineFault 0 0 999) = false ∧ wellFormed (.msixTableWrite 0 16 0 8 0) = false ∧ wellFormed (.tileReady 0 0 (2 ^ 56)) = false ∧
    wellFormed (.pgoodLost 0 2) = false ∧ wellFormed (.mgtNeighborSolicitation (2 ^ 128) 0) = false ∧
    wellFormed (.configSpaceWrite 0 5 0) = false ∧ wellFormed (.malformedRegisterAccess 0 0 0 9 true) = false ∧
    wellFormed (.allowlistReadDone 129 0 0 []) = false ∧ wellFormed (.ringDisable 1 0 0 0) = true := by decide

/-! ## The opcode table gives no bits -/

theorem test_decode_none : decodeTableWord 8 0 = none := rfl
theorem test_withFetchWord : State.reset.withFetchWord 16 5 = State.reset := rfl
theorem test_withCommand : step (State.reset.withCommand .tickBoundary) = exec .tickBoundary State.reset := rfl

/-! ## Single commands on small states -/

-- R70: the counter is 64 bits wide and rises by one
theorem test_tick : after .tickBoundary (tTime { tick := 41 }) (·.time.tick) = some 42 := by decide +kernel
-- R72: a tick of 1 us at RATE 0 is 1,000 ns; at -500 ppm 999.5 ns, the half carried
theorem test_plant : after .tickBoundary tBase (fun t => (t.time.plant, t.time.plantFrac)) = some (1000, 0) := by decide +kernel
theorem test_plant_rate :
    after .tickBoundary (tTime { mode := 2, modeW := 2, rate := -500000000 }) (fun t => (t.time.plant, t.time.plantFrac)) =
      some (999, 500000000000) := by decide +kernel
-- R85: 300,360,000 RC cycles at 10,012 per ms are 30,000,000 ticks; the chapter's example restarts at 1,800,030,000,128
theorem test_wake_example :
    after (.standbyWake 300360000)
      (tTime { sleeping := true, sleepRc := true, calib := some 10012, entryTick := 1800000000000 }) (·.time.tick) =
      some 1800030000128 := by decide +kernel
-- R88: FLLOG2 below 4 clamps to 4
theorem test_timecfg_clamp :
    after (.timecfgWrite 0x32) tBase (fun t => (t.time.ticklenW, t.time.fllog2W, t.time.pending)) = some (2, 4, true) := by decide +kernel
-- R67: the sixteenth measurement within 2 ns locks
theorem test_align :
    after (.alignMeasurement 1 (-2000)) (tTile 1 { ready := true, align := .drift, within := 15 }) (fun t => (t.tl 1).align) =
      some .locked := by decide +kernel
-- R223, R228: a fresh granule reads INIT with AGED: AGE FFFF, QUALITY 40h
theorem test_alloc :
    after (.pointAlloc 1 1) (tFn 1 { tCmdFn (tX 0x08 64 64 0) with share := { granules := [(0, 1)] } })
      (fun t => (t.owns 1 127, t.record 127)) = some (true, 0x0040FFFF00000000) := by decide +kernel
-- R296: the tail doorbell moves the tail; R299: at or beyond the size it stops with reason 3
theorem test_doorbell :
    after (.sqTailDoorbell 1 0 5) (tCmd 1 (tX 0 0 0 0)) (fun t => (t.sqR 1 0).tail) = some 5 := by decide +kernel
theorem test_doorbell_stop :
    after (.sqTailDoorbell 1 0 16) (tCmd 1 (tX 0 0 0 0)) (fun t => ((t.sqR 1 0).stopped, (t.sqR 1 0).reason, (t.sqR 1 0).latched)) =
      some (true, 3, 16) := by decide +kernel
-- R305: a NOP writes 16 bytes at BASE; CID 7, phase 0 of a fresh ring here
theorem test_nop :
    after (.nop 1 1) (tCmd 1 (tX 0 0 0 0)) (fun t => t.wire) =
      some [.dmaWrite 1 0 [0#8, 0#8, 0#8, 0#8, 7#8, 0#8, 0#8, 0#8, 0#8, 0#8, 0#8, 0#8, 0#8, 0#8, 0#8, 0#8]] := by decide +kernel
-- R413, R414: MSI-X first, but after its own function's record, and that after the function's bulk data
theorem test_class_order :
    leaveOrder 5 [.bulkWrite 1 0 [], .dmaWrite 1 0 [], .msix 1 0 0, .msix 2 0 0, .imageWrite 2 0 []] =
      [.msix 2 0 0, .imageWrite 2 0 [], .bulkWrite 1 0 [], .dmaWrite 1 0 [], .msix 1 0 0] := by decide
-- R205: the PLANID after FF is 01
theorem test_planid : planNext 0xFF = 1 ∧ planNext 0 = 1 ∧ planNext 0xFE = 0xFF := by decide
-- R428: an acknowledge of a caught source in SERVICE leaves nothing pending
theorem test_ack :
    after (.fibAckWrite 1 1 true) (tFn 1 { st := .active, fast := { cause := 1, st := .service } }) (fun t => ((t.fn 1).fast.cause, (t.fn 1).fast.pend, (t.fn 1).fast.st)) =
      some (0, 0, .idle) := by decide +kernel
-- R266, R278: 60 above HI writes VAL1 in the window
theorem test_reflex : after (.reflexWindow 0) TestImage.tRfxFire (fun t => recVal (t.record 65)) = some 7 := by decide +kernel
-- R330, R343: a bridge load waits in order of acceptance
theorem test_bridge_load : after (.bridgeLoad 1 8 4) TestBridge.tBrgFree (fun t => (t.bridge.length, (t.fn 1).bridge.lseq)) = some (1, 1) := by
  decide +kernel
-- R590, R534: a supply drop is a package reset of cause 1 with every output at high impedance
theorem test_supply_drop :
    after .supplyDrop tBase (fun t => (t.ready, t.boot.cause)) = some (false, 1) ∧
    after .supplyDrop tBase (fun t => [t.pins.faultN, t.pins.xoEn, t.pins.tileOk.length]) = some [0, 0, 0] := by
  decide +kernel
-- R587: IDCODE selects its register
theorem test_jtag : after .jtagIdcode State.reset (·.jtag.ir) = some 1 := by decide +kernel
-- R600: the example HEADER, 20 payload bytes, XID 0x0011, TSEQ 2, PLANID 0x27
theorem test_header : (headerBytes 0 0x3FE 0x11 2 0x27 3).take 7 = [0x2D#8, 0xFE#8, 0x03#8, 0x11#8, 0x00#8, 0x83#8, 0x27#8] := by
  decide
-- R96: the CRC-8 of the bytes "123456789" is F4h (polynomial 07h, initial value 0); R103: their CRC-32C is E3069283h
theorem test_crc8 : crc8 [0x31#8, 0x32#8, 0x33#8, 0x34#8, 0x35#8, 0x36#8, 0x37#8, 0x38#8, 0x39#8] = 0xF4 := by decide +kernel
theorem test_crc32c : crc32c [0x31#8, 0x32#8, 0x33#8, 0x34#8, 0x35#8, 0x36#8, 0x37#8, 0x38#8, 0x39#8] = 0xE3069283 := by decide +kernel

end Sys2Proof.Machine
end

section
/-!
PROOFS. The tick, the frame and plant time (spec/02_tick_frame_time.md): what the commands that change the time state
make of it. Every other operation is known to leave it alone by its `Keeps` law.
-/
namespace Sys2Proof.Machine

/-! ## Completions and frames -/

theorem completes_of_exec {c : Instr} {s t : State} {P : State → Prop} (h : exec c s = .next t) (hP : P t) :
    completes c s P := ⟨t, h, hP⟩

/-- What holds of the state a command answers may be weakened. -/
theorem completes.mono {c : Instr} {s : State} {P Q : State → Prop} (h : completes c s P) (hPQ : ∀ t, P t → Q t) :
    completes c s Q := by
  obtain ⟨t, ht, hP⟩ := h
  exact ⟨t, ht, hPQ t hP⟩

/-- All parts but the time state: the bits 1 to 49. -/
def allButTime : Nat := 2 ^ 50 - 2

theorem Keeps.time_eq {s t : State} (h : Keeps allButTime s t) : t.time = s.time := h.frame .time rfl

/-! ## Register writes of the manager (R58, R59, R73, R77) -/

theorem exec_timecfgWrite_of_mgrOpen {s : State} (h : s.mgrOpen) (v : W32) :
    exec (.timecfgWrite v) s = .next (timecfgWrite v.toNat (dropSnap 0 0 s)) :=
  congrArg Host.Outcome.next (mmio_open h.2)

theorem exec_ptctlWrite_of_mgrOpen {s : State} (h : s.mgrOpen) (v : W32) :
    exec (.ptctlWrite v) s = .next (ptctlWrite v.toNat (dropSnap 0 0 s)) :=
  congrArg Host.Outcome.next (mmio_open h.2)

theorem exec_glbCtlReset_of_dstate {s : State} (h : (s.fn 0).dstate = 0) (straps : BitVec 4) (flash : Bool) :
    exec (.glbCtlReset straps flash) s = .next (glbReset straps.toNat flash (dropSnap 0 0 s)) :=
  congrArg Host.Outcome.next (mmio_open h)

/-- The two bounds of FLLOG2, 4 and 16 (R88). -/
theorem fllog2_clamp (f : Nat) : (if f < 4 then 4 else if f > 16 then 16 else f) = min 16 (max 4 f) := by
  split
  · omega
  · split <;> omega

theorem timecfgWrite_time {s : State} (v : Nat) (hr : s.ready = true) (hl : s.time.locked = false) :
    (timecfgWrite v s).time =
      { s.time with ticklenW := bits v 0 2, fllog2W := min 16 (max 4 (bits v 4 5)), pending := true } := by
  unfold timecfgWrite
  rw [if_neg (by simp [hr]), if_neg (by simp [hl]), State.modTime_time, fllog2_clamp]
  split
  · rfl
  · rw [logClamp_time]

theorem timecfgWrite_of_locked {s : State} (v : Nat) (hr : s.ready = true) (hl : s.time.locked = true) :
    timecfgWrite v s = setErr pTIM 0 31 s := by
  unfold timecfgWrite
  rw [if_neg (by simp [hr]), if_pos hl]

theorem ptctlWrite_time {s : State} (v : Nat) (hr : s.ready = true) :
    (ptctlWrite v s).time = { s.time with modeW := if bits v 0 2 = 3 then 0 else bits v 0 2 } := by
  unfold ptctlWrite
  rw [if_neg (by simp [hr]), State.modTime_time, State.setReg_time]
  split
  · rw [logClamp_time]
  · rfl

/-! ## The swap of an Accord (R58, R60) -/

theorem lockCommit_locked (s : State) : (lockCommit s).time.locked = true := rfl

/-- Of what a swap does, the lock alone touches the time state. -/
theorem accordSwap_time {s : State} {g : Nat} (h : (s.plan g).fixed = some s.time.tick) :
    (accordSwap g s).time =
      (if (s.plan g).idle.entries = [] then s else if s.time.locked then s else lockCommit s).time := by
  unfold accordSwap
  rw [if_neg (not_not_intro h)]
  exact (Keeps.foldl _ (fun _ _ k => commitGeneration_keeps rfl k) (zeroAll_keeps rfl
    (Keeps.foldl _ (fun _ _ k => State.modNode_keeps rfl k) (enterPoints_keeps rfl (leavePoints_keeps rfl
      (leaveDoze_keeps rfl (State.modPlan_keeps rfl (.refl allButTime _)))))))).time_eq

theorem settleResets_time (s : State) : (settleResets s).time = s.time :=
  (settleResets_keeps rfl (.refl allButTime s)).time_eq

theorem accordSwap_locks {s : State} {g : Nat} (h : (s.plan g).fixed = some s.time.tick)
    (he : (s.plan g).idle.entries ≠ []) : (accordSwap g s).time.locked = true := by
  rw [accordSwap_time h, if_neg he]
  split
  · assumption
  · exact lockCommit_locked s

/-! ## A tick boundary (R59, R70, R72, R77) -/

theorem takeTimecfg_modeW (s : State) : (takeTimecfg s).time.modeW = s.time.modeW := by
  unfold takeTimecfg
  dsimp only
  rw [(Keeps.foldl _ (fun _ _ k => State.modFn_keeps rfl k) (.refl allButTime _)).time_eq]
  split
  · rw [State.modTime_time, logClamp_time]; rfl
  · rfl

@[simp] theorem TimeSt.takeMode_mode (t : TimeSt) : t.takeMode.mode = t.modeW := by
  unfold TimeSt.takeMode
  split
  · exact Eq.symm ‹_›
  · dsimp only
    split <;> split <;> rfl

@[simp] theorem TimeSt.takeRate_mode (t : TimeSt) : t.takeRate.mode = t.mode := by
  unfold TimeSt.takeRate; split <;> rfl

@[simp] theorem TimeSt.advanceOne_mode (t : TimeSt) : t.advanceOne.mode = t.mode := by
  unfold TimeSt.advanceOne; split <;> rfl

@[simp] theorem plantStep_mode (s : State) : (plantStep s).time.mode = s.time.mode := by
  unfold plantStep
  split
  · rfl
  · dsimp only
    split
    · rfl
    · rw [emit_time]; rfl

theorem plantTick_mode (s : State) : (plantTick s).time.mode = s.time.modeW := by
  simp [plantTick]

/-- Of the time state the first block of a frame takes the sample offset alone (R65). -/
theorem frameStart_time (s : State) : (frameStart s).time = { s.time with sampleOff := s.time.sampleOffW } := by
  unfold frameStart
  dsimp only
  rw [(Keeps.foldl _ (fun _ _ k => muteDue_keeps rfl k) (.refl allButTime _)).time_eq]
  split
  · rfl
  · rw [(Keeps.foldl _ (fun _ _ k => needCompile_keeps rfl k) (.refl allButTime _)).time_eq]; rfl

/-- The work of a tick that follows plant time's leaves the time state alone. -/
theorem tickWork_time (due : List Nat) (s : State) :
    (tickWork due { tickRecords (timeTokens s) with unseen := [] }).time = s.time :=
  calc (tickWork due { tickRecords (timeTokens s) with unseen := [] }).time
      = (tickRecords (timeTokens s)).time := (tickWork_keeps rfl (.refl allButTime _)).time_eq
    _ = s.time := (tickRecords_keeps rfl (timeTokens_keeps rfl (.refl allButTime s))).time_eq

/-- The state when plant time has passed the boundary: a due change of TIM_TIMECFG, the counter, plant time. -/
def State.ticked (s : State) : State :=
  plantTick ((if s.timecfgDue then takeTimecfg s else s).modTime (fun t => { t with tick := (t.tick + 1) % 2 ^ 64 }))

theorem State.ticked_mode (s : State) : s.ticked.time.mode = s.time.modeW := by
  unfold State.ticked
  rw [plantTick_mode, State.modTime_time]
  split
  · exact takeTimecfg_modeW s
  · rfl

theorem tickBoundary_time {s : State} (h : s.clockRuns = true) :
    (tickBoundary s).time = (if s.ticked.isFrame then frameStart s.ticked else s.ticked).time := by
  unfold tickBoundary
  rw [if_neg (by simp [h])]
  exact tickWork_time _ _

theorem tickBoundary_mode {s : State} (h : s.clockRuns = true) : (tickBoundary s).time.mode = s.time.modeW := by
  rw [tickBoundary_time h]
  split
  · rw [frameStart_time]; exact s.ticked_mode
  · exact s.ticked_mode

/-! ## Package reset and boot (R58, R61, R73, R516) -/

/-- The time state with the word of TIM_TIMECFG that a settings bank holds, 0xA0 where it holds none (R61). -/
def TimeSt.withStored (t : TimeSt) (stored : NMap W64) : TimeSt :=
  let w := (nget 0xA0#64 stored (regKey pTIM 0 0x040)).toNat
  { t with ticklen := bits w 0 2, ticklenW := bits w 0 2, fllog2 := bits w 4 5, fllog2W := bits w 4 5 }

/-- The time state of reset is that of a bank without the word. -/
theorem reset_time_withStored_nil : State.reset.time.withStored [] = State.reset.time := by decide

@[simp] theorem bootEvent_time (e : Event) (s : State) : (bootEvent e s).time = s.time := rfl
@[simp] theorem bootEvent_stored (e : Event) (s : State) : (bootEvent e s).stored = s.stored := rfl

/-- The selection of the settings ties the tick configuration to the bank it leaves in force (R61, R501). -/
theorem settingsSelect_time (s : State) : (settingsSelect s).time = s.time.withStored (settingsSelect s).stored := by
  unfold settingsSelect
  dsimp only
  split
  · refine congrArg (TimeSt.withStored · _) ?_
    split <;> simp only [out_time, State.modFw_time]
  · rw [bootEvent_time, setErr_time, bootEvent_stored, setErr_stored]
    refine congrArg (TimeSt.withStored · _) ?_
    split <;> simp only [out_time, State.modFw_time]

theorem bootSelect_time (s : State) : (bootSelect s).time = s.time :=
  (bootSelect_keeps rfl (.refl allButTime s)).time_eq

theorem bootSelect_stored (s : State) : (bootSelect s).stored = s.stored :=
  (bootSelect_keeps (V := 844460128731146) rfl (.refl _ s)).frame .stored rfl

theorem replayTables_time (s : State) : (replayTables s).time = s.time :=
  (replayTables_keeps rfl (.refl allButTime s)).time_eq

theorem replayTables_stored (s : State) : (replayTables s).stored = s.stored :=
  (replayTables_keeps (V := 63438890) rfl (.refl _ s)).frame .stored rfl

/-- A boot after a package reset: the tick configuration is the settings' in force, the rest of the time state is that of
reset. A package that cannot start has no settings (R61). -/
theorem bootStart_time {s : State} (hs : s.stored = []) (ht : s.time = State.reset.time) (straps : Nat) (flash : Bool) :
    (bootStart straps flash s).time = State.reset.time.withStored (bootStart straps flash s).stored := by
  unfold bootStart
  dsimp only
  split
  · rw [bootSelect_time, bootSelect_stored]
    show s.time = State.reset.time.withStored s.stored
    rw [hs, ht, reset_time_withStored_nil]
  · rw [replayTables_time, replayTables_stored, settingsSelect_time, bootSelect_time]
    show s.time.withStored _ = _
    rw [ht]

theorem bootStart_packageReset_time (cause straps : Nat) (flash : Bool) (s : State) :
    (bootStart straps flash (packageReset cause s)).time =
      State.reset.time.withStored (bootStart straps flash (packageReset cause s)).stored :=
  bootStart_time (s := packageReset cause s) rfl rfl straps flash

/-- The triggers of package reset that hold the package in reset (R515, R516, R590). -/
theorem resetTrigger_time {s : State} {c : Instr}
    (h : c = .powerOn ∨ c = .supplyDrop ∨ (c = .perstAssert ∧ s.pins.perst = true)) :
    completes c s (fun t => t.time = State.reset.time) := by
  obtain rfl | rfl | ⟨rfl, hp⟩ := h
  · exact ⟨_, rfl, rfl⟩
  · exact ⟨_, rfl, rfl⟩
  · refine ⟨packageReset 2 (s.modPins (fun p => { p with perst := false })), ?_, rfl⟩
    exact congrArg Host.Outcome.next (if_pos hp)

/-- The triggers that end with the event, where the boot follows at once (R516, R533). -/
theorem bootTrigger_time {s : State} (straps : BitVec 4) (flash : Bool) (hp : s.powered = true) :
    completes (.hotReset straps flash) s (fun t => t.time = State.reset.time.withStored t.stored) ∧
    completes (.dlDown straps flash) s (fun t => t.time = State.reset.time.withStored t.stored) ∧
    ((s.fn 0).dstate = 0 →
      completes (.glbCtlReset straps flash) s (fun t => t.time = State.reset.time.withStored t.stored)) := by
  have hd : (dropSnap 0 0 s).powered = s.powered := by simp [State.powered]
  refine ⟨⟨_, congrArg Host.Outcome.next (if_pos hp), bootStart_packageReset_time ..⟩,
    ⟨_, congrArg Host.Outcome.next (if_pos hp), bootStart_packageReset_time ..⟩, fun h0 => ?_⟩
  refine ⟨_, exec_glbCtlReset_of_dstate h0 straps flash, ?_⟩
  rw [glbReset, if_pos (hd.trans hp)]
  exact bootStart_packageReset_time ..

/-- PERST# rises with the supplies in limits: the boot starts (R522). -/
theorem exec_perstRelease_boots {s : State} (hp : s.pins.perst = false) (hv : s.pins.supply = true) (straps : BitVec 4)
    (flash : Bool) : exec (.perstRelease straps flash) s =
      .next (bootStart straps.toNat flash (s.modPins (fun p => { p with perst := true }))) := by
  refine congrArg Host.Outcome.next ?_
  rw [if_neg (by simp [hp])]
  exact if_pos hv

/-! ## The IEEE 1588 master (R78, R80) -/

theorem exec_announceReceiptTimeout_of_mode {s : State} (hr : s.ready = true) (hm : s.time.mode = 1) :
    exec .announceReceiptTimeout s = .next (masterLost s) :=
  congrArg Host.Outcome.next (if_pos (by simp [hr, hm]))

theorem selectMaster_time (source ds : Nat) (s : State) :
    (selectMaster source ds s).time =
      { s.time with master := some (source, ds), holdover := false, syncWait := none, delayReq := none,
                    delayWait := none, syncRun := 0 } := by
  unfold selectMaster
  dsimp only
  split
  · rw [emitMgr_time]; rfl
  · rfl

/-- Where no master is selected, the second Announce of a sender with stepsRemoved below 255 selects it (log entry 113). -/
theorem ptpAnnounce_selects {s : State} {source ds : Nat} (hon : s.ptpOn = true) (hm : s.time.master = none)
    (hf : s.time.foreign.contains source = true) (hd : ds % 2 ^ 16 < 255) :
    ptpAnnounce s.ptpDomain source ds s = selectMaster source ds s := by
  have hd' : ¬ 255 ≤ ds % 65536 := Nat.not_le.mpr hd
  have hf' : source ∈ s.time.foreign := by simpa using hf
  simp [ptpAnnounce, hon, hm, hd', hf']

/-! ## The statements -/

/-- Settles O53: a write of TIM_TIMECFG by cases on the lock, the swap by the lock's commit, the triggers by the time state
of reset. -/
theorem tickConfigurationLocks : Obligations.TickConfigurationLocks := by
  intro s
  refine ⟨fun hopen v => ⟨fun hl => ?_, fun hl => ?_⟩, fun g hg => ⟨fun he => ?_, fun he => ?_⟩, fun c hc => ?_,
    fun straps flash hp _ => ?_⟩
  · refine completes_of_exec (exec_timecfgWrite_of_mgrOpen hopen v) ?_
    rw [timecfgWrite_time _ (by simpa using hopen.1) (by simpa using hl), dropSnap_time]
    exact ⟨rfl, rfl, hl⟩
  · refine completes_of_exec (exec_timecfgWrite_of_mgrOpen hopen v) ?_
    rw [timecfgWrite_of_locked _ (by simpa using hopen.1) (by simpa using hl)]
    exact ⟨by simp, setErr_errBit _ pTIM 0 31 (by decide)⟩
  · refine completes_of_exec (t := settleResets (accordSwap g s)) rfl ?_
    rw [settleResets_time, accordSwap_locks hg he]
  · refine completes_of_exec (t := settleResets (accordSwap g s)) rfl ?_
    rw [settleResets_time, accordSwap_time hg, if_pos he]
  · exact (resetTrigger_time hc).mono fun t ht => by rw [ht]; rfl
  · have unlocked : ∀ t : State, t.time = State.reset.time.withStored t.stored → t.time.locked = false :=
      fun t ht => by rw [ht]; rfl
    obtain ⟨hot, down, ctl⟩ := bootTrigger_time straps flash hp
    exact ⟨hot.mono unlocked, down.mono unlocked, fun h0 => (ctl h0).mono unlocked⟩

/-- Settles O54: the boot gives the reset's time state the configuration of the settings it selects. -/
theorem storedTickConfiguration : Obligations.StoredTickConfiguration := by
  refine ⟨rfl, rfl, fun s straps flash hp hv hs ht => completes_of_exec (exec_perstRelease_boots hp hv straps flash) ?_⟩
  rw [bootStart_time (s := s.modPins _) hs ht]
  exact ⟨rfl, rfl, rfl, rfl⟩

/-- Settles O56: the mode written waits for the boundary, which takes it; the triggers by the time state of reset. -/
theorem plantTimeModes : Obligations.PlantTimeModes := by
  intro s
  refine ⟨fun hopen v hv => ?_, fun hrun => ⟨_, rfl, tickBoundary_mode hrun⟩, fun c hc => ?_,
    fun straps flash hp _ => ?_⟩
  · refine completes_of_exec (exec_ptctlWrite_of_mgrOpen hopen v) ?_
    rw [ptctlWrite_time _ (by simpa using hopen.1)]
    exact if_neg (by omega)
  · exact (resetTrigger_time hc).mono fun t ht => by rw [ht]; exact ⟨rfl, rfl, rfl, rfl⟩
  · have fresh : ∀ t : State, t.time = State.reset.time.withStored t.stored →
        t.time.plant = 0 ∧ t.time.mode = 0 ∧ t.time.sync = false := fun t ht => by rw [ht]; exact ⟨rfl, rfl, rfl⟩
    obtain ⟨hot, down, ctl⟩ := bootTrigger_time straps flash hp
    exact ⟨hot.mono fresh, down.mono fresh, fun h0 => (ctl h0).mono fresh⟩

/-- Settles O57: the event leaves the time state and the error bit as `masterLost` has set them; the Announce is the
second of its sender. -/
theorem masterLossGivesHoldover : Obligations.MasterLossGivesHoldover := by
  intro s
  refine ⟨fun hr hm => ⟨_, exec_announceReceiptTimeout_of_mode hr hm, emitMgr_time .., ?_, ?_⟩,
    fun src ds hon hm hf hd => completes_of_exec (congrArg Host.Outcome.next (ptpAnnounce_selects hon hm hf hd)) ?_⟩
  · exact emitMgr_errBit (setErr_errBit _ pTIM 0 2 (by decide))
  · rw [setErr_time]
    exact ⟨rfl, rfl, rfl, rfl, rfl, rfl⟩
  · rw [selectMaster_time]
    exact ⟨rfl, rfl⟩

end Sys2Proof.Machine
end

section
/-!
PROOFS. Management requests on a port (spec/04_trees_hotplug_admission.md, R146-R149): what the management turn makes of
the requests that wait, and what an answer that is missing, faulty or false leads to.
-/
namespace Sys2Proof.Machine

/-! ## Requests sent and waiting (R146, R147) -/

/-- The management requests of port `g`: those sent, and those that wait. -/
def State.requests (s : State) (g : Nat) : List MReq × List MReq := ((s.port g).mreqs, (s.port g).mwait)

/-- An update of the port that leaves both lists alone. -/
theorem State.requests_modPort {s : State} {g : Nat} {u : Port → Port} (hs : (u (s.port g)).mreqs = (s.port g).mreqs)
    (hw : (u (s.port g)).mwait = (s.port g).mwait) : (s.modPort g u).requests g = s.requests g := by
  simp only [State.requests, State.port_modPort, hs, hw]

theorem State.requests_of_ports {s t : State} (h : t.ports = s.ports) (g : Nat) : t.requests g = s.requests g := by
  simp only [State.requests, State.port, h]

/-- All parts but the ports: the bits 0 to 3 and 5 to 49. -/
def allButPorts : Nat := 2 ^ 50 - 1 - 2 ^ 4

theorem Keeps.requests_eq {s t : State} (h : Keeps allButPorts s t) (g : Nat) : t.requests g = s.requests g :=
  State.requests_of_ports (h.frame .ports rfl) g

theorem pickSpot_requests (cls : Nat) (run : Nat → List Nat) (l : List Nat) (s : State) (g : Nat) :
    (pickSpot cls run l s).2.requests g = s.requests g :=
  (pickSpot_keeps rfl (.refl allButPorts s)).requests_eq g

theorem takeDown_requests {g cls len after b : Nat} {s t : State} (h : takeDown g cls len after s = some (b, t)) :
    t.requests g = s.requests g := by
  unfold takeDown at h
  dsimp only at h
  split at h
  · cases h
  · cases h
    exact (State.requests_modPort rfl rfl).trans (pickSpot_requests ..)

theorem tryGrant_requests {g node cls len gseq after : Nat} {s t : State}
    (h : tryGrant g node cls len gseq after s = some t) :
    t.requests g = s.requests g := by
  unfold tryGrant at h
  dsimp only at h
  split at h
  · cases h
  · split at h
    · cases h
    · next b s1 hs1 =>
      cases h
      calc _ = _ := State.requests_of_ports (out_ports ..) g
        _ = _ := State.requests_modPort rfl rfl
        _ = s1.requests g := pickSpot_requests ..
        _ = s.requests g := takeDown_requests hs1

/-- A GRANT sent or put off is no request. -/
theorem issueGrant_requests (g node cls len gseq after : Nat) (s : State) :
    (issueGrant g node cls len gseq after s).requests g = s.requests g := by
  unfold issueGrant
  cases h : tryGrant g node cls len gseq after s with
  | none => exact State.requests_modPort rfl rfl
  | some t => exact tryGrant_requests h

/-- The MSEQ that is found is of no request that it must differ from (R146). -/
theorem freeMseq_not_mem {used : List Nat} {k n : Nat} (h : freeMseq used k n ≠ 0) : freeMseq used k n ∉ used := by
  induction k generalizing n with
  | zero => exact absurd rfl h
  | succ k ih =>
    unfold freeMseq at h ⊢
    split at h
    · next hused => rw [if_pos hused]; exact ih h
    · next hfree => rw [if_neg hfree]; simpa using hfree

/-- What a turn of the pump can do: nothing, or the oldest waiting request is sent, under an MSEQ that neither it nor a
request already sent carries (R146, R147, R149). -/
theorem pumpMgmt_succ_cases (g k : Nat) (s : State) :
    pumpMgmt g (k + 1) s = s ∨ ∃ (q : MReq) (rest : List MReq) (n : Nat) (u : State),
      (s.port g).mwait = q :: rest ∧ n ∉ q.mseq :: (s.port g).mreqs.map (·.mseq) ∧
      u.requests g = ((s.port g).mreqs ++ [{ q with mseq := n }], rest) ∧ pumpMgmt g (k + 1) s = pumpMgmt g k u := by
  rw [pumpMgmt]
  split
  · exact .inl rfl
  · next q rest hw =>
    dsimp only
    split
    · exact .inl rfl
    · next hn =>
      split
      · exact .inl rfl
      · next b s1 hs1 =>
        refine .inr ⟨q, rest, _, _, hw, freeMseq_not_mem (not_or.mp hn).1, ?_, rfl⟩
        have hsent : (s1.port g).mreqs = (s.port g).mreqs := congrArg Prod.fst (takeDown_requests hs1)
        rw [issueGrant_requests, State.requests_of_ports (out_ports ..),
          (engineWork_keeps rfl (.refl allButPorts _)).requests_eq, State.requests, State.port_modPort, hsent]

/-- Request `r` waits on the port, or is sent under another MSEQ than `r` carries. -/
def State.underWay (s : State) (g : Nat) (r : MReq) : Prop :=
  r ∈ (s.port g).mwait ∨ ∃ n ≠ r.mseq, { r with mseq := n } ∈ (s.port g).mreqs

/-- The pump loses no request: one that it takes from the waiting ones it sends. -/
theorem pumpMgmt_underWay {g : Nat} {r : MReq} (k : Nat) {s : State} (h : s.underWay g r) :
    (pumpMgmt g k s).underWay g r := by
  induction k generalizing s with
  | zero => exact h
  | succ k ih =>
    obtain hs | ⟨q, rest, n, u, hw, hn, hu, hs⟩ := pumpMgmt_succ_cases g k s
    · rwa [hs]
    · rw [hs]
      apply ih
      obtain ⟨husent, huwait⟩ := Prod.mk.inj hu
      rw [State.underWay, husent, huwait]
      obtain hr | ⟨n', hn', hr⟩ := h
      · rw [hw, List.mem_cons] at hr
        obtain rfl | hr := hr
        · exact .inr ⟨n, List.ne_of_not_mem_cons hn, by simp⟩
        · exact .inl hr
      · exact .inr ⟨n', hn', List.mem_append_left _ hr⟩

/-- A request given to a port that is UP is sent or waits (R147). -/
theorem sendReq_underWay {g : Nat} {s : State} (h : s.hopUp g = true) (r : MReq) : (sendReq g r s).underWay g r := by
  have hup : (s.port g).hop = .up := by simpa [State.hopUp] using h
  rw [sendReq, if_neg (not_not_intro hup)]
  refine pumpMgmt_underWay _ (.inl ?_)
  rw [State.port_modPort]
  exact List.mem_append_right _ (List.mem_singleton_self r)

/-! ## What a run of slots holds (R135, R138) -/

/-- What `receive` can do to the state: nothing, or the counters of TPT follow. -/
theorem receive_state_cases (g : Nat) (mis : Bool) (node cls len : Nat) (xid : Nat → Bool) (exact : Bool)
    (blocks : List RxBlock) (s : State) {t : State} (h : (receive g mis node cls len xid exact blocks s).2 = t) :
    t = s ∨ (∃ k, t = countMis g k s) ∨ (∃ l, t = countRun g l s) ∨ ∃ l, t = discarded g l s := by
  subst h
  cases mis with
  | true => exact .inr (.inl ⟨_, rfl⟩)
  | false =>
    cases blocks with
    | nil => exact .inl rfl
    | cons hb body =>
      dsimp only [receive]
      rw [if_neg Bool.false_ne_true]
      split
      · exact .inr (.inr (.inl ⟨_, rfl⟩))
      · split
        · exact .inr (.inr (.inr ⟨_, rfl⟩))
        · split
          · exact .inl rfl
          · split
            · exact .inl rfl
            · split
              · exact .inr (.inr (.inl ⟨_, rfl⟩))
              · split
                · exact .inr (.inr (.inl ⟨_, rfl⟩))
                · exact .inr (.inr (.inr ⟨_, rfl⟩))

/-- Counting leaves the words at other offsets of the page alone. -/
theorem countReg_sreg_ne (s : State) {ty inst off lo n k d o : Nat} (h : o ≠ off) :
    (countReg ty inst off lo n k s).sreg d ty inst o = s.sreg d ty inst o :=
  countReg_reg_ne s (by simpa [regKey] using h)

/-- The counters of received blocks are none of the words at other offsets of the page. -/
theorem receive_sreg (g : Nat) (mis : Bool) (node cls len : Nat) (xid : Nat → Bool) (exact : Bool) (blocks : List RxBlock)
    (s : State) (d : Nat) {off : Nat} (h60 : off ≠ 0x060) (h68 : off ≠ 0x068) (h70 : off ≠ 0x070) :
    (receive g mis node cls len xid exact blocks s).2.sreg d pTPT g off = s.sreg d pTPT g off := by
  obtain h | ⟨k, h⟩ | ⟨l, h⟩ | ⟨l, h⟩ := receive_state_cases g mis node cls len xid exact blocks s rfl <;> rw [h]
  · exact countReg_sreg_ne s h70
  · exact countReg_sreg_ne s h60
  · exact (countReg_sreg_ne _ h68).trans (countReg_sreg_ne s h60)

theorem receive_ports (g : Nat) (mis : Bool) (node cls len : Nat) (xid : Nat → Bool) (exact : Bool) (blocks : List RxBlock)
    (s : State) : (receive g mis node cls len xid exact blocks s).2.ports = s.ports :=
  (receive_keeps (V := 2) rfl (.refl 2 s)).frame .ports rfl

theorem receive_nodes (g : Nat) (mis : Bool) (node cls len : Nat) (xid : Nat → Bool) (exact : Bool) (blocks : List RxBlock)
    (s : State) : (receive g mis node cls len xid exact blocks s).2.nodes = s.nodes :=
  (receive_keeps (V := 2) rfl (.refl 2 s)).frame .nodes rfl

/-- The slots hold no transfer for request `r` under MSEQ `m`: misaligned blocks, no HEADER, one that fails its checks, or a
transfer that fails R103. -/
def MReq.noAnswer (r : MReq) (m : Nat) (mis : Bool) (blocks : List RxBlock) : Prop :=
  mis = true ∨ blocks = [] ∨ ∃ (hb : RxBlock) (body : List RxBlock), blocks = hb :: body ∧
    (hb.isHeader = false ∨ hOk hb.bytes = false ∨
      hNode hb.bytes = r.node ∧ hClass hb.bytes = 2 ∧ hXid hb.bytes % 256 = m ∧
      hLen hb.bytes ≤ answerLen r.op r.words - 1 ∧ bodyOk hb.bytes body = false)

/-- The slots of request `r` under MSEQ `m`, as `receive` reads them. -/
def MReq.received (r : MReq) (g m : Nat) (mis : Bool) (blocks : List RxBlock) (s : State) : Answer × State :=
  receive g mis r.node 2 (answerLen r.op r.words - 1) (fun x => x % 256 == m) false blocks s

theorem MReq.received_missing_or_faulty {r : MReq} {m : Nat} {mis : Bool} {blocks : List RxBlock}
    (h : r.noAnswer m mis blocks) (g : Nat) (s : State) :
    (r.received g m mis blocks s).1 = .missing ∨ ∃ k, (r.received g m mis blocks s).1 = .faulty k := by
  unfold MReq.received receive
  cases mis with
  | true => exact .inr ⟨none, rfl⟩
  | false =>
    obtain h | rfl | ⟨hb, body, rfl, h⟩ := h
    · cases h
    · exact .inl rfl
    · cases hh : hb.isHeader with
      | false => exact .inl (by simp [hh])
      | true =>
        cases hk : hOk hb.bytes with
        | false => exact .inr ⟨none, by simp [hh, hk]⟩
        | true =>
          obtain ⟨hn, hc, hx, hl, hbody⟩ := by simpa [hh, hk] using h
          exact .inr ⟨some (hTseq hb.bytes), by simp [hh, hk, hn, hc, hx, Nat.not_lt.mpr hl, hbody]⟩

/-- A HEADER that passes its checks under a false NODE or GSEQ (R135). -/
theorem MReq.received_mismatch {r : MReq} {m : Nat} {hb : RxBlock} (hh : hb.isHeader = true) (hk : hOk hb.bytes = true)
    (h : hNode hb.bytes ≠ r.node ∨ hXid hb.bytes % 256 ≠ m) (g : Nat) (body : List RxBlock) (s : State) :
    r.received g m false (hb :: body) s = (.hostile 1, s) := by
  have hid : hNode hb.bytes ≠ r.node ∨ hClass hb.bytes ≠ 2 ∨ !(hXid hb.bytes % 256 == m) := by
    obtain h | h := h
    · exact .inl h
    · exact .inr (.inr (by simp [h]))
  simp only [MReq.received, receive, hh, hk, if_pos hid, Bool.false_eq_true, Bool.not_true, if_false]

/-! ## Answers (R149) -/

section
variable {s : State} {g m : Nat} {r : MReq} (hr : (s.port g).mreqs.find? (·.mseq == m) = some r)
include hr

theorem managementAnswer_of_noAnswer {mis : Bool} {blocks : List RxBlock} (h : r.noAnswer m mis blocks) :
    managementAnswer g m mis blocks s = mgmtMissing g r (r.received g m mis blocks s).2 := by
  obtain he | ⟨k, he⟩ := r.received_missing_or_faulty h g s
  · rw [MReq.received] at he ⊢
    simp only [managementAnswer, hr, he]
  · rw [MReq.received] at he ⊢
    simp only [managementAnswer, hr, he]

theorem managementAnswer_of_mismatch {hb : RxBlock} (hh : hb.isHeader = true) (hk : hOk hb.bytes = true)
    (h : hNode hb.bytes ≠ r.node ∨ hXid hb.bytes % 256 ≠ m) (body : List RxBlock) :
    managementAnswer g m false (hb :: body) s = hostile g r.node 1 s := by
  have he := r.received_mismatch hh hk h g body s
  rw [MReq.received] at he
  simp only [managementAnswer, hr, he]

end

/-- A request unanswered for the first time goes out again, under another MSEQ. -/
theorem mgmtMissing_first {g : Nat} {r : MReq} {s : State} (h0 : r.attempt = 0) (hup : s.hopUp g = true) :
    (mgmtMissing g r s).underWay g { r with attempt := 1 } := by
  rw [mgmtMissing, if_pos h0]
  refine sendReq_underWay ?_ _
  rw [State.hopUp, State.port_modPort]
  exact hup

/-- The node with one more miss, below both limits (R169). -/
def Node.missedOnce (x : Node) : Node :=
  { x with run := x.run + 1, win := x.win + 1, misses := min 65535 (x.misses + 1) }

theorem satAdd_eq_min (m a b : Nat) : satAdd m a b = min m (a + b) := by
  unfold satAdd; split <;> omega

theorem miss_below_limits {g n : Nat} {s : State} (hl : (s.node g n).leaves = true)
    (hrun : (s.node g n).run + 1 < bits (s.treecfg g) 8 8) (hwin : (s.node g n).win + 1 < bits (s.misswin g) 0 8) :
    miss g n s = s.modNode g n (fun _ => (s.node g n).missedOnce) := by
  have hsat : satAdd 255 (s.node g n).run 1 = (s.node g n).run + 1 := by
    have : bits (s.treecfg g) 8 8 < 2 ^ 8 := Nat.mod_lt _ (by decide)
    rw [satAdd_eq_min]; omega
  unfold miss
  dsimp only
  rw [if_neg (by simp [hl]), hsat, if_neg (by simp [Nat.not_le.mpr hrun, Nat.not_le.mpr hwin])]
  unfold State.modNode nmod
  rw [Node.missedOnce, ← satAdd_eq_min]
  rfl

/-- A request unanswered again, whose failure has no further consequence: it waits no more, and its node has one miss. -/
theorem mgmtMissing_again {g : Nat} {r : MReq} {s : State} (h1 : r.attempt ≠ 0) (hf : ∀ u : State, mgmtFailed g r u = u)
    (hl : (s.node g r.node).leaves = true) (hrun : (s.node g r.node).run + 1 < bits (s.treecfg g) 8 8)
    (hwin : (s.node g r.node).win + 1 < bits (s.misswin g) 0 8) :
    ((mgmtMissing g r s).port g).mreqs = (s.port g).mreqs.filter (· != r) ∧
    (mgmtMissing g r s).node g r.node = (s.node g r.node).missedOnce := by
  rw [mgmtMissing, if_neg h1, hf, miss_below_limits (s := s.modPort g _) hl hrun hwin]
  exact ⟨by rw [State.modNode_port_of, State.port_modPort], State.node_modNode ..⟩

/-! ## The statement -/

/-- Settles O58: `receive` sorts what arrived, `mgmtMissing` has its two branches, a false identity goes to `hostile`. -/
theorem managementAnswersFail : Obligations.ManagementAnswersFail := by
  intro s g m r hup hr
  have hm : r.mseq = m := by simpa using List.find?_some hr
  refine ⟨fun mis blocks hno => ?_, fun hb body hh hk hid =>
    congrArg Host.Outcome.next (managementAnswer_of_mismatch hr hh hk hid body)⟩
  have hexec : exec (.managementAnswer g m mis blocks) s = .next (mgmtMissing g r (r.received g m mis blocks s).2) :=
    congrArg Host.Outcome.next (managementAnswer_of_noAnswer hr hno)
  have hport : (r.received g m mis blocks s).2.port g = s.port g := by
    rw [MReq.received, State.port, receive_ports]; rfl
  have hnode : (r.received g m mis blocks s).2.node g r.node = s.node g r.node := by
    rw [MReq.received, State.node, receive_nodes]; rfl
  refine ⟨fun h0 => completes_of_exec hexec ?_, fun h1 hf hl hrun hwin => completes_of_exec hexec ?_⟩
  · have hup' : (r.received g m mis blocks s).2.hopUp g = true := by rwa [State.hopUp, hport]
    obtain hw | ⟨n, hn, hs⟩ := mgmtMissing_first h0 hup'
    · exact ⟨_, List.mem_append_left _ hw, rfl, rfl, rfl, rfl, rfl, .inl hw⟩
    · exact ⟨_, List.mem_append_right _ hs, rfl, rfl, rfl, rfl, rfl, .inr (hm ▸ hn)⟩
  · have htree : (r.received g m mis blocks s).2.treecfg g = s.treecfg g :=
      receive_sreg (off := 0x080) _ _ _ _ _ _ _ _ _ _ (by decide) (by decide) (by decide)
    have hmiss : (r.received g m mis blocks s).2.misswin g = s.misswin g :=
      receive_sreg (off := 0x084) _ _ _ _ _ _ _ _ _ _ (by decide) (by decide) (by decide)
    have h := mgmtMissing_again h1 hf (s := (r.received g m mis blocks s).2) (by rwa [hnode]) (by rwa [hnode, htree])
      (by rwa [hnode, hmiss])
    rwa [hport, hnode] at h

end Sys2Proof.Machine
end

section
/-!
PROOFS. PLANIDs (spec/05_schedule_lists_and_plans.md, R205): the PLANID that a compile gives to its Accord, and the one
that a swap makes the running one. What follows a swap moves leases and mutes entries, and gives no port another PLANID.
-/
namespace Sys2Proof.Machine

/-! ## The PLANID that follows (R205) -/

theorem planNext_ne_zero (n : Nat) : planNext n ≠ 0 := by
  unfold planNext
  split <;> omega

theorem planNext_of_lt {n : Nat} (h : n < 0xFF) : planNext n = n + 1 := if_neg (Nat.not_le.mpr h)

/-! ## What leaves the plans alone -/

/-- All parts but the plan buffers: the bits 0 to 5 and 7 to 49. -/
def allButPlans : Nat := 2 ^ 50 - 1 - 2 ^ 6

theorem Keeps.plan_eq {s t : State} (h : Keeps allButPlans s t) (g : Nat) : t.plan g = s.plan g :=
  congrArg (nget ({} : PlanSt) · g) (h.frame .plans rfl : t.plans = s.plans)

/-! ## A compile completes (R204-R206, R209) -/

/-- The two ends of a compile: it changes nothing and leaves the buffer EMPTY, or its Accord loads under the PLANID that
follows the running one. -/
theorem compileDone_cases {s : State} {g : Nat} (h : (s.plan g).idleSt = .compiling) :
    ((compileDone g s).plan g).idleSt = .empty ∨
      ((compileDone g s).plan g).idleSt = .loading ∧
        ((compileDone g s).plan g).idle.planid = planNext (s.plan g).run.planid := by
  unfold compileDone
  rw [if_neg (not_not_intro h)]
  dsimp only
  split
  · left
    rw [State.plan_modPlan]
  · right
    rw [(loadAll_keeps rfl (.refl allButPlans _)).plan_eq, State.plan_modPlan]
    exact ⟨rfl, rfl⟩

/-! ## A swap (R207, R209) -/

/-- The swap puts the idle Accord into force. -/
theorem accordSwap_run {s : State} {g : Nat} (h : (s.plan g).fixed = some s.time.tick) :
    ((accordSwap g s).plan g).run = { (s.plan g).idle with swapTick := s.time.tick, covers := [] } := by
  unfold accordSwap
  rw [if_neg (not_not_intro h)]
  dsimp only
  rw [(Keeps.foldl _ (fun _ _ k => commitGeneration_keeps rfl k) (zeroAll_keeps rfl
    (Keeps.foldl _ (fun _ _ k => State.modNode_keeps rfl k) (enterPoints_keeps rfl (leavePoints_keeps rfl
      (leaveDoze_keeps rfl (.refl allButPlans _))))))).plan_eq, State.plan_modPlan]

/-! ## Running PLANIDs outside a swap -/

/-- The PLANID of a port's running Accord. -/
def State.runPlanid (s : State) (g : Nat) : Nat := (s.plan g).run.planid

theorem Keeps.runPlanid_eq {s t : State} (h : Keeps allButPlans s t) (g : Nat) : t.runPlanid g = s.runPlanid g :=
  congrArg (·.run.planid) (h.plan_eq g)

/-- An update of a port's plans that leaves the running PLANID as it was. -/
theorem State.runPlanid_modPlan {s : State} {i : Nat} {u : PlanSt → PlanSt}
    (h : (u (s.plan i)).run.planid = (s.plan i).run.planid) (g : Nat) : (s.modPlan i u).runPlanid g = s.runPlanid g := by
  unfold State.runPlanid
  by_cases hg : g = i
  · rw [hg, State.plan_modPlan, h]
  · rw [State.plan_modPlan_ne _ _ hg]

theorem foldl_runPlanid {α : Type} {f : State → α → State} {g : Nat}
    (hf : ∀ (s : State) (x : α), (f s x).runPlanid g = s.runPlanid g) (l : List α) (s : State) :
    (l.foldl f s).runPlanid g = s.runPlanid g := by
  induction l generalizing s with
  | nil => rfl
  | cons x l ih => exact (ih (f s x)).trans (hf s x)

theorem needCompile_runPlanid (i : Nat) (s : State) (g : Nat) : (needCompile i s).runPlanid g = s.runPlanid g :=
  State.runPlanid_modPlan rfl g

theorem muteEntries_runPlanid (i : Nat) (p : AEntry → Bool) (s : State) (g : Nat) :
    (muteEntries i p s).runPlanid g = s.runPlanid g := by
  unfold muteEntries
  dsimp only
  split
  · rfl
  · rw [needCompile_runPlanid, (stopFeeds_keeps rfl (.refl allButPlans _)).runPlanid_eq]
    exact State.runPlanid_modPlan rfl g

/-- A lease that moves mutes entries of its port and asks for a compile (R163). -/
theorem moveLease_runPlanid (i n w : Nat) (readers : List Nat) (s : State) (g : Nat) :
    (moveLease i n w readers s).runPlanid g = s.runPlanid g := by
  unfold moveLease
  dsimp only
  split
  · exact (State.modNode_keeps rfl (.refl allButPlans s)).runPlanid_eq g
  · have told (e : Event) (t : State) : (if w = 0 then t else emit w e t).runPlanid g = t.runPlanid g :=
      (Keeps.ite (emit_keeps rfl (.refl allButPlans t)) (fun _ => .refl _ t)).runPlanid_eq g
    have locked (l : List Nat) (u : Node → Node) :
        Keeps allButPlans s (l.foldl (fun t p => lockPoint (.node (nodeKey i n)) p t) (s.modNode i n u)) :=
      Keeps.foldl l (fun _ _ k => lockPoint_keeps rfl k) (State.modNode_keeps rfl (.refl _ s))
    rw [told, muteEntries_runPlanid, needCompile_runPlanid]
    exact (Keeps.ite (emit_keeps rfl (bulkLeaseChange_keeps rfl (bridgeLeaseChange_keeps rfl (locked _ _))))
      (fun _ => locked _ _)).runPlanid_eq g

theorem changeLease_runPlanid (i n w : Nat) (readers : List Nat) (s : State) (g : Nat) :
    (changeLease i n w readers s).runPlanid g = s.runPlanid g :=
  ((zeroAll_keeps rfl (.refl allButPlans _)).runPlanid_eq g).trans (moveLease_runPlanid i n w readers s g)

/-- The nodes leased to a function go back to the manager: the first work of `destroyDone` (R393). -/
def endLeases (f : Nat) (s : State) : State :=
  (s.nodes.filter (fun x => x.2.lessee == f)).foldl
    (fun s (x : Nat × Node) => changeLease (x.1 / 4096) (x.1 % 4096) 0 [] s) s

theorem endLeases_runPlanid (f : Nat) (s : State) (g : Nat) : (endLeases f s).runPlanid g = s.runPlanid g :=
  foldl_runPlanid (fun t _ => changeLease_runPlanid _ _ _ _ t g) _ s

/-- What follows the leases when a created function ends is outside the plans (R393). -/
theorem destroyDone_keeps_endLeases (f : Nat) (s : State) : Keeps allButPlans (endLeases f s) (destroyDone f s) := by
  have hgone (u : State) (wait : Nat → Node → Node) :
      Keeps allButPlans u ((clearPages f { u with nodes := nmapAll {} wait u.nodes }).modFn f Fn.gone) :=
    State.modFn_keeps rfl (clearPages_keeps rfl (Keeps.set_nodes rfl (fun _ => nwf_nmapAll _) (.refl _ u)))
  unfold destroyDone
  dsimp only
  split
  · exact endHandle_keeps rfl (hgone (endLeases f s) _)
  · exact hgone (endLeases f s) _

theorem destroyDone_runPlanid (f : Nat) (s : State) (g : Nat) : (destroyDone f s).runPlanid g = s.runPlanid g :=
  ((destroyDone_keeps_endLeases f s).runPlanid_eq g).trans (endLeases_runPlanid f s g)

/-- The resets that a swap completes give no port another PLANID (R382 item 9, R393). -/
theorem settleResets_runPlanid (s : State) (g : Nat) : (settleResets s).runPlanid g = s.runPlanid g := by
  have hdone (t : State) (x : Nat × TenSt) :
      (if x.2 = .destroying then destroyDone x.1 t else t).runPlanid g = t.runPlanid g := by
    split
    · exact destroyDone_runPlanid x.1 t g
    · rfl
  calc (settleResets s).runPlanid g
      = (finishPurges s).runPlanid g := foldl_runPlanid hdone _ _
    _ = s.runPlanid g := (finishPurges_keeps rfl (.refl allButPlans s)).runPlanid_eq g

/-! ## The statement -/

/-- Settles O59: the two ends of a compile by `compileDone_cases`; the swap takes over the idle Accord, and the resets
that it completes leave the running PLANID alone. -/
theorem planidsFollow : Obligations.PlanidsFollow := by
  intro s g _
  refine ⟨fun hc => completes_of_exec rfl ?_, fun hf => completes_of_exec rfl ?_⟩
  · refine (compileDone_cases hc).imp_right fun ⟨hst, hid⟩ => ⟨hst, ?_⟩
    rw [hid]
    exact ⟨planNext_ne_zero _, fun hlast => by rw [hlast]; rfl, planNext_of_lt⟩
  · calc (settleResets (accordSwap g s)).runPlanid g
        = (accordSwap g s).runPlanid g := settleResets_runPlanid _ g
      _ = (s.plan g).idle.planid := by rw [State.runPlanid, accordSwap_run hf]

end Sys2Proof.Machine
end

section
/-!
PROOFS. FW_CHUNK (spec/15_firmware_settings.md, R483, R485): the read of the chunk's bytes, the chunk alone in its queue, and
the completion of its command, which nothing that follows it in the same step takes back.
-/
namespace Sys2Proof.Machine

/-! ## Completions that stay told -/

/-- `t` comes after `s`: what was sent stays sent, and the same commands are outstanding. -/
structure State.Follows (s t : State) : Prop where
  sent : ∀ o ∈ s.sent, o ∈ t.sent
  entries : ∀ f, (t.fn f).entries = (s.fn f).entries

theorem State.Follows.trans {s t u : State} (h : s.Follows t) (k : t.Follows u) : s.Follows u :=
  ⟨fun o ho => k.sent o (h.sent o ho), fun f => (k.entries f).trans (h.entries f)⟩

/-- A completion that was told stays so. -/
theorem told.follows {f : Nat} {x : Entry} {long : Bool} {result status detail nlist : Nat} {s t u : State}
    (h : told f x long result status detail nlist s t) (k : t.Follows u) :
    told f x long result status detail nlist s u :=
  ⟨k.sent _ h.1, fun y hy => h.2 y (k.entries f ▸ hy)⟩

theorem out_follows (o : Output) (s : State) : s.Follows (out o s) :=
  ⟨fun _ h => mem_out_of o h, fun f => by rw [out_fn_of]⟩

/-- A waiting task that becomes ready changes its tile alone (R400). -/
theorem wakeTask_follows (w : Work) (s : State) : s.Follows (wakeTask w s) := by
  have k : Keeps (2 ^ 31) s (wakeTask w s) := wakeTask_keeps rfl (.refl _ s)
  have hheld : (wakeTask w s).tlpHeld = s.tlpHeld := k.frame .tlpHeld rfl
  have hwire : (wakeTask w s).wire = s.wire := k.frame .wire rfl
  have hfns : (wakeTask w s).fns = s.fns := k.frame .fns rfl
  exact ⟨fun o h => by rwa [State.sent, hheld, hwire], fun f => by rw [State.fn, hfns]; rfl⟩

theorem wakeTask_fw (w : Work) (s : State) : (wakeTask w s).fw = s.fw :=
  (wakeTask_keeps (V := 2 ^ 31) rfl (.refl _ s)).frame .fw rfl

/-! ## Events leave the outstanding commands alone -/

theorem State.modFn_entries (s : State) (f i : Nat) (u : Fn → Fn) (hu : ∀ x, (u x).entries = x.entries) :
    ((s.modFn f u).fn i).entries = (s.fn i).entries := by
  by_cases hi : i = f
  · rw [hi, State.fn_modFn, hu]
  · rw [State.fn_modFn_ne _ _ hi]

theorem setErr_entries (ty inst b : Nat) (s : State) (i : Nat) : ((setErr ty inst b s).fn i).entries = (s.fn i).entries := by
  unfold setErr
  dsimp only
  split
  · rfl
  · split
    · rfl
    · exact raiseNorm_entries ..

theorem setErr_follows (ty inst b : Nat) (s : State) : s.Follows (setErr ty inst b s) :=
  ⟨fun o h => by rwa [setErr_sent], setErr_entries ty inst b s⟩

theorem putRecord_entries (f q : Nat) (e : Event) (d : List Byte) (more : Bool) (s : State) (i : Nat) :
    ((putRecord f q e d more s).fn i).entries = (s.fn i).entries := by
  unfold putRecord State.modEq
  dsimp only
  rw [State.modFn_entries, out_fn_of, engineWork_fn]
  exact fun _ => rfl

theorem putRecords_entries (f q : Nat) (e : Event) (l : List (List Byte)) (s : State) (i : Nat) :
    ((putRecords f q e l s).fn i).entries = (s.fn i).entries := by
  induction l generalizing s with
  | nil => rfl
  | cons d r ih =>
    cases r with
    | nil => exact putRecord_entries ..
    | cons d2 r2 => exact (ih _).trans (putRecord_entries ..)

theorem payOverflow_entries (f q : Nat) (s : State) (i : Nat) : ((payOverflow f q s).fn i).entries = (s.fn i).entries := by
  unfold payOverflow
  dsimp only
  split
  · rw [raiseNorm_entries, State.modFn_entries, putRecords_entries]
    exact fun _ => rfl
  · rfl

theorem loseEvent_entries (f q : Nat) (e : Event) (s : State) (i : Nat) :
    ((loseEvent f q e s).fn i).entries = (s.fn i).entries := State.modFn_entries s f i _ (fun _ => rfl)

theorem emitTo_entries (k : Nat) : ∀ (f q : Nat) (e : Event) (s : State) (i : Nat),
    ((emitTo k f q e s).fn i).entries = (s.fn i).entries := by
  induction k with
  | zero => exact loseEvent_entries
  | succ k ih =>
    intro f q e s i
    unfold emitTo
    dsimp only
    split
    · exact loseEvent_entries ..
    · split
      · have hstop : ((setErr pTPL 0 0 ((loseEvent f q e s).modEq f q (fun r => r.stop 7 r.head))).fn i).entries =
            (s.fn i).entries := by
          rw [setErr_entries, State.modEq, State.modFn_entries, loseEvent_entries]
          exact fun _ => rfl
        rw [ih]
        split
        · exact hstop
        · rw [ih, State.modFn_entries, hstop]
          exact fun _ => rfl
      · split
        · rw [raiseNorm_entries, putRecords_entries, payOverflow_entries]
        · rw [loseEvent_entries, payOverflow_entries]

theorem emit_follows (f : Nat) (e : Event) (s : State) : s.Follows (emit f e s) := by
  refine ⟨fun _ h => emit_sent h, fun i => ?_⟩
  unfold emit
  split
  · rfl
  · split
    · rfl
    · exact emitTo_entries ..

/-! ## Entries and completion queues -/

theorem State.runs.mem {s : State} {f e opc : Nat} {x : Entry} (h : s.runs f e opc x) : x ∈ (s.fn f).entries := by
  have hx := h.entry
  unfold State.entry? at hx
  split at hx
  · next y hy =>
    split at hx
    · cases hx; exact List.mem_of_find?_eq_some hy
    · cases hx
  · cases hx

/-- A row whose entry runs is run on it. -/
theorem cmd_of_runs {s : State} {f e opc : Nat} {x : Entry} (h : s.runs f e opc x) (run : Entry → State → State) :
    cmd f e opc run s = run x s := by
  simp only [cmd, h.ready, h.alive, h.going, h.entry, h.powered, h.awake, Bool.not_false, Bool.and_self, if_true,
    Bool.false_eq_true, if_false]

/-- A host structure that may be read is (R315, R381). -/
theorem readStruct_reads {s : State} {f len : Nat} {x : Entry} (hx : x ∈ (s.fn f).entries) (hd : s.dmaOk f = true) :
    reads f x len (readStruct f x len s) := by
  have hr : readStruct f x len s = markReading f x 0 (out (.dmaRead f x.addr len) s) := by
    simp only [readStruct, dmaRead, request, hd, if_true]
  rw [hr]
  refine ⟨mem_out s _, { x with reading := true, seq := 0 }, ?_, rfl, rfl⟩
  rw [markReading, State.fn_modFn, out_fn_of]
  exact List.mem_map.mpr ⟨x, hx, if_pos rfl⟩

/-- A CQ takes a completion whatever the firmware state is, if it is of the same tile switch. -/
theorem State.cqTakes.modFw {s : State} {f : Nat} {x : Entry} (h : s.cqTakes f x) {u : FwSt → FwSt}
    (hu : (u s.fw).switch = s.fw.switch) : (s.modFw u).cqTakes f x := by
  have hp : (s.modFw u).paused = s.paused := by rw [State.paused, State.modFw_fw, hu]; rfl
  exact ⟨h.alive, hp.trans h.going, h.runs, h.room, h.first, h.dma⟩

section
variable {s : State} {f : Nat} {x : Entry} (hx : (s.fn f).entries.filter (·.id == x.id) = [x])
include hx

/-- The entry is found under its number by any further property that it has. -/
theorem find_entry {p : Entry → Bool} (hp : p x = true) : (s.fn f).entries.find? (fun e => e.id == x.id && p e) = some x := by
  have h := congrArg (List.find? p) hx
  rw [List.find?_filter] at h
  simpa only [Bool.decide_and, Bool.decide_eq_true, List.find?_singleton, hp, if_true] using h

/-- A command that is ended while its CQ takes a completion is told. -/
theorem endCommand_told (he : x.ended = false) (hq : s.cqTakes f x) (status detail : Nat) :
    told f x false 0 status detail 0 s (endCommand f x.id status detail s) := by
  have hf := find_entry hx (p := fun e => !e.ended) (by simp [he])
  simp only [endCommand, hf]
  exact finish_told hq false 0 status detail []

/-- The bytes of a chunk arrive (R485). -/
theorem structRead_of_chunk (hr : x.reading = true) (he : x.ended = false) (ho : x.opc = 0x41) (detail : Nat)
    (d : List Byte) :
    structRead f false x.id 0 detail d s = wakeTask (.command f x.id) (chunkArrives (.command x.id) x.p0 d s) := by
  have hf : s.readingEntry f x.id = some x := by
    have := find_entry hx (p := fun e => e.reading && !e.ended) (by simp [hr, he])
    simpa only [State.readingEntry, Bool.and_assoc] using this
  simp [structRead, hf, shortReadDone, ho]

end

/-- All parts but the firmware state: the bits 0 to 24 and 26 to 49. -/
def allButFw : Nat := 2 ^ 50 - 1 - 2 ^ 25

theorem endCommand_fw (f id status detail : Nat) (s : State) : (endCommand f id status detail s).fw = s.fw :=
  (endCommand_keeps rfl (.refl allButFw s)).frame .fw rfl

theorem chunkEnds_of_command {q : ChunkReq} {id : Nat} (h : q.origin = .command id) (status detail : Nat) (already : Bool)
    (s : State) : chunkEnds q status detail already s = endCommand 0 id status detail s := by
  simp only [chunkEnds, h]

/-! ## A chunk that arrives with none ahead (R483) -/

theorem State.modFw_congr {s : State} {u v : FwSt → FwSt} (h : u s.fw = v s.fw) : s.modFw u = s.modFw v := by
  rw [State.modFw, h, ← State.modFw]

/-- An update that leaves the firmware state as it is leaves the state as it is. -/
theorem State.modFw_of_eq {s : State} {u : FwSt → FwSt} (h : u s.fw = s.fw) : s.modFw u = s := by
  rw [State.modFw, h]

/-- `q` is the only chunk in the queue. -/
def State.queueOnly (q : ChunkReq) (s : State) : State := s.modFw (fun x => { x with queue := [q] })

section
variable {s : State} (hq : s.fw.queue = []) (q : ChunkReq)
include hq

theorem chunkArrives_queueOnly : chunkArrives q.origin q.index q.data s = pumpChunks 1 (s.queueOnly q) := by
  have hpush : s.modFw (fun x => { x with queue := x.queue ++ [q] }) = s.queueOnly q :=
    State.modFw_congr (by simp [hq])
  exact congrArg pumpAll hpush

theorem queueOnly_modFw_nil : (s.queueOnly q).modFw (fun x => { x with queue := [] }) = s :=
  State.modFw_of_eq (s := s) (u := fun x => { x with queue := [] }) (by rw [← hq])

/-- With none ahead and nothing to wait for, `chunkCheck` decides what becomes of the chunk. -/
theorem chunkArrives_alone (hp : s.fw.prog = none) (hm : s.mgrOp (fun o => o == .fwVerify || o == .fwActivate) = none) :
    chunkArrives q.origin q.index q.data s = match s.chunkCheck q with
      | some (st, d, al) => chunkEnds q st d al s
      | none => out (.store 4 (s.fw.flacon * 8192 + q.index) 0)
          ((s.queueOnly q).modFw (fun x => { x with prog := some false })) := by
  have hfree : ((s.queueOnly q).fw.prog.isSome ||
      ((s.queueOnly q).mgrOp (fun o => o == .fwVerify || o == .fwActivate)).isSome) = false := by
    show (s.fw.prog.isSome || (s.mgrOp (fun o => o == .fwVerify || o == .fwActivate)).isSome) = false
    rw [hp, hm]
    rfl
  have hcheck : (s.queueOnly q).chunkCheck q = s.chunkCheck q := rfl
  have hqueue : (s.queueOnly q).fw.queue = [q] := rfl
  rw [chunkArrives_queueOnly hq, pumpChunks, if_neg (Bool.eq_false_iff.mp hfree)]
  simp only [hqueue, hcheck, queueOnly_modFw_nil hq]
  cases s.chunkCheck q <;> rfl

end

/-! ## A chunk that was programmed, or could not be (R483 steps 5 and 6) -/

/-- Chunks and FW_SESSION commands that waited go on after a chunk; where there are none, nothing happens. -/
theorem pumpAll_rerunSessions_idle {s : State} (hw : s.fw.sessWait = []) (hq : s.fw.queue = []) :
    pumpAll (rerunSessions s.fw.sessWait (s.modFw (fun x => { x with sessWait := [] }))) = s := by
  have hs : s.modFw (fun x => { x with sessWait := [] }) = s := State.modFw_of_eq (by rw [← hw])
  rw [hw, hs]
  show pumpChunks s.fw.queue.length s = s
  rw [hq]
  rfl

/-- The only chunk in the queue reads back as written: it is marked. -/
def FwSt.marks (r : Session) (q : ChunkReq) (x : FwSt) : FwSt :=
  { x with prog := none, queue := [], verified := false
           chunks := nput [] x.chunks (r.slot * 8192 + q.index) q.data, marked := insertAsc q.index x.marked }

/-- The only chunk in the queue could not be programmed: its sector holds nothing. -/
def FwSt.drops (r : Session) (q : ChunkReq) (x : FwSt) : FwSt :=
  { x with prog := none, queue := [], chunks := nput [] x.chunks (r.slot * 8192 + q.index) [] }

section
variable {s : State} {q : ChunkReq} {r : Session} {id : Nat} (hq : s.fw.queue = [q]) (hr : s.fw.session = some r)
  (hw : s.fw.sessWait = []) (ho : q.origin = .command id)
include hq hr hw ho

/-- The chunk is marked and its command ends with 0; only outputs and events come after that. -/
theorem chunkProgrammed_good {again : Bool} (hp : s.fw.prog = some again) :
    (endCommand 0 id 0 0 (s.modFw (FwSt.marks r q))).Follows (chunkProgrammed true s) := by
  have hstored := out_follows (.store 5 q.index r.pos) (endCommand 0 id 0 0 (s.modFw (FwSt.marks r q)))
  have hwait : (endCommand 0 id 0 0 (s.modFw (FwSt.marks r q))).fw.sessWait = [] := by rw [endCommand_fw]; exact hw
  have hqueue : (endCommand 0 id 0 0 (s.modFw (FwSt.marks r q))).fw.queue = [] := by rw [endCommand_fw]; rfl
  simp only [chunkProgrammed, hp, hq, hr, if_true, chunkEnds_of_command ho]
  rw [pumpAll_rerunSessions_idle]
  · split
    · exact hstored.trans (emit_follows ..)
    · exact hstored
  · split
    · rw [emitMgr_fw, out_fw]; exact hwait
    · rw [out_fw]; exact hwait
  · split
    · rw [emitMgr_fw, out_fw]; exact hqueue
    · rw [out_fw]; exact hqueue

/-- The repeat has failed: the command ends with 0x88, and an error and an event follow. -/
theorem chunkProgrammed_failed_again (hp : s.fw.prog = some true) :
    (endCommand 0 id 0x88 r.slot (s.modFw (FwSt.drops r q))).Follows (chunkProgrammed false s) := by
  simp only [chunkProgrammed, hp, hq, hr, Bool.false_eq_true, Bool.not_true, if_false, chunkEnds_of_command ho]
  rw [pumpAll_rerunSessions_idle]
  · exact (setErr_follows ..).trans (emit_follows ..)
  · rw [emit_fw, setErr_fw, endCommand_fw]; exact hw
  · rw [emit_fw, setErr_fw, endCommand_fw]; rfl

end

/-! ## The statement -/

/-- Settles O60: the read by `readStruct_reads`; the chunk that arrives alone ends or is programmed as `chunkCheck` says;
the outcome of the programming ends the command, and what follows it leaves the completion told. -/
theorem firmwareChunkCommand : Obligations.FirmwareChunkCommand := by
  intro s e x
  refine ⟨fun hrun hd => completes_of_exec (congrArg Host.Outcome.next (cmd_of_runs hrun _))
    (readStruct_reads hrun.mem hd), fun hx he hcq => ⟨fun d hopc hrd hqueue hprog hmgr => ?_,
      fun q r again ho hqueue hr hprog hwait => ⟨?_, fun ha => ?_⟩⟩⟩
  · have hexec : exec (.commandStructureReadDone 0 false x.id 0 d) s = .next (wakeTask (.command 0 x.id) _) :=
      congrArg Host.Outcome.next ((structRead_of_chunk hx hrd he hopc 0 d).trans
        (congrArg _ (chunkArrives_alone hqueue hprog hmgr (q := { origin := .command x.id, index := x.p0, data := d }))))
    refine ⟨fun st dt al hc => completes_of_exec hexec ?_, fun hc => completes_of_exec hexec ?_⟩
    · rw [hc]
      exact (endCommand_told hx he hcq st dt).follows (wakeTask_follows ..)
    · rw [hc, wakeTask_fw, out_fw]
      exact ⟨rfl, rfl, ((out_follows _ _).trans (wakeTask_follows ..)).entries 0⟩
  · exact completes_of_exec rfl ((endCommand_told (s := s.modFw (FwSt.marks r q)) hx he (hcq.modFw rfl) 0 0).follows
      (chunkProgrammed_good hqueue hr hwait ho hprog))
  · exact completes_of_exec rfl ((endCommand_told (s := s.modFw (FwSt.drops r q)) hx he (hcq.modFw rfl) 0x88 r.slot).follows
      (chunkProgrammed_failed_again hqueue hr hwait ho (ha ▸ hprog)))

end Sys2Proof.Machine
end
